-- ==== Sys2Proof/Word.lean ====
section
/-! DEFINITION. The words the device's fields are made of, and the sparse table that holds every indexed part of the state. -/

namespace Sys2Proof

/-- One octet of a frame, of HBM or of a dictionary value. -/
abbrev Byte := BitVec 8

/-- A table indexed by a number, as a list of entries. In canonical form the indexes rise strictly and no entry
holds the table's default, so that equal tables are equal lists (Machine/Table.lean). -/
abbrev SMap (α : Type) := List (Nat × α)

end Sys2Proof
end

