-- ==== Sys2Proof/Syntax.lean ====
section
/-! DEFINITION. The commands: one constructor of `Instr` for each row of opcode_table.json. Each command carries the TIME
tick `t` (R288) at which it happens and what only the outside knows about it (received bytes, levels, readings). -/

namespace Sys2Proof

/-- One of the two deciders (R224). -/
inductive DecId where
  | a | b
  deriving DecidableEq, Repr

/-- The two heartbeat paths of a decider (R241, R242). -/
inductive HbPath where
  | inBand | armature
  deriving DecidableEq, Repr

/-- A tap of TX_EQ (R100). -/
inductive Tap where
  | pre | main | post
  deriving DecidableEq, Repr

/-- The lane power states of Table LAN-3, with the two forms of Quiet. -/
inductive LanePower where
  | active | quietLpi | quietIdle | deep | off
  deriving DecidableEq, Repr

/-- The four slots of the flash (Table RST-6). -/
inductive FlashSlot where
  | fa | fb | ca | cb
  deriving DecidableEq, Repr

/-- What a received mPacket is (R346): a first fragment, a continuation, a final fragment, or one whose SMD was not
expected. `bad` is a fragment whose reassembly fails. -/
inductive MmKind where
  | first | continuation | final | bad | badSmd | verify
  deriving DecidableEq, Repr

/-- A Gramus frame as the port received it (R66, R67), its header taken apart. -/
structure GFrame where
  /-- the port on which it arrived -/
  port : Fin 76
  /-- destination and source addresses, 48 bits each -/
  dst : Nat
  src : Nat
  /-- the tag control information of its one tag, if it has one -/
  vlan : Option Nat
  /-- the header of Table GMP-4 -/
  version : Nat
  opcode : Nat
  product : Nat
  session : Nat
  flags : Nat
  requestId : Nat
  counter : Nat
  length : Nat
  status : Nat
  reserved : Nat
  /-- the bytes after the header: payload, tag and padding -/
  body : List Byte
  deriving DecidableEq, Repr

/-- How a transaction command reaches the device: a write of its object by a session (R44), or the opcode of a Gramus
frame (R74); `gmp none` takes the frame at the front of SQ0. -/
inductive Via where
  | obj (sid : Nat)
  | gmp (f : Option GFrame)
  deriving DecidableEq, Repr

/-- An error that a read of HBM meets: the share's data byte at `pos` is changed by `flip`, and its tag by `tagFlip`;
with `reported`, the stack's on-die ECC reports an error of it (R374). -/
structure Disturbance where
  share : Fin 18
  pos : Fin 32
  flip : Byte
  tagFlip : BitVec 32
  reported : Bool
  deriving DecidableEq, Repr

/-- What the SRAM sweep finds in one word (R396): the word's number, and whether it could be corrected. -/
structure SramHit where
  word : Nat
  correctable : Bool
  deriving DecidableEq, Repr

/-- What a configuration check pass finds (R441): an RWS value of the stewards that differs, or a table chunk whose
copies differ from the shadow: in decider A, in decider B, or in tile `tile`. -/
inductive Mismatch where
  | rws (index : Nat)
  | chunk (index : Nat) (chunk : Nat) (inA inB sameAB : Bool)
  | tile (index : Nat) (chunk : Nat)
  deriving DecidableEq, Repr

/-- What the stewards hand over for the next Maquette period (R398, R402): the predicted powers come from factory
coefficients that the manual does not give. -/
structure PlanOffer where
  /-- predictions in mW: the demand plan, the plan after each step of level 1 that applies, and with levels 2, 3 and 4 -/
  demand : Nat
  steps : List Nat
  traded : List Nat
  /-- the parts of the floor, Table NRG-1 -/
  floorSafety : Nat
  floorSched : Nat
  floorLinks : Nat
  /-- clocks, HBM, EMM, tile bytes of Table NRG-4 for the plan used -/
  clocks : BitVec 8
  hbm : BitVec 8
  emm : BitVec 16
  tiles : BitVec 16
  t8 : Fin 3
  lanes : List Byte
  /-- the wake list: tick offset, resource, unit, target -/
  wakes : List (Nat × Nat × Nat × Nat)
  deriving DecidableEq, Repr

/-- What start-up meets in the world outside (R475, R480): the instants in µs from the trigger at which its twelve steps
complete, the hottest sensor, the flash, and whether a decider fails its golden-vector run. -/
structure BootInput where
  stepsUs : List Nat
  tempStart : Int
  cold : Bool
  flashPresent : Bool
  jedecId : Nat
  sizeMib : Nat
  failA : Bool
  failB : Bool
  selfTestGood : Bool
  testEn : Bool
  deriving DecidableEq, Repr

/-- The commands. -/
inductive Instr where
  /-- R13: The first 128 bytes of a received frame, or the whole shorter frame, are in ingress staging and the tile passes the head on. -/
  | headComplete (t : Nat) (port : Fin 76) (sfd : Nat) (bytes : List Byte) (ended : Bool) (cw : Nat × Nat)
  /-- R119: The last byte and FCS of a received frame arrive; the MAC gives the frame its length fate and counter and settles a bad tail under R268. -/
  | frameTail (t : Nat) (port : Fin 76) (rest : List Byte) (partialOctet : Bool) (cw : Nat × Nat)
  /-- R129: A received PAUSE frame is consumed, counted and, when honoured, stops the port's classes for its quanta. -/
  | pauseRx (t : Nat) (port : Fin 76) (dst : Nat) (quanta : Nat)
  /-- R129: A received PFC frame is consumed, counted and, when honoured, stops the named classes for their quanta. -/
  | pfcRx (t : Nat) (port : Fin 76) (dst : Nat) (enables : Nat) (times : List Nat)
  /-- R129: A received pause time runs out and the stopped class is released. -/
  | pauseTimerExpiry (t : Nat) (port : Fin 76) (tc : Fin 8)
  /-- R153: Once the bytes the parse needs are in staging, the stage walks the Syntax table, consults the fragment table, classifies and hashes the head. -/
  | parseClassify (t : Nat) (more : List Byte) (ended : Bool)
  /-- R167: A fragment table entry reaches FRAG_TIMEOUT since its insertion or last hit and expires. -/
  | fragEntryExpiry (t : Nat) (slot : Fin 1024)
  /-- R185: A head takes a free decision slot and a decider forms its forwarding decision and stream look-ups. -/
  | decide (t : Nat) (d : DecId) (lane : Fin 2)
  /-- R233: A decision, null or golden-vector record from a decider reaches the commit stage. -/
  | decisionRecordArrival (t : Nat) (d : DecId) (lane : Fin 2) (skip : Nat) (altered : Option (List Byte))
  /-- R233: The 392 ns window for a head's missing record ends and the pair is classified. -/
  | comparisonWindowExpiry (t : Nat) (seq : Nat)
  /-- R262: Once per cell time the matcher pairs crossbar inputs with outputs and moves one cell per matched pair. -/
  | matcherCycle (t : Nat)
  /-- R261: A cell reaches its egress tile, is checked for hcrc and cseq, and is reassembled. -/
  | cellArrival (t : Nat) (src dst : Fin 9) (tc : Fin 8) (altered : Option (List Byte))
  /-- R325: A copy of a frame meets the enqueue tests of its egress queue and joins it. -/
  | copyEnqueue (t : Nat) (copy : Nat)
  /-- R274: Every block of a deep copy is written and tag-checked and the copy becomes eligible for dequeue. -/
  | deepWriteDone (t : Nat) (copy : Nat)
  /-- R277: An agent frees a buffer; the BPM checks the owner map and threads or rejects it. -/
  | bufferFree (t : Nat) (pool : Fin 3) (buffer : Nat) (agent : Fin 16)
  /-- R280: A write to POOL_REBUILD starts a rebuild of the named pool. -/
  | poolRebuildCmd (t : Nat) (sid : Nat) (pool : Fin 3)
  /-- R280: The owner-map scan of a pool rebuild ends and POOL_REBUILT is raised. -/
  | poolRebuildDone (t : Nat) (pool : Fin 3)
  /-- R328: At a transmission opportunity the port scheduler selects the next eligible copy and starts its transmission. -/
  | schedulerSelect (t : Nat) (port : Fin 76)
  /-- R266: A cut-through copy in transmission needs a byte not yet in the egress tile and is ended with the stomp pattern. -/
  | cutThroughUnderrun (t : Nat) (port : Fin 76)
  /-- R450: The last byte of a frame leaves the transmit balls and its transmit counters and stamp are recorded. -/
  | frameTxEnd (t : Nat) (port : Fin 76)
  /-- R11: A held express frame reaches 380 ns after its reference point and may be transmitted. -/
  | expressLatencyFloor (t : Nat) (copy : Nat)
  /-- R12: A held deep-store frame reaches 1.5 us after its reference point and may be transmitted. -/
  | deepLatencyFloor (t : Nat) (copy : Nat)
  /-- R18: A steward injects a frame it sends into a named port queue without a decision. -/
  | stewardInject (t : Nat)
  /-- R149: T8 draws a frame from port 75's queues within its rate caps and re-enters it as a new head. -/
  | recircDraw (t : Nat)
  /-- R181: The load of a rule-set bank completes and the commit point of the new generation falls. -/
  | rulesetLoadDone (t : Nat)
  /-- R183: An older generation has not retired 1 ms after a waiting commit and is retired by force. -/
  | rulesetForcedRetire (t : Nat)
  /-- R15: A frame arriving over the Knaing link is checked and forwarded on its carried decision. -/
  | knaingFrameRx (t : Nat) (desc : List Byte) (bytes : List Byte) (segLost : Bool)
  /-- R200: The learn engine takes a ready learn request and creates, refreshes, contests or moves an entry. -/
  | learnRequest (t : Nat) (d : DecId)
  /-- R201: FLAP_HOLD after a freeze ends and flapping and the move history are cleared. -/
  | flapHoldExpiry (t : Nat) (d : DecId) (slot : Nat)
  /-- R205: Every AGE_TIME/2 both deciders remove unhit learned entries and clear hit bits. -/
  | ageingSweep (t : Nat)
  /-- R194: A gated EMM bank group finishes waking and waiting learn requests proceed. -/
  | emmBankWakeDone (t : Nat) (d : DecId) (group : Fin 8)
  /-- R206: EMM_FLUSH mode 1 removes the learned entries on a source. -/
  | emmFlushSource (t : Nat) (sid : Nat) (lag peer : Bool) (target : Nat)
  /-- R206: EMM_FLUSH mode 2 removes the learned entries in a VID. -/
  | emmFlushVid (t : Nat) (sid : Nat) (vid : Nat)
  /-- R206: EMM_FLUSH mode 3 removes the learned entries on a source in a VID. -/
  | emmFlushSourceVid (t : Nat) (sid : Nat) (lag peer : Bool) (target vid : Nat)
  /-- R206: EMM_FLUSH mode 4 removes all learned entries. -/
  | emmFlushAll (t : Nat) (sid : Nat)
  /-- R206: EMM_FLUSH mode 5 removes the entry whose key stands in the session's EMM_FIND row. -/
  | emmFlushEntry (t : Nat) (sid : Nat)
  /-- R206: A running flush finishes removing its entries. -/
  | emmFlushDone (t : Nat)
  /-- R222: A write of a session's EMM_FIND row searches the named decider and fills found, slot and result. -/
  | emmFind (t : Nat) (sid : Nat) (row : Fin 16) (key : Nat) (which : Fin 3)
  /-- R241: Every 1.024 us each running decider emits a null heartbeat record on alternate lanes. -/
  | nullRecordEmit (t : Nat) (d : DecId)
  /-- R242: The Plinth receives and checks a decider's Armature word. -/
  | armatureWord (t : Nat) (d : DecId) (altered : Option (BitVec 16))
  /-- R243: A heartbeat path timer of a decider reaches 4.496 us and the decider is deposed. -/
  | heartbeatTimeout (t : Nat) (d : DecId) (path : HbPath)
  /-- R245: Every 1 ms a golden-vector run is injected on each lookup lane of each running decider. -/
  | goldenRun (t : Nat)
  /-- R247: The third decision fault within 1 ms starts, or a deferred trigger later starts, a run on both lanes of both deciders. -/
  | triggeredGoldenRun (t : Nat)
  /-- R246: The Plinth judges a completed golden-vector run and deposes failing deciders or enters the unresolved state. -/
  | goldenVerdict (t : Nat)
  /-- R248: The unresolved state ends after 1 s without a decision fault. -/
  | unresolvedEnd (t : Nat)
  /-- R249: The unresolved state lasts DEC_UNRESOLVED_LIMIT and the Plinth latches it and silences protected classes. -/
  | unresolvedLatch (t : Nat)
  /-- R249: An armed write clears the unresolved latch and cause 2. -/
  | decUnresolvedClear (t : Nat) (sid : Nat)
  /-- R251: A write names a DEPOSED decider, which enters LOADING at the commit point. -/
  | decReadmit (t : Nat) (sid : Nat) (d : DecId)
  /-- R251: The loading decider's tables are copied and its golden-vector run decides SHADOW or DEPOSED. -/
  | readmitLoadDone (t : Nat) (d : DecId) (shown : List (Fin 96 × List Byte))
  /-- R252: A shadow decider's clean time reaches DEC_SHADOW_CLEAN and it becomes eligible. -/
  | shadowCleanExpiry (t : Nat) (d : DecId)
  /-- R253: An armed write raises an eligible shadow decider to its configured claim. -/
  | decRaise (t : Nat) (sid : Nat) (d : DecId)
  /-- R257: Every DEC_SKEW_SWEEP the stewards compare the learned entries of both deciders. -/
  | skewSweep (t : Nat) (group : Fin 64)
  /-- R88: A DISCOVER request is accepted and scheduled for an answer after a random delay. -/
  | discover (t : Nat) (f : Option GFrame) (delay : Nat)
  /-- R88: The random delay of a DISCOVER answer ends and the identity block is sent. -/
  | discoverReplyDelay (t : Nat)
  /-- R88: After first ready, an unsolicited DISCOVER response is sent at each 1 s interval, three times. -/
  | discoverAnnounce (t : Nat)
  /-- R80: A SESSION_OPEN opens an authenticated or open-mode session and derives its session key. -/
  | sessionOpen (t : Nat) (f : Option GFrame) (nonceD : List Byte)
  /-- R75: A SESSION_CLOSE ends the session, aborting its open or armed transaction. -/
  | sessionClose (t : Nat) (f : Option GFrame)
  /-- R70: A KEEPALIVE request is answered with the device state. -/
  | keepalive (t : Nat) (f : Option GFrame)
  /-- R71: A READ request is answered item by item from one generation. -/
  | read (t : Nat) (f : Option GFrame)
  /-- R72: A WRITE request writes objects that have no row of their own, clamped and applied at one commit point or staged. -/
  | write (t : Nat) (f : Option GFrame)
  /-- R71: A READ_ROWS request returns a range of TABLE rows from one generation. -/
  | readRows (t : Nat) (f : Option GFrame)
  /-- R196: A WRITE_ROWS request places or stages a range of TABLE rows. -/
  | writeRows (t : Nat) (f : Option GFrame)
  /-- R70: A READ_SEGMENT request returns part of an OCTETS value by offset. -/
  | readSegment (t : Nat) (f : Option GFrame)
  /-- R73: A WRITE_SEGMENT request adds a segment to a segmented write, applying it on the last segment. -/
  | writeSegment (t : Nat) (f : Option GFrame)
  /-- R73: An open segmented write receives no segment for 0x0200:0D and is discarded. -/
  | segmentWriteTimeout (t : Nat) (sid : Nat)
  /-- R70: A request with an unlisted opcode is answered BAD_OPCODE. -/
  | unknownOpcode (t : Nat) (f : Option GFrame)
  /-- R85: A request not started 1.5 ms after arrival is answered BUSY and not executed. -/
  | requestStartTimeout (t : Nat)
  /-- R75: A session has no accepted request for SESSION_IDLE and ends. -/
  | sessionIdleTimeout (t : Nat) (sid : Nat)
  /-- R91: A manager's 0xC0 response acknowledges event records, and the next EVENT frame may be sent. -/
  | eventAck (t : Nat) (f : Option GFrame)
  /-- R91: An EVENT frame is unacknowledged for its retry interval and is sent again with a doubled interval. -/
  | eventRetryExpiry (t : Nat) (sid : Nat)
  /-- R45: A write of 1 to 0x0200:03 opens a transaction for the session. -/
  | txnOpen (t : Nat) (via : Via)
  /-- R47: A write of 0x0200:06 arms an open transaction or aborts it on a wrong CRC. -/
  | txnArm (t : Nat) (via : Via) (crc : Nat)
  /-- R49: A commit with value 1 moves the transaction to PENDING for the next commit point. -/
  | txnCommitNext (t : Nat) (via : Via)
  /-- R51: A commit with value 2 moves the transaction to PENDING for a stated time on a base. -/
  | txnCommitStated (t : Nat) (via : Via) (base : Fin 5) (time : Nat)
  /-- R44: A commit with value 3 aborts the session's transaction. -/
  | txnAbort (t : Nat) (via : Via)
  /-- R48: An open or armed transaction receives no write for TXN_TIMEOUT and is aborted. -/
  | txnTimeoutExpiry (t : Nat) (sid : Nat)
  /-- R49: At a boundary in the head sequence, pending objects and dependency clamps take effect together and the generation advances. -/
  | commitPoint (t : Nat)
  /-- R51: The chosen base reaches a pending transaction's stated time and its commit point falls. -/
  | statedCommitTime (t : Nat) (sid : Nat)
  /-- R35: A write of 1 to STORE starts storing the committed class P values to flash. -/
  | store (t : Nat) (sid : Nat)
  /-- R56: A write of 2 to STORE returns writable objects to their defaults at one commit point. -/
  | restoreDefaults (t : Nat) (sid : Nat)
  /-- R486: A write of 3 to STORE revokes and erases both configuration slots. -/
  | eraseStoredImage (t : Nat) (sid : Nat)
  /-- R484: A store's payload and header are programmed and verified, or it fails, and the outcome is raised. -/
  | storeDone (t : Nat) (flashError : Bool)
  /-- R484: The erase of an older or partly written configuration slot completes. -/
  | slotEraseDone (t : Nat) (slot : FlashSlot)
  /-- R58: A snapshot request with value 1 schedules a counter flip at the next commit point. -/
  | snapReqNext (t : Nat) (sid : Nat) (slot : Fin 4)
  /-- R58: A snapshot request with value 2 schedules a counter flip at a stated time. -/
  | snapReqStated (t : Nat) (sid : Nat) (slot : Fin 4) (base : Fin 5) (time : Nat)
  /-- R60: A snapshot request with value 3 returns a slot to FREE. -/
  | snapRelease (t : Nat) (sid : Nat) (slot : Fin 4)
  /-- R60: The background sweep has copied every counter and the slot becomes READY. -/
  | snapshotSweepDone (t : Nat) (slot : Fin 4)
  /-- R101: A partner's training increment or decrement request moves a tap by one step or is answered at a limit. -/
  | laneTrainingRequest (t : Nat) (lane : Fin 64) (tap : Tap) (up : Bool)
  /-- R101: Link training of a lane finishes and bring-up continues. -/
  | laneTrainingDone (t : Nat) (lane : Fin 64)
  /-- R101: Training has not finished 500 ms after it started and the lane goes on untrained. -/
  | laneTrainingTimeout (t : Nat) (lane : Fin 64)
  /-- R102: Every 1.024 ms the eye of an Active lane is measured. -/
  | rxEyeMeasure (t : Nat) (lane : Fin 64) (height width : BitVec 16) (errors : Nat)
  /-- R103: The PRBS checker sees 64 consecutive error-free bits and locks. -/
  | prbsLockAcquired (t : Nat) (lane : Fin 64)
  /-- R103: The PRBS checker sees 16 errors within 64 bits and loses lock. -/
  | prbsLockLoss (t : Nat) (lane : Fin 64) (errors : Nat)
  /-- R106: The Maquette or the manager commands a lane power state. -/
  | lanePowerCommand (t : Nat) (lane : Fin 64) (byManager : Bool) (target : LanePower)
  /-- R105: A lane completes entry to or exit from a power state. -/
  | lanePowerStateReached (t : Nat) (lane : Fin 64)
  /-- R106: The partner's signal vanishes on an Active lane. -/
  | laneCdrLoss (t : Nat) (lane : Fin 64)
  /-- R110: A Knaing block is received, destuffed, descrambled and its segments delivered. -/
  | kngBlockRx (t : Nat) (k : Fin 8) (bits : List Bool)
  /-- R111: A Knaing receiver finds 4 consecutive good headers and locks. -/
  | kngHeaderLock (t : Nat) (k : Fin 8) (headers : List (BitVec 32))
  /-- R111: A Knaing receiver sees 8 bad headers among 64 and loses lock. -/
  | kngLockLoss (t : Nat) (k : Fin 8)
  /-- R113: Every 1.024 us the lowest active lane sends a control block with heartbeat and time stamps. -/
  | kngControlBlockTx (t : Nat)
  /-- R114: A control block from the peer is received and the time exchange and width announcements are applied. -/
  | kngControlBlockRx (t : Nat) (payload : List Byte) (seq : Fin 4096)
  /-- R113: 4.096 us pass without a new control block heartbeat and the link is declared down. -/
  | kngHeartbeatMiss (t : Nat)
  /-- R115: The transmitter switches width at the boundary of the announced width_seq block. -/
  | kngWidthSwitch (t : Nat)
  /-- R115: A lane outside the width has sent idle in Quiet for 64 ms and enters Deep. -/
  | kngIdleLaneDeep (t : Nat) (k : Fin 8)
  /-- R134: A collision is seen on a half-duplex service port during transmission. -/
  | collision (t : Nat) (port : Fin 76) (bitTimes : Nat) (draw : Nat)
  /-- R133: The back-off after a collision ends and the frame is retried. -/
  | backoffExpiry (t : Nat) (port : Fin 76)
  /-- R135: A PLCA BEACON is received and the follower returns to PLCA. -/
  | plcaBeaconRx (t : Nat) (port : Fin 76)
  /-- R135: A PLCA follower receives no BEACON for 4,000 bit times and falls back to CSMA/CD. -/
  | plcaBeaconLoss (t : Nat) (port : Fin 76)
  /-- R137: No queue of an EEE port has held a frame for EEE_IDLE and LPI is asserted. -/
  | eeeIdleExpiry (t : Nat) (port : Fin 76)
  /-- R137: The wake time after LPI deassertion ends and waiting frames may be sent. -/
  | lpiWakeDone (t : Nat) (port : Fin 76)
  /-- R137: The partner signals or ends low-power idle. -/
  | partnerLpi (t : Nat) (port : Fin 76) (on : Bool)
  /-- R138: A port's link comes up and held frames are sent. -/
  | linkUp (t : Nat) (port : Fin 76) (mbps : Nat)
  /-- R139: A port's link goes down; the frame in transmission is lost and queued frames are held or dropped. -/
  | linkDown (t : Nat) (port : Fin 76)
  /-- R141: A link-down hold ends and every frame still queued is dropped. -/
  | holdExpiry (t : Nat) (port : Fin 76)
  /-- R143: MDIO_CMD op 0 queues a clause 22 read. -/
  | mdioC22Read (t : Nat) (sid : Nat) (port : Fin 76) (prtad devad : Fin 32)
  /-- R143: MDIO_CMD op 1 queues a clause 22 write. -/
  | mdioC22Write (t : Nat) (sid : Nat) (port : Fin 76) (prtad devad : Fin 32) (data : BitVec 16)
  /-- R143: MDIO_CMD op 2 queues a clause 45 address frame. -/
  | mdioC45Address (t : Nat) (sid : Nat) (port : Fin 76) (prtad devad : Fin 32) (data : BitVec 16)
  /-- R143: MDIO_CMD op 3 queues a clause 45 write. -/
  | mdioC45Write (t : Nat) (sid : Nat) (port : Fin 76) (prtad devad : Fin 32) (data : BitVec 16)
  /-- R143: MDIO_CMD op 4 queues a clause 45 read. -/
  | mdioC45Read (t : Nat) (sid : Nat) (port : Fin 76) (prtad devad : Fin 32)
  /-- R143: MDIO_CMD op 5 queues a clause 45 read with post-increment. -/
  | mdioC45ReadInc (t : Nat) (sid : Nat) (port : Fin 76) (prtad devad : Fin 32)
  /-- R143: An MDIO management frame completes and MDIO_RESULT is updated. -/
  | mdioFrameDone (t : Nat) (line : BitVec 16)
  /-- R144: Every PHY_POLL the device reads the PHY's link status. -/
  | phyPoll (t : Nat) (port : Fin 76) (line adv lpa : BitVec 16) (clk : Bool)
  /-- R498: A service port's reference clock shows no edge for 1 us. -/
  | svcRefclkLoss (t : Nat) (port : Fin 76)
  /-- R131: FC_REFRESH passes while back-pressure lasts and the PAUSE or PFC frame is repeated. -/
  | fcRefreshExpiry (t : Nat) (port : Fin 76)
  /-- R342: PREEMPT_VERIFY_TIME passes without response and a verify mPacket is sent, or verification fails after three. -/
  | preemptVerifyTx (t : Nat) (port : Fin 76)
  /-- R342: A verify response arrives and preemption becomes active. -/
  | preemptVerifyResponse (t : Nat) (port : Fin 76)
  /-- R346: A preemption fragment is received and reassembled. -/
  | mmFragmentRx (t : Nat) (port : Fin 76) (kind : MmKind) (bytes : List Byte)
  /-- R290: REF has been within tolerance for 10 ms and TIME returns to REF. -/
  | refRecovery (t : Nat)
  /-- R294: An offset measurement of a base steps it in UNSET or runs the servo. -/
  | tbOffsetMeasurement (t : Nat) (b : Fin 4) (source : Nat)
  /-- R293: A write of TB_STEP_TO steps a manual base in UNSET at the commit point. -/
  | tbStepTo (t : Nat) (sid : Nat) (b : Fin 4) (time : Nat)
  /-- R297: An armed write returns a base to UNSET at the commit point. -/
  | tbRestep (t : Nat) (sid : Nat) (b : Fin 4)
  /-- R296: A base loses its input and enters HOLDOVER. -/
  | tbInputLoss (t : Nat) (b : Fin 4)
  /-- R305: A steward drains a transmit time-stamp queue to its PTP engine and TS_LOG. -/
  | tsQueueDrain (t : Nat) (port : Fin 76)
  /-- R308: A steered PTP message is processed by its instance. -/
  | ptpMessageRx (t : Nat)
  /-- R307: A PTP message interval elapses and a steward sends the message. -/
  | ptpMessageTx (t : Nat) (b : Fin 4) (port : Fin 76) (msgType : Fin 16)
  /-- R312: An edge on a TIME_IO pin in mode 3 is stamped into its event queue. -/
  | tioEdge (t : Nat) (pin : Fin 4) (rising : Bool)
  /-- R314: A rising edge on a PPS input gives a measurement for its base. -/
  | ppsEdge (t : Nat) (pin : Fin 4)
  /-- R315: A scheduled action's base reaches its time and the action drives a pin or triggers the recorder. -/
  | actionExecute (t : Nat) (row : Fin 64)
  /-- R317: The width of a pulse action ends and the pin returns inactive. -/
  | actionPulseEnd (t : Nat) (row : Fin 64)
  /-- R332: Every 102.4 ns credit changes take effect and CBS_STATUS is published. -/
  | creditTick (t : Nat)
  /-- R335: A pending gate list configuration becomes operating at its change time. -/
  | gateChangeTime (t : Nat) (port : Fin 76)
  /-- R338: A gate list entry or cycle boundary changes the port's gate states. -/
  | gateEvent (t : Nat) (port : Fin 76)
  /-- R345: PREEMPT_HOLD_ADVANCE before an op 1 entry, hold is asserted. -/
  | preemptHoldAssert (t : Nat) (port : Fin 76)
  /-- R350: A stream gate entry or change time changes the gate state. -/
  | streamGateEvent (t : Nat) (gate : Fin 1024)
  /-- R348: A write of SF_UNBLOCK clears the blocked state of a stream filter. -/
  | sfUnblock (t : Nat) (sid : Nat) (h : Fin 4096)
  /-- R349: A write of SG_CLEAR releases a latched-closed stream gate. -/
  | sgClear (t : Nat) (sid : Nat) (gate : Fin 1024)
  /-- R351: A write of METER_CLEAR_RED releases a red-latched meter. -/
  | meterClearRed (t : Nat) (sid : Nat) (meter : Fin 4096)
  /-- R368: A recovery function passes no frame for reset_ms and resets. -/
  | frerRecoveryTimeout (t : Nat) (fn : Fin 2048)
  /-- R369: Every latent_period a steward tests a recovery function for latent error. -/
  | frerLatentTest (t : Nat) (fn : Fin 2048)
  /-- R369: Every latent_reset the steward restarts the latent counts. -/
  | frerLatentPeriodReset (t : Nat) (fn : Fin 2048)
  /-- R360: A write of FRER_GEN_RESET returns a generation function's next_seq to 0. -/
  | frerGenReset (t : Nat) (sid : Nat) (fn : Fin 2048)
  /-- R368: A write of FRER_RCVY_RESET resets a recovery function. -/
  | frerRcvyReset (t : Nat) (sid : Nat) (fn : Fin 2048)
  /-- R375: A block is read from HBM and decoded with erasures and error location. -/
  | hbmBlockRead (t : Nat) (lba : Nat) (owner : Fin 10) (noise : List Disturbance)
  /-- R376: A full block is encoded and written as 18 shares. -/
  | hbmBlockWrite (t : Nat) (lba : Nat) (owner : Fin 10) (data : List Byte)
  /-- R382: A narrow write updates or opens a merge buffer entry. -/
  | narrowWrite (t : Nat) (lba : Nat) (owner : Fin 10) (words : List (Fin 64 × List Byte))
  /-- R383: A merge entry reaches MERGE_WINDOW after its first write and is flushed. -/
  | mergeWindowExpiry (t : Nat) (lba : Nat) (noise : List Disturbance)
  /-- R378: MEM_DIE_CMD command 1 declares a die failed. -/
  | memDieFailCmd (t : Nat) (sid : Nat) (die : Fin 24)
  /-- R378: MEM_DIE_CMD command 2 returns a die to good. -/
  | memDieRestoreCmd (t : Nat) (sid : Nat) (die : Fin 24)
  /-- R389: Every CHISEL_PERIOD an automatic scrub pass starts. -/
  | chiselPassStart (t : Nat)
  /-- R388: The Chisel reads, decodes and, in a scrub, writes back its next block at its rate. -/
  | chiselBlock (t : Nat) (requested : Bool) (noise : List Disturbance)
  /-- R392: A Chisel pass ends and writes its summary and CHISEL_DONE. -/
  | chiselPassEnd (t : Nat) (requested : Bool)
  /-- R390: CHISEL_CMD 1 starts a requested scrub pass. -/
  | chiselScrub (t : Nat) (sid : Nat)
  /-- R390: CHISEL_CMD 2 starts a requested verify pass. -/
  | chiselVerify (t : Nat) (sid : Nat)
  /-- R390: CHISEL_CMD 3 aborts the requested pass. -/
  | chiselAbort (t : Nat) (sid : Nat)
  /-- R393: A write of REMAP_CMD makes a block a candidate and remaps it. -/
  | remapCmd (t : Nat) (sid : Nat) (lba : Nat)
  /-- R396: The background sweep reads and corrects every SEC-DED memory at least every 100 ms. -/
  | sramSweep (t : Nat) (mem : Fin 10) (hits : List SramHit)
  /-- R381: A poisoned shadow object is rewritten from live copies and TABLE_REBUILT is raised. -/
  | shadowRebuildDone (t : Nat) (index : Nat)
  /-- R397: A 1.024 ms period boundary updates the ledger and puts the loaded plan in force. -/
  | maquettePeriod (t : Nat) (spentUj : Nat)
  /-- R404: The stewards load the plan for the next period into the hardware. -/
  | maquettePlanLoad (t : Nat) (offer : PlanOffer)
  /-- R405: The TIME domain reaches a wake list tick and raises a resource. -/
  | wakeListEntry (t : Nat)
  /-- R412: Staging or waiting heads exceed the surge limits and the hardware raises capacity at once. -/
  | surge (t : Nat)
  /-- R413: NRG_POWER_CMD 1 starts entry to DORMANT and the drain. -/
  | dormantEnterCmd (t : Nat) (sid : Nat)
  /-- R413: NRG_DRAIN ends; remaining frames are dropped and the device completes entry to DORMANT. -/
  | dormantDrainEnd (t : Nat)
  /-- R416: NRG_POWER_CMD 2 starts exit from DORMANT. -/
  | dormantExitCmd (t : Nat) (sid : Nat)
  /-- R416: NRG_WAKE_BASE reaches NRG_WAKE_TIME and exit from DORMANT starts. -/
  | dormantWakeTime (t : Nat)
  /-- R416: The deciders have reloaded and passed their runs and the device becomes ACTIVE. -/
  | dormantExitReady (t : Nat) (failA failB : Bool)
  /-- R434: A 4 us window count or lock loss finds a domain faulty and applies its reaction. -/
  | clockMonitorWindow (t : Nat) (domain : Fin 25) (khz : Nat) (locked : Bool)
  /-- R434: Every 1 ms the Plinth compares WATCH, REF and AON two by two. -/
  | clockVote (t : Nat) (watch ref aon : Nat)
  /-- R437: A rail excursion lasts long enough to be reported and sets cause 4. -/
  | voltageExcursion (t : Nat) (rail : Fin 10) (mv : Nat) (lastedNs : Nat)
  /-- R438: Every 100 us each sensor is sampled against its warning and fault thresholds. -/
  | tempSample (t : Nat) (readings : List Int)
  /-- R439: Every 1 ms each margin sensor is read against MARGIN_THRESH. -/
  | marginRead (t : Nat) (readings : List Nat)
  /-- R441: Every 10 ms the Plinth checks RWS values and table copies against their references. -/
  | configCheckPass (t : Nat) (found : List Mismatch)
  /-- R442: A mismatched table chunk finishes reloading from the shadow. -/
  | chunkReloadDone (t : Nat)
  /-- R426: Every 1 us the Plinth reads back each FAULT pin. -/
  | faultPinReadback (t : Nat) (aHigh bHigh : Bool)
  /-- R432: The lockstep controllers miscompare or the Plinth SRAM fails and cause 0 is set. -/
  | plinthMiscompare (t : Nat)
  /-- R432: Every 100 ms the Plinth checks its ROM CRC. -/
  | plinthRomCheck (t : Nat) (good : Bool)
  /-- R423: A tile or pin driver receives no keep refresh for 4 us and goes silent. -/
  | keepSignalTimeout (t : Nat) (unit : Fin 10)
  /-- R445: A steward heartbeat is missing for 4 ms and the Plinth restarts all stewards. -/
  | stewardHeartbeatMiss (t : Nat) (steward : Fin 4)
  /-- R445: The stewards have reloaded firmware and state and cause 14 is set. -/
  | stewardRestartDone (t : Nat)
  /-- R430: An armed write clears the named latched fault causes whose conditions have ended. -/
  | safClear (t : Nat) (sid : Nat) (mask : BitVec 32)
  /-- R427: SAF_PIN_TEST 1 drives FAULT_B_N low for 10 ms. -/
  | safPinTestB (t : Nat) (sid : Nat)
  /-- R427: SAF_PIN_TEST 2 drives FAULT_A_N low for 10 ms. -/
  | safPinTestA (t : Nat) (sid : Nat)
  /-- R427: The 10 ms pin test ends and the pin returns to its normal level. -/
  | pinTestEnd (t : Nat)
  /-- R461: The recorder draws a copy from Q592 to Q599 and writes its capture record. -/
  | recorderDraw (t : Nat)
  /-- R463: Recorder overrun drops are reported once per second. -/
  | recOverrunReport (t : Nat)
  /-- R464: REC_TRIGGER 1 triggers a Cast at the present instant. -/
  | recTriggerNow (t : Nat) (sid : Nat)
  /-- R464: REC_TRIGGER 2 triggers a Cast at REC_TRIGGER_TIME. -/
  | recTriggerAtTime (t : Nat) (sid : Nat)
  /-- R465: REC_BASE reaches t + REC_POST and the Cast freezes its segments. -/
  | castFreeze (t : Nat)
  /-- R467: CAST_CMD 1 releases a FROZEN Cast to the ring. -/
  | castRelease (t : Nat) (sid : Nat) (cast : Fin 8)
  /-- R470: CAST_CMD 2 starts replaying a FROZEN Cast. -/
  | castReplay (t : Nat) (sid : Nat) (cast : Fin 8)
  /-- R470: CAST_CMD 3 stops a replay. -/
  | castStopReplay (t : Nat) (sid : Nat) (cast : Fin 8)
  /-- R470: A replayed record reaches its departure instant and is sent. -/
  | castReplayFrame (t : Nat)
  /-- R469: A write of CAST_EXPORT_SEL starts the scan of an export part. -/
  | castExportSel (t : Nat) (sid : Nat) (cast : Fin 8) (part : Nat)
  /-- R469: The export scan ends and the part becomes readable. -/
  | exportScanDone (t : Nat) (sid : Nat)
  /-- R467: The stewards finish rebuilding CAST_STATUS from segment headers. -/
  | castDirectoryRebuilt (t : Nat)
  /-- R471: PORST_N falls and a power-on reset begins. -/
  | porstNAssert (t : Nat)
  /-- R475: PORST_N rises and start-up after power-on reset runs. -/
  | porstNRelease (t : Nat) (boot : BootInput)
  /-- R502: VDD_AON falls to the detector threshold and a power-on reset begins. -/
  | powerOnDetectorAssert (t : Nat)
  /-- R502: The power-on detector releases 50 us after VDD_AON rises above 0.70 V. -/
  | powerOnDetectorRelease (t : Nat) (boot : BootInput)
  /-- R477: WRST_N falls and a warm reset begins. -/
  | wrstNAssert (t : Nat)
  /-- R477: WRST_N rises and warm-reset start-up runs. -/
  | wrstNRelease (t : Nat) (boot : BootInput)
  /-- R474: A direct write of 0xA501 to DEV_RESET schedules a warm reset. -/
  | devResetWarm (t : Nat) (sid : Nat)
  /-- R474: A direct write of 0xA502 to DEV_RESET schedules a full reset. -/
  | devResetFull (t : Nat) (sid : Nat)
  /-- R474: 2 ms after the DEV_RESET commit point the commanded reset begins. -/
  | devResetDelayExpiry (t : Nat) (boot : BootInput)
  /-- R476: A flash firmware slot fails to reach ready within 2 s and is revoked with a warm reset. -/
  | firmwareBootTimeout (t : Nat) (boot : BootInput)
  /-- R487: The last segment of a staged firmware image arrives and is checked. -/
  | fwStage (t : Nat) (sid : Nat) (image : List Byte)
  /-- R487: Programming of a staged firmware image completes or fails. -/
  | fwStageProgramDone (t : Nat) (flashError : Bool)
  /-- R506: AON has not switched to the crystal 2 s after the trigger and is reported faulty. -/
  | aonCrystalTimeout (t : Nat)
  /-- R123: A steward serves a frame from steward queue SQ2 as an LACP or marker frame under IEEE 802.1AX, or discards another slow-protocol frame and increments STEW_SLOW_OTHER. -/
  | slowProtocolRx (t : Nat)
  /-- R18: A steward sends a periodic LACP frame into a port queue without a decision. -/
  | lacpduTx (t : Nat) (port : Fin 76) (body : List Byte)
  /-- R306: announce_timeout announce intervals pass on a PTP port without an Announce message and the port changes its PTP state. -/
  | announceReceiptTimeout (t : Nat) (b : Fin 4) (port : Fin 76)
  /-- R135: The PLCA TO timer or burst timer runs out, moving the transmit opportunity on, and the coordinator sends the BEACON at the start of each cycle. -/
  | plcaToTimerExpiry (t : Nat) (port : Fin 76)
  /-- R411: The FLASH clock domain stops after 1 ms with the SPI interface idle and is marked planned stop. -/
  | flashIdleStop (t : Nat)
  /-- R509: A boundary-scan instruction takes effect in the TAP and holds the device in reset with its outputs as R473 gives. -/
  | boundaryScanHold (t : Nat)
  /-- R509: TRST_N falls or the TAP leaves its boundary-scan instructions, and the device leaves the reset hold. -/
  | boundaryScanRelease (t : Nat) (boot : BootInput)
  deriving DecidableEq, Repr

end Sys2Proof
end

