-- ==== Sys2Proof/Machine/Table.lean ====
section
/-! DEFINITION. Sparse tables `SMap` in one canonical form: keys strictly rising, no entry equal to what an unlisted key
reads as. -/

namespace Sys2Proof.Machine

variable {α : Type}

/-- What key `k` holds; `d` is what an unlisted key reads as. -/
def SMap.get (d : α) (m : SMap α) (k : Nat) : α :=
  match m with
  | [] => d
  | (j, v) :: r => if j = k then v else SMap.get d r k

/-- Insert or replace without looking at the default. -/
def SMap.ins (m : SMap α) (k : Nat) (v : α) : SMap α :=
  match m with
  | [] => [(k, v)]
  | (j, w) :: r => if k < j then (k, v) :: (j, w) :: r else if k = j then (k, v) :: r else (j, w) :: SMap.ins r k v

/-- Remove a key. -/
def SMap.del (m : SMap α) (k : Nat) : SMap α :=
  match m with
  | [] => []
  | (j, w) :: r => if j = k then r else (j, w) :: SMap.del r k

/-- Store `v` at `k`; storing the default `d` removes the entry. -/
def SMap.set [DecidableEq α] (d : α) (m : SMap α) (k : Nat) (v : α) : SMap α :=
  if v = d then SMap.del m k else SMap.ins m k v

/-- Replace what `k` holds by its image. -/
def SMap.upd [DecidableEq α] (d : α) (m : SMap α) (k : Nat) (f : α → α) : SMap α :=
  SMap.set d m k (f (SMap.get d m k))

/-- The canonical form. -/
def SMap.wf [DecidableEq α] (d : α) (m : SMap α) : Bool :=
  match m with
  | [] => true
  | (j, v) :: r => decide (v ≠ d) && SMap.wf d r && r.all (fun p => decide (j < p.1))

/-- The entries whose key and value meet `p`. -/
def SMap.keep (m : SMap α) (p : Nat → α → Bool) : SMap α := m.filter (fun e => p e.1 e.2)

/-- The lowest number below `n` that meets `p`, from `i` on. -/
def findFrom (p : Nat → Bool) : Nat → Nat → Option Nat
  | _, 0 => none
  | i, n + 1 => if p i then some i else findFrom p (i + 1) n

/-- The lowest number below `n` that meets `p`. -/
def findBelow (n : Nat) (p : Nat → Bool) : Option Nat := findFrom p 0 n

/-- Apply `f` for each number from `i`, `n` times. -/
def loop {σ : Type} (f : Nat → σ → σ) : Nat → Nat → σ → σ
  | _, 0, s => s
  | i, n + 1, s => loop f (i + 1) n (f i s)

/-- Put `v` at place `i` of a list. -/
def setAt (l : List α) (i : Nat) (v : α) : List α :=
  match l, i with
  | [], _ => []
  | _ :: r, 0 => v :: r
  | a :: r, i + 1 => a :: setAt r i v

/-- A slice of a list. -/
def slice (l : List α) (off len : Nat) : List α := (l.drop off).take len

/-- Insertion into a list sorted by `key`, behind equal keys. -/
def insertBy (key : α → Nat) (a : α) : List α → List α
  | [] => [a]
  | b :: l => if key a < key b then a :: b :: l else b :: insertBy key a l

/-- A list in ascending order of `key`; equal keys keep their order. -/
def sortBy (key : α → Nat) (l : List α) : List α := l.foldl (fun acc a => insertBy key a acc) []

end Sys2Proof.Machine
end

