-- ==== Sys2Proof/Machine/Bytes.lean ====
section
/-! DEFINITION. Byte order, bit fields, signed fields and the checksums the manual names. -/

namespace Sys2Proof.Machine

/-- A big-endian number (R5). -/
def beNat (bs : List Byte) : Nat := bs.foldl (fun a b => a * 256 + b.toNat) 0

/-- `len` bytes of a number, most significant first (R5). -/
def toBE : Nat → Nat → List Byte
  | 0, _ => []
  | n + 1, v => BitVec.ofNat 8 (v / 256 ^ n) :: toBE n v

/-- `len` bytes of a signed number in two's complement. -/
def toBEInt (len : Nat) (v : Int) : List Byte := toBE len (v % (256 ^ len : Nat)).toNat

/-- The field of `len` bytes at offset `off`; bytes beyond the end are absent. -/
def field (bs : List Byte) (off len : Nat) : Nat := beNat (slice bs off len)

/-- Byte `i`, 0 beyond the end. -/
def byteAt (bs : List Byte) (i : Nat) : Nat := ((bs.drop i).head?.getD 0).toNat

/-- Exactly `n` bytes: cut, or padded with zeros on the right. -/
def padRight (n : Nat) (bs : List Byte) : List Byte := bs.take n ++ List.replicate (n - bs.length) 0

/-- Exactly `n` bytes, right-aligned: padded with zeros on the left; of a longer value the first `n`. -/
def padLeft (n : Nat) (bs : List Byte) : List Byte := List.replicate (n - bs.length) 0 ++ bs.take n

/-- Bits [hi:lo] of a number (R6: bit 0 is the least significant). -/
def bits (v hi lo : Nat) : Nat := v / 2 ^ lo % 2 ^ (hi + 1 - lo)

/-- Bit `i` of a number. -/
def bit (v i : Nat) : Bool := v / 2 ^ i % 2 == 1

def boolNat (b : Bool) : Nat := if b then 1 else 0

/-- A number with bit `i` set or cleared. -/
def setBit (v i : Nat) (b : Bool) : Nat := v - (v / 2 ^ i % 2) * 2 ^ i + boolNat b * 2 ^ i

/-- A field of `n` bits read as two's complement. -/
def sInt (n v : Nat) : Int := if v % 2 ^ n < 2 ^ (n - 1) then (v % 2 ^ n : Nat) else (v % 2 ^ n : Nat) - (2 ^ n : Nat)

/-- The numbers of the bits set in a port set. -/
def portsOf (set : Nat) : List Nat := (List.range 80).filter (bit set)

/-- `f` applied `n` times. -/
def iter {α : Type} (f : α → α) : Nat → α → α
  | 0, a => a
  | n + 1, a => iter f n (f a)

/-- One bit of a reflected CRC. -/
def crcBit (poly c : Nat) : Nat := if c % 2 = 1 then (c / 2) ^^^ poly else c / 2

/-- One byte of a reflected CRC. -/
def crcByte (poly c : Nat) (b : Byte) : Nat := iter (crcBit poly) 8 (c ^^^ b.toNat)

/-- CRC-32 of IEEE 802.3. -/
def crc32 (bs : List Byte) : Nat := bs.foldl (crcByte 0xEDB88320) 0xFFFFFFFF ^^^ 0xFFFFFFFF

/-- CRC-32C, reflected, without the final inversion, from a given value (R174). -/
def crc32cRaw (init : Nat) (bs : List Byte) : Nat := bs.foldl (crcByte 0x82F63B78) init

/-- CRC-32C of Table DEC-1. -/
def crc32c (bs : List Byte) : Nat := crc32cRaw 0xFFFFFFFF bs ^^^ 0xFFFFFFFF

/-- One bit of CRC-8, polynomial x^8 + x^2 + x + 1, most significant bit first. -/
def crc8Bit (c : Nat) : Nat := if c ≥ 128 then (c * 2 % 256) ^^^ 7 else c * 2

/-- CRC-8 with initial value 0 (Table FAB-1, R111). -/
def crc8 (bs : List Byte) : Nat := bs.foldl (fun c b => iter crc8Bit 8 (c ^^^ b.toNat)) 0

/-- The FCS field of IEEE 802.3: the CRC-32, least significant byte first on the wire. -/
def fcsBytes (bs : List Byte) : List Byte := (toBE 4 (crc32 bs)).reverse

/-- The stomp pattern: the bitwise complement of the FCS (R267). -/
def stompBytes (bs : List Byte) : List Byte := (fcsBytes bs).map (fun b => b ^^^ 0xFF)

/-- Characters of a text as ASCII bytes. -/
def ascii (t : String) : List Byte := t.toList.map (fun c => BitVec.ofNat 8 c.toNat)

end Sys2Proof.Machine
end

