-- ==== Sys2Proof/Config.lean ====
section
/-! DEFINITION. What an implementation fixes, and the free values: constants with no body, so that no proof can see what
they are. -/

namespace Sys2Proof.Config

/-- Free value number `n`: what the manual leaves open at the `n`-th such point of a run (log entry 3). -/
opaque freeValue : Nat → Nat

/-- The index that LAG `g` uses while its indirection table cannot be used: the manual leaves it open (R215, log entry 12). -/
opaque lagIndex : Nat → Nat

/-- Tw_sys_tx of a port type of Table LAN-1, in TIME ticks: IEEE 802.3 gives it, not the manual (R137, log entry 28). -/
opaque twSysTx : Nat → Nat

/-- Planned frequency in kHz of an octet's lane PLL by the port types of its eight lanes: Table JNY-5 says by port type and gives no
figure (R23, R24, log entry 66). -/
opaque lanePllKhz : List Nat → Nat

/-- Bytes 17 to 39 of the Plinth's expected record of a golden vector: they stand in its ROM, which the manual does not list (R245, R246,
log entry 11). -/
opaque goldenResult : Nat → List Byte

/-- Logical blocks of the HBM space, MEM_BLOCKS (R371). -/
def memBlocks : Nat := 89478420

/-- Remap spares that follow the logical blocks (R393). -/
def memSpares : Nat := 64

/-- Dies of the two stacks (R371). -/
def dies : Nat := 24

/-- Slots of one die, each 32 data bytes and a 32-bit tag (R371). -/
def dieSlots : Nat := 67108864

/-- Units of 512 bytes of the deep store, DEEP_UNITS (R275). -/
def deepUnits : Nat := 16777216

/-- Counters of the catalogue, COUNTER_COUNT (R449). -/
def counterCount : Nat := 160416

/-- TIME ticks in a microsecond, a millisecond and a second: a tick is 0.8 ns (R288). -/
def ticksPerUs : Nat := 1250
def ticksPerMs : Nat := 1250000
def ticksPerS : Nat := 1250000000

/-- The discovery group address (R64). -/
def gmpGroup : Nat := 0x035A47000001

/-- The device's serial number, 0x0100:05: sixteen characters "0" (DESIGN CHOICE, log entry 4). -/
def serial : List Byte := List.replicate 16 0x30

/-- Factory values (DESIGN CHOICE, log entry 4). -/
def fwVersion : Nat := 0
def factoryMac : Nat := 0
def processCode : Nat := 0

/-- What the firmware release `fw` words in its .qzd (R62), and the manual does not: the lines of an object's record on its default, range,
unit, values, dependencies and steward, and the name, type and range of a column. -/
opaque qzdLines : (fw ix sub : Nat) → List Byte
opaque qzdColumn : (fw ix sub col : Nat) → List Byte

end Sys2Proof.Config
end

