-- ==== Sys2Proof/Machine/Objects.lean ====
section
/-! DEFINITION. What the dictionary says of an object: its type, access, class, range and default (R25 to R39, R512), and
the check of one written field. -/

namespace Sys2Proof.Machine

/-- The value of one field: a number (a TIME is the 96-bit number of its encoding), or the bytes of a STRING, an OCTETS or
a record. -/
inductive Value where
  | num (n : Int)
  | octets (b : List Byte)
  deriving DecidableEq, Repr

def Value.toInt : Value → Int
  | .num n => n
  | .octets _ => 0

def Value.toNat (v : Value) : Nat := v.toInt.toNat

def Value.bytes : Value → List Byte
  | .num _ => []
  | .octets b => b

/-- The data types of Table DIC-1; `raw n` is a record of `n` bytes that another table lays out. -/
inductive Ty where
  | bool | u8 | u16 | u32 | u64 | i32 | i64 | time | mac | ipv4 | ipv6 | str | octets | portset | enum8
  | raw (n : Nat)
  deriving DecidableEq, Repr

/-- The type code of Table DIC-1; a record is part of a TABLE. -/
def Ty.code : Ty → Nat
  | .bool => 1 | .u8 => 2 | .u16 => 3 | .u32 => 4 | .u64 => 5 | .i32 => 6 | .i64 => 7 | .time => 8 | .mac => 9
  | .ipv4 => 10 | .ipv6 => 11 | .str => 12 | .octets => 13 | .portset => 14 | .enum8 => 15 | .raw _ => 16

/-- The wire size; 0 for a STRING or an OCTETS, whose size varies. -/
def Ty.size : Ty → Nat
  | .bool => 1 | .u8 => 1 | .u16 => 2 | .u32 => 4 | .u64 => 8 | .i32 => 4 | .i64 => 8 | .time => 12 | .mac => 6
  | .ipv4 => 4 | .ipv6 => 16 | .str => 0 | .octets => 0 | .portset => 10 | .enum8 => 1 | .raw n => n

/-- The wire size that subindex 1 of data-type index `code` reads (R29). -/
def wireSize (code : Nat) : Nat :=
  ([1, 1, 2, 4, 8, 4, 8, 12, 6, 4, 16, 0, 0, 10, 1, 0] : List Nat).getD (code - 1) 0

/-- The wire encoding of a value (Table DIC-1). -/
def encodeValue (ty : Ty) (v : Value) : List Byte :=
  match ty with
  | .str => BitVec.ofNat 8 v.bytes.length :: v.bytes
  | .octets => toBE 4 v.bytes.length ++ v.bytes
  | .raw n => padRight n v.bytes
  | t => toBEInt t.size v.toInt

/-- Read a value of type `ty` from the front of `bs`; what follows it is answered too. -/
def decodeValue (ty : Ty) (bs : List Byte) : Option (Value × List Byte) :=
  match ty with
  | .str =>
    let n := byteAt bs 0
    if 1 ≤ bs.length ∧ 1 + n ≤ bs.length then some (.octets (slice bs 1 n), bs.drop (1 + n)) else none
  | .octets =>
    let n := field bs 0 4
    if 4 ≤ bs.length ∧ 4 + n ≤ bs.length then some (.octets (slice bs 4 n), bs.drop (4 + n)) else none
  | .raw n => if n ≤ bs.length then some (.octets (bs.take n), bs.drop n) else none
  | t =>
    if t.size ≤ bs.length then
      let w := field bs 0 t.size
      let v : Int := match t with
        | .i32 => sInt 32 w
        | .i64 => sInt 64 w
        | _ => w
      some (.num v, bs.drop t.size)
    else none

inductive Access where
  | ro | rw | wo | rws | const
  deriving DecidableEq, Repr

/-- The persistence classes (R34). -/
inductive Cls where
  | p | k | v | s
  deriving DecidableEq, Repr

/-- The range of a field: numbers from m to M in steps; 0 or such a range (R37); such a range and listed values (R512);
listed values only (R38); permitted ports by row and maximum lengths (R39); a unicast address; the bits a mask has, and
those fixed at 1. -/
inductive Rng where
  | any
  | step (m M s : Int)
  | zeroOr (m M s : Int)
  | special (m M s : Int) (listed : List Int)
  | enum (listed : List Int)
  | ports (perm : Nat → Nat)
  | maxLen (n : Nat)
  | unicast
  | mask (n : Nat) (forced : Nat := 0)

/-- One field: a scalar object has one, a TABLE one for each column. `fixed` names the rows at which a write of the column
is refused with code 5 (R39). -/
structure Field where
  ty : Ty
  rng : Rng := .any
  dflt : Nat → Value := fun _ => .num 0
  fixed : Nat → Bool := fun _ => false

/-- An object. `rows` is the row limit of a TABLE. -/
structure Obj where
  acc : Access
  cls : Cls
  rows : Option Nat := none
  cols : List Field

/-- The key of a field's value in the dictionary. -/
def dkey (ix sub row col : Nat) : Nat := ((ix * 256 + sub) * 4294967296 + row) * 256 + col

def keyIx (k : Nat) : Nat := k / 256 / 4294967296 / 256
def keySub (k : Nat) : Nat := k / 256 / 4294967296 % 256
def keyRow (k : Nat) : Nat := k / 256 % 4294967296
def keyCol (k : Nat) : Nat := k % 256

/-- Ports `a` to `b` as a port set. -/
def portRange (a b : Nat) : Nat := 2 ^ (b + 1) - 2 ^ a

/-- The numeric test of R37: what is stored, and the code. -/
def clampStep (m M s v : Int) : Value × Nat :=
  if v < m then (.num m, 1)
  else if v > M then (.num M, 2)
  else if (v - m) % s ≠ 0 then
    let k := (2 * (v - m) + s - 1) / (2 * s)
    (.num (m + k * s), 3)
  else (.num v, 0)

/-- The check of one field (R36 to R39, R512): what is stored, and the codes of its fields: three for a TIME, else one. -/
def checkField (f : Field) (row : Nat) (old req : Value) : Value × List Nat :=
  if f.fixed row then (old, [if req = old then 0 else 5]) else
  let one (p : Value × Nat) : Value × List Nat := (p.1, [p.2])
  match f.ty with
  | .time =>
    let r := req.toNat
    let ns := bits r 47 16
    if ns > 999999999 then (.num ((r / 2 ^ 48) * 2 ^ 48 + 999999999 * 65536 + r % 65536 : Nat), [0, 2, 0]) else (req, [0, 0, 0])
  | .bool => if req.toInt = 0 ∨ req.toInt = 1 then (req, [0]) else (old, [4])
  | _ =>
    match f.rng with
    | .any => (req, [0])
    | .step m M s => one (clampStep m M s req.toInt)
    | .zeroOr m M s =>
      if req.toInt = 0 then (req, [0])
      else if req.toInt < m then (.num m, [1]) else one (clampStep m M s req.toInt)
    | .special m M s l =>
      if l.contains req.toInt then (req, [0])
      else if m ≤ req.toInt ∧ req.toInt ≤ M then one (clampStep m M s req.toInt) else (old, [4])
    | .enum l => if l.contains req.toInt then (req, [0]) else (old, [4])
    | .ports perm =>
      let v := req.toNat % 2 ^ 76
      let kept := v &&& perm row
      (.num kept, [if kept = v then 0 else 2])
    | .maxLen n => if req.bytes.length ≤ n then (req, [0]) else (.octets (req.bytes.take n), [2])
    | .unicast => if req.toNat / 2 ^ 40 % 2 = 1 then (old, [4]) else (req, [0])
    | .mask n forced => (.num ((req.toNat &&& n) ||| forced : Nat), [0])

end Sys2Proof.Machine
end

