-- ==== Sys2Proof/Machine/Catalogue.lean ====
section
/-! DEFINITION. The dictionary's objects, area by area (R61), from the object tables of the chapters. -/

namespace Sys2Proof.Machine

/-- A field with a range and a numeric default. -/
def fld (ty : Ty) (rng : Rng) (d : Int := 0) : Field := { ty := ty, rng := rng, dflt := fun _ => .num d }
/-- A field of a record or status object, which nobody writes. -/
def ro (ty : Ty) (d : Int := 0) : Field := fld ty .any d
def fBool (d : Int := 0) : Field := fld .bool .any d
def fEnum (l : List Int) (d : Int := 0) : Field := fld .enum8 (.enum l) d
def fPorts (perm : Nat) (d : Nat := 0) : Field := fld .portset (.ports fun _ => perm) d
def fOcts (n : Nat) (d : List Byte := []) : Field := { ty := .octets, rng := .maxLen n, dflt := fun _ => .octets d }
def fText (d : List Byte) : Field := { ty := .str, dflt := fun _ => .octets d }
def u8 (m M : Int) (d : Int := 0) : Field := fld .u8 (.step m M 1) d
def u16 (m M : Int) (d : Int := 0) : Field := fld .u16 (.step m M 1) d
def u32 (m M : Int) (d : Int := 0) : Field := fld .u32 (.step m M 1) d
def fRaw (n : Nat) : Field := { ty := .raw n, dflt := fun _ => .octets (List.replicate n 0) }

/-- A column that is fixed in the rows below `n`, or in every row (R39). -/
def lockRows (n : Nat) (f : Field) : Field := { f with fixed := fun r => decide (r < n) }
def lockCol (f : Field) : Field := { f with fixed := fun _ => true }

/-- Scalar objects and tables of each access and class. -/
def rwP (f : Field) : Option Obj := some { acc := .rw, cls := .p, cols := [f] }
def rwV (f : Field) : Option Obj := some { acc := .rw, cls := .v, cols := [f] }
def rwK (f : Field) : Option Obj := some { acc := .rw, cls := .k, cols := [f] }
def woV (f : Field) : Option Obj := some { acc := .wo, cls := .v, cols := [f] }
def rwsP (f : Field) : Option Obj := some { acc := .rws, cls := .p, cols := [f] }
def rwsV (f : Field) : Option Obj := some { acc := .rws, cls := .v, cols := [f] }
def roS (f : Field) : Option Obj := some { acc := .ro, cls := .s, cols := [f] }
def roK (f : Field) : Option Obj := some { acc := .ro, cls := .k, cols := [f] }
def cst (f : Field) : Option Obj := some { acc := .const, cls := .s, cols := [f] }
def tabP (n : Nat) (fs : List Field) : Option Obj := some { acc := .rw, cls := .p, rows := some n, cols := fs }
def tabV (n : Nat) (fs : List Field) : Option Obj := some { acc := .rw, cls := .v, rows := some n, cols := fs }
def tabRws (n : Nat) (fs : List Field) : Option Obj := some { acc := .rws, cls := .p, rows := some n, cols := fs }
def tabS (n : Nat) (fs : List Field) : Option Obj := some { acc := .ro, cls := .s, rows := some n, cols := fs }
def tabK (n : Nat) (fs : List Field) : Option Obj := some { acc := .ro, cls := .k, rows := some n, cols := fs }
def tabC (n : Nat) (fs : List Field) : Option Obj := some { acc := .const, cls := .s, rows := some n, cols := fs }

/-- All 32-bit values. -/
def all32 : Rng := .step 0 4294967295 1

/-- Ports 0 to 72, which carry frames of their own. -/
def allPorts : Nat := portRange 0 72

/-- The time bases and DC as an enumeration. -/
def baseEnum (d : Int := 4) : Field := fEnum [0, 1, 2, 3, 4] d

/-! The control area (chapters 02, 03, 16, 17, 13, 14, 15, 08, 10). -/

/-- 0x0100: identity (Table DIC-10). -/
def obj0100 (sub : Nat) : Option Obj :=
  match sub with
  | 1 => cst (fText (ascii "Draquerok Silicon"))
  | 2 => cst (ro .u16 0x6416)
  | 3 => cst (fText (ascii "YL6416-H2"))
  | 4 => cst (fText (ascii "B1"))
  | 5 => cst (fText Config.serial)
  | 6 => roS (ro .u32 Config.fwVersion)
  | 7 => cst (ro .u16 0x0102)
  | 8 => roS (ro .u32)
  | 9 => roS { ty := .octets, dflt := fun _ => .octets [] }
  | _ => none

/-- 0x0110: device state (Table RST-10). -/
def obj0110 (sub : Nat) : Option Obj :=
  match sub with
  | 1 => roS (ro .enum8)
  | 2 => roS (ro .u8)
  | 3 => woV (fld .u16 (.enum [0xA501, 0xA502]))
  | 4 => woV (fOcts 4194304)
  | 5 => roS (ro .enum8)
  | _ => none

/-- 0x0120 and 0x0121: boot report and flash (Table RST-10). -/
def obj0120 (sub : Nat) : Option Obj :=
  match sub with
  | 1 => tabS 1 [ro .enum8, ro .enum8, ro .u32, ro .enum8, ro .u32, ro .enum8, ro .u32, ro .u32, ro .u32, ro .u32, ro .u16,
      ro .time, ro .u32, ro .i32]
  | 2 => tabS 12 [ro .u32]
  | _ => none

def obj0121 (sub : Nat) : Option Obj :=
  match sub with
  | 1 => tabS 1 [ro .bool, ro .u32, ro .u16, ro .bool, ro .enum8]
  | 2 => tabS 4 [ro .enum8, ro .u32, ro .u32, ro .u32, ro .time]
  | _ => none

/-- 0x0200: dictionary control (Table DIC-7). -/
def obj0200 (sub : Nat) : Option Obj :=
  match sub with
  | 1 => cst (ro .u16 0x0102)
  | 2 => roS (ro .u32)
  | 3 => woV (fld .u8 (.enum [1]))
  | 4 => roS (ro .u16)
  | 5 => roS (ro .enum8)
  | 6 => woV (ro .u32)
  | 7 => woV (fEnum [1, 2, 3])
  | 8 => rwV (ro .time)
  | 9 => rwV (baseEnum 4)
  | 0x0A => roS (ro .u32)
  | 0x0B => roS (ro .u64)
  | 0x0C => roS (ro .u8)
  | 0x0D => rwP (u16 1 600 10)
  | 0x0E => roS (ro .u32)
  | 0x0F => woV (fEnum [1, 2, 3])
  | 0x10 => roS (ro .enum8)
  | 0x11 => roS (ro .u8)
  | _ => none

/-- 0x0210: the clamp report (Table DIC-4). -/
def obj0210 (sub : Nat) : Option Obj :=
  match sub with
  | 1 => roS (ro .u32)
  | 2 => roS (ro .u32)
  | 3 => tabS 256 [fRaw 64]
  | 4 => rwV (fld .u32 all32)
  | _ => none

/-- 0x0220: snapshots (Table DIC-8). -/
def obj0220 (sub : Nat) : Option Obj :=
  match sub with
  | 1 => cst (ro .u8 4)
  | 2 => woV (fEnum [1, 2, 3])
  | 3 => rwV (ro .time)
  | 4 => rwV (baseEnum 4)
  | 5 => rwV (u8 0 3)
  | 6 => tabK 4 [ro .enum8, ro .u32, ro .time, ro .time, ro .u64, ro .bool]
  | _ => none

/-- 0x0300: management access (Table GMP-1). -/
def obj0300 (sub : Nat) : Option Obj :=
  match sub with
  | 1 => rwP (u16 0x0600 0xFFFF 0x88B5)
  | 2 => rwP (fld .mac .unicast Config.factoryMac)
  | 3 => rwP (fPorts (portRange 0 63 + portRange 72 72) (portRange 72 72))
  | 4 => rwP (u16 0 4094)
  | 5 => rwP (u16 5 3600 60)
  | 6 => roS (ro .u8)
  | 7 => rwP (u16 0 100 10)
  | 8 => rwP (fld .u16 (.step 10 1000 10) 50)
  | 9 => tabRws 4 [fEnum [0, 1, 2, 3], fOcts 32, ro .u32]
  | 0x0A => roS (ro .bool)
  | 0x0B => tabS 16 [ro .u16, ro .enum8, ro .u8, ro .u8, ro .mac, ro .u32]
  | 0x0C => tabS 1024 [fRaw 48]
  | 0x0D => roK (ro .u32)
  | _ => none

/-- 0x0400 to 0x0420: energy (Table NRG-8). -/
def obj0400 (sub : Nat) : Option Obj :=
  match sub with
  | 1 => rwP (fld .u32 (.step 12000 95000 100) 90000)
  | 2 => roS (ro .u32)
  | 3 => tabS 3 [ro .u32]
  | 4 => roS (ro .u32 90000)
  | 5 => roS (ro .i32)
  | 6 => rwP (fld .u32 (.step 0 10000 10) 1000)
  | 7 => rwP (fld .i32 (.step (-20) 20 1))
  | 8 => rwP (fBool 1)
  | 9 => rwP (fEnum [0, 1, 2, 3, 4] 4)
  | 0x0A => rwP (u8 10 200 50)
  | 0x0B => rwP (u8 1 50 5)
  | 0x0C => rwP (fld .u32 (.step 0 100000 100) 2000)
  | 0x0D => rwP (u8 2 64 4)
  | _ => none

def obj0410 (sub : Nat) : Option Obj :=
  match sub with
  | 1 => roS { ty := .octets }
  | 2 => roS { ty := .octets }
  | 3 => tabS 64 [ro .u32, ro .enum8, ro .u8, ro .u8]
  | 4 => tabS 64 [ro .u32, ro .u32, ro .u32, ro .u8]
  | _ => none

def obj0420 (sub : Nat) : Option Obj :=
  match sub with
  | 1 => woV (fEnum [1, 2])
  | 2 => rwsP (fBool)
  | 3 => rwP (u16 0 1000 10)
  | 4 => rwP (fld .u8 (.mask 7 1) 1)
  | 5 => rwK (ro .time)
  | 6 => rwK (baseEnum 4)
  | 7 => rwP (fld .u8 (.mask 15))
  | 8 => roK (ro .enum8)
  | _ => none

/-- Low limit, nominal and high limit of the ten rails in mV (Table SAF-5). -/
def railLimits : List (Nat × Nat × Nat) :=
  [(800, 752, 848), (750, 705, 795), (850, 799, 901), (900, 846, 954), (1200, 1128, 1272), (1100, 1034, 1166),
   (400, 376, 424), (1800, 1692, 1908), (3300, 3102, 3498), (1800, 1692, 1908)]

/-- 0x0480: monitors (Table SAF-6). -/
def obj0480 (sub : Nat) : Option Obj :=
  match sub with
  | 1 => tabS 18 [ro .i32, ro .i32]
  | 2 => tabP 2 [{ ty := .u8, rng := .step 60 125 1, dflt := fun r => .num (if r = 0 then 110 else 95) }]
  | 3 => tabRws 2 [{ ty := .u8, rng := .step 90 130 1, dflt := fun r => .num (if r = 0 then 125 else 105) }]
  | 4 => tabS 10 [ro .u16, ro .u16, ro .u16]
  | 5 => tabC 10 [{ ty := .u16, dflt := fun r => .num (railLimits.getD r (0, 0, 0)).1 },
      { ty := .u16, dflt := fun r => .num (railLimits.getD r (0, 0, 0)).2.1 },
      { ty := .u16, dflt := fun r => .num (railLimits.getD r (0, 0, 0)).2.2 }]
  | 6 => tabS 25 [ro .u32, ro .enum8]
  | 7 => tabS 6 [ro .u16, ro .u16]
  | 8 => rwsP (fld .u16 (.step 10 200 5) 40)
  | 9 => cst (ro .u8 Config.processCode)
  | _ => none

/-- 0x0500 to 0x0530: claims and deciders (Tables DEC-9, DEC-11). -/
def obj0500 (sub : Nat) : Option Obj :=
  match sub with
  | 1 => rwsP (u8 0 255 200)
  | 2 => rwsP (u8 0 255 100)
  | 3 => rwsP (fEnum [0, 1])
  | 4 => rwsP (fEnum [0, 1])
  | 5 => rwsP (fBool 1)
  | 6 => rwsP (u16 10 1000 100)
  | 7 => rwP (u16 1 3600 60)
  | 8 => woV (fEnum [1, 2])
  | 9 => rwsV (fEnum [0, 1, 2])
  | 0x0A => roS (ro .u8 200)
  | 0x0B => roS (ro .u8 100)
  | 0x0C => tabS 2 [ro .enum8, ro .enum8, ro .time, ro .bool, ro .u32]
  | 0x0D => roS (ro .enum8)
  | 0x0E => roS (ro .enum8)
  | 0x0F => rwsV (fEnum [1])
  | _ => none

def obj0510 (sub : Nat) : Option Obj :=
  match sub with
  | 1 => tabS 64 [ro .u64, ro .time, ro .enum8, ro .u32, fOcts 48 (List.replicate 48 0), fOcts 48 (List.replicate 48 0)]
  | 2 => roS (ro .u32)
  | _ => none

def obj0520 (sub : Nat) : Option Obj :=
  match sub with
  | 1 => cst (ro .u16 3)
  | 2 => tabS 4 [ro .u32, ro .u32, ro .time, ro .u16 0xFFFF]
  | _ => none

def obj0530 (sub : Nat) : Option Obj :=
  match sub with
  | 1 => rwP (fld .u16 (.step 200 60000 100) 1000)
  | 2 => rwP (u32 1 131072 1024)
  | 3 => tabS 1 [ro .u32, ro .u32, ro .u32, ro .time, ro .u32]
  | 4 => tabS 64 [ro .u64, ro .u64, ro .u64]
  | _ => none

/-- 0x0540: safety (Table SAF-7). -/
def obj0540 (sub : Nat) : Option Obj :=
  match sub with
  | 1 => rwsP (fld .u8 (.mask 255))
  | 2 => rwsP (fBool 1)
  | 3 => roS (ro .u32)
  | 4 => rwsV (ro .u32)
  | 5 => roS (ro .portset)
  | 6 => roS (ro .portset)
  | 7 => tabS 32 [ro .time, ro .u8, ro .u16, ro .enum8, ro .portset]
  | 8 => roS (ro .u32)
  | 9 => roS (ro .u8)
  | 0x0A => rwsV (fEnum [1, 2])
  | 0x0B => tabS 1 [ro .u32, ro .time, ro .u32, ro .u16]
  | _ => none

/-- Windows of HBM: first block and count (Table MEM-1). -/
def memWindows : List (Nat × Nat) := [(0, 16777216), (16777216, 67108864), (83886080, 5592340)]

/-- 0x0600 to 0x0640: memory (Table MEM-7). -/
def obj0600 (sub : Nat) : Option Obj :=
  match sub with
  | 1 => cst (ro .u32 Config.memBlocks)
  | 2 => tabC 3 [{ ty := .u32, dflt := fun r => .num (memWindows.getD r (0, 0)).1 },
      { ty := .u32, dflt := fun r => .num (memWindows.getD r (0, 0)).2 }]
  | 3 => tabK 24 [ro .enum8, ro .u64, ro .u64, ro .time]
  | 4 => rwsP (fld .u32 (.step 100 1000000 100) 10000)
  | 5 => rwsV (ro .u16)
  | 6 => tabS 64 [ro .u32, ro .u8, ro .enum8, ro .time]
  | 7 => roS (ro .u32)
  | _ => none

def obj0610 (sub : Nat) : Option Obj :=
  match sub with
  | 1 => some { acc := .ro, cls := .p, rows := some 64, cols := [ro .enum8, ro .u32, ro .time] }
  | 2 => rwP (fBool 1)
  | 3 => woV (u32 0 89478419)
  | 4 => tabK 16 [ro .u32, ro .enum8, ro .time]
  | _ => none

def obj0620 (sub : Nat) : Option Obj :=
  match sub with
  | 1 => rwP (fld .u16 (.step 0 2000 100) 2000)
  | 2 => roS (ro .u16)
  | _ => none

def obj0630 (sub : Nat) : Option Obj :=
  match sub with
  | 1 => rwsP (u8 1 168 8)
  | 2 => rwP (fld .u32 (.step 100000 16000000 100000) 4000000)
  | 3 => rwV (u32 0 89478419)
  | 4 => rwV (u32 0 89478420)
  | 5 => woV (fEnum [1, 2, 3])
  | 6 => tabS 1 [ro .enum8, ro .u32, ro .u32, ro .time]
  | 7 => tabK 8 [fRaw 64]
  | 8 => roK (ro .u32)
  | _ => none

def obj0640 (sub : Nat) : Option Obj :=
  match sub with
  | 1 => roS (ro .u32)
  | 2 => roS { ty := .octets }
  | _ => none

/-- 0x0680: pools (Tables FAB-7, FAB-8). -/
def obj0680 (sub : Nat) : Option Obj :=
  match sub with
  | 1 => tabP 3 [{ ty := .u32, rng := .any, dflt := fun r => .num (([4194304, 1048576, 419430] : List Int).getD r 0) },
      u8 0 50 10, u8 1 100 70, u8 1 100 85, u8 1 100 95, u8 1 20 5]
  | 2 => tabS 3 [ro .u32, ro .u32, ro .u32, ro .u32, ro .u8, ro .bool, ro .u32]
  | 3 => rwP (u32 0 16777216 2048)
  | 4 => woV (fEnum [1, 2, 3])
  | 5 => cst (ro .u32 Config.deepUnits)
  | _ => none

/-- 0x0800 + 0x10 b: time base b (Table TIM-2). -/
def objBase (b sub : Nat) : Option Obj :=
  match sub with
  | 1 => rwP (fBool (if b = 0 then 1 else 0))
  | 2 => rwP (fEnum [0, 1, 2])
  | 3 => roS (ro .time)
  | 4 => roK (ro .enum8)
  | 5 => roS (ro .enum8)
  | 6 => roK (ro .i64)
  | 7 => roS (ro .i64)
  | 8 => woV (ro .time)
  | 9 => rwP (fld .i64 (.step (-1099511627) 1099511627 1))
  | 0x0A => rwP (u16 1 1000 200)
  | 0x0B => rwP (u32 1 1000000 100)
  | 0x0C => rwP (u16 100 60000 3000)
  | 0x0D => rwP (fld .u32 all32 0x80001000)
  | 0x0E => rwsV (fEnum [1])
  | 0x0F => roK (ro .u32)
  | _ => none

/-- 0x0841 and 0x0842: TIME_IO and scheduled actions (Tables TIM-11 to TIM-14). -/
def obj0841 (sub : Nat) : Option Obj :=
  match sub with
  | 1 => tabP 4 [fEnum [0, 1, 2, 3, 4], baseEnum 4, u32 100 1000000000 1000000000, u32 0 999999999, u32 8 500000000 100000000,
      fEnum [0, 1], fEnum [1, 2, 3] 1, fld .i32 (.step (-100000) 100000 1)]
  | 2 => tabS 64 [ro .u32, ro .enum8, ro .time]
  | 3 => tabV 4 [fld .u32 all32]
  | _ => none

def obj0842 (sub : Nat) : Option Obj :=
  match sub with
  | 1 => tabP 64 [fBool, baseEnum 0, ro .time, fld .u64 (.zeroOr 1000 86400000000000 1), fEnum [1, 2, 3, 4], u8 0 3,
      u32 8 500000000]
  | 2 => tabS 64 [ro .enum8, ro .u32, ro .time, ro .u64]
  | _ => none

/-- 0x0900 to 0x0920: PTP (Tables TIM-7 to TIM-9). -/
def obj0900 (sub : Nat) : Option Obj :=
  match sub with
  | 1 => tabP 4 [fEnum [0, 1, 2, 3, 4], fEnum [0, 1, 2, 3], u8 0 127, fEnum [0, 1, 2], fBool 1, u8 0 255 128, u8 0 255 128,
      u8 0 255 248, u8 0 255 0xFE, fld .ipv6 .any, u16 0 4094]
  | _ => none

def obj0901 (sub : Nat) : Option Obj :=
  match sub with
  | 1 => tabS 4 [{ ty := .octets }, ro .u16, ro .i64, ro .i64, ro .u8]
  | _ => none

def obj0910 (sub : Nat) : Option Obj :=
  match sub with
  | 1 => tabP 292 [fBool, fld .i32 (.step (-3) 4 1), fld .i32 (.step (-5) 4 1) (-3), fld .i32 (.step (-5) 5 1), u8 2 10 3,
      fld .i32 (.step (-1000000) 1000000 1), u8 0 7 7, fBool]
  | _ => none

def obj0911 (sub : Nat) : Option Obj :=
  match sub with
  | 1 => tabS 292 [ro .enum8, ro .i64, ro .i64, ro .bool]
  | _ => none

def obj0920 (sub : Nat) : Option Obj :=
  match sub with
  | 1 => tabS 1024 [ro .u32, ro .u8, ro .u16, ro .u8, ro .u8, ro .time]
  | 2 => roS (ro .u32)
  | 3 => rwV (fld .u32 all32)
  | _ => none

/-! The port blocks (Tables PRT-2, PRT-18). -/

/-- Subindex `sub` at offset `off` of the block of port `p`. -/
def objPort (p off sub : Nat) : Option Obj :=
  let traffic := p ≤ 72
  let svc := 64 ≤ p ∧ p ≤ 71
  match off with
  | 0x00 =>
    if p = 74 then none
    else if 73 ≤ p ∧ sub ≠ 1 ∧ sub ≠ 5 then none
    else match sub with
      | 1 => rwP (fBool 1)
      | 2 => rwP (u16 1518 10240 1522)
      | 3 => rwP (u16 0x0600 0xFFFF 0x88A8)
      | 4 => rwP (u16 0 0xFFFF)
      | 5 => roS (ro .u32)
      | 6 => roS (ro .u32)
      | _ => none
  | 0x01 =>
    if traffic ∧ sub = 1 then
      tabP 32 [fBool, u16 0 0xFFFF, u16 0 0xFFFF, u16 0 4095, u16 0 0xFFF, u8 0 7, u8 0 7, u16 0 0xFFFF, u16 0 0xFFFF,
        fEnum [0, 1, 2, 3, 4, 5], u8 0 7]
    else none
  | 0x02 =>
    if traffic then match sub with
      | 1 => rwP (fEnum [0, 1, 2])
      | 2 => rwP (fld .u8 (.mask 255) 0xFF)
      | 3 => rwP (fEnum [0, 1, 2])
      | 4 => rwP (u16 1 65535 65535)
      | 5 => rwP (u16 0 65535)
      | _ => none
    else none
  | 0x03 =>
    if svc then match sub with
      | 1 => rwP (fEnum [0, 1, 2, 3, 4])
      | 2 => rwP (u8 1 16 16)
      | 3 => rwP (fld .u8 (.step 96 248 8) 96)
      | 4 => rwP (fBool)
      | 5 => rwP (u8 0 255 255)
      | 6 => rwP (u8 1 255 8)
      | 7 => rwP (u8 1 255 32)
      | 8 => rwP (u8 0 255)
      | 9 => rwP (u8 1 255 128)
      | 0x0A => roS (ro .enum8)
      | _ => none
    else none
  | 0x04 =>
    if p ≤ 63 then match sub with
      | 1 => rwP (fBool)
      | 2 => rwP (u16 1 65535 50)
      | 3 => rwP (u16 0 1000)
      | _ => none
    else none
  | 0x05 =>
    if traffic then match sub with
      | 1 => rwP (u16 0 1000)
      | 2 => roS (ro .enum8)
      | 3 => roS (ro .time)
      | 4 => roS (ro .u32)
      | _ => none
    else none
  | 0x06 =>
    if traffic then match sub with
      | 1 => rwP (fEnum [0, 1, 2] (if svc then 1 else 0))
      | 2 => rwP (u8 0 31 (if svc then p - 64 else 0))
      | 3 => rwP (u16 (if svc then 1 else 0) 1000 (if svc then 2 else 0))
      | 4 => woV (ro .u64)
      | 5 => roS (ro .u32)
      | _ => none
    else none
  | 0x07 =>
    if p = 72 then match sub with
      | 1 => rwP (fEnum [0, 1] 1)
      | 2 => rwP (fBool 1)
      | _ => none
    else if p = 73 then match sub with
      | 1 => rwP (fEnum ((List.range 64).map (fun (n : Nat) => (n : Int)) ++ [72]) 72)
      | 2 => rwP (u16 0x0600 0xFFFF 0x88B6)
      | 3 => rwP (u32 1 100000 100)
      | 4 => rwP (fld .mac .any 0x035A47000002)
      | _ => none
    else if p = 75 ∧ sub = 1 then rwP (u8 1 8 2)
    else none
  | 0x08 =>
    if traffic then match sub with
      | 1 => rwP (fEnum [0, 1, 2] 1)
      | 2 => rwP (u8 0 7)
      | 3 => rwP (fld .u32 (.mask 0xFFFFFF) 0x00FAC688)
      | 4 => tabP 64 [{ ty := .u8, rng := .step 0 7 1, dflt := fun d => .num (d / 8 : Nat) }]
      | 5 => rwP (fBool 1)
      | _ => none
    else none
  | 0x09 =>
    if traffic then match sub with
      | 1 => rwP (u16 1 4094 1)
      | 2 => rwP (fEnum [0, 1, 2])
      | 3 => rwP (fBool 1)
      | 4 => rwP (fBool 1)
      | _ => none
    else none
  | 0x0A =>
    if traffic then match sub with
      | 1 => rwP (fBool 1)
      | 2 => roS (ro .u8)
      | _ => none
    else none
  | 0x0B =>
    if traffic then match sub with
      | 1 => rwP (fld .i32 (.step (-100000) 100000 1))
      | 2 => rwP (fld .i32 (.step (-100000) 100000 1))
      | 3 => rwP (fBool)
      | _ => none
    else none
  | 0x0C =>
    if traffic then match sub with
      | 1 => tabP 8 [fEnum [0, 1, 2], u16 64 65535 1536, u32 1 100000000 1000000]
      | 2 => tabS 8 [ro .i64, ro .i64]
      | _ => none
    else none
  | 0x0D =>
    if traffic then match sub with
      | 1 => rwP (fBool)
      | 2 => rwP (baseEnum 0)
      | 3 => rwP (ro .time)
      | 4 => rwP (u32 1000 1000000000 1000000)
      | 5 => rwP (u32 0 1000000000)
      | 6 => rwP (fld .u8 (.mask 255) 0xFF)
      | 7 => rwP (u16 0 1024)
      | 8 => tabP 1024 [ro .u64]
      | 9 => roS (ro .u16)
      | 0x0A => tabS 1024 [ro .u64]
      | 0x0B => tabS 1 [ro .enum8, ro .u8, ro .u16, ro .time, ro .time]
      | _ => none
    else none
  | 0x0E =>
    if p ≤ 63 then match sub with
      | 1 => rwP (fBool)
      | 2 => rwP (fld .u8 (.mask 255))
      | 3 => rwP (fBool 1)
      | 4 => rwP (u8 1 128 10)
      | 5 => rwP (u8 0 3)
      | 6 => rwP (u16 0 10000)
      | 7 => roS (ro .u16)
      | _ => none
    else none
  | _ => none

/-- 0x2000 + 0x10 n: lane n (Table LAN-5). -/
def objLane (sub : Nat) : Option Obj :=
  match sub with
  | 1 => rwP (fEnum [0, 1, 2, 3, 4, 5, 6, 7, 8, 9])
  | 2 => rwP (fEnum [0, 1, 2, 3])
  | 3 => rwP (fld .u32 all32 0x00043008)
  | 4 => roS (ro .u32 0x00043008)
  | 5 => rwP (fBool 1)
  | 6 => rwP (fld .u8 (.mask 3))
  | 7 => rwV (fEnum [0, 1])
  | 8 => roS (ro .u32)
  | 9 => rwV (fEnum [0, 1, 2, 3])
  | 0x0A => rwV (fEnum [0, 1, 2, 3])
  | 0x0B => rwV (fEnum [0, 1, 2, 3])
  | 0x0C => roS (ro .bool)
  | 0x0D => rwP (fEnum [0, 1, 2] 1)
  | 0x0E => roS (ro .u16 0x4000)
  | 0x0F => rwP (fEnum [0, 1] 1)
  | _ => none

/-- 0x2800: the Knaing link (Table LAN-9). -/
def obj2800 (sub : Nat) : Option Obj :=
  match sub with
  | 1 => rwP (fBool)
  | 2 => rwP (fld .u8 (.step 0 62 2) 56)
  | 3 => rwP (fEnum [2, 4, 8] 8)
  | 4 => rwP (fEnum [2, 4, 8] 2)
  | 5 => rwP (fBool 1)
  | 6 => roS (ro .u8)
  | 7 => roS (ro .u8)
  | 8 => roS (ro .enum8)
  | 9 => roS (fText [])
  | 0x0A => rwP (u8 10 45 40)
  | 0x0B => rwP (u8 50 95 70)
  | 0x0C => rwP (fld .u8 (.mask 15))
  | 0x0D => tabS 4 [ro .i64, ro .u32]
  | _ => none

/-- The columns of a default node (Table PAR-4): enable, kind, len_mode, len_fixed, len_off, len_mask, len_shift,
len_scale, len_add, next_off, next_width, next_mask, trans_first, trans_count, default_next, default_tunnel. -/
def defaultNodes : List (List Int) :=
  [[1, 1, 0, 14, 0, 0, 0, 0, 0, 12, 2, 0xFFFF, 0, 5, 255, 0],
   [1, 2, 0, 4, 0, 0, 0, 0, 0, 2, 2, 0xFFFF, 0, 5, 255, 0],
   [1, 3, 1, 0, 0, 0x0F, 0, 4, 0, 9, 1, 0x00FF, 5, 6, 255, 0],
   [1, 4, 0, 40, 0, 0, 0, 0, 0, 6, 1, 0x00FF, 11, 10, 255, 0],
   [1, 5, 1, 0, 1, 0xFF, 0, 8, 8, 0, 1, 0x00FF, 11, 10, 255, 0],
   [1, 11, 0, 8, 0, 0, 0, 0, 0, 0, 1, 0x00FF, 11, 10, 255, 0],
   [1, 6, 0, 8, 0, 0, 0, 0, 0, 2, 2, 0xFFFF, 21, 1, 255, 0],
   [1, 7, 1, 0, 12, 0xF0, 4, 4, 0, 0, 0, 0, 0, 0, 255, 0],
   [1, 8, 0, 8, 0, 0, 0, 0, 0, 0, 0, 0, 0, 0, 0, 1],
   [1, 9, 2, 0, 0, 0xB0, 0, 4, 4, 2, 2, 0xFFFF, 22, 3, 255, 0],
   [1, 10, 0, 12, 0, 0, 0, 0, 0, 0, 0, 0, 0, 0, 255, 0]]

/-- The default transitions (Table PAR-5): value, mask, next, tunnel. -/
def defaultTransitions : List (List Int) :=
  let l3 : List (List Int) := [[6, 0xFF, 7, 0], [17, 0xFF, 6, 0], [47, 0xFF, 9, 0], [4, 0xFF, 2, 1], [41, 0xFF, 3, 1],
    [132, 0xFF, 10, 0]]
  [[0x8100, 0xFFFF, 1, 0], [0x88A8, 0xFFFF, 1, 0], [0x9100, 0xFFFF, 1, 0], [0x0800, 0xFFFF, 2, 0], [0x86DD, 0xFFFF, 3, 0]]
  ++ l3 ++ [[0, 0xFF, 4, 0], [43, 0xFF, 4, 0], [60, 0xFF, 4, 0], [44, 0xFF, 5, 0]] ++ l3
  ++ [[0x12B5, 0xFFFF, 8, 0], [0x0800, 0xFFFF, 2, 1], [0x86DD, 0xFFFF, 3, 1], [0x6558, 0xFFFF, 0, 1]]

/-- Column `c` of row `r` of a default table. -/
def dfltAt (t : List (List Int)) (c : Nat) (d : Int) : Nat → Value := fun r => .num ((t.getD r []).getD c d)

/-- 0x3000: the Syntax table (Table PAR-6). -/
def obj3000 (sub : Nat) : Option Obj :=
  let n (ty : Ty) (rng : Rng) (c : Nat) (d : Int := 0) : Field := { ty := ty, rng := rng, dflt := dfltAt defaultNodes c d }
  let t (ty : Ty) (rng : Rng) (c : Nat) : Field := { ty := ty, rng := rng, dflt := dfltAt defaultTransitions c 0 }
  let b : Rng := .step 0 255 1
  match sub with
  | 1 => tabP 256 [n .bool .any 0, n .enum8 (.enum ((List.range 12).map (fun (k : Nat) => (k : Int)))) 1, n .enum8 (.enum [0, 1, 2]) 2,
      n .u8 b 3, n .u8 b 4, n .u8 b 5, n .u8 (.step 0 7 1) 6, n .u8 b 7, n .u8 b 8, n .u8 b 9, n .enum8 (.enum [0, 1, 2]) 10,
      n .u16 (.step 0 65535 1) 11, n .u16 (.step 0 1023 1) 12, n .u8 (.step 0 64 1) 13, n .u8 b 14 0, n .bool .any 15,
      n .u8 b 16, n .u8 b 17]
  | 2 => tabP 1024 [t .u16 (.step 0 65535 1) 0, t .u16 (.step 0 65535 1) 1, t .u8 b 2, t .bool .any 3]
  | 3 => rwP (u8 1 16 12)
  | 4 => rwP (fld .u16 (.step 64 256 2) 256)
  | _ => none

def obj3100 (sub : Nat) : Option Obj :=
  match sub with
  | 1 => rwP (fBool 1)
  | 2 => rwP (u16 1 1000 20)
  | 3 => roS (ro .u16)
  | _ => none

/-- 0x3400: rule sets (Tables PAR-10, PAR-14). -/
def obj3400 (sub : Nat) : Option Obj :=
  match sub with
  | 1 => tabP 4096 [fBool, fOcts 64 (List.replicate 64 0), fOcts 64 (List.replicate 64 0), fEnum [0, 1], u8 0 7, fEnum [0, 1], fEnum [0, 1, 2], fEnum [0, 1, 2], ro .u16]
  | 2 => rwP (fBool)
  | 3 => roS (ro .u32 1)
  | 4 => roS (ro .u32 1)
  | 5 => roS (ro .u32)
  | 6 => roS (ro .u64)
  | _ => none

/-- The default hash select: bytes 21 to 57 (Table PAR-12). -/
def defaultSelect : List Byte := List.replicate 21 0 ++ List.replicate 37 0xFF ++ List.replicate 6 0

/-- 0x3800: hash and indirection (Tables PAR-11 to PAR-13). -/
def obj3800 (sub : Nat) : Option Obj :=
  match sub with
  | 1 => tabP 4 [fOcts 64 defaultSelect, { ty := .u32, rng := all32, dflt := fun r => .num (r + 1 : Nat) }, fBool]
  | 2 => tabP 512 [u16 0 65535, u16 0 4096, fEnum [0, 1, 2], u8 0 3]
  | 3 => tabP 65536 [ro .u16]
  | _ => none

/-- 0x4000 to 0x4020: EMM and learning (Table TAB-14). -/
def obj4000 (sub : Nat) : Option Obj :=
  match sub with
  | 1 => rwP (u16 0 100 1)
  | 2 => rwP (u32 0 1000000 300)
  | 3 => rwP (u16 0 3600 60)
  | 4 => tabS 2 [ro .u32, ro .u32, ro .u32]
  | 5 => tabS 2 [ro .u32]
  | _ => none

def obj4001 (sub : Nat) : Option Obj :=
  match sub with
  | 1 => tabP 16384 [fBool, fEnum [1, 2, 3], u16 1 4094, fld .mac .any, fEnum [0, 1, 2, 3], fBool, ro .u16, fBool,
      fld .u16 (.special 0 4095 1 [0xFFFF]) 0xFFFF]
  | _ => none

def obj4002 (sub : Nat) : Option Obj :=
  match sub with
  | 1 => tabS 131072 [ro .u64, ro .u64]
  | 2 => tabS 131072 [ro .u64, ro .u64]
  | 3 => tabS 131072 [ro .u64, ro .u64]
  | 4 => tabV 16 [ro .u64, fEnum [0, 1, 2], lockCol fBool, lockCol (ro .u32),
      lockCol (ro .u64)]
  | _ => none

/-- 0x4010: VLANs (Table TAB-2). -/
def obj4010 (sub : Nat) : Option Obj :=
  let perm (r : Nat) : Nat := if r = 0 ∨ r = 4095 then 0 else allPorts
  let d (r : Nat) : Value := .num (if r = 1 then allPorts else 0)
  match sub with
  | 1 => tabP 4096 [{ ty := .portset, rng := .ports perm, dflt := d }, { ty := .portset, rng := .ports perm, dflt := d },
      fBool 1, fBool, u8 0 63]
  | _ => none

/-- 0x4400 to 0x4C00: prefixes, next hops, groups, LAGs and tunnels (Tables TAB-7 to TAB-12). -/
def obj4400 (sub : Nat) : Option Obj :=
  match sub with
  | 1 => tabP 65536 [fBool, u8 0 63, fld .ipv4 .any, u8 0 32, fEnum [0, 1], ro .u16]
  | 2 => tabP 16384 [fBool, u8 0 63, fld .ipv6 .any, u8 0 128, fEnum [0, 1], ro .u16]
  | _ => none

def obj4800 (sub : Nat) : Option Obj :=
  match sub with
  | 1 => tabP 8192 [fPorts (portRange 0 73), fld .u32 all32, fBool]
  | _ => none

def obj4900 (sub : Nat) : Option Obj :=
  match sub with
  | 1 => tabP 16384 [fEnum [0, 1, 2, 3, 4, 5], fld .mac .unicast, u16 1 4094, fBool, fBool, ro .u16]
  | _ => none

def obj4A00 (sub : Nat) : Option Obj :=
  match sub with
  | 1 => tabP 1024 [u16 0 511, u16 0 16383, u16 0 256]
  | _ => none

def obj4B00 (sub : Nat) : Option Obj :=
  match sub with
  | 1 => tabP 32 ([u8 0 16, u16 0 511] ++ List.replicate 16 (fld .u8 (.special 0 71 1 [0xFF]) 0xFF))
  | _ => none

def obj4C00 (sub : Nat) : Option Obj :=
  match sub with
  | 1 => tabP 1024 [fEnum [1, 2, 3, 4, 5, 6], fld .ipv6 .any, fld .ipv6 .any, u32 0 16777215, u8 1 255 64, u16 0 16383]
  | _ => none

/-- 0x5000, 0x5010: fabric (Table FAB-5). -/
def obj5000 (sub : Nat) : Option Obj :=
  match sub with
  | 1 => tabP 8 [fEnum [0, 1, 2]]
  | 2 => rwP (fld .u16 (.step 8 4096 8) 256)
  | 3 => rwP (u8 50 95 75)
  | 4 => rwP (fld .u16 (.step 0 32768 1024) 8192)
  | 5 => rwP (fld .u16 (.step 64 2048 64) 256)
  | 6 => tabS 1 [ro .u32, ro .u32]
  | _ => none

/-- 0x5400: queues (Tables EGR-4, EGR-5). -/
def obj5400 (sub : Nat) : Option Obj :=
  match sub with
  | 1 => tabP 8192 [lockRows 608 { ty := .u8, rng := .special 0 75 1 [0xFF], dflt := fun q => .num (if q < 608 then q / 8 else 0xFF) },
      lockRows 608 { ty := .u8, rng := .step 0 7 1, dflt := fun q => .num (if q < 608 then q % 8 else 0) },
      u32 0 1073741824 1048576, u8 0 100 75, u8 0 100, u32 0 60000000, u16 64 65535 1536]
  | 2 => tabS 8192 [ro .u32, ro .u64, ro .u32, ro .u64]
  | _ => none

/-- 0x6000 to 0x6200: stream filters, gates and meters (Table EGR-11). -/
def obj6000 (sub : Nat) : Option Obj :=
  match sub with
  | 1 => tabP 4096 [fBool, fld .u16 (.zeroOr 64 10240 1), fBool, fld .u16 (.special 0 1023 1 [0xFFFF]) 0xFFFF,
      fld .u16 (.special 0 4095 1 [0xFFFF]) 0xFFFF]
  | 2 => tabK 4096 [ro .bool]
  | 3 => woV (u16 0 4095)
  | _ => none

def obj6100 (sub : Nat) : Option Obj :=
  match sub with
  | 1 => tabP 1024 [fBool, baseEnum 0, ro .time, u32 1000 1000000000 1000000, u16 0 16383, u16 0 1024, fBool 1,
      fld .u8 (.special 0 7 1 [0xFF]) 0xFF, fBool]
  | 2 => tabP 16384 [fBool, fld .u8 (.special 0 7 1 [0xFF]), u32 0 1000000000, fld .u32 all32]
  | 3 => tabS 1024 [ro .enum8, ro .bool, ro .u8, ro .bool, ro .u16, ro .time]
  | 4 => woV (u16 0 1023)
  | _ => none

def obj6200 (sub : Nat) : Option Obj :=
  let rate : Field := u32 0 100000000
  let size : Field := u32 0 16777216
  match sub with
  | 1 => tabP 4096 [fEnum [0, 1, 2], rate, size, rate, size, fBool, fBool, fBool, fBool 1, fBool]
  | 2 => tabS 4096 [ro .u64, ro .u64, ro .bool]
  | 3 => woV (u16 0 4095)
  | _ => none

/-- 0x6400: FRER (Tables FRE-1, FRE-5 to FRE-7, R370). -/
def obj6400 (sub : Nat) : Option Obj :=
  let none16 : Field := fld .u16 (.special 0 2047 1 [0xFFFF]) 0xFFFF
  let port : Field := fld .u8 (.special 0 72 1 [0xFF]) 0xFF
  match sub with
  | 1 => tabP 4096 [none16, none16, fEnum [0, 1, 2, 3], fBool]
  | 2 => tabP 2048 ([fBool, fEnum [1, 2, 3] 1, fBool, u8 0 4] ++ List.replicate 4 port
      ++ [u8 0 15 0xA, u8 0 15 0xB, u8 0 15, u8 0 15])
  | 3 => tabS 2048 [ro .u16]
  | 4 => woV (u16 0 2047)
  | 5 => tabP 2048 ([fBool, fEnum [0, 1], u8 2 64 32, u16 1 60000 100, fBool, fBool, fBool] ++ List.replicate 4 port
      ++ [fBool, u8 2 4 2, u32 0 16777215 50, u16 100 60000 2000, u32 1000 3600000 30000])
  | 6 => tabS 2048 [ro .u16, ro .bool, ro .u64, ro .bool, ro .time]
  | 7 => woV (u16 0 2047)
  | _ => none

/-- The groups of Table OBS-1: base, instances, stride. -/
def counterGroups : List (Nat × Nat × Nat) :=
  [(0, 1, 1024), (1024, 2, 64), (1152, 64, 8), (1664, 76, 64), (6528, 2336, 1), (8864, 4096, 1), (12960, 8192, 10),
   (94880, 4096, 7), (123552, 4096, 3), (135840, 2048, 2), (139936, 2048, 10)]

/-- 0x7000 to 0x7820: counters, samples, mirrors, recorder and Casts (chapter 16). -/
def obj7000 (sub : Nat) : Option Obj :=
  let g (f : Nat × Nat × Nat → Nat) : Nat → Value := fun r => .num (f (counterGroups.getD r (0, 0, 0)))
  match sub with
  | 1 => tabS 160416 [ro .u64]
  | 2 => cst (ro .u32 160416)
  | 3 => tabC 11 [{ ty := .u32, dflt := g (·.1) }, { ty := .u32, dflt := g (·.2.1) }, { ty := .u16, dflt := g (·.2.2) }]
  | 4 => tabS 16 [ro .u32, ro .time]
  | _ => none

def obj7400 (sub : Nat) : Option Obj :=
  match sub with
  | 1 => tabP 16 [fBool, fEnum [0, 1, 2, 3], fPorts allPorts, u16 0 65535, fEnum [0, 1], u32 1 16777216 1024]
  | 2 => tabS 4096 [fRaw 256]
  | 3 => roS (ro .u32)
  | 4 => rwV (fld .u32 all32)
  | 5 => tabS 16 [ro .u64, ro .u64]
  | _ => none

def obj7800 (sub : Nat) : Option Obj :=
  match sub with
  | 1 => tabP 16 [fBool, fPorts allPorts, fPorts allPorts, fBool, fld .u8 (.mask 255) 0xFF,
      fld .u16 (.special 0 4095 1 [0xFFFF]) 0xFFFF, u8 0 72 72, u8 0 7, fld .u16 (.zeroOr 64 10240 1), u32 1 16777216 1,
      fEnum [0, 1, 2], u16 1 4094 1, u16 0 1023]
  | _ => none

def obj7810 (sub : Nat) : Option Obj :=
  match sub with
  | 1 => rwP (fBool)
  | 2 => rwP (u8 2 32 32)
  | 3 => rwP (fPorts allPorts)
  | 4 => rwP (fPorts allPorts)
  | 5 => rwP (fld .u8 (.mask 255) 0xFF)
  | 6 => rwP (fBool)
  | 7 => rwP (fld .u16 (.step 64 10240 8) 128)
  | 8 => rwP (baseEnum 4)
  | 9 => rwP (u32 0 3600000 60000)
  | 0x0A => rwP (u32 0 600000 10000)
  | 0x0B => rwP (fld .u8 (.mask 0x1F 1) 7)
  | 0x0C => rwP (fld .u32 all32 0x7F)
  | 0x0D => rwP (fld .u8 (.mask 15))
  | 0x0E => woV (fEnum [1, 2])
  | 0x0F => rwV (ro .time)
  | 0x10 => rwP (fBool 1)
  | 0x11 => tabS 1 [ro .enum8, ro .u16, ro .time, ro .time, ro .u64]
  | _ => none

def obj7820 (sub : Nat) : Option Obj :=
  match sub with
  | 1 => tabK 8 [ro .enum8, ro .enum8, ro .u16, ro .time, ro .time, ro .time, ro .u64, ro .u16, ro .bool, ro .u32, ro .u8, ro .u32]
  | 2 => woV (ro .u16)
  | 3 => tabP 1 [u8 0 72 72, u8 0 7, fEnum [0, 1], u32 1 100000 1000]
  | 4 => rwV (ro .u32)
  | 5 => roS { ty := .octets }
  | 6 => tabS 16 [ro .enum8, ro .u32, ro .u32]
  | _ => none

/-- The object at index:subindex; subindex 0 is not among them (R26). -/
def objBody (ix sub : Nat) : Option Obj :=
  if 0x1000 ≤ ix ∧ ix < 0x1980 then objPort ((ix - 0x1000) / 0x20) (ix % 0x20) sub
  else if 0x2000 ≤ ix ∧ ix < 0x2400 then (if ix % 16 ≠ 0 ∨ (sub = 0x0F ∧ ix / 16 % 8 ≠ 0) then none else objLane sub)
  else if 1 ≤ ix ∧ ix ≤ 0x10 then (if sub = 1 then cst (ro .u8 (wireSize ix)) else none)
  else if ix < 0x0800 then
    match ix with
    | 0x0100 => obj0100 sub | 0x0110 => obj0110 sub | 0x0120 => obj0120 sub | 0x0121 => obj0121 sub
    | 0x0200 => obj0200 sub | 0x0210 => obj0210 sub | 0x0220 => obj0220 sub | 0x0300 => obj0300 sub
    | 0x0400 => obj0400 sub | 0x0410 => obj0410 sub | 0x0420 => obj0420 sub | 0x0480 => obj0480 sub
    | 0x0500 => obj0500 sub | 0x0510 => obj0510 sub | 0x0520 => obj0520 sub | 0x0530 => obj0530 sub
    | 0x0540 => obj0540 sub | 0x0600 => obj0600 sub | 0x0610 => obj0610 sub | 0x0620 => obj0620 sub
    | 0x0630 => obj0630 sub | 0x0640 => obj0640 sub | 0x0680 => obj0680 sub
    | _ => none
  else if ix < 0x0840 then (if ix % 16 = 0 then objBase ((ix - 0x0800) / 16) sub else none)
  else
    match ix with
    | 0x0840 => if sub = 1 then roS (ro .time) else none
    | 0x0841 => obj0841 sub | 0x0842 => obj0842 sub | 0x0900 => obj0900 sub | 0x0901 => obj0901 sub
    | 0x0910 => obj0910 sub | 0x0911 => obj0911 sub | 0x0920 => obj0920 sub
    | 0x2800 => obj2800 sub | 0x3000 => obj3000 sub | 0x3100 => obj3100 sub | 0x3400 => obj3400 sub
    | 0x3800 => obj3800 sub | 0x4000 => obj4000 sub | 0x4001 => obj4001 sub | 0x4002 => obj4002 sub
    | 0x4003 => if sub = 1 then woV (ro .u32) else none
    | 0x4010 => obj4010 sub
    | 0x4020 => if sub = 1 then rwP (fld .mac .unicast Config.factoryMac) else none
    | 0x4400 => obj4400 sub | 0x4800 => obj4800 sub | 0x4900 => obj4900 sub | 0x4A00 => obj4A00 sub
    | 0x4B00 => obj4B00 sub | 0x4C00 => obj4C00 sub | 0x5000 => obj5000 sub
    | 0x5010 => if sub = 1 then tabS 8192 [ro .enum8, ro .u32, ro .u32, ro .u32] else none
    | 0x5400 => obj5400 sub
    | 0x5800 => if sub = 1 then cst (ro .u32 102400) else none
    | 0x5C00 => if sub = 1 then roS (ro .portset) else none
    | 0x6000 => obj6000 sub | 0x6100 => obj6100 sub | 0x6200 => obj6200 sub | 0x6400 => obj6400 sub
    | 0x7000 => obj7000 sub
    | 0x7010 => if 1 ≤ sub ∧ sub ≤ 4 then tabK 160416 [ro .u64] else none
    | 0x7400 => obj7400 sub | 0x7800 => obj7800 sub | 0x7810 => obj7810 sub | 0x7820 => obj7820 sub
    | _ => none

/-- The highest subindex assigned at an index, 0 where none is (R26). -/
def highestSub (ix : Nat) : Nat :=
  (List.range 18).foldl (fun h sub => if sub ≠ 0 ∧ (objBody ix sub).isSome then sub else h) 0

/-- The object at index:subindex, subindex 0 among them; none where it is unassigned (R26, R27). -/
def objAt (ix sub : Nat) : Option Obj :=
  if sub = 0 then (if highestSub ix = 0 then none else cst (ro .u8 (highestSub ix))) else objBody ix sub

/-- The field at a column. -/
def fieldAt (ix sub col : Nat) : Option Field :=
  match objAt ix sub with
  | some o => o.cols[col]?
  | none => none

/-- The default of a field's value. -/
def dfltVal (ix sub row col : Nat) : Value :=
  match fieldAt ix sub col with
  | some f => f.dflt row
  | none => .num 0

/-- The objects that may be written in an armed transaction only, in ascending order (R440). -/
def rwsObjects : List (Nat × Nat) :=
  [(0x0300, 9), (0x0420, 2), (0x0480, 3), (0x0480, 8), (0x0500, 1), (0x0500, 2), (0x0500, 3), (0x0500, 4), (0x0500, 5),
   (0x0500, 6), (0x0500, 9), (0x0500, 0x0F), (0x0540, 1), (0x0540, 2), (0x0540, 4), (0x0540, 0x0A), (0x0600, 4), (0x0600, 5),
   (0x0630, 1), (0x0800, 0x0E), (0x0810, 0x0E), (0x0820, 0x0E), (0x0830, 0x0E)]

end Sys2Proof.Machine
end

