-- ==== Sys2Proof/Machine/Counters.lean ====
section
/-! DEFINITION. The counter numbers of the catalogue (R449, Tables OBS-1 to OBS-4), each under the manual's own name. -/

namespace Sys2Proof.Machine.Ctr

def dicClampOverflow : Nat := 0
def dicTxnTimeout : Nat := 1
def dicCommitLate : Nat := 2
def snapLate : Nat := 3
def gmpBadFrame : Nat := 4
def gmpAuthFail : Nat := 5
def gmpReplayDrop : Nat := 6
def gmpRxDrop : Nat := 7
def gmpRetryCached : Nat := 8
def gmpRetryDup : Nat := 9
def gmpBusy : Nat := 10
def gmpSessionTimeout : Nat := 11
def gmpEventRetx : Nat := 12
def gmpEventLost : Nat := 13
def stewQDrop : Nat := 14
def stewSlowOther : Nat := 15
def kngHeartbeatMiss : Nat := 16
def kngWidthChange : Nat := 17
def kngSegLoss : Nat := 18
def kngLoopDrop : Nat := 19
def kngNoPeerDrop : Nat := 20
def kngDescCrcDrop : Nat := 21
def parseTrunc : Nat := 32
def parseLenConflict : Nat := 33
def parseRouteDrop : Nat := 34
def fragInsert : Nat := 35
def fragEvict : Nat := 36
def fragHit : Nat := 37
def fragMiss : Nat := 38
def fragExpire : Nat := 39
def clsDefault : Nat := 40
def clsQueueFallback : Nat := 41
def rsCommitDelayed : Nat := 42
def rsGenDrop : Nat := 43
def vlanIngressDrop : Nat := 64
def vlanAcceptDrop : Nat := 65
def bridgeFlood : Nat := 66
def bridgeSamePortDrop : Nat := 67
def bridgeDiscard : Nat := 68
def learnNew : Nat := 69
def learnMove : Nat := 70
def learnContested : Nat := 71
def learnFlapFreeze : Nat := 72
def learnFlapHeld : Nat := 73
def learnFullFail : Nat := 74
def learnStaticConflict : Nat := 75
def learnInvalidSmac : Nat := 76
def learnFcsDiscard : Nat := 77
def learnQueueDrop : Nat := 78
def learnAged : Nat := 79
def emmStaticEvict : Nat := 80
def routeMissDrop : Nat := 81
def routeNhDrop : Nat := 82
def routeNonIpDrop : Nat := 83
def routeTtlExpired : Nat := 84
def pfxNoSpace : Nat := 85
def lagNoMemberDrop : Nat := 86
def decPairIdentical : Nat := 96
def decPairSkew : Nat := 97
def decFieldMismatch : Nat := 98
def decLateRecord : Nat := 99
def decFault : Nat := 100
def decFaultProtDrop : Nat := 101
def decNoDeciderDrop : Nat := 102
def decShadowDiff : Nat := 103
def decClaimsEqual : Nat := 104
def decUnresolved : Nat := 105
def xbarCellErr : Nat := 128
def xbarFrameLost : Nat := 129
def expCellErr : Nat := 130
def bpmBadFree : Nat := 131
def bpmLinkLost : Nat := 132
def mcRefFull : Nat := 133
def tsLogLost : Nat := 192
def timActionLate : Nat := 193
def timActionNopin : Nat := 194
def timActionSkip : Nat := 195
def ptpNoInstance : Nat := 196
def memCorrected : Nat := 288
def memCorrected2e : Nat := 289
def memUncorr : Nat := 290
def memTagErr : Nat := 291
def memPoisonRead : Nat := 292
def memMergeFlush : Nat := 293
def memMergeEvict : Nat := 294
def memMergePoison : Nat := 295
def memZeroFill : Nat := 296
def memRtbRebuild : Nat := 297
def memRemap : Nat := 298
def memRemapCandDrop : Nat := 299
def memSnapLost : Nat := 300
def nrgPlanLate : Nat := 384
def nrgOver : Nat := 385
def nrgAllowanceClamped : Nat := 386
def nrgSurge : Nat := 387
def recTradedDrop : Nat := 392
def sampleTraded : Nat := 393
def dormantFlushDrop : Nat := 394
def safReloadProtDrop : Nat := 400
def safCrcMismatch : Nat := 401
def safMarginLow : Nat := 402
def safStewardRestart : Nat := 403
def recOverrunDrop : Nat := 416
def recFrames : Nat := 417
def recOctets : Nat := 418
def recPoisonSkip : Nat := 419
def castFreeze : Nat := 420
def castTriggerMerged : Nat := 421
def castTriggerIgnored : Nat := 422
def castReplaySkip : Nat := 423
def sampleTaken : Nat := 424
def sampleLost : Nat := 425
def cntLost : Nat := 426
def sampleRateDrop : Nat := 427
/-! Device counters with an instance (Table OBS-2). -/
def poolSkipQuarantined (k : Nat) : Nat := 136 + 8 * k + 0
def poolRebuild (k : Nat) : Nat := 136 + 8 * k + 1
def poolEmptyDrop (k : Nat) : Nat := 136 + 8 * k + 2
def poolProtDrop (k : Nat) : Nat := 136 + 8 * k + 3
def poolAdmitDrop (k : Nat) : Nat := 136 + 8 * k + 4
def poolDrop (k : Nat) : Nat := 136 + 8 * k + 5
def poolLevelRise (k : Nat) : Nat := 136 + 8 * k + 6
def tbHoldoverEntry (b : Nat) : Nat := 200 + b
def tioEventOverflow (n : Nat) : Nat := 204 + 2 * n
def tioGlitch (n : Nat) : Nat := 205 + 2 * n
def ptpUnsupportedMsg (b : Nat) : Nat := 212 + 4 * b + 0
def ptpTxLate (b : Nat) : Nat := 212 + 4 * b + 1
def ptpTcCorrected (b : Nat) : Nat := 212 + 4 * b + 2
def ptpTcUnsupported (b : Nat) : Nat := 212 + 4 * b + 3
def memDieCorr (d : Nat) : Nat := 304 + d
def memSramCorr (m : Nat) : Nat := 328 + 2 * m
def memSramUncorr (m : Nat) : Nat := 329 + 2 * m
def nrgTrade (l : Nat) : Nat := 387 + l
def mirrorCopies (i : Nat) : Nat := 448 + 2 * i
def mirrorDrop (i : Nat) : Nat := 449 + 2 * i
/-! Decider counters (Table OBS-3); `d` is 0 for A and 1 for B. -/
def decMissing (d : Nat) : Nat := 1024 + 64 * d + 0
def decRecordCrcErr (d : Nat) : Nat := 1024 + 64 * d + 1
def decSeqErr (d : Nat) : Nat := 1024 + 64 * d + 2
def decHbBad (d : Nat) : Nat := 1024 + 64 * d + 3
def decHbMissInband (d : Nat) : Nat := 1024 + 64 * d + 4
def decHbMissArmature (d : Nat) : Nat := 1024 + 64 * d + 5
def decGoldenRun (d : Nat) : Nat := 1024 + 64 * d + 6
def decGoldenFail (d : Nat) : Nat := 1024 + 64 * d + 7
def decDeposed (d : Nat) : Nat := 1024 + 64 * d + 8
def slotTotal (d lane : Nat) : Nat := 1024 + 64 * d + 16 + 8 * lane + 0
def slotDecided (d lane : Nat) : Nat := 1024 + 64 * d + 16 + 8 * lane + 1
def slotService (d lane : Nat) : Nat := 1024 + 64 * d + 16 + 8 * lane + 2
def slotStarved (d lane : Nat) : Nat := 1024 + 64 * d + 16 + 8 * lane + 3
def slotBlocked (d lane : Nat) : Nat := 1024 + 64 * d + 16 + 8 * lane + 4
def slotThrottled (d lane : Nat) : Nat := 1024 + 64 * d + 16 + 8 * lane + 5
def slotNapped (d lane : Nat) : Nat := 1024 + 64 * d + 16 + 8 * lane + 6
def slotOff (d lane : Nat) : Nat := 1024 + 64 * d + 16 + 8 * lane + 7
/-! Lane counters. -/
def laneTrainFail (n : Nat) : Nat := 1152 + 8 * n + 0
def laneCdrLoss (n : Nat) : Nat := 1152 + 8 * n + 1
def lanePrbsLockLoss (n : Nat) : Nat := 1152 + 8 * n + 2
def lanePrbsErr (n : Nat) : Nat := 1152 + 8 * n + 3
def kngStuffErr (n : Nat) : Nat := 1152 + 8 * n + 4
def kngLockLoss (n : Nat) : Nat := 1152 + 8 * n + 5
def kngHdrErr (n : Nat) : Nat := 1152 + 8 * n + 6
/-! Port counters (Table OBS-4). -/
def rxFrames (p : Nat) : Nat := 1664 + 64 * p + 0
def rxOctets (p : Nat) : Nat := 1664 + 64 * p + 1
def txFrames (p : Nat) : Nat := 1664 + 64 * p + 2
def txOctets (p : Nat) : Nat := 1664 + 64 * p + 3
def rxFragment (p : Nat) : Nat := 1664 + 64 * p + 4
def rxRunt (p : Nat) : Nat := 1664 + 64 * p + 5
def rxFcsErr (p : Nat) : Nat := 1664 + 64 * p + 6
def rxAlignErr (p : Nat) : Nat := 1664 + 64 * p + 7
def rxOversize (p : Nat) : Nat := 1664 + 64 * p + 8
def rxJabber (p : Nat) : Nat := 1664 + 64 * p + 9
def rxStomped (p : Nat) : Nat := 1664 + 64 * p + 10
def rxStageDrop (p : Nat) : Nat := 1664 + 64 * p + 11
def rxFilterDrop (p : Nat) : Nat := 1664 + 64 * p + 12
def rxPause (p : Nat) : Nat := 1664 + 64 * p + 13
def rxPfc (p : Nat) : Nat := 1664 + 64 * p + 14
def rxMacctlDrop (p : Nat) : Nat := 1664 + 64 * p + 15
def dormantRxDrop (p : Nat) : Nat := 1664 + 64 * p + 16
def fecCorrectedCw (p : Nat) : Nat := 1664 + 64 * p + 17
def fecUncorrectedCw (p : Nat) : Nat := 1664 + 64 * p + 18
def txPause (p : Nat) : Nat := 1664 + 64 * p + 19
def txPfc (p : Nat) : Nat := 1664 + 64 * p + 20
def txLinkDownDrop (p : Nat) : Nat := 1664 + 64 * p + 21
def linkDownDrop (p : Nat) : Nat := 1664 + 64 * p + 22
def holdStaleDrop (p : Nat) : Nat := 1664 + 64 * p + 23
def txAbort (p : Nat) : Nat := 1664 + 64 * p + 24
def txOversizeDrop (p : Nat) : Nat := 1664 + 64 * p + 25
def txOversizeStomp (p : Nat) : Nat := 1664 + 64 * p + 26
def txUnderrunStomp (p : Nat) : Nat := 1664 + 64 * p + 27
def txTailStomp (p : Nat) : Nat := 1664 + 64 * p + 28
def fabBadTailDrop (p : Nat) : Nat := 1664 + 64 * p + 29
def mcCopyDrop (p : Nat) : Nat := 1664 + 64 * p + 30
def deepPoisonDrop (p : Nat) : Nat := 1664 + 64 * p + 31
def gateTooLongDrop (p : Nat) : Nat := 1664 + 64 * p + 32
def txCollision (p : Nat) : Nat := 1664 + 64 * p + 33
def txDeferred (p : Nat) : Nat := 1664 + 64 * p + 34
def txLateColl (p : Nat) : Nat := 1664 + 64 * p + 35
def txExcessColl (p : Nat) : Nat := 1664 + 64 * p + 36
def svcPlcaBeaconLoss (p : Nat) : Nat := 1664 + 64 * p + 37
def eeeLpiEntry (p : Nat) : Nat := 1664 + 64 * p + 38
def tsQueueOverflow (p : Nat) : Nat := 1664 + 64 * p + 39
def preemptVerifyFail (p : Nat) : Nat := 1664 + 64 * p + 40
def preemptTxPreempted (p : Nat) : Nat := 1664 + 64 * p + 41
def preemptTxFrag (p : Nat) : Nat := 1664 + 64 * p + 42
def preemptHold (p : Nat) : Nat := 1664 + 64 * p + 43
def mmRxFrag (p : Nat) : Nat := 1664 + 64 * p + 44
def mmAssyOk (p : Nat) : Nat := 1664 + 64 * p + 45
def mmAssyErr (p : Nat) : Nat := 1664 + 64 * p + 46
def mmSmdErr (p : Nat) : Nat := 1664 + 64 * p + 47
def frerEncErr (p : Nat) : Nat := 1664 + 64 * p + 48
def safSilentDrop (p : Nat) : Nat := 1664 + 64 * p + 49
def nrgWakeLate (p : Nat) : Nat := 1664 + 64 * p + 50
def hostTrunc (p : Nat) : Nat := 1664 + 64 * p + 51
def recircLimitDrop (p : Nat) : Nat := 1664 + 64 * p + 52
/-! The other groups of Table OBS-1. -/
def rxFilterHit (p row : Nat) : Nat := 6528 + 32 * p + row
def clsRuleHit (row : Nat) : Nat := 8864 + row
def queueTxFrames (q : Nat) : Nat := 12960 + 10 * q + 0
def queueTxOctets (q : Nat) : Nat := 12960 + 10 * q + 1
def queueDropGreen (q : Nat) : Nat := 12960 + 10 * q + 2
def queueDropYellow (q : Nat) : Nat := 12960 + 10 * q + 3
def queueDropRed (q : Nat) : Nat := 12960 + 10 * q + 4
def queueReassignDrop (q : Nat) : Nat := 12960 + 10 * q + 5
def resStaleDrop (q : Nat) : Nat := 12960 + 10 * q + 6
def expDrop (q : Nat) : Nat := 12960 + 10 * q + 7
def fabToDeep (q : Nat) : Nat := 12960 + 10 * q + 8
def fabToExpress (q : Nat) : Nat := 12960 + 10 * q + 9
def sfMatched (h : Nat) : Nat := 94880 + 7 * h + 0
def sfPassed (h : Nat) : Nat := 94880 + 7 * h + 1
def sfBlockedDrop (h : Nat) : Nat := 94880 + 7 * h + 2
def sfSduDrop (h : Nat) : Nat := 94880 + 7 * h + 3
def sfGateDrop (h : Nat) : Nat := 94880 + 7 * h + 4
def sfOctetDrop (h : Nat) : Nat := 94880 + 7 * h + 5
def sfMeterDrop (h : Nat) : Nat := 94880 + 7 * h + 6
def meterGreen (m : Nat) : Nat := 123552 + 3 * m + 0
def meterYellow (m : Nat) : Nat := 123552 + 3 * m + 1
def meterRed (m : Nat) : Nat := 123552 + 3 * m + 2
def frerGenSeq (f : Nat) : Nat := 135840 + 2 * f + 0
def frerGenPathDrop (f : Nat) : Nat := 135840 + 2 * f + 1
def frerPassed (f : Nat) : Nat := 139936 + 10 * f + 0
def frerDiscarded (f : Nat) : Nat := 139936 + 10 * f + 1
def frerOutOfOrder (f : Nat) : Nat := 139936 + 10 * f + 2
def frerRogue (f : Nat) : Nat := 139936 + 10 * f + 3
def frerLost (f : Nat) : Nat := 139936 + 10 * f + 4
def frerTagless (f : Nat) : Nat := 139936 + 10 * f + 5
def frerIndivDiscard (f : Nat) : Nat := 139936 + 10 * f + 6
def frerPassedBad (f : Nat) : Nat := 139936 + 10 * f + 7
def frerResets (f : Nat) : Nat := 139936 + 10 * f + 8
def frerLatentError (f : Nat) : Nat := 139936 + 10 * f + 9

end Sys2Proof.Machine.Ctr
end

