-- ==== Sys2Proof/Machine/Types.lean ====
section
/-! DEFINITION. The records of which the state is made: events, frames, copies, crossings, ports, gates, streams and
clocks. Instants are TIME ticks (R288); clock values are in units of 2^-16 ns unless a field says otherwise. -/

namespace Sys2Proof.Machine

/-! ### Events (Table GMP-9) -/

/-- One event record. -/
structure Event where
  seq : Nat := 0
  code : Nat := 0
  sev : Nat := 0
  count : Nat := 1
  time : Nat := 0
  params : List Byte := []
  /-- the sessions that an EVENT_LOSS is for; empty for every other event (R92) -/
  only : List Nat := []
  deriving DecidableEq, Repr

/-! ### Sessions and transactions (chapters 02, 03) -/

/-- An open segmented write (R73): object, total length, bytes so far, tick of the last segment. -/
structure SegWrite where
  ix : Nat
  sub : Nat
  total : Nat
  bytes : List Byte
  at_ : Nat
  deriving DecidableEq, Repr

/-- The states of a transaction (Table DIC-6). -/
inductive TxnState where
  | idle | open_ | armed | pending | committed | aborted
  deriving DecidableEq, Repr

/-- One field that a transaction or a direct write stages: object, row, column, value requested and stored. `codes` are those of
its check, for a direct write, whose clamp entries follow the commit; for a transaction they were entered when it was staged. -/
structure Staged where
  ix : Nat
  sub : Nat
  row : Nat
  col : Nat
  req : Value
  val : Value
  codes : List Nat := []
  deriving DecidableEq, Repr

/-- A session's transaction (R44 to R55). `stated` is a stated commit: base and time in 2^-16 ns; none for the next commit
point. `by79` says that it was armed under R79. -/
structure Txn where
  st : TxnState := .idle
  num : Nat := 0
  staged : List Staged := []
  last : Nat := 0
  stated : Option (Nat × Nat) := none
  resultGen : Nat := 0
  lateness : Nat := 0
  flags : Nat := 0
  by79 : Bool := false
  /-- its stated time had passed when it was accepted, or a step of the base passed it (R52, R53) -/
  late : Bool := false
  acceptedAt : Nat := 0
  deriving DecidableEq, Repr

/-- How a response finds its way, under the values in force when its request arrived (R65, R69). `auth`: it carries a tag. -/
structure Reply where
  port : Nat
  dst : Nat
  src : Nat
  ether : Nat
  vlan : Option Nat
  auth : Bool
  sid : Nat
  opcode : Nat
  rid : Nat
  deriving DecidableEq, Repr

/-- A response that waits for a commit point (R72 to R74): of a commit with mode 1 (its code), of a WRITE (index, subindex and codes of
each item), of a WRITE_ROWS (index, subindex, status, first row, rows, columns, codes), or of a last segment (index, subindex,
code, next). -/
inductive HeldKind where
  | commit (code : Nat)
  | items (l : List (Nat × Nat × List Nat))
  | rows (ix sub status first count cols : Nat) (codes : List Nat)
  | segment (ix sub code next : Nat)
  deriving DecidableEq, Repr

structure Held where
  reply : Reply
  kind : HeldKind
  deriving DecidableEq, Repr

/-- A response as the cache of R83 keeps it. -/
structure Cached where
  opcode : Nat
  status : Nat
  more : Bool
  payload : List Byte
  deriving DecidableEq, Repr

/-- A session's export (R469): Cast, part, state (0 none, 1 scanning, 2 ready), parts, length, and the records of the part. -/
structure Export where
  cast : Nat := 0
  part : Nat := 0
  st : Nat := 0
  parts : Nat := 0
  length : Nat := 0
  recs : List (Nat × Nat) := []
  deriving DecidableEq, Repr

/-- A Gramus session (R75 to R84, R91, R92). `evFrame` is the EVENT frame outstanding: its first and last record, with
its payload `evBytes`; `evRid` its request_id, sent again at `evAt`, and `evIvl` the interval. `cache` holds the last 16 request_ids; none marks one
refused as busy. `waitq` holds the requests that wait their turn, each with the tick of its arrival and its answer's way, and `held` the response
that is not yet sent. -/
structure Session where
  sid : Nat := 0
  row : Nat := 0
  role : Nat := 0
  keyRow : Nat := 0xFF
  port : Nat := 0
  mac : Nat := 0
  vlan : Option Nat := none
  last : Nat := 0
  rxCtr : Nat := 0
  txCtr : Nat := 0
  key : List Byte := []
  mask : Nat := 0
  acked : Nat := 0
  evFrame : Option (Nat × Nat) := none
  evAt : Nat := 0
  evIvl : Nat := 0
  evRid : Nat := 0
  evBytes : List Byte := []
  highest : Option Nat := none
  cache : List (Nat × Option Cached) := []
  waitq : List (Nat × Reply × GFrame) := []
  held : Option Held := none
  seg : Option SegWrite := none
  lostFirst : Nat := 0
  lost : Nat := 0
  own : SMap Value := []
  exp : Export := {}
  txn : Txn := {}
  deriving DecidableEq, Repr

/-- A snapshot slot (Table DIC-9). `base`, `time` and `stated` are the request's; `ctr` holds the frozen counters. -/
structure Snap where
  /-- the tick at which it flipped -/
  flipTick : Option Nat := none
  st : Nat := 0
  base : Nat := 4
  time : Nat := 0
  stated : Bool := false
  late : Bool := false
  gen : Nat := 0
  baseTime : Nat := 0
  dcTime : Nat := 0
  lateness : Nat := 0
  swept : Bool := false
  ctr : SMap Nat := []
  deriving DecidableEq, Repr

/-- A rule-set commit under way (R181 to R184): its session, whether it is a direct write, the tick of its acceptance, the end
of its bank's load (none while it waits for a bank), and the delay so far. -/
structure RsWait where
  sid : Nat
  direct : Bool
  accepted : Nat
  loadEnd : Option Nat
  forced : Bool := false
  delay : Nat := 0
  /-- the tick at which its stated time came, where the base was disabled since (R53) -/
  alone : Nat := 0
  deriving DecidableEq, Repr

/-! ### The head and its parse (chapter 06) -/

/-- The fields of the classification key (Table PAR-7). -/
structure Key where
  port : Nat := 0
  recirc : Bool := false
  trunc : Bool := false
  conflict : Bool := false
  fragMiss : Bool := false
  fragLater : Bool := false
  fragFirst : Bool := false
  tunnel : Bool := false
  ip6 : Bool := false
  ip4 : Bool := false
  dmac : Nat := 0
  smac : Nat := 0
  outer : Nat := 0
  inner : Nat := 0
  ethertype : Nat := 0
  dscp : Nat := 0
  ecn : Nat := 0
  proto : Nat := 0
  src : Nat := 0
  dst : Nat := 0
  l4src : Nat := 0
  l4dst : Nat := 0
  tcpFlags : Nat := 0
  vni : Nat := 0
  hint : Nat := 0
  deriving DecidableEq, Repr

/-- A parsed header: its node, kind, byte offset, length and layer (R153). -/
structure Hdr where
  node : Nat
  kind : Nat
  off : Nat
  len : Nat
  layer : Nat
  deriving DecidableEq, Repr

/-- Traffic class, colour and queue selection (R171). `fixed` is a fixed queue. -/
structure Sel where
  tc : Nat := 0
  colour : Nat := 0
  fixed : Bool := false
  queue : Nat := 0
  deriving DecidableEq, Repr

/-- What the stage hands to the deciders with a head (R153). `rule` is the applied row; `fellBack` says that the rule's
indirection table could not be used (R171). -/
structure Parsed where
  key : Key := {}
  hdrs : List Hdr := []
  /-- the end of the last header before the first tunnel transition (R218) -/
  inner : Option Nat := none
  outerTagged : Bool := false
  sel : Sel := {}
  h16 : List Nat := []
  rule : Option Nat := none
  fragHit : Bool := false
  inserted : Bool := false
  fellBack : Bool := false
  deriving DecidableEq, Repr

/-- An entry of the fragment table (R164). -/
structure FragEntry where
  ver : Nat
  src : Nat
  dst : Nat
  ident : Nat
  proto : Nat
  vid : Nat
  sel : Sel
  h16 : List Nat
  l4src : Nat
  l4dst : Nat
  used : Nat
  deriving DecidableEq, Repr

/-! ### Decision records (Table DEC-1) -/

/-- The fields of a record. -/
structure Rec where
  seq : Nat := 0
  gen : Nat := 0
  rsGen : Nat := 0
  typ : Nat := 0
  dec : Nat := 0
  lane : Nat := 0
  test : Bool := false
  action : Nat := 0
  target : Nat := 0
  peer : Bool := false
  hostCopy : Bool := false
  routed : Bool := false
  encap : Bool := false
  terminate : Bool := false
  ttlDec : Bool := false
  streamValid : Bool := false
  learnReq : Bool := false
  tc : Nat := 0
  colour : Nat := 0
  prot : Bool := false
  qsel : Nat := 0
  queue : Nat := 0
  stream : Nat := 0xFFFF
  nextHop : Nat := 0xFFFF
  vidOut : Nat := 0
  dropReason : Nat := 0
  prov : Nat := 0
  keyCrc : Nat := 0
  member : Nat := 0xFF
  info : Nat := 0
  deriving DecidableEq, Repr

/-- What travels from a decider to the commit stage: the head it belongs to (none: a null record) and its 48 bytes. -/
structure InFlight where
  head : Option Nat
  bytes : List Byte
  /-- the index of a golden vector (R245) -/
  vec : Option Nat := none
  deriving DecidableEq, Repr

/-- What classifying a head gave (R234 to R238): the record to commit, or none, and whether it is dropped as protected. -/
structure Classified where
  cand : Option Rec
  protDrop : Bool := false
  deriving DecidableEq, Repr

/-- A row of the fault log (R240). -/
structure FaultRow where
  seq : Nat
  time : Nat
  category : Nat
  diff : Nat
  a : List Byte
  b : List Byte
  deriving DecidableEq, Repr

/-! ### Frames -/

/-- Where a frame stands. `steered`: a receive filter took it (R126); `numbered`: its head waits for the parser; `parsed`:
its head waits for its decision; `committed`: its decision is committed; `injected`: a steward or a copy engine made it. -/
inductive Stage where
  | steered | numbered | parsed | committed | injected
  deriving DecidableEq, Repr

/-- A frame in the device. `bytes` never holds the FCS once the frame has ended. -/
structure Frame where
  port : Nat := 0
  orig : Nat := 0
  sfd : Nat := 0
  bytes : List Byte := []
  ended : Bool := false
  fcs : List Byte := []
  length : Nat := 0
  bad : Bool := false
  verdict : Option Bool := none
  oversize : Bool := false
  stage : Stage := .numbered
  seq : Nat := 0
  gen : Nat := 0
  rsGen : Nat := 0
  parsed : Option Parsed := none
  recA : Option (List Byte) := none
  recB : Option (List Byte) := none
  window : Option Nat := none
  classified : Option Classified := none
  com : Option Rec := none
  passes : Nat := 0
  vid : Option Nat := none
  prev : Option Sel := none
  /-- a user filter's action and row (Table PRT-8): 2, 3, 4 steered, 5 copied -/
  filter : Option (Nat × Nat) := none
  knaing : Bool := false
  handle : Option Nat := none
  decoded : Option Nat := none
  decodeKind : Nat := 0
  pop : Bool := false
  genFn : Option Nat := none
  genSeq : Nat := 0
  rcvyFn : Option Nat := none
  waits : Bool := false
  /-- its functions act on its verdict, so that its copies are never cut through (R367) -/
  tailFirst : Bool := false
  ipv : Nat := 0xFF
  /-- meter, bytes charged, and which of Tc and Te or Tp were charged (R351) -/
  meter : Option (Nat × Nat × Bool × Bool) := none
  colour : Nat := 0
  /-- the tick at which its head was complete (R14) -/
  headAt : Nat := 0
  /-- the host queue of the user filter's row, as the head met it (R123) -/
  hostQueue : Nat := 0
  /-- it came over the Knaing link with a stomped tail, and is forwarded with one (R152) -/
  tailStomped : Bool := false
  /-- a FEC codeword of it could not be corrected (R99) -/
  marred : Bool := false
  /-- bytes of it found ingress staging full (R16) -/
  overrun : Bool := false
  /-- the place of its verdict in the order in which the head sequencer sends them, 0 before, and its tick (R198) -/
  verdictNo : Nat := 0
  verdictAt : Nat := 0
  /-- its records that came out of order on their lane (R234) -/
  outA : Bool := false
  outB : Bool := false
  /-- the functions that its FRER_STREAMS row named at its commit point (Table FRE-1) -/
  funcs : Option (Nat × Nat) := none
  /-- the encoding of its generation function and its paths, port and path_id each, as they were at its commit point (R362) -/
  encode : Nat := 0
  routes : List (Nat × Nat) := []
  deriving DecidableEq, Repr

/-- What a copy is. `host`: reason and filter row (Table PRT-16); `mirror`: the session; `recorder`: whether a tx copy, and
the port it names; `path`: the path of a generation function (R361). -/
inductive CopyKind where
  | plain
  | path (id : Nat)
  | host (reason row : Nat)
  | mirror (session : Nat)
  | recorder (tx : Bool) (port : Nat)
  | steward (gramus : Bool)
  | replay
  deriving DecidableEq, Repr

/-- The path of a copy: cut through, express store-and-forward, or deep (R264, R274). -/
inductive Path where
  | cut | express | deep
  deriving DecidableEq, Repr

/-- Where a copy stands. `waiting`: it has its place in its queue, which it joins when its tail has arrived good (R264, R272). -/
inductive CopyState where
  | crossing | waiting | queued | held | sending | suspended
  deriving DecidableEq, Repr

/-- A copy of a frame on its way to one egress port. -/
structure Copy where
  frame : Nat := 0
  xing : Nat := 0
  tile : Nat := 0
  port : Nat := 0
  queue : Nat := 0
  sel : Sel := {}
  kind : CopyKind := .plain
  path : Path := .cut
  st : CopyState := .crossing
  /-- bytes of its own, for copies that do not carry the frame as received -/
  body : Option (List Byte) := none
  multi : Bool := false
  /-- the conditions of R264 other than the mode of its queue, at the commit point -/
  cutOk : Bool := false
  enq : Nat := 0
  ready : Bool := false
  counted : Nat := 0
  cells : Nat := 0
  reserve : Bool := false
  buffer : Option (Nat × Nat) := none
  written : Bool := false
  wasHeld : Bool := false
  lost : Bool := false
  start : Nat := 0
  finish : Nat := 0
  fragments : Nat := 0
  stomped : Bool := false
  cutAt : Option Nat := none
  /-- its length was not known when it started: its queue's octets are counted at its end (R450) -/
  octLate : Bool := false
  /-- whether its class was protected when it was enqueued (R420) -/
  prot : Bool := false
  /-- bytes sent in earlier fragments (R343) -/
  sent : Nat := 0
  /-- it deferred to carrier and was counted (R134) -/
  deferred : Bool := false
  /-- for egress mirror and recorder copies: the copy they were made of, its port and its path -/
  of_ : Option (Nat × Nat × Option Nat) := none
  deriving DecidableEq, Repr

/-- A crossing of one frame to one tile (R259): the port mask of its slot, and how far its bytes went. -/
structure Xing where
  frame : Nat := 0
  src : Nat := 0
  dst : Nat := 0
  tc : Nat := 0
  mask : Nat := 0
  sent : Nat := 0
  recv : Nat := 0
  endBad : Bool := false
  done : Bool := false
  lost : Bool := false
  /-- express cells held for it, and whether they are reserve cells (R273) -/
  cells : Nat := 0
  reserve : Bool := false
  /-- the length, cut and mc fields of its frame slot, as known at the commit point (Table FAB-2) -/
  length : Nat := 0
  cut : Bool := false
  mc : Bool := false
  deriving DecidableEq, Repr

/-- A part of a cell: which crossing, from which byte, how many, and whether the frame starts or ends in it. -/
structure CellPart where
  xing : Nat
  from_ : Nat
  len : Nat
  starts : Bool
  ends : Bool
  bad : Bool
  deriving DecidableEq, Repr

/-- A cell on its way: its 16 header bytes (Table FAB-1), its frame slots (Table FAB-2) and its parts. -/
structure XCell where
  header : List Byte
  slots : List (List Byte)
  parts : List CellPart
  deriving DecidableEq, Repr

/-! ### Gates, streams and recovery (chapters 11, 12) -/

/-- One entry of a gate list: op, gates or (open, ipv), interval in ns, and an octet limit (Tables EGR-7, EGR-11). -/
structure GateEntry where
  op : Nat := 0
  gates : Nat := 0
  interval : Nat := 0
  octetMax : Nat := 0
  deriving DecidableEq, Repr

/-- A gate configuration: entries, its start on the base in 2^-16 ns, and its cycle and extension in ns. -/
structure GateCfg where
  entries : List GateEntry := []
  start : Nat := 0
  cycle : Nat := 0
  ext : Nat := 0
  deriving DecidableEq, Repr

/-- A gate list, of a port or of a stream gate. `state` is 0 off, 1 fallback, 2 pending, 3 running. -/
structure GateList where
  oper : Option GateCfg := none
  pend : Option GateCfg := none
  state : Nat := 0
  gates : Nat := 0xFF
  op : Nat := 0
  entry : Nat := 0
  cycleStart : Nat := 0
  octetMax : Nat := 0
  octets : Nat := 0
  latched : Bool := false
  deriving DecidableEq, Repr

/-- A meter's buckets in 10^-7 of 2^-16 byte at tick `at_`, so that a tick's gain is whole, and its latch (R351). -/
structure Meter where
  tc : Nat := 0
  te : Nat := 0
  at_ : Nat := 0
  red : Bool := false
  deriving DecidableEq, Repr

/-- A match state of individual recovery (R366). -/
structure MatchState where
  recov : Nat := 0
  takeAny : Bool := true
  deriving DecidableEq, Repr

/-- A recovery function (R363 to R369). `hist` bit i is H[i]. -/
structure Rcvy where
  recov : Nat := 0
  takeAny : Bool := true
  hist : Nat := 0
  indiv : SMap MatchState := []
  lastPass : Option Nat := none
  /-- reset_ms as the last passed frame met it (R368) -/
  resetMs : Nat := 0
  lastReset : Nat := 0
  p : Nat := 0
  x : Nat := 0
  latent : Bool := false
  deriving DecidableEq, Repr

/-! ### Ports (chapters 05, 10, 11) -/

/-- An entry of a transmit time-stamp queue (Table TIM-5). -/
structure TsEntry where
  seq : Nat
  gap : Bool
  log : Bool
  msg : Nat
  info : Nat
  time : Nat
  deriving DecidableEq, Repr

/-- What a port holds beside its dictionary objects. -/
structure Port where
  linkUp : Bool := false
  speed : Nat := 0
  half : Bool := false
  held : Bool := false
  downAt : Nat := 0
  /-- the tick of its last link change (R235) -/
  linkAt : Nat := 0
  lastChange : Nat := 0
  lpiTx : Bool := false
  lpiRx : Bool := false
  lpiWake : Option Nat := none
  idleSince : Nat := 0
  phyLink : Bool := false
  refclkLost : Bool := false
  /-- the tick at which each stopped class starts again (R129) -/
  pause : SMap Nat := []
  /-- classes for which the device asserts back-pressure (R283), and those its last frame named (R131) -/
  bp : Nat := 0
  fcSent : Nat := 0
  fcAt : Nat := 0
  macCtl : List (List Byte) := []
  rx : Option Nat := none
  tx : Option Nat := none
  suspended : Option Nat := none
  /-- the class whose frame, with its gap, holds the wire until `free`, and the frame that a collision stopped (R134) -/
  txClass : Option Nat := none
  retry : Option Nat := none
  /-- the tick at which the transmitter is free again -/
  free : Nat := 0
  mdioBusy : Bool := false
  mdioDone : Bool := false
  mdioSeq : Nat := 0
  mdioData : Nat := 0
  pollAt : Nat := 0
  attempts : Nat := 0
  backoff : Option Nat := none
  /-- speed and duplex that the PHY's registers resolved at the last poll that reported link (R132) -/
  resolved : Option (Nat × Bool) := none
  /-- PLCA_STATUS, the node whose opportunity it is, the frames this node sent in its own, the ticks of the last BEACON and of the
  start of the running TO or burst timer (R135) -/
  plca : Nat := 0
  plcaId : Nat := 0
  plcaBurst : Nat := 0
  plcaAt : Nat := 0
  plcaTimer : Nat := 0
  /-- the tick at which the last carrier from the medium ended, on a half-duplex port (R133, R134) -/
  crsAt : Option Nat := none
  gate : GateList := {}
  /-- 0 disabled, 1 initial, 2 verifying, 3 succeeded, 4 failed (Table EGR-9) -/
  verify : Nat := 0
  verifies : Nat := 0
  verifyAt : Nat := 0
  /-- verify mPackets of the partner that the port has answered (R342) -/
  verifyReplies : Nat := 0
  hold : Bool := false
  mmOpen : Bool := false
  mmBytes : List Byte := []
  /-- credit of each class in 10^-7 of 2^-16 bit at `creditAt`, and as last published (R331, R332) -/
  credit : SMap Int := []
  creditAt : Nat := 0
  published : SMap Int := []
  slope : SMap Int := []
  /-- idle slope and algorithm in force of each class, and the rate in force (R332) -/
  idle : SMap Nat := []
  algo : SMap Nat := []
  rate : Nat := 0
  tsq : List TsEntry := []
  /-- the bytes of the last frame that left the port -/
  lastTx : List Byte := []
  deriving DecidableEq, Repr

/-- An MDIO command that waits (R143): port, op, prtad, devad, data. -/
structure MdioCmd where
  port : Nat
  op : Nat
  prtad : Nat
  devad : Nat
  data : Nat
  deriving DecidableEq, Repr

/-! ### Lanes and the Knaing link (chapter 04) -/

/-- A lane: its power state and the one it goes to, the link field of Table LAN-6, the receiver's flags, the taps that training
left, when training started, the answer to the partner's last training request (0 none, 1 updated, 2 minimum, 3 maximum), the last eye,
the receiver's coefficients (equaliser and five DFE taps) with those that retention SRAM keeps, the PRBS checker, the tick before which the
state it goes to is not reached, and the last power command: period, by whom, target. -/
structure Lane where
  power : LanePower := .off
  target : Option LanePower := none
  link : Nat := 0
  cdr : Bool := false
  signal : Bool := false
  fec : Bool := false
  trainOk : Bool := false
  taps : Option Nat := none
  trainAt : Nat := 0
  answer : Nat := 0
  eye : Nat := 0
  coeffs : List Nat := []
  kept : List Nat := []
  reachAt : Nat := 0
  prbs : Bool := false
  cmd : Option (Nat × Bool × LanePower) := none
  deriving DecidableEq, Repr

/-- A Knaing receiver: lock, the headers seen in the present 64 and how many were bad, the run of the destuffer (last bit,
length), and whether the present block is bad. -/
structure KngLane where
  locked : Bool := false
  seen : Nat := 0
  bad : Nat := 0
  last : Bool := false
  run : Nat := 0
  idleAt : Nat := 0
  /-- the seq of its last block, and whether its skew made it a failed lane (R111) -/
  seq : Option Nat := none
  failed : Bool := false
  /-- the transmitter's last bit and its run (R110) -/
  txLast : Bool := false
  txRun : Nat := 0
  deriving DecidableEq, Repr

/-- The Knaing link (R109 to R115). `sent` are the last control blocks: sequence and departure times on TB0 to TB3; `arrive`
the arrival times of the peer's last block, and its sequence; `asm_` the frame under reassembly, and whether it lost bytes. -/
structure Kng where
  st : Nat := 0
  txWidth : Nat := 0
  rxWidth : Nat := 0
  nextWidth : Nat := 0
  switchAt : Nat := 0
  peer : List Byte := []
  hbTx : Nat := 0
  hbRx : Option Nat := none
  hbAt : Nat := 0
  good : Nat := 0
  sent : List (Nat × List Nat) := []
  arrive : List Nat := [0, 0, 0, 0]
  arriveSeq : Nat := 0
  lastCtl : List Byte := []
  offsets : List Int := [0, 0, 0, 0]
  delays : List Nat := [0, 0, 0, 0]
  low : Nat := 0
  octets : Nat := 0
  lanes : SMap KngLane := []
  asm_ : Option (List Byte) := none
  asmLost : Bool := false
  /-- the frame that is being received, once its descriptor has come, and whether the descriptor's crc drops it (R226) -/
  rxId : Option Nat := none
  asmDrop : Bool := false
  /-- data blocks that wait for the other lanes of their seq: seq, lane, payload (none: the block was bad); the seq that is next; and the
  peer's announced width with the seq from which it applies (R111, R115) -/
  rxBuf : List (Nat × Nat × Option (List Byte)) := []
  rxSeq : Option Nat := none
  rxPend : Option (Nat × Nat) := none
  /-- a wider width that waits for lanes to wake (R115), and the blocks last sent: lane and bits -/
  wantWidth : Nat := 0
  txBlocks : List (Nat × List Bool) := []
  deriving DecidableEq, Repr

/-! ### Time (chapter 10) -/

/-- A time base. `val` is its value at tick `at_` in units of 1/(5*2^56) ns; `freq` is the frequency term f. -/
structure Base where
  st : Nat := 0
  at_ : Nat := 0
  val : Nat := 0
  rate : Int := 0
  freq : Rat := 0
  offset : Int := 0
  steps : Nat := 0
  lastMeas : Nat := 0
  good : Nat := 0
  poor : Nat := 0
  /-- a TB_STEP_TO that a PPS source holds (R314) -/
  stepTo : Option Nat := none
  /-- the mappings in force before the present one: tick, value and rate at each change, newest first (R291) -/
  past : List (Nat × Nat × Int) := []
  deriving DecidableEq, Repr

/-- A scheduled action's status (Table TIM-13). -/
structure Action where
  state : Nat := 0
  runs : Nat := 0
  last : Nat := 0
  lateness : Nat := 0
  late : Bool := false
  due : Nat := 0
  pulseEnd : Option Nat := none
  deriving DecidableEq, Repr

/-- A TIME_IO pin: its level, and its event queue (number, edge, time). -/
structure Pin where
  active : Bool := false
  number : Nat := 0
  lastEdge : Option Nat := none
  events : List (Nat × Nat × Nat) := []
  deriving DecidableEq, Repr

/-- A PTP port of an instance: state, link delay, neighbour rate ratio, and when it last heard Announce and last sent each
message type. -/
structure PtpPort where
  state : Nat := 0
  announceAt : Nat := 0
  seq : SMap Nat := []
  sentAt : SMap Nat := []
  delay : Int := 0
  ratio : Int := 0
  capable : Bool := false
  /-- the last Pdelay_Req: its sourcePortIdentity and sequenceId -/
  req : List Byte := []
  deriving DecidableEq, Repr

/-- PTP messages that the stewards processed in one second (R307). -/
structure PtpRate where
  sec : Nat := 0
  count : Nat := 0
  deriving DecidableEq, Repr

/-- A PTP instance's status (Table TIM-7). -/
structure PtpInst where
  gm : List Byte := List.replicate 8 0
  steps : Nat := 0
  offset : Int := 0
  delay : Int := 0
  slave : Nat := 0
  /-- the rate ratio to the grandmaster, less 1, in units of 2^-40 -/
  ratio : Int := 0
  /-- the grandmaster's fields and the path trace of the last Announce that chose it -/
  parent : List Byte := []
  path : List Byte := []
  deriving DecidableEq, Repr

/-! ### The Exact-Match Memory (chapter 07) -/

/-- A slot of the EMM (Tables TAB-3, TAB-4). `born` is the tick of its creation or last move, `moves` the ticks of its
last moves, newest first, `seen` the tick of its last source hit, `frozen` the tick of its freeze. -/
structure Emm where
  key : Nat
  kind : Nat := 0
  peer : Bool := false
  target : Nat := 0
  isStatic : Bool := false
  contested : Bool := false
  flapping : Bool := false
  hit : Bool := false
  hostCopy : Bool := false
  stream : Option Nat := none
  born : Nat := 0
  moves : List Nat := []
  seen : Nat := 0
  frozen : Nat := 0
  /-- the ticks of its creation and moves with the kind, target and peer that each gave it, newest first (R199) -/
  hist : List (Nat × Nat × Nat × Bool) := []
  /-- the tick at which it was created (R206) -/
  made : Nat := 0
  deriving DecidableEq, Repr

/-- A skew sweep under way (R257): the next group of 2,048 slots, the totals so far, and the differing keys met first with both results. -/
structure Sweep where
  next : Nat := 0
  onlyA : Nat := 0
  onlyB : Nat := 0
  differing : Nat := 0
  sample : List (Nat × Nat × Nat) := []
  deriving DecidableEq, Repr

/-- A flush under way (R206): the tick of its commit point, its word, and the keys that matched then. -/
structure Flush where
  start : Nat
  word : Nat
  keys : List Nat
  deriving DecidableEq, Repr

/-- A learn request (R197): the head, the key and the source; `peer` for a frame from the Knaing link. -/
structure LearnReq where
  frame : Nat
  key : Nat
  lag : Bool
  peer : Bool
  target : Nat
  /-- the tick at which it was submitted, and the verdict once it is known (R198) -/
  at_ : Nat
  verdict : Option Bool
  /-- its lookup lane, 2 for a frame from the peer, the place of its verdict in their order, and the tick of that verdict (R198) -/
  lane : Nat := 2
  order : Nat := 0
  told : Nat := 0
  deriving DecidableEq, Repr

/-- The decider states of Table DEC-4. -/
inductive DecState where
  | leading | following | shadow | deposed | loading
  deriving DecidableEq, Repr

/-- One decider (chapters 07, 08). -/
structure Decider where
  st : DecState := .deposed
  cause : Nat := 0
  since : Nat := 0
  claim : Nat := 0
  eligible : Bool := false
  clean : Nat := 0
  started : Bool := false
  loadedAt : Nat := 0
  emm : SMap (Option Emm) := []
  /-- learned entries that a static entry replaced or evicted, each with the last generation whose heads find it (R49, R195) -/
  displaced : List (Nat × Emm) := []
  /-- slots that hold rows of EMM_STATIC in pending state: transaction, row, key and slot (R196) -/
  pend : List (Nat × Nat × Nat × Nat) := []
  /-- heads that were settled before it decided them, and that its lanes still have to decide (R14, R233) -/
  behind : List (Nat × Frame) := []
  full : Bool := false
  learn : List LearnReq := []
  /-- groups of eight banks that are gated (R409), and the group that is waking -/
  gated : Nat := 0
  waking : Option Nat := none
  /-- per lane: records under way, the last head decided, the slots used by marks -/
  lane0 : List InFlight := []
  lane1 : List InFlight := []
  done0 : Nat := 0
  done1 : Nat := 0
  /-- per lane: the last number delivered to the commit stage, and whether a record after it was lost (R234, R241) -/
  got0 : Nat := 0
  got1 : Nat := 0
  gap0 : Bool := false
  gap1 : Bool := false
  /-- golden vectors still to decide, with their numbers; those that passed; and whether the decider takes part in the run (R245, R246) -/
  vecs : List (Nat × Nat) := []
  passed : List Nat := []
  inRun : Bool := false
  /-- the Armature word on the wire, and the ticks of the lanes' last records and of the learn engine's last request (R242) -/
  wire : Option Nat := none
  alive0 : Nat := 0
  alive1 : Nat := 0
  learnAt : Nat := 0
  nullCount : Nat := 0
  nullLane : Nat := 0
  lastNull : Nat := 0
  lastArm : Nat := 0
  armSent : Nat := 0
  hbIn : Nat := 0
  hbArm : Nat := 0
  runs0 : Nat := 0
  runs1 : Nat := 0
  fails0 : Nat := 0
  fails1 : Nat := 0
  lastRun : Nat := 0
  firstFail0 : Nat := 0xFFFF
  firstFail1 : Nat := 0xFFFF
  deriving DecidableEq, Repr

/-! ### Memory (chapter 13) -/

/-- An entry of the merge buffer (R382): block, words written, bytes, and the tick of its first write. -/
structure MergeEntry where
  lba : Nat
  mask : Nat
  data : List Byte
  at_ : Nat
  deriving DecidableEq, Repr

/-- A die: failed or good, its corrections, since when, and the ticks of its corrections within the last second (R378). -/
structure Die where
  failed : Bool := false
  corrected : Nat := 0
  since : Nat := 0
  recent : List Nat := []
  /-- errors that the on-die ECC reported (R374) -/
  odecc : Nat := 0
  deriving DecidableEq, Repr

/-- A row of REMAP_TABLE: 0 free, 1 in use, 2 retired. -/
structure Spare where
  st : Nat := 0
  block : Nat := 0
  since : Nat := 0
  deriving DecidableEq, Repr

/-- A Chisel pass (Table MEM-4); `pos` is the next block. -/
structure Pass where
  cmd : Nat
  first : Nat
  count : Nat
  start : Nat
  pos : Nat
  read : Nat := 0
  untouched : Nat := 0
  corrected : Nat := 0
  corrected2 : Nat := 0
  uncorr : Nat := 0
  poisoned : Nat := 0
  cands : Nat := 0
  full : Bool := false
  dieFailed : Bool := false
  deriving DecidableEq, Repr

/-- Memory state: touched regions, merge buffer (oldest first), dies, poison log (row, block, owner, source, time), remaps and
candidates (block, reason, time; oldest first), passes, summaries, the shares that the previous and the present automatic pass
corrected, and shadow objects under rebuild. -/
structure Mem where
  touched : SMap Bool := []
  merge : List MergeEntry := []
  dies : SMap Die := []
  poisonLog : List (Nat × Nat × Nat × Nat × Nat) := []
  poisonRow : Nat := 0
  spares : SMap Spare := []
  cands : List (Nat × Nat × Nat) := []
  req : Option Pass := none
  auto : Option Pass := none
  autoBase : Option Nat := none
  passSeq : Nat := 0
  summaries : List (Nat × List Byte) := []
  prevCorr : List (Nat × Nat) := []
  curCorr : List (Nat × Nat) := []
  /-- a die was declared failed since the last CHISEL_DONE (R378) -/
  dieNews : Bool := false
  /-- the owner that claimed a block of the system region (R380) -/
  claims : SMap Nat := []
  /-- link blocks of the free lists that a client has written over (R279) -/
  spoiled : List Nat := []
  rebuilds : Nat := 0
  castDirLost : Bool := false
  checkWanted : Bool := false
  /-- row, counter, time of the counters lost, newest first (R451) -/
  lostLog : List (Nat × Nat × Nat) := []
  deriving DecidableEq, Repr

/-! ### Monitors and the Plinth (chapter 15) -/

/-- A monitored value: now, lowest and highest since reset, consecutive findings, and whether it is reported faulty; `warn` and
`cool` count for the warning threshold. -/
structure Mon where
  val : Int := 0
  low : Int := 0
  high : Int := 0
  seen : Bool := false
  bad : Nat := 0
  faulty : Bool := false
  warn : Nat := 0
  cool : Nat := 0
  deriving DecidableEq, Repr

/-- A clock domain: its count in kHz, planned stop, and its state. -/
structure ClockMon where
  khz : Nat := 0
  bad : Nat := 0
  faulty : Bool := false
  stopped : Bool := false
  deriving DecidableEq, Repr

/-- A chunk that is reloaded (R442): object, chunk, and whether protected frames are dropped meanwhile (R443). -/
structure Reload where
  index : Nat
  chunk : Nat
  prot : Bool
  deriving DecidableEq, Repr

/-- The Plinth and its monitors: sensors, rails, margins, clocks, clock pairs that disagreed, the check's status (passes, last,
mismatches, last area), the pin test (true for FAULT_A_N, and its end), mismatched reads and levels of each pin, whether the self-test has
passed, the heartbeats of the stewards, and the start of a steward restart. -/
structure Plinth where
  temps : SMap Mon := []
  rails : SMap Mon := []
  margins : SMap Mon := []
  clocks : SMap ClockMon := []
  passes : Nat := 0
  lastPass : Nat := 0
  mismatches : Nat := 0
  lastArea : Nat := 0
  pinTest : Option (Bool × Nat) := none
  aBad : Nat := 0
  bBad : Nat := 0
  aRead : Bool := false
  bRead : Bool := false
  tested : Bool := false
  restart : Option Nat := none
  deriving DecidableEq, Repr

/-! ### Energy (chapter 14) -/

/-- A Maquette plan (Table NRG-4), or the forms in force. `clocks`, `hbm`, `emm`, `tiles`, `t8`, `lanes` are the record's
fields; `step` counts the steps of level 1 that are traded and `good` the periods that allow a restoration. -/
structure Plan where
  period : Nat := 0
  clocks : Nat := 0
  hbm : Nat := 0
  emm : Nat := 0xFFFF
  tiles : Nat := 0
  t8 : Nat := 0
  level : Nat := 0
  step : Nat := 0
  good : Nat := 0
  fallback : Bool := true
  surge : Bool := false
  over_ : Bool := false
  lanes : List Byte := List.replicate 16 0x55
  predicted : Nat := 0
  spent : Nat := 0
  effective : Nat := 90000
  floor : Nat := 0
  parts : List Nat := [0, 0, 0]
  balance : Int := 0
  wakes : List (Nat × Nat × Nat × Nat) := []
  deriving DecidableEq, Repr

/-- The ledger and the Maquette: the plan in force and the loaded one, the forms in force, the balance in nJ, the period in
which a surge began, whether the allowance stands above the stored one and has been reported, the allowance last asked for, the
history (period, predicted, spent, level), the ports whose pending gate list keeps them awake, and the first period after a
reset or DORMANT. For DORMANT: the end of the drain, a wake source that waits, the last one, and whether the exit has begun. -/
structure Nrg where
  plan : Plan := {}
  next : Option Plan := none
  form : Plan := {}
  bal : Int := 0
  surgeAt : Option Nat := none
  exceeds : Bool := false
  told : Bool := false
  asked : Nat := 90000
  history : SMap (Nat × Nat × Nat × Nat) := []
  holds : List Nat := []
  first : Bool := true
  drainEnd : Nat := 0
  pendingWake : Option Nat := none
  lastWake : Nat := 0
  deriving DecidableEq, Repr

/-! ### The recorder (chapter 16) -/

/-- A segment of the recorder window (Table OBS-11): owner 0 to 7 a Cast, 0xFF the ring; fill order, 0 while it is empty; times of its
first and last record in 2^-16 ns; records; stream bytes written. -/
structure Seg where
  owner : Nat := 0xFF
  serial : Nat := 0
  order : Nat := 0
  first : Nat := 0
  last : Nat := 0
  trigger : Nat := 0
  records : Nat := 0
  used : Nat := 0
  closed : Bool := false
  part : Bool := false
  deriving DecidableEq, Repr

/-- A Cast (Table OBS-12) and its segments, oldest first. -/
structure Cast where
  st : Nat := 0
  code : Nat := 0
  triggers : Nat := 0
  at_ : Nat := 0
  first : Nat := 0
  last : Nat := 0
  records : Nat := 0
  segs : List Nat := []
  part : Bool := false
  poisoned : Nat := 0
  snap : Nat := 0xFF
  snapGen : Nat := 0
  deriving DecidableEq, Repr

/-- A replay: the Cast, its start, the time of the first record, and the records left: segment, stream offset. -/
structure Replay where
  cast : Nat
  start : Nat
  first : Nat
  left : List (Nat × Nat)
  /-- the tick from which the next record may leave at the rate of mode 1 -/
  free : Nat := 0
  deriving DecidableEq, Repr

/-- The recorder: segments in use, the one being filled, fill order, record and freeze numbers, the bytes of the block not yet
written and where its first record starts, Casts, the replay, and overrun drops (the last one, the last report, drops since). -/
structure Recd where
  size : Nat := 512
  segs : SMap Seg := []
  cur : Option Nat := none
  order : Nat := 0
  recNo : Nat := 0
  serial : Nat := 0
  tail : List Byte := []
  tailFirst : Nat := 0xFFFF
  casts : SMap Cast := []
  replay : Option Replay := none
  overLast : Option Nat := none
  overTold : Nat := 0
  overCount : Nat := 0
  deriving DecidableEq, Repr

/-! ### Flash and start-up (chapter 17) -/

/-- A slot of the flash: the programmed bytes of its header (none while erased) and of its payload. -/
structure Slot where
  header : List Byte := []
  payload : List Byte := []
  deriving DecidableEq, Repr

/-- The flash: what step 4 found, its slots FA, FB, CA, CB, the slots that loaded, the store under way (target and image; no image
when it is too long), STORE_STATE, slots that are being erased, the end of the read-through, the firmware staged (target and image),
FW_STAGE_STATE, and the tick of the interface's last use, after whose 1 ms the clock stops. -/
structure Flash where
  present : Bool := false
  jedec : Nat := 0
  sizeMib : Nat := 0
  slots : List Slot := [{}, {}, {}, {}]
  loadedCfg : Nat := 0
  fw : Nat := 0
  store : Option (Nat × Option Slot) := none
  storeState : Nat := 0
  erasing : List Nat := []
  readEnd : Nat := 0
  stage : Option (Nat × Slot) := none
  stageState : Nat := 0
  used : Nat := 0
  stopped : Bool := false
  deriving DecidableEq, Repr

/-- Resets and start-up: what holds the device in reset (PORST_N, the detector, WRST_N, the TAP), the kind (1 power-on, 2 warm,
3 full) and cause (Table RST-1) of the last reset, its trigger, what start-up meets, the steps to come with their ticks, the instants
of those completed, whether the device has been ready since power-on, DEV_RESET's delay (its end, and whether it is a full reset),
a firmware that failed, TEST_EN at the last rise of PORST_N, whether DC still stands at 0.0, and the counts and flags of the boot report. -/
structure Boot where
  porst : Bool := true
  detector : Bool := false
  wrst : Bool := false
  scan : Bool := false
  kind : Nat := 1
  cause : Nat := 1
  trigger : Nat := 0
  input : Option BootInput := none
  left : List (Nat × Nat) := []
  done : SMap Nat := []
  wasReady : Bool := false
  delay : Option (Nat × Bool) := none
  fwFailed : Bool := false
  testEn : Bool := false
  dcStands : Bool := false
  records : Nat := 0
  skipped : Nat := 0
  clamped : Nat := 0
  flags : Nat := 0
  readyDc : Nat := 0
  startupUs : Nat := 0
  deriving DecidableEq, Repr

end Sys2Proof.Machine
end

