-- ==== Sys2Proof/Machine/State.lean ====
section
/-! DEFINITION. The state of the block, its reset, and the reasons a step can stop. -/

namespace Sys2Proof.Machine

/-- A buffer pool of the deep store (R275 to R282). The free list: the on-die head block (its holder and entries), the
link blocks below it, the blocks that start-up threaded and that are still whole, and the fill block. -/
structure Pool where
  buffers : Nat := 0
  owner : SMap Nat := []
  head : Option (Nat × List Nat) := none
  chain : List (Nat × List Nat) := []
  fresh : Nat := 0
  fill : List Nat := []
  shared : Nat := 0
  reserve : Nat := 0
  level : Nat := 0
  /-- start of the rebuild in progress, and the buffers that its scan has passed (R280) -/
  rebuild : Option Nat := none
  scanned : Nat := 0
  /-- the part of each buffer in use, true for the reserve; the port and class it is charged to, plus 1 (R283); and whether an entry of
  its tile's reference table counts its copies (R284) -/
  part : SMap Bool := []
  charged : SMap Nat := []
  counted : SMap Bool := []
  deriving DecidableEq, Repr

set_option maxRecDepth 1024 in
/-- Everything but the queue of commands and the HBM. -/
structure Sys where
  /-- the last TIME tick seen, the tick at which DC read 0.0, and how many free values were used -/
  now : Nat := 0
  dcZero : Nat := 0
  freeCtr : Nat := 0
  dict : SMap Value := []
  ctr : SMap Nat := []
  /-- block writes that the running command asks of the HBM: block, 512 bytes -/
  wq : List (Nat × List Byte) := []
  /-- dictionary control: the generation, older dictionaries that heads still use (R49), the clamp report -/
  gen : Nat := 0
  olds : List (Nat × SMap Value) := []
  clampSeq : Nat := 0
  clamps : List (List Byte) := []
  sessions : List Session := []
  /-- pending transactions of sessions that have ended, and direct writes that wait for a rule-set bank (number 0) -/
  orphans : List Session := []
  /-- sessions that end when the present command is over (R77, R78) -/
  ending : List Nat := []
  sidSeq : Nat := 0
  nonces : List (List Byte) := []
  tagFails : SMap (List Nat) := []
  /-- DISCOVER answers that wait, each with its tick; unsolicited ones left, and the tick of the next -/
  discovers : List (Nat × Reply) := []
  announce : Option (Nat × Nat) := none
  bootCount : Nat := 0
  snaps : SMap Snap := []
  events : List Event := []
  evSeq : Nat := 0
  /-- heads, frames, copies, crossings -/
  headSeq : Nat := 1
  nextFrame : Nat := 0
  nextCopy : Nat := 0
  nextXing : Nat := 1
  verdicts : Nat := 0
  frames : SMap (Option Frame) := []
  copies : SMap (Option Copy) := []
  xings : SMap (Option Xing) := []
  ports : SMap Port := []
  mdio : List MdioCmd := []
  /-- the last LACPDU of each port (IEEE 802.1AX) -/
  lacp : SMap (List Byte) := []
  lanes : SMap Lane := []
  kng : Kng := {}
  /-- parsing (chapter 06) -/
  frags : SMap (Option FragEntry) := []
  /-- rule-set generations (R178): the newest, older live banks with the dictionary they were loaded from, generations
  retired by force (R183), the commit under way, and the last delay -/
  rsGen : Nat := 1
  rsBank : List (Nat × SMap Value) := []
  rsRetired : List Nat := []
  rsWait : Option RsWait := none
  rsDelay : Nat := 0
  /-- deciders and commit stage (chapters 07, 08) -/
  decA : Decider := {}
  decB : Decider := {}
  faultLog : List FaultRow := []
  faultRow : Nat := 0
  faultTimes : List Nat := []
  unresolved : Option Nat := none
  lastFault : Nat := 0
  latch : Bool := false
  runAt : List Nat := []
  runWanted : Bool := false
  /-- ticks of decided heads and service records not yet set off against the slot counters (R454) -/
  slotMarks : SMap Nat := []
  slotAt : Nat := 0
  flush : Option Flush := none
  sweep : Option Sweep := none
  skewHigh : Bool := false
  /-- crossbar (chapter 09) -/
  xq : SMap (List Nat) := []
  xtx : SMap Nat := []
  xrx : SMap Nat := []
  xcells : SMap (List XCell) := []
  gptr : SMap Nat := []
  aptr : SMap Nat := []
  expShared : Nat := 0
  expReserve : Nat := 0
  pool0 : Pool := {}
  pool1 : Pool := {}
  pool2 : Pool := {}
  /-- reference-table entries in use in each tile (R284); blocks that read as uncorrectable (chapter 13) -/
  refs : SMap Nat := []
  mem : Mem := {}
  poison : List Nat := []
  charge : SMap Nat := []
  /-- egress (chapter 11) -/
  queues : SMap (List Nat) := []
  qdeep : SMap Bool := []
  ptr : SMap Nat := []
  deficit : SMap Nat := []
  charged : SMap Bool := []
  /-- the ticks at which HOST_RATE, the recirculation cap and the recorder's ingest cap let the next frame pass -/
  hostFree : Nat := 0
  recircFree : Nat := 0
  recFree : Nat := 0
  streamGates : SMap GateList := []
  meters : SMap Meter := []
  blocked : SMap Bool := []
  /-- FRER (chapter 12) -/
  genSeq : SMap Nat := []
  rcvy : SMap Rcvy := []
  /-- time (chapter 10) -/
  bases : SMap Base := []
  pins : SMap Pin := []
  actions : SMap Action := []
  tsLog : List (Nat × Nat × TsEntry) := []
  tsLogSeq : Nat := 0
  ptp : SMap PtpInst := []
  ptpIn : PtpRate := {}
  ptpOut : PtpRate := {}
  ptpPorts : SMap PtpPort := []
  fallback : Bool := false
  /-- sampling and mirrors (chapter 16): matches, choices and random state of each SAMPLE_SEL row, records written, the
  second and the count of the rate limit, eligible frames of each mirror session -/
  selMatched : SMap Nat := []
  selChosen : SMap Nat := []
  selSince : SMap Nat := []
  selRng : SMap Nat := []
  samples : SMap (List Byte) := []
  sampleSeq : Nat := 0
  sampleSec : Nat := 0
  sampleIn : Nat := 0
  mirrorSeen : SMap Nat := []
  /-- recorder triggers seen and not yet handled: code and tick (R464) -/
  triggers : List (Nat × Nat) := []
  /-- device state: 0 STARTING, 1 ACTIVE, 2 ENTERING, 3 DORMANT, 4 EXITING, and the start-up step in progress -/
  devState : Nat := 0
  devStep : Nat := 0
  /-- SAF_FAULTS, and for each cause the ports it silences in full and for protected classes (R421, R429) -/
  faults : Nat := 0
  causeFull : SMap Nat := []
  causeProt : SMap Nat := []
  safLog : List (Nat × Nat × Nat × Nat × Nat) := []
  safRow : Nat := 0
  plinth : Plinth := {}
  nrg : Nrg := {}
  recd : Recd := {}
  flash : Flash := {}
  boot : Boot := {}
  reloads : List Reload := []
  /-- the golden-vector run under way: its start, and whether it was triggered -/
  golden : Option (Nat × Bool) := none
  /-- the ticks at which the generation last advanced, and a claim last moved -/
  genTick : Option Nat := none
  claimTick : Option Nat := none
  /-- start-up silence (R425), and tiles silent for want of a keep signal (R423) -/
  bootSilent : Bool := true
  keepLost : Nat := 0
  /-- steward queues SQ0 to SQ2: frame numbers -/
  sq : SMap (List Nat) := []
  outbox : List (Nat × Nat × List Byte) := []
  deriving DecidableEq, Repr

/-- The state of the block: its registers and buffers, the commands that wait, first in, first out, and the bytes of the HBM
as cells (log entry 7 says what an unlisted byte reads as). -/
structure State where
  sys : Sys := {}
  pending : List Instr := []
  hbm : List Host.Cell := []
  deriving DecidableEq, Repr

/-- Reasons for which a command stops the block. -/
inductive Fault where
  /-- HBM_BLOCK_READ, HBM_BLOCK_WRITE and NARROW_WRITE, on a block number of 89,478,420 or above: R371 gives the HBM space no such
  block. Safe: the block stops where the manual gives no access. -/
  | noSuchBlock (lba : Nat)
  deriving DecidableEq, Repr

/-- Reasons for which a command is refused. -/
inductive Refusal where
  /-- a command without a meaning. No arm raises it. Safe: nothing is claimed of such a command -/
  | notModelled (mnemonic : String)
  deriving DecidableEq, Repr

/-- The block while PORST_N holds it in a power-on reset (Tables RST-1, RST-8, RST-9; R473): every object at its default, every
counter 0, nothing listed in memory, no command waiting. Start-up begins with PORST_N_RELEASE. -/
def State.reset : State := { sys := { boot := { dcStands := true } } }

end Sys2Proof.Machine
end

