-- ==== Sys2Proof/Machine/Ops.lean ====
section
/-! DEFINITION. The operations every chapter uses: dictionary values, counters, clocks, events, the clamp report, ports,
frames and copies. -/

namespace Sys2Proof.Machine

/-! ### Dictionary values -/

/-- A field's value in a dictionary. -/
def dictVal (m : SMap Value) (ix sub row col : Nat) : Value := SMap.get (dfltVal ix sub row col) m (dkey ix sub row col)

/-- The committed value of a field. -/
def val (s : Sys) (ix sub row col : Nat) : Value := dictVal s.dict ix sub row col

/-- A table cell and a scalar object, as numbers. -/
def cell (s : Sys) (ix sub row col : Nat) : Nat := (val s ix sub row col).toNat
def cellI (s : Sys) (ix sub row col : Nat) : Int := (val s ix sub row col).toInt
def obj (s : Sys) (ix sub : Nat) : Nat := cell s ix sub 0 0
def objI (s : Sys) (ix sub : Nat) : Int := cellI s ix sub 0 0
def flag (s : Sys) (ix sub : Nat) : Bool := obj s ix sub == 1
def cellB (s : Sys) (ix sub row col : Nat) : Bool := cell s ix sub row col == 1

/-- The block of port `p` (R116). -/
def pix (p off : Nat) : Nat := 0x1000 + 0x20 * p + off

/-- Put a value. -/
def putVal (s : Sys) (ix sub row col : Nat) (v : Value) : Sys :=
  { s with dict := SMap.set (dfltVal ix sub row col) s.dict (dkey ix sub row col) v }

def putCell (s : Sys) (ix sub row col : Nat) (v : Int) : Sys := putVal s ix sub row col (.num v)

/-- The dictionary of generation `g` (R49: a head keeps the values in force when it was numbered). -/
def dictOf (s : Sys) (g : Nat) : SMap Value :=
  match s.olds.find? (fun e => e.1 == g) with
  | some e => e.2
  | none => s.dict

/-- The state as a head of generation `g` sees it. -/
def asOf (s : Sys) (g : Nat) : Sys := { s with dict := dictOf s g }

/-! ### Counters (R448) -/

def count (s : Sys) (n : Nat) : Nat := SMap.get 0 s.ctr n
def bumpBy (n k : Nat) (s : Sys) : Sys := { s with ctr := SMap.set 0 s.ctr n ((count s n + k) % 2 ^ 64) }
def bump (n : Nat) (s : Sys) : Sys := bumpBy n 1 s
def bumpIf (b : Bool) (n : Nat) (s : Sys) : Sys := if b then bump n s else s

/-! ### Free values (log entry 3) -/

/-- A value that the manual leaves open, and the state that used it up. -/
def free (s : Sys) : Nat × Sys := (Config.freeValue s.freeCtr, { s with freeCtr := s.freeCtr + 1 })

/-! ### Clocks -/

/-- A second in units of 2^-16 ns. -/
def secUnits : Nat := 65536000000000
/-- A nanosecond in the same units. -/
def nsUnits : Nat := 65536

/-- A TIME of the dictionary, from and to units of 2^-16 ns (R9). -/
def timeVal (u : Nat) : Nat := u / secUnits * 2 ^ 48 + u % secUnits
def timeUnits (v : Nat) : Nat := v / 2 ^ 48 * secUnits + v % 2 ^ 48

/-- DC at a tick: 0.8 ns a tick (R288), from 0.0 at start-up step 3 after power-on (R289). -/
def dcAt (s : Sys) (t : Nat) : Nat := if s.boot.dcStands then 0 else (t - s.dcZero) * 262144 / 5
def dc (s : Sys) : Nat := dcAt s s.now

/-- A stamp: on fallback ticks its resolution is 10 ns (R290, log entry 48). -/
def stampOf (s : Sys) (u : Nat) : Nat := if s.fallback then u / 655360 * 655360 else u

/-- Ticks that `n` bit times last at `mbps`, rounded up; a port without speed takes none. -/
def bitTicks (n mbps : Nat) : Nat := if mbps = 0 then 0 else (n * 1250 + mbps - 1) / mbps

def baseReset (b : Nat) : Base := if b = 0 then { st := 1 } else {}
def base (s : Sys) (b : Nat) : Base := SMap.get (baseReset b) s.bases b
def setBase (b : Nat) (v : Base) (s : Sys) : Sys := { s with bases := SMap.set (baseReset b) s.bases b v }

/-- What a base gains in a tick, in units of 1/(5*2^56) ns (R288). -/
def baseStep (rate : Int) : Int := 4 * 2 ^ 56 + 4 * rate * 65536

/-- A base's value at a tick not before its last change, in the same units; 0 while it is DISABLED (R292). -/
def Base.valAt (v : Base) (t : Nat) : Nat :=
  if v.st = 0 then 0 else ((v.val : Int) + ((t - v.at_ : Nat) : Int) * baseStep v.rate).toNat

/-- The same at a tick of the past: the mapping that was in force at it (R291). -/
def Base.valThen (v : Base) (t : Nat) : Nat :=
  if v.at_ ≤ t then v.valAt t
  else match v.past.find? (fun m => m.1 ≤ t) with
    | some (a, x, r) => ((x : Int) + ((t - a : Nat) : Int) * baseStep r).toNat
    | none => 0

/-- Units of 2^-16 ns that a read presents (R288). -/
def unitsOf (v : Nat) : Nat := v / (5 * 2 ^ 40)

/-- The value of base `b`, or of DC for 4, at a tick. -/
def clockAt (s : Sys) (b t : Nat) : Nat := if b = 4 then dcAt s t else unitsOf ((base s b).valThen t)
def clock (s : Sys) (b : Nat) : Nat := clockAt s b s.now

/-- The first tick at which base `b` reads `u` or more, by the mapping that was, or is, in force then (R288, R291). -/
def tickOf (s : Sys) (b u : Nat) : Nat :=
  if b = 4 then (5 * u + 262143) / 262144 + s.dcZero
  else
    let x := u * (5 * 2 ^ 40)
    let v := base s b
    let m := (((v.at_, v.val, v.rate) :: v.past).find? (fun m => decide (m.2.1 ≤ x))).getD (v.at_, v.val, v.rate)
    let step := (baseStep m.2.2).toNat
    m.1 + (x - m.2.1 + (step - 1)) / step

/-- Whether a base counts: DC, or one that is not DISABLED (Table TIM-1). Stated commits and snapshots go by it (R51, R58). -/
def baseCounts (s : Sys) (b : Nat) : Bool := b == 4 || (base s b).st != 0

/-- Whether a base may serve gate lists: DC, or neither DISABLED nor UNSET (R337). -/
def baseRuns (s : Sys) (b : Nat) : Bool := b == 4 || decide (2 ≤ (base s b).st)

/-! ### Events (R89 to R92) -/

def u8b (n : Nat) : List Byte := toBE 1 n
def u16b (n : Nat) : List Byte := toBE 2 n
def u32b (n : Nat) : List Byte := toBE 4 n
def u64b (n : Nat) : List Byte := toBE 8 n
def timeb (u : Nat) : List Byte := toBE 12 (timeVal u)

def Session.wants (v : Session) (code : Nat) : Bool := bit v.mask (code / 256)

/-- Whether every session that subscribes to the record's class has acknowledged it, and one does (R90). -/
def eventAcked (s : Sys) (e : Event) : Bool :=
  let subs := s.sessions.filter (fun v => v.wants e.code)
  !subs.isEmpty && subs.all (fun v => decide (e.seq ≤ v.acked))

/-- Write a record to the ring of 1,024, noting what each session loses (R92). -/
def writeEvent (e : Event) (s : Sys) : Sys :=
  let lost := (s.events.drop 1023).head?
  let s := { s with events := e :: s.events.take 1023 }
  match lost with
  | none => s
  | some o =>
    let misses (v : Session) : Bool := v.wants o.code && decide (v.acked < o.seq)
    let note (v : Session) : Session :=
      if misses v then { v with lostFirst := if v.lost = 0 then o.seq else v.lostFirst, lost := v.lost + 1 } else v
    bumpIf (s.sessions.any misses) Ctr.gmpEventLost { s with sessions := s.sessions.map note }

/-- A new record. -/
def newEvent (code sev : Nat) (params : List Byte) (only : List Nat) (s : Sys) : Sys :=
  let s := { s with evSeq := s.evSeq + 1 }
  writeEvent { seq := s.evSeq, code := code, sev := sev, time := dc s, params := params, only := only } s

/-- Whether an event merges into the newest record with its code (R90). -/
def eventMerges (s : Sys) (code : Nat) (params : List Byte) : Bool :=
  match s.events.find? (fun e => e.code == code) with
  | some e => e.params == params && decide (dc s ≤ e.time + 10000000 * nsUnits) && !eventAcked s e && decide (e.count < 255)
      && decide (code / 256 ≠ 3)
  | none => false

/-- Count one more occurrence, for the sessions `only`, in the newest record with a code. -/
def mergeEvent (code : Nat) (only : List Nat) : List Event → List Event
  | [] => []
  | e :: l => if e.code = code then { e with count := e.count + 1, only := if only.isEmpty then [] else (e.only ++ only).eraseDups } :: l
    else e :: mergeEvent code only l

/-- Merge an occurrence under R90, or write a new record, for the sessions `only`. -/
def record (code sev : Nat) (params : List Byte) (only : List Nat) (s : Sys) : Sys :=
  if eventMerges s code params then { s with events := mergeEvent code only s.events } else newEvent code sev params only s

/-- Report to session `sid` the losses not yet reported (R92). -/
def reportLoss (sid : Nat) (s : Sys) : Sys :=
  match s.sessions.find? (fun v => v.sid == sid) with
  | none => s
  | some v =>
    if v.lost = 0 then s
    else record 0x0201 2 (u32b v.lostFirst ++ u32b v.lost) [sid]
      { s with sessions := s.sessions.map (fun w => if w.sid = sid then { w with lost := 0, lostFirst := 0 } else w) }

/-- Raise an event, and report what its record overwrites. -/
def raise (code sev : Nat) (params : List Byte) (s : Sys) : Sys :=
  let s' := record code sev params [] s
  let hit := (s'.sessions.filter (fun v => !((s.sessions.map (fun w => (w.sid, w.lost))).contains (v.sid, v.lost)))).map (·.sid)
  hit.foldl (fun s sid => reportLoss sid s) s'

/-! ### The clamp report (R42, R43) -/

/-- The wire form of a value in a clamp entry: 16 bytes, right-aligned. -/
def clampBytes (ty : Ty) (v : Value) : List Byte := padLeft 16 (encodeValue ty v)

/-- Enter one outcome: session, transaction, object, row (none for other types), field, reason, governing object. -/
def clampEntry (sid txn ix sub : Nat) (row : Option Nat) (fieldNo reason : Nat) (gov : Nat × Nat) (req stored : List Byte)
    (s : Sys) : Sys :=
  let n := s.clampSeq + 1
  let e := u32b n ++ timeb (dc s) ++ u16b sid ++ u16b txn ++ u16b ix ++ u8b sub ++ u8b fieldNo ++ u32b (row.getD 0xFFFFFFFF)
    ++ u8b reason ++ u16b gov.1 ++ u8b gov.2 ++ req ++ stored
  let unread := decide (256 < n) && decide (obj s 0x0210 4 < n - 256)
  let s := { s with clampSeq := n, clamps := e :: s.clamps.take 255 }
  if unread then raise 0x0205 2 (u32b 1) (bump Ctr.dicClampOverflow s) else s

/-- The field of an object's column as clamp bytes. -/
def clampOf (ix sub col : Nat) (v : Value) : List Byte :=
  match fieldAt ix sub col with
  | some f => clampBytes f.ty v
  | none => List.replicate 16 0

/-- Enter a code for one field. -/
def clampField (sid txn ix sub row col reason : Nat) (gov : Nat × Nat) (req stored : Value) (s : Sys) : Sys :=
  let isTable := match objAt ix sub with | some o => o.rows.isSome | none => false
  clampEntry sid txn ix sub (if isTable then some row else none) (if isTable then col else 0) reason gov
    (clampOf ix sub col req) (clampOf ix sub col stored) s

/-! ### Ports, frames, copies -/

def port (s : Sys) (p : Nat) : Port := SMap.get {} s.ports p
def updPort (p : Nat) (f : Port → Port) (s : Sys) : Sys := { s with ports := SMap.upd {} s.ports p f }

def frame (s : Sys) (id : Nat) : Frame := (SMap.get none s.frames id).getD {}
def hasFrame (s : Sys) (id : Nat) : Bool := (SMap.get none s.frames id).isSome
def setFrame (id : Nat) (f : Frame) (s : Sys) : Sys := { s with frames := SMap.set none s.frames id (some f) }
def updFrame (id : Nat) (g : Frame → Frame) (s : Sys) : Sys :=
  match SMap.get none s.frames id with
  | some f => setFrame id (g f) s
  | none => s
def delFrame (id : Nat) (s : Sys) : Sys := { s with frames := SMap.set none s.frames id none }
def addFrame (f : Frame) (s : Sys) : Nat × Sys := (s.nextFrame, setFrame s.nextFrame f { s with nextFrame := s.nextFrame + 1 })

def copy (s : Sys) (id : Nat) : Copy := (SMap.get none s.copies id).getD {}
def hasCopy (s : Sys) (id : Nat) : Bool := (SMap.get none s.copies id).isSome
def setCopy (id : Nat) (c : Copy) (s : Sys) : Sys := { s with copies := SMap.set none s.copies id (some c) }
def updCopy (id : Nat) (g : Copy → Copy) (s : Sys) : Sys :=
  match SMap.get none s.copies id with
  | some c => setCopy id (g c) s
  | none => s
def addCopy (c : Copy) (s : Sys) : Nat × Sys := (s.nextCopy, setCopy s.nextCopy c { s with nextCopy := s.nextCopy + 1 })

def xing (s : Sys) (id : Nat) : Xing := (SMap.get none s.xings id).getD {}
def setXing (id : Nat) (x : Xing) (s : Sys) : Sys := { s with xings := SMap.set none s.xings id (some x) }

def queue (s : Sys) (q : Nat) : List Nat := SMap.get [] s.queues q
def setQueue (q : Nat) (l : List Nat) (s : Sys) : Sys := { s with queues := SMap.set [] s.queues q l }

/-- All frames and copies there are, with their numbers. -/
def allFrames (s : Sys) : List (Nat × Frame) := s.frames.filterMap (fun e => e.2.map (fun f => (e.1, f)))
def allCopies (s : Sys) : List (Nat × Copy) := s.copies.filterMap (fun e => e.2.map (fun c => (e.1, c)))

def decider (s : Sys) (d : DecId) : Decider := match d with | .a => s.decA | .b => s.decB
def setDecider (d : DecId) (v : Decider) (s : Sys) : Sys := match d with | .a => { s with decA := v } | .b => { s with decB := v }
def dnat : DecId → Nat | .a => 0 | .b => 1
def dother : DecId → DecId | .a => .b | .b => .a
def DecState.nat : DecState → Nat | .leading => 0 | .following => 1 | .shadow => 2 | .deposed => 3 | .loading => 4

/-- The tile of a port: lane ports by octet, the others on T8. -/
def tileOf (p : Nat) : Nat := if p < 64 then p / 8 else 8

/-- The class queue of a port (Table EGR-1). -/
def classQueue (p c : Nat) : Nat := 8 * p + c

/-- Protected classes (R420). -/
def protects (s : Sys) (tc : Nat) : Bool := bit (obj s 0x0540 1) tc

/-! ### Silence (R421, R425) -/

def orAll (l : List Nat) : Nat := l.foldl (· ||| ·) 0

/-- Ports under full silence, and under protected silence, by the causes that are set. -/
def fullSilent (s : Sys) : Nat :=
  orAll (s.causeFull.filterMap (fun e => if bit s.faults e.1 then some e.2 else none))
    ||| (if s.bootSilent then allPorts else 0)
    ||| orAll ((List.range 9).map (fun t => if bit s.keepLost t then (if t = 8 then portRange 64 72 else portRange (8 * t) (8 * t + 7)) else 0))
def protSilent (s : Sys) : Nat := orAll (s.causeProt.filterMap (fun e => if bit s.faults e.1 then some e.2 else none))

/-- Whether port 72 holds its exemption, which cause 0 and a lost keep signal take (R421, R423, R425). -/
def mgmtExempt (s : Sys) : Bool := !bit s.faults 0 && !bit s.keepLost 8 && (flag s 0x0540 2 || s.bootSilent)

/-- Whether a copy, of a protected class or not, may not start on port `p`; `gramus` is a steward's Gramus frame, which port 72's
exemption lets pass. -/
def silenced (s : Sys) (p : Nat) (prot gramus : Bool) : Bool :=
  (bit (fullSilent s) p && !(decide (p = 72) && gramus && mgmtExempt s)) || (bit (protSilent s) p && prot)

/-- The lane ports that full silence holds at electrical idle (R421). -/
def darkPorts (s : Sys) : Nat := fullSilent s &&& (portRange 0 63 + (if mgmtExempt s then 0 else 2 ^ 72))

/-! ### Traded work and the recorder's overruns (Table NRG-2, R463) -/

/-- The traded level of the plan in force. -/
def traded (s : Sys) : Nat := s.nrg.plan.level

/-- Replace bits [hi:lo] of a number. -/
def putBits (v hi lo x : Nat) : Nat := v - bits v hi lo * 2 ^ lo + x % 2 ^ (hi + 1 - lo) * 2 ^ lo

/-- What an access finds of the HBM stacks: one in power-down wakes (R410). -/
def hbmWake (s : Sys) : Sys :=
  let h := s.nrg.form.hbm
  let up (h hi : Nat) : Nat := if bits h hi (hi - 1) = 2 then putBits h hi (hi - 1) 0 else h
  if up (up h 7) 5 = h then s else { s with nrg := { s.nrg with form := { s.nrg.form with hbm := up (up h 7) 5 } } }

/-- The deepest state that the plan in force permits for lane `n` (Table NRG-4). -/
def planLane (s : Sys) (n : Nat) : Nat := bits (byteAt s.nrg.plan.lanes (n / 4)) (7 - 2 * (n % 4)) (6 - 2 * (n % 4))

/-- Whether lane 1 of both deciders is napped, and the divider of both (R406). -/
def lane1Napped (s : Sys) : Bool := bit s.nrg.form.clocks 5
def decDiv (s : Sys) : Nat := 2 ^ min 2 (bits s.nrg.form.clocks 7 6)

/-- An overrun drop of the recorder: the first after a full second without one is reported at once. -/
def recOverrun (s : Sys) : Sys :=
  let calm := match s.recd.overLast with | some t => decide (t + Config.ticksPerS ≤ s.now) | none => true
  let s := bump Ctr.recOverrunDrop { s with recd := { s.recd with overLast := some s.now, overCount := s.recd.overCount + 1 } }
  if calm then
    raise 0x0902 1 (u64b s.recd.overCount) { s with recd := { s.recd with overTold := s.now, overCount := 0 } }
  else s

/-! ### Ingress staging (R16) -/

/-- Bytes of ingress staging of a tile (log entry 24). -/
def stagingBytes : Nat := 524288

/-- Whether a receive filter, full staging or DORMANT discards the frame (filter codes 1 and 8). -/
def Frame.discarded (f : Frame) : Bool :=
  match f.filter with
  | some (k, _) => f.stage == .steered && (k == 1 || k == 8)
  | none => false

/-- Bytes of a frame in ingress staging: none of one that was discarded or stands in a steward queue, which has its own SRAM; those that
have not crossed of a frame that goes to the crossbar; else all. -/
def stagedBytes (s : Sys) (id : Nat) (f : Frame) : Nat :=
  if f.stage = .injected ∨ f.discarded ∨ s.sq.any (fun q => q.2.contains id) then 0
  else if f.stage = .committed ∨ (f.stage = .steered ∧ f.ended) then
    let mine := s.xings.filterMap (fun e => e.2.bind (fun y => if y.frame = id ∧ !y.done then some y.sent else none))
    if mine.isEmpty then 0 else f.bytes.length - mine.foldl min f.bytes.length
  else f.bytes.length

/-- Bytes that a tile's staging holds. -/
def stagingUsed (s : Sys) (tile : Nat) : Nat :=
  ((allFrames s).map (fun x => if tileOf x.2.port = tile then stagedBytes s x.1 x.2 else 0)).foldl (· + ·) 0

/-- Whether `n` more bytes of a frame that staging holds do not fit (R16). -/
def stagingFull (s : Sys) (f : Frame) (n : Nat) : Bool :=
  !f.discarded && decide (stagingUsed s (tileOf f.port) + n > stagingBytes)

/-! ### Lane and port facts -/

/-- LOOPBACK of a lane port's first lane (R104), and whether its receiver takes what arrives at the balls: a near-end loopback takes the
port's own frames. -/
def loopMode (s : Sys) (p : Nat) : Nat := if p ≤ 63 then obj s (0x2000 + 0x10 * p) 9 else 0
def fromBalls (s : Sys) (p : Nat) : Bool := loopMode s p != 1 && loopMode s p != 2

/-- LINK_SPEED in Mb/s; 0 while the link is not up. -/
def linkSpeed (s : Sys) (p : Nat) : Nat := if (port s p).linkUp then (port s p).speed else 0

/-- The Knaing port, when the link is enabled (R150). -/
def kngPort (s : Sys) : Option Nat := if flag s 0x2800 1 then some (obj s 0x2800 2) else none
def isKng (s : Sys) (p : Nat) : Bool := kngPort s == some p

/-- MAX_FRAME of a port: 10,240 on the Knaing port (R150) and on ports 73 to 75 (R514). -/
def maxFrame (s : Sys) (p : Nat) : Nat := if 73 ≤ p ∨ isKng s p then 10240 else obj s (pix p 0) 2

def admin (s : Sys) (p : Nat) : Bool := if p = 74 then true else flag s (pix p 0) 1

/-! ### Transactions that stand -/

/-- Sessions and what ended sessions left pending. -/
def holders (s : Sys) : List Session := s.sessions ++ s.orphans

def Txn.live (x : Txn) : Bool := x.st == .open_ || x.st == .armed || x.st == .pending

end Sys2Proof.Machine
end

