-- ==== Sys2Proof/Machine/Gates.lean ====
section
/-! DEFINITION. Gate lists of ports and of stream gates (R333 to R341, R349, R350). -/

namespace Sys2Proof.Machine

/-- The entry in force at an offset, in 2^-16 ns, of a cycle (R335), and its index. -/
def entryAt (i off : Nat) : List GateEntry → Option (Nat × GateEntry)
  | [] => none
  | [e] => some (i, e)
  | e :: l => if off < e.interval * nsUnits then some (i, e) else entryAt (i + 1) (off - e.interval * nsUnits) l

/-- The offset at which the entry in force ends; the cycle for the last one. -/
def entryEnd (acc off cycle : Nat) : List GateEntry → Nat
  | [] => cycle
  | [_] => cycle
  | e :: l => if off < e.interval * nsUnits then min cycle (acc + e.interval * nsUnits)
    else entryEnd (acc + e.interval * nsUnits) (off - e.interval * nsUnits) cycle l

/-- Cycle start of a configuration at base value `t`, with the extension before a pending change time (R336). -/
def cycleAt (g : GateCfg) (pend : Option Nat) (t : Nat) : Nat × Nat :=
  let cyc := g.cycle * nsUnits
  let off := if cyc = 0 then 0 else (t - g.start) % cyc
  let start := t - off
  let extended := match pend with
    | some p => decide (start ≠ g.start ∧ start < p ∧ p - start < g.ext * nsUnits)
    | none => false
  if extended then (start - cyc, cyc - 1) else (start, off)

/-- What a list shows at base value `t`: entry index, entry, cycle start; the fallback where no list operates. -/
def GateList.at (g : GateList) (fallback : GateEntry) (t : Nat) : Nat × GateEntry × Nat :=
  let of_ (c : GateCfg) (pend : Option Nat) : Nat × GateEntry × Nat :=
    let (start, off) := cycleAt c pend t
    match entryAt 0 off c.entries with
    | some (i, e) => (i, e, start)
    | none => (0, fallback, start)
  match g.pend with
  | some c => if c.start ≤ t then of_ c none else match g.oper with
    | some o => of_ o (some c.start)
    | none => (0, fallback, 0)
  | none => match g.oper with
    | some o => of_ o none
    | none => (0, fallback, 0)

/-- The next base value after `t` at which the state may change; none when nothing is to come. -/
def GateList.next (g : GateList) (t : Nat) : Option Nat :=
  let of_ (c : GateCfg) (pend : Option Nat) : Nat :=
    let (start, off) := cycleAt c pend t
    let e := start + entryEnd 0 off (c.cycle * nsUnits) c.entries
    if e ≤ t then pend.getD (t + 1) else e
  match g.pend with
  | some c =>
    if c.start ≤ t then some (of_ c none)
    else match g.oper with
      | some o => some (min c.start (of_ o (some c.start)))
      | none => some c.start
  | none => g.oper.map (fun o => of_ o none)

/-- The first base value after `t` at which gate `c` is closed, among the next changes of state. -/
def GateList.closeIn (g : GateList) (fallback : GateEntry) (c : Nat) : Nat → Nat → Option Nat
  | 0, _ => none
  | n + 1, t => match g.next t with
    | none => none
    | some u => if bit (g.at fallback u).2.1.gates c then GateList.closeIn g fallback c n u else some u

/-- The first base value after `t` at which gate `c` is closed; none when it never closes (R339). Changes of state for two cycles of
each list suffice: an operating list that closes the gate in none of its cycles holds it open until the pending list begins. -/
def GateList.close (g : GateList) (fallback : GateEntry) (c n t : Nat) : Option Nat :=
  match g.closeIn fallback c n t, g.pend with
  | some u, _ => some u
  | none, none => none
  | none, some p =>
    if p.start ≤ t then none
    else if bit (g.at fallback p.start).2.1.gates c then g.closeIn fallback c n p.start else some p.start

/-- Turns that suffice to see two cycles of the operating and of the pending list. -/
def GateList.turns (g : GateList) : Nat :=
  2 * ((g.oper.map (·.entries.length)).getD 0 + (g.pend.map (·.entries.length)).getD 0) + 6

/-- Lengths of one cycle's pieces and whether gate `c` is open in each, cut at the cycle's end. -/
def pieces (c cycle : Nat) (fallback : GateEntry) : List GateEntry → List (Nat × Bool)
  | [] => [(cycle, bit fallback.gates c)]
  | [e] => [(cycle, bit e.gates c)]
  | e :: l => (min cycle (e.interval * nsUnits), bit e.gates c) :: pieces c (cycle - e.interval * nsUnits) fallback l

/-- The longest open stretch in a run of pieces. -/
def longest (best cur : Nat) : List (Nat × Bool) → Nat
  | [] => max best cur
  | (n, true) :: l => longest best (cur + n) l
  | (0, false) :: l => longest best cur l
  | (_, false) :: l => longest (max best cur) 0 l

/-- The maximum window of a configuration for gate `c`; none is unbounded (R341). -/
def GateCfg.window (g : GateCfg) (fallback : GateEntry) (c : Nat) : Option Nat :=
  let p := pieces c (g.cycle * nsUnits) fallback g.entries
  if p.all (fun x => x.2 || x.1 == 0) then none else some (longest 0 0 (p ++ p))

/-- The larger of two windows. -/
def maxWindow : Option Nat → Option Nat → Option Nat
  | some a, some b => some (max a b)
  | _, _ => none

/-- The maximum window of gate `c` of a list (R341): over the operating and any pending list; while none operates, by the
fallback state. -/
def GateList.window (g : GateList) (fallback : GateEntry) (c : Nat) : Option Nat :=
  match g.oper with
  | some o =>
    let w := o.window fallback c
    match g.pend with
    | some p => maxWindow w (p.window fallback c)
    | none => w
  | none =>
    if bit fallback.gates c then none
    else match g.pend with
      | some p => p.window fallback c
      | none => some 0

/-- The change time of a new configuration: its base time, or the first cycle boundary after `t0` (R334). -/
def changeTime (start cycle t0 : Nat) : Nat :=
  let cyc := cycle * nsUnits
  if start ≥ t0 ∨ cyc = 0 then start else start + ((t0 - start) / cyc + 1) * cyc

/-! ### Port lists -/

def glIx (p : Nat) : Nat := pix p 0x0D

/-- The fallback state of a port's list. -/
def glFallback (s : Sys) (p : Nat) : GateEntry := { gates := obj s (glIx p) 6 }

/-- An entry of GL_ADMIN (Table EGR-7). -/
def glEntry (v : Nat) : GateEntry := { op := bits v 43 40, gates := bits v 39 32, interval := v % 2 ^ 32 }

/-- The administrative configuration with its change time for base value `t0`. -/
def glAdmin (s : Sys) (p t0 : Nat) : GateCfg :=
  let ix := glIx p
  { entries := (List.range (obj s ix 7)).map (fun r => glEntry (cell s ix 8 r 0)),
    start := changeTime (timeUnits (obj s ix 3)) (obj s ix 4) t0, cycle := obj s ix 4, ext := obj s ix 5 }

/-- Show what the list says now. -/
def GateList.refresh (g : GateList) (fallback : GateEntry) (t : Nat) : GateList :=
  let (i, e, start) := g.at fallback t
  { g with gates := e.gates, op := e.op, entry := i, cycleStart := start, octetMax := e.octetMax,
           octets := if i = g.entry ∧ start = g.cycleStart then g.octets else 0 }

/-- A commit that enables the list or changes it while enabled (R334, R337, R338). Hold ends with the operating list that asserted it
(log entry 92). -/
def glCommit (p : Nat) (s : Sys) : Sys :=
  let fb := glFallback s p
  let b := obj s (glIx p) 2
  updPort p (fun q =>
    if flag s (glIx p) 1 then
      if baseRuns s b then
        let g := { q.gate with pend := some (glAdmin s p (clock s b)), state := if q.gate.oper.isSome then 3 else 2 }
        { q with gate := g.refresh fb (clock s b), hold := q.hold && g.oper.isSome }
      else { q with gate := { state := 1, gates := fb.gates }, hold := false }
    else { q with gate := { state := 0, gates := 0xFF }, hold := false }) s

/-! ### Stream gates -/

def sgFallback (s : Sys) (g : Nat) : GateEntry := { gates := cell s 0x6100 1 g 6, op := cell s 0x6100 1 g 7 }

def sgAdmin (s : Sys) (g t0 : Nat) : GateCfg :=
  let c := cell s 0x6100 1 g
  { entries := (List.range (c 5)).map (fun i => let e := cell s 0x6100 2 (c 4 + i)
                                                { op := e 1, gates := e 0, interval := e 2, octetMax := e 3 }),
    start := changeTime (timeUnits (c 2)) (c 3) t0, cycle := c 3 }

def streamGate (s : Sys) (g : Nat) : GateList := SMap.get {} s.streamGates g
def setStreamGate (g : Nat) (v : GateList) (s : Sys) : Sys := { s with streamGates := SMap.set {} s.streamGates g v }

/-- A commit of a stream gate's row (R350). -/
def sgCommit (g : Nat) (s : Sys) : Sys :=
  let fb := sgFallback s g
  let b := cell s 0x6100 1 g 1
  let v := streamGate s g
  if cellB s 0x6100 1 g 0 then
    if baseRuns s b then
      let w := { v with pend := some (sgAdmin s g (clock s b)), state := if v.oper.isSome then 3 else 2 }
      setStreamGate g (w.refresh fb (clock s b)) s
    else setStreamGate g { state := 1, gates := fb.gates, op := fb.op, latched := v.latched } s
  else setStreamGate g { latched := v.latched } s

/-- A stream gate takes the state of the present instant: a pending list whose time has come operates first (R335, R349). -/
def streamGateTurn (g : Nat) (s : Sys) : Sys :=
  let v := streamGate s g
  let t := clock s (cell s 0x6100 1 g 1)
  let v := match v.pend with
    | some c => if c.start ≤ t then { v with oper := some c, pend := none, state := 3 } else v
    | none => v
  setStreamGate g (v.refresh (sgFallback s g) t) s

/-- STREAM_GATE_EVENT (R350): a change time takes over, or an entry takes its turn. -/
def streamGateEffect (g : Nat) (s : Sys) : Sys :=
  if !cellB s 0x6100 1 g 0 ∨ (streamGate s g).state < 2 then s else streamGateTurn g s

/-! ### A base's step, restep or disabling (R337) -/

/-- Every list on base `b` falls back, or, once the base is stepped, awaits a change time from the stepped value. -/
def gatesFollow (b : Nat) (s : Sys) : Sys :=
  let s := loop (fun p s => if flag s (glIx p) 1 ∧ obj s (glIx p) 2 = b then
    glCommit p (updPort p (fun q => { q with gate := { gates := obj s (glIx p) 6 } }) s) else s) 0 73 s
  (enabledGates s).foldl (fun s g => if cell s 0x6100 1 g 1 = b then
    sgCommit g (setStreamGate g { latched := (streamGate s g).latched } s) else s) s
where
  /-- rows of STREAM_GATES that are enabled -/
  enabledGates (s : Sys) : List Nat :=
    s.dict.filterMap (fun e => if keyIx e.1 = 0x6100 ∧ keySub e.1 = 1 ∧ keyCol e.1 = 0 ∧ e.2 = .num 1 then some (keyRow e.1) else none)

end Sys2Proof.Machine
end

