-- ==== Sys2Proof/Machine/Parse.lean ====
section
/-! DEFINITION. Parsing, fragments, classification and hashing (chapter 06). -/

namespace Sys2Proof.Machine

/-! ### The walk (R155 to R160, R163) -/

/-- What the first header that shows a fragment gives (R163, R164). -/
structure FragInfo where
  first : Bool
  ver : Nat
  src : Nat
  dst : Nat
  ident : Nat
  proto : Nat
  deriving DecidableEq, Repr

/-- How a walk ended: complete, truncated, in conflict, or short of bytes that are still to arrive. -/
inductive WalkEnd where
  | complete | trunc | conflict | needs
  deriving DecidableEq, Repr

/-- The walk under way. `pay` is what is left of the innermost IP payload, and `pay6` whether that is IPv6; `inner` is where the first tunnel transition was taken; `chain` holds right behind the selected IP header
and its extensions; `l4` until the first layer-4 header behind it. -/
structure Walk where
  node : Nat := 0
  off : Nat := 0
  depth : Nat := 0
  layer : Nat := 0
  key : Key := {}
  hdrs : List Hdr := []
  tags : Nat := 0
  ip : Bool := false
  chain : Bool := false
  l4 : Bool := false
  pay : Option Nat := none
  pay6 : Bool := false
  v6src : Nat := 0
  v6dst : Nat := 0
  frag : Option FragInfo := none
  inner : Option Nat := none
  stop : Option WalkEnd := none
  deriving DecidableEq, Repr

/-- An extension header takes its length off an IPv6 payload (Table PAR-3). -/
def Walk.extension (w : Walk) (len proto : Nat) : Walk :=
  { w with pay := if w.pay6 then w.pay.map (· - len) else w.pay, key := if w.chain then { w.key with proto := proto } else w.key }

/-- A tag control field in the layout of Table PAR-7: vid, pcp, dei. -/
def tagField (tci : Nat) : Nat := bits tci 11 0 * 16 + bits tci 15 13 * 2 + bits tci 12 12

/-- The key fields of a conflicting frame are cleared (R160). -/
def Key.clearIp (k : Key) : Key :=
  { k with ip4 := false, ip6 := false, dscp := 0, ecn := 0, proto := 0, src := 0, dst := 0, l4src := 0, l4dst := 0, tcpFlags := 0 }

/-- The IP fields of a header that is selected (R158): the first of the walk, or each one with RS_INNER. -/
def Walk.writeIp (w : Walk) (inner : Bool) (k : Key → Key) : Walk :=
  if inner then { w with key := k { w.key with l4src := 0, l4dst := 0, tcpFlags := 0, ip4 := false, ip6 := false },
                         ip := true, chain := true, l4 := true }
  else if w.ip then { w with chain := false }
  else { w with key := k w.key, ip := true, chain := true, l4 := true }

/-- Note the frame's fragment role once. -/
def Walk.note (w : Walk) (f : FragInfo) : Walk :=
  match w.frag with
  | some _ => w
  | none => { w with frag := some f, stop := if f.first then w.stop else some .complete,
                     key := { w.key with fragFirst := f.first, fragLater := !f.first } }

/-- Whether `n` lies beyond a bound, if there is one. -/
def beyond (o : Option Nat) (n : Nat) : Bool :=
  match o with
  | some e => decide (n > e)
  | none => false

/-- Extraction by node kind (Table PAR-3). `b` are the header's bytes, `end_` the frame's end when it has ended, `typ` the
type value the node reads. -/
def extract (inner : Bool) (kind : Nat) (b : List Byte) (len : Nat) (end_ : Option Nat) (typ : Nat) (w : Walk) : Walk :=
  let bad : Walk := { w with stop := some .conflict }
  let exceeds (n : Nat) : Bool := beyond end_ (w.off + n)
  let l4 (f : Key → Key) (w : Walk) : Walk := if w.l4 then { w with key := f w.key, l4 := false, chain := false } else w
  match kind with
  | 1 =>
    let w := { w with chain := false }
    if w.layer = 0 then { w with key := { w.key with dmac := field b 0 6, smac := field b 6 6, ethertype := typ } } else w
  | 2 =>
    let w := { w with chain := false }
    if w.layer = 0 then
      let t := tagField (field b 0 2)
      let k := { w.key with ethertype := typ }
      { w with tags := w.tags + 1, key := if w.tags = 0 then { k with outer := t } else if w.tags = 1 then { k with inner := t } else k }
    else w
  | 3 =>
    let ihl := byteAt b 0 % 16
    let total := field b 2 2
    if byteAt b 0 / 16 ≠ 4 ∨ ihl < 5 ∨ total < ihl * 4 ∨ exceeds total then bad
    else
      let w := { w with pay := some (total - ihl * 4), pay6 := false }
      let w := w.writeIp inner (fun k => { k with ip4 := true, dscp := byteAt b 1 / 4, ecn := byteAt b 1 % 4, proto := byteAt b 9,
                                                  src := field b 12 4, dst := field b 16 4 })
      let fr := field b 6 2
      if bit fr 13 ∨ fr % 8192 ≠ 0 then
        w.note { first := decide (fr % 8192 = 0), ver := 4, src := field b 12 4, dst := field b 16 4, ident := field b 4 2,
                 proto := byteAt b 9 }
      else w
  | 4 =>
    let pl := field b 4 2
    if byteAt b 0 / 16 ≠ 6 ∨ pl = 0 ∨ exceeds (pl + 40) then bad
    else
      let tclass := byteAt b 0 % 16 * 16 + byteAt b 1 / 16
      let w := { w with pay := some pl, pay6 := true, v6src := field b 8 16, v6dst := field b 24 16 }
      w.writeIp inner (fun k => { k with ip6 := true, dscp := tclass / 4, ecn := tclass % 4, proto := byteAt b 6,
                                         src := field b 8 16, dst := field b 24 16 })
  | 5 => w.extension len (byteAt b 0)
  | 6 =>
    if field b 4 2 < 8 ∨ beyond w.pay (field b 4 2) then bad
    else l4 (fun k => { k with l4src := field b 0 2, l4dst := field b 2 2 }) w
  | 7 =>
    if byteAt b 12 / 16 < 5 then bad
    else l4 (fun k => { k with l4src := field b 0 2, l4dst := field b 2 2, tcpFlags := byteAt b 13 }) w
  | 8 => { w with chain := false, key := { w.key with vni := field b 4 3 } }
  | 9 =>
    let w := { w with chain := false }
    if bit (byteAt b 0) 5 then { w with key := { w.key with vni := field b ((if bit (byteAt b 0) 7 then 8 else 4) + 1) 3 } } else w
  | 10 => l4 (fun k => { k with l4src := field b 0 2, l4dst := field b 2 2 }) w
  | 11 =>
    let fo := field b 2 2
    let w := w.extension len (byteAt b 0)
    if bit fo 0 ∨ fo / 8 ≠ 0 then
      w.note { first := decide (fo / 8 = 0), ver := 6, src := w.v6src, dst := w.v6dst, ident := field b 4 4, proto := byteAt b 0 }
    else w
  | _ => { w with chain := false }

/-- Bits set in a byte. -/
def popcount8 (n : Nat) : Nat := ((List.range 8).filter (bit n)).length

/-- The header length (R156). -/
def headerLength (s : Sys) (node b : Nat) : Nat :=
  let c := cell s 0x3000 1 node
  match c 2 with
  | 0 => c 3
  | 1 => (b &&& c 5) / 2 ^ c 6 * c 7 + c 8
  | _ => popcount8 (b &&& c 5) * c 7 + c 8

/-- One turn of the walk (R155). `bytes` are those in staging, `total` the frame's bytes before its FCS once all are. -/
def walkTurn (s : Sys) (bytes : List Byte) (total : Option Nat) (w : Walk) : Walk :=
  let c := cell s 0x3000 1 w.node
  let limit := obj s 0x3000 4
  let endFor (need : Nat) : Option Nat := match total with
    | some n => if n ≤ 128 ∨ (need ≤ limit ∧ n < need) then some n else none
    | none => none
  if w.node = 255 ∨ c 0 = 0 then { w with stop := some .complete }
  else if w.depth = obj s 0x3000 3 then { w with stop := some .trunc }
  else
    let lenPos := w.off + c 4
    let lenStop : Option WalkEnd :=
      if c 2 = 0 then none
      else match endFor (lenPos + 1) with
        | some n => if n ≤ lenPos then some .conflict else if lenPos ≥ limit then some .trunc else none
        | none => if lenPos ≥ limit then some .trunc else if lenPos < bytes.length then none else some .needs
    match lenStop with
    | some e => { w with stop := some e }
    | none =>
      let len := headerLength s w.node (byteAt bytes lenPos)
      let fin := w.off + len
      if len = 0 ∨ beyond (endFor fin) fin then { w with stop := some .conflict }
      else if fin > limit then { w with stop := some .trunc }
      else if fin > bytes.length then { w with stop := some .needs }
      else
        let b := slice bytes w.off len
        let width := match c 10 with | 0 => 0 | 1 => 1 | _ => 2
        let raw := if width ≠ 0 ∧ c 9 + width ≤ len then some (field b (c 9) width) else none
        let w := { w with depth := w.depth + 1 }
        let w := extract (flag s 0x3400 2) (c 1) b len (endFor fin) (raw.getD 0) w
        if w.stop = some .conflict then w
        else
          let w := { w with hdrs := { node := w.node, kind := c 1, off := w.off, len := len, layer := w.layer } :: w.hdrs,
                            key := { w.key with hint := (w.key.hint &&& (255 - c 17)) ||| (c 16 &&& c 17) } }
          match w.stop with
          | some _ => { w with off := fin }
          | none =>
            let dflt : Nat × Bool := (c 14, c 15 == 1)
            let go : Nat × Bool := match raw with
              | none => dflt
              | some r =>
                let v := r &&& c 11
                let row := findFrom (fun i => ((v ^^^ cell s 0x3000 2 i 0) &&& cell s 0x3000 2 i 1) == 0) (c 12) (c 13)
                match row with
                | some i => (cell s 0x3000 2 i 2, cell s 0x3000 2 i 3 == 1)
                | none => dflt
            { w with off := fin, node := go.1, layer := if go.2 then w.layer + 1 else w.layer,
                     inner := if go.2 then w.inner.orElse (fun _ => some fin) else w.inner,
                     key := { w.key with tunnel := w.key.tunnel || go.2 } }

/-- The whole walk: at most 16 headers and a last turn. -/
def walk (s : Sys) (bytes : List Byte) (total : Option Nat) : Walk :=
  iter (fun w => if w.stop.isSome then w else walkTurn s bytes total w) 18 {}

/-- The walk of a frame of which `bytes` are in staging. Until its end has come, its last bytes before the FCS may be any of those that
the last four may not be: the walk goes on only where it is the same for each, and else needs the next bytes, so that it follows from
the frame's length and not from the timing of arrival (R155). -/
def walkOf (s : Sys) (bytes : List Byte) (ended : Bool) : Walk :=
  let n := bytes.length
  if ended then walk s bytes (some n)
  else
    let w := walk s bytes none
    let least := if n ≤ 128 then n - 3 else n - 4
    let ends := (List.range (max n 129 - least)).map (· + least)
    if ends.all (fun m => walk s bytes (some m) == w) then w else { w with stop := some .needs }

/-! ### The key as bytes, hashing and indirection (R174 to R176) -/

/-- The 64 bytes of Table PAR-7. -/
def Key.encode (k : Key) : List Byte :=
  u8b (k.port * 2 + boolNat k.recirc)
  ++ u8b (boolNat k.trunc * 128 + boolNat k.conflict * 64 + boolNat k.fragMiss * 32 + boolNat k.fragLater * 16
      + boolNat k.fragFirst * 8 + boolNat k.tunnel * 4 + boolNat k.ip6 * 2 + boolNat k.ip4)
  ++ toBE 6 k.dmac ++ toBE 6 k.smac ++ u16b k.outer ++ u16b k.inner ++ u16b k.ethertype ++ u8b (k.dscp * 4 + k.ecn) ++ u8b k.proto
  ++ toBE 16 k.src ++ toBE 16 k.dst ++ u16b k.l4src ++ u16b k.l4dst ++ u8b k.tcpFlags ++ toBE 3 k.vni ++ u8b k.hint ++ u8b 0

/-- The key with each address pair in order (R174). -/
def Key.symmetric (k : Key) : Key :=
  { k with smac := min k.smac k.dmac, dmac := max k.smac k.dmac, src := min k.src k.dst, dst := max k.src k.dst,
           l4src := min k.l4src k.l4dst, l4dst := max k.l4src k.l4dst }

def andBytes (a b : List Byte) : List Byte := List.zipWith (fun x y => x &&& y) a b

/-- The hash of one profile. -/
def hash16 (s : Sys) (profile : Nat) (k : Key) : Nat :=
  let k := if cellB s 0x3800 1 profile 2 then k.symmetric else k
  let h := crc32cRaw (cell s 0x3800 1 profile 1) (andBytes k.encode (padRight 64 (val s 0x3800 1 profile 0).bytes))
  (h / 65536) ^^^ (h % 65536)

/-- The entry an indirection table of the given use selects; none when its size is 0 or its use another (R175). -/
def indirect (s : Sys) (t use : Nat) (h16 : List Nat) : Option Nat :=
  let c := cell s 0x3800 2 t
  if c 1 = 0 ∨ c 2 ≠ use then none
  else some (cell s 0x3800 3 (c 0 + h16.getD (c 3) 0 * c 1 / 65536) 0)

/-! ### Classification (R168 to R171) -/

/-- Rows of a table whose column 0 holds true, lowest first. -/
def enabledRows (m : SMap Value) (ix sub : Nat) : List Nat :=
  m.filterMap (fun e => if keyIx e.1 = ix ∧ keySub e.1 = sub ∧ keyCol e.1 = 0 ∧ e.2 = .num 1 then some (keyRow e.1) else none)

/-- The default selection (R168, R169). -/
def defaultSel (s : Sys) (f : Frame) (k : Key) (tagged : Bool) : Sel :=
  match f.prev with
  | some p => p
  | none =>
    let ix := pix f.port 8
    let dflt := obj s ix 2
    let tc := match obj s ix 1 with
      | 1 => if tagged then bits (obj s ix 3) (3 * bits k.outer 3 1 + 2) (3 * bits k.outer 3 1) else dflt
      | 2 => if k.ip4 || k.ip6 then cell s ix 4 k.dscp 0 else dflt
      | _ => dflt
    { tc := tc, colour := if flag s ix 5 && tagged && bit k.outer 0 then 1 else 0 }

/-- Whether a rule row matches the key (R170). -/
def ruleMatches (s : Sys) (row : Nat) (key : List Byte) : Bool :=
  let k := padRight 64 (val s 0x3400 1 row 1).bytes
  let m := padRight 64 (val s 0x3400 1 row 2).bytes
  (andBytes (List.zipWith (fun x y => x ^^^ y) key k) m).all (· == 0)

/-- The applied row, its selection, and whether its indirection table fell back (R170, R171). The indirection tables, of the view `v`,
belong to no rule-set generation (R176). -/
def applyRules (s v : Sys) (k : Key) (h16 : List Nat) (sel : Sel) : Option Nat × Sel × Bool :=
  let key := k.encode
  match (enabledRows s.dict 0x3400 1).find? (fun r => ruleMatches s r key) with
  | none => (none, sel, false)
  | some r =>
    let c := cell s 0x3400 1 r
    let sel := if c 3 = 1 then { sel with tc := c 4 } else sel
    let sel := if c 5 = 1 then { sel with colour := c 6 } else sel
    match c 7 with
    | 1 => (some r, { sel with fixed := true, queue := c 8 }, false)
    | 2 => match indirect v (c 8) 0 h16 with
      | some q => (some r, { sel with fixed := true, queue := q }, false)
      | none => (some r, { sel with fixed := false, queue := 0 }, true)
    | _ => (some r, sel, false)

/-! ### Fragments (R164 to R167) -/

def fragSame (a b : FragEntry) : Bool :=
  a.ver == b.ver && a.src == b.src && a.dst == b.dst && a.ident == b.ident && a.proto == b.proto && a.vid == b.vid

def fragEntries (s : Sys) : List (Nat × FragEntry) := s.frags.filterMap (fun e => e.2.map (fun v => (e.1, v)))

/-- Insert a first fragment's entry: in place, in a free slot, or in the least recently used one. -/
def fragInsert (e : FragEntry) (s : Sys) : Sys :=
  let l := fragEntries s
  match l.find? (fun x => fragSame x.2 e) with
  | some x => { s with frags := SMap.set none s.frags x.1 (some e) }
  | none =>
    match findBelow 1024 (fun i => (SMap.get none s.frags i).isNone) with
    | some i => { s with frags := SMap.set none s.frags i (some e) }
    | none =>
      let lru := l.foldl (fun (a : Nat × Nat) x => if x.2.used < a.2 then (x.1, x.2.used) else a) (0, s.now + 1)
      bump Ctr.fragEvict { s with frags := SMap.set none s.frags lru.1 (some e) }

/-! ### The stage (R153) -/

/-- The dictionary that parses a head: that of its rule-set generation (R179). -/
def ruleView (s : Sys) (f : Frame) : Sys :=
  match s.rsBank.find? (fun e => e.1 == f.rsGen) with
  | some e => { asOf s f.gen with dict := e.2 }
  | none => asOf s f.gen

/-- Objects that belong to no rule-set generation (R176). -/
def hashes (s : Sys) (f : Frame) (k : Key) : List Nat := (List.range 4).map (fun p => hash16 (asOf s f.gen) p k)

/-- Parse, classify and hash the head of frame `id`. -/
def parseHead (id : Nat) (s : Sys) : Sys :=
  let f := frame s id
  let v := ruleView s f
  let w := walkOf v f.bytes f.ended
  match w.stop with
  | some .needs => s
  | stop =>
    let k := { w.key with port := f.orig, recirc := f.port == 75, trunc := stop == some WalkEnd.trunc, conflict := stop == some WalkEnd.conflict }
    let k := if k.conflict then k.clearIp else k
    let tagged := decide (w.tags > 0)
    let base : Parsed := { hdrs := w.hdrs.reverse, inner := w.inner, outerTagged := tagged, key := k }
    let frags : Bool := flag (asOf s f.gen) 0x3100 1 && flag s 0x3100 1
    let plain (k : Key) : Parsed :=
      let h := hashes s f k
      let (r, sel, fb) := applyRules v (asOf s f.gen) k h (defaultSel (asOf s f.gen) f k tagged)
      { base with key := k, h16 := h, rule := r, sel := sel, fellBack := fb }
    let done (p : Parsed) (s : Sys) : Sys := updFrame id (fun f => { f with parsed := some p, stage := .parsed }) s
    match w.frag with
    | none => done (plain k) s
    | some g =>
      let e0 : FragEntry := { ver := g.ver, src := g.src, dst := g.dst, ident := g.ident, proto := g.proto, vid := k.outer / 16,
                              sel := {}, h16 := [], l4src := 0, l4dst := 0, used := s.now }
      if g.first then
        let p := plain k
        if frags then
          done { p with inserted := true }
            (fragInsert { e0 with sel := p.sel, h16 := p.h16, l4src := p.key.l4src, l4dst := p.key.l4dst } s)
        else done p s
      else
        match if frags then (fragEntries s).find? (fun x => fragSame x.2 e0) else none with
        | some x =>
          let k := { k with l4src := x.2.l4src, l4dst := x.2.l4dst, tcpFlags := 0 }
          done { base with key := k, h16 := x.2.h16, sel := x.2.sel, fragHit := true }
            { s with frags := SMap.set none s.frags x.1 (some { x.2 with used := s.now }) }
        | none => done (plain { k with l4src := 0, l4dst := 0, tcpFlags := 0, fragMiss := true }) s

/-- Heads in a stage, lowest sequence number first. -/
def headsIn (s : Sys) (st : Stage) : List (Nat × Frame) :=
  sortBy (fun x => x.2.seq) ((allFrames s).filter (fun x => x.2.stage == st))

/-- Bytes that a frame received further; with `ended` the last four are its FCS. -/
def moreBytes (more : List Byte) (ended : Bool) (f : Frame) : Frame :=
  if f.ended then f
  else
    let b := f.bytes ++ more
    if ended then { f with bytes := b.take (b.length - 4), fcs := b.drop (b.length - 4), ended := true } else { f with bytes := b }

/-- PARSE_CLASSIFY (R153): the next head in sequence, with the bytes beyond it that arrived (R13). -/
def parseClassifyEffect (more : List Byte) (ended : Bool) (s : Sys) : Sys :=
  match (headsIn s .numbered).head? with
  | none => s
  | some (id, f) =>
    if !f.ended ∧ stagingFull s f more.length then
      parseHead id (updFrame id (fun f => { f with bad := true, overrun := true }) (bumpIf (!f.overrun) (Ctr.rxStageDrop f.port) s))
    else parseHead id (updFrame id (moreBytes more ended) s)

/-- FRAG_ENTRY_EXPIRY (R167): the entry expires once FRAG_TIMEOUT has passed since its last use. -/
def fragExpiryEffect (slot : Nat) (s : Sys) : Sys :=
  match SMap.get none s.frags slot with
  | some e =>
    if e.used + obj s 0x3100 2 * Config.ticksPerMs ≤ s.now then
      bump Ctr.fragExpire { s with frags := SMap.set none s.frags slot none }
    else s
  | none => s

end Sys2Proof.Machine
end

