-- ==== Sys2Proof/Machine/Tables.lean ====
section
/-! DEFINITION. The forwarding decision, the Exact-Match Memory, learning, ageing and flushing (chapter 07). -/

namespace Sys2Proof.Machine

/-! ### Tags and VLANs -/

/-- Whether `port` recognises a TPID (R122). -/
def recognised (s : Sys) (port tpid : Nat) : Bool :=
  let ix := pix port 0
  tpid == 0x8100 || tpid == obj s ix 3 || (obj s ix 4 != 0 && decide (0x600 ≤ obj s ix 4) && tpid == obj s ix 4)

/-- The recognised tags from byte `off` on, at most `n`: TPID and TCI of each (R122). -/
def tagsFrom (s : Sys) (port : Nat) (b : List Byte) : Nat → Nat → List (Nat × Nat)
  | 0, _ => []
  | n + 1, off =>
    if recognised s port (field b off 2) ∧ off + 4 ≤ b.length then (field b off 2, field b (off + 2) 2) :: tagsFrom s port b n (off + 4)
    else []

/-- The recognised tags behind the source address: TPID and TCI (R122, R124). -/
def tagsOf (s : Sys) (port : Nat) (b : List Byte) : List (Nat × Nat) :=
  tagsFrom s port b (b.length / 4) 12

/-- The EtherType behind the recognised tags. -/
def etherOf (s : Sys) (port : Nat) (b : List Byte) : Nat := field b (12 + 4 * (tagsOf s port b).length) 2

def vlanMembers (s : Sys) (vid : Nat) : Nat := cell s 0x4010 1 vid 0

/-- The VID of a head (R186), or the drop reason of Table DEC-1. -/
def ingressVid (s : Sys) (f : Frame) : Except Nat Nat :=
  match f.vid with
  | some v => .ok v
  | none =>
    let ix := pix f.orig 9
    match (tagsOf s f.orig f.bytes).head? with
    | none => if obj s ix 2 = 1 then .error 2 else .ok (obj s ix 1)
    | some (_, tci) =>
      let v := bits tci 11 0
      if v = 4095 then .error 1
      else if v = 0 then (if obj s ix 2 = 1 then .error 2 else .ok (obj s ix 1))
      else if obj s ix 2 = 2 then .error 2
      else .ok v

/-! ### LAGs, ECMP and next hops (R212 to R215) -/

/-- The LAG that holds a port (R185, R215). -/
def lagOf (s : Sys) (p : Nat) : Option Nat :=
  findBelow 32 (fun g => (List.range (cell s 0x4B00 1 g 0)).any (fun i => cell s 0x4B00 1 g (2 + i) == p))

/-- The member of LAG `g` for these hash values (R215). An unusable indirection table leaves the index open (log entry 12). -/
def lagMember (s : Sys) (g : Nat) (h16 : List Nat) : Option Nat :=
  let c := cell s 0x4B00 1 g
  if c 0 = 0 then none
  else
    let i := ((indirect s (c 1) 1 h16).getD (Config.lagIndex g)) % c 0
    ((List.range (c 0)).map (fun k => c (2 + (i + k) % c 0))).find? (fun p => p != 0xFF && (port s p).linkUp)

/-- The next hop of ECMP group `g` (R214). -/
def ecmpHop (s : Sys) (g : Nat) (h16 : List Nat) : Option Nat :=
  let c := cell s 0x4A00 1 g
  if c 2 = 0 then none else (indirect s (c 0) 2 h16).map (fun i => c 1 + i % c 2)

/-! ### Prefixes (R207 to R209) -/

/-- The top `len` of `width` bits. -/
def maskTop (width len v : Nat) : Nat := v / 2 ^ (width - len) * 2 ^ (width - len)

/-- Rows of a family that hold a VRF's prefix of an address, by the longest length: nh_kind and nh. -/
def lookupPrefix (s : Sys) (v6 : Bool) (vrf addr : Nat) : Option (Nat × Nat) :=
  let sub := if v6 then 2 else 1
  let width := if v6 then 128 else 32
  let c (r k : Nat) := cell s 0x4400 sub r k
  let hits := (enabledRows s.dict 0x4400 sub).filter (fun r =>
    c r 1 == vrf && maskTop width (c r 3) addr == maskTop width (c r 3) (c r 2))
  let best := hits.foldl (fun (a : Option Nat) r => match a with
    | some b => if c r 3 > c b 3 then some r else a
    | none => some r) none
  best.map (fun r => (c r 4, c r 5))

/-- Total length of a union of intervals, sorted by start. -/
def unionSize : Nat → List (Nat × Nat) → Nat
  | _, [] => 0
  | reach, (a, b) :: l => (b - max a reach) + unionSize (max reach b) l

/-- Entries of length `b` that one turn of R208 installs for a /16 in one VRF, whose rows that cover it are `mine`: the sub-prefixes under
a shorter row that no row of length `b` holds. None of a length below 16 lies inside the /16 (log entry 85). -/
def installed (width b : Nat) (mine : List (Nat × Nat × Nat)) : Nat :=
  if b < 16 then 0
  else
    let unit (x : Nat) : Nat := x % 2 ^ (width - 16) / 2 ^ (width - b)
    let span (r : Nat × Nat × Nat) : Nat × Nat :=
      if r.2.2 ≤ 16 then (0, 2 ^ (b - 16)) else (unit r.2.1, unit r.2.1 + 2 ^ (b - r.2.2))
    let short := sortBy (·.1) ((mine.filter (fun r => r.2.2 < b)).map span)
    let held := (mine.filter (fun r => r.2.2 == b)).filter (fun r => short.any (fun i => decide (i.1 ≤ unit r.2.1 ∧ unit r.2.1 < i.2)))
    unionSize 0 short - held.length

/-- Expansion entries of one family under the rows `rows` of (vrf, prefix, length): for each /16 that names more than 8 lengths, the
shortest is expanded into the next one, until 8 are left (R208). -/
def expansions (width : Nat) (rows : List (Nat × Nat × Nat)) : Nat :=
  let tops := (rows.filterMap (fun r => if 16 ≤ r.2.2 then some (r.2.1 / 2 ^ (width - 16)) else none)).eraseDups
  (tops.map (fun v =>
    let here := rows.filter (fun r => if r.2.2 ≤ 16 then r.2.1 / 2 ^ (width - r.2.2) == v / 2 ^ (16 - r.2.2)
      else r.2.1 / 2 ^ (width - 16) == v)
    let lens := sortBy id ((here.map (·.2.2)).eraseDups)
    (((lens.drop 1).take (lens.length - 8)).map (fun b =>
      ((here.map (·.1)).eraseDups.map (fun vrf => installed width b (here.filter (fun r => r.1 == vrf)))).foldl (· + ·) 0)).foldl
        (· + ·) 0)).foldl (· + ·) 0

/-- Expansion entries in use (PFX_EXP_USED). -/
def expUsed (s : Sys) (v6 : Bool) : Nat :=
  let sub := if v6 then 2 else 1
  expansions (if v6 then 128 else 32) ((enabledRows s.dict 0x4400 sub).map (fun r =>
    (cell s 0x4400 sub r 1, cell s 0x4400 sub r 2, cell s 0x4400 sub r 3)))

/-! ### Heads and lanes -/

/-- Heads that have a sequence number and no committed decision, lowest first. -/
def openHeads (s : Sys) : List (Nat × Frame) :=
  sortBy (fun x => x.2.seq) ((allFrames s).filter (fun x => x.2.stage == .numbered || x.2.stage == .parsed))

def Decider.doneOn (v : Decider) (lane : Nat) : Nat := if lane = 0 then v.done0 else v.done1

/-! ### The Exact-Match Memory (R193, R194) -/

def emmKey (typ vid mac : Nat) : Nat := typ * 2 ^ 60 + vid * 2 ^ 48 + mac

def Decider.entries (v : Decider) : List (Nat × Emm) := v.emm.filterMap (fun e => e.2.map (fun x => (e.1, x)))

/-- The slot and entry of a key. -/
def Decider.find (v : Decider) (key : Nat) : Option (Nat × Emm) := v.entries.find? (fun e => e.2.key == key)

/-- What a head whose look-ups start at `t` sees of an entry (R199). -/
def Emm.seenAt (e : Emm) (t : Nat) : Option Emm :=
  if e.isStatic ∨ e.born + 64 ≤ t then some e
  else (e.hist.find? (fun h => decide (h.1 + 64 ≤ t))).map (fun h => { e with kind := h.2.1, target := h.2.2.1, peer := h.2.2.2 })

/-- The entry on a source from now on (R199 to R201). -/
def Emm.on (e : Emm) (t kind target : Nat) (peer : Bool) : Emm :=
  { e with kind := kind, target := target, peer := peer, hit := true, born := t, seen := t, hist := ((t, kind, target, peer) :: e.hist).take 10 }

def Decider.search (v : Decider) (t key : Nat) : Option Emm := (v.find key).bind (fun e => e.2.seenAt t)

def Decider.put (v : Decider) (slot : Nat) (e : Option Emm) : Decider :=
  { v with emm := SMap.set none v.emm slot e, full := if e.isNone then false else v.full }

/-- The lowest free slot at or beyond `i` and below `stop`, in a rising list of used slots. -/
def freeSlot : Nat → Nat → List Nat → Option Nat
  | i, stop, [] => if i < stop then some i else none
  | i, stop, k :: l => if k < i then freeSlot i stop l else if k = i then freeSlot (i + 1) stop l else if i < stop then some i else none

/-- The rows of EMM_STATIC in pending state: those of the transactions that still stand (R196). -/
def pendingRows (s : Sys) (v : Decider) : List (Nat × Nat × Nat × Nat) :=
  v.pend.filter (fun p => (holders s).any (fun w => w.txn.live && w.txn.num == p.1))

/-- The lowest free slot of the groups that are awake, or that are gated (R194, R409: a group is eight banks); the slots `pending` hold
rows in pending state. -/
def Decider.freeIn (v : Decider) (pending : List Nat) (gated : Bool) : Option Nat :=
  let used := if pending.isEmpty then v.emm.map (·.1) else sortBy id (v.emm.map (·.1) ++ pending)
  ((List.range 8).filter (fun g => bit v.gated g == gated)).findSome? (fun g => freeSlot (16384 * g) (16384 * (g + 1)) used)

/-- The 64-bit result of an entry at tick `t` (Table TAB-4). -/
def Emm.result (e : Emm) (t : Nat) : Nat :=
  e.kind * 2 ^ 62 + boolNat e.peer * 2 ^ 61 + e.target * 2 ^ 48 + boolNat e.isStatic * 2 ^ 47 + boolNat e.contested * 2 ^ 46
    + boolNat e.flapping * 2 ^ 45 + boolNat e.hit * 2 ^ 44 + boolNat e.hostCopy * 2 ^ 43 + boolNat e.stream.isSome * 2 ^ 42
    + e.stream.getD 0 * 2 ^ 28 + (e.moves.filter (fun m => decide (t < m + 10 * Config.ticksPerS))).length * 2 ^ 24

/-- The decider whose learning is counted: the higher claim, or the LEADING one of equal claims (R204). -/
def counted (s : Sys) : Option DecId :=
  if s.decA.claim = 0 ∧ s.decB.claim = 0 then none
  else if s.decA.claim > s.decB.claim then some .a
  else if s.decB.claim > s.decA.claim then some .b
  else if s.decA.st = .leading then some .a else some .b

def learnBump (d : DecId) (n : Nat) (s : Sys) : Sys := bumpIf (counted s == some d) n s

/-- The entry of an enabled EMM_STATIC row (R195). -/
def staticEntry (s : Sys) (r : Nat) : Emm :=
  let c := cell s 0x4001 1 r
  let stream := if c 8 = 0xFFFF then none else some (c 8)
  if c 1 = 1 then { key := emmKey 1 (c 2) (c 3), kind := c 4, peer := c 5 == 1, target := c 6, isStatic := true, hostCopy := c 7 == 1 }
  else { key := emmKey (c 1) (c 2) (c 3), isStatic := true, stream := stream }

/-- Keep a learned entry that a static entry puts away for the heads that were numbered before (R49). -/
def Decider.putAway (v : Decider) (s : Sys) (o : Emm) : Decider :=
  if o.isStatic then v
  else { v with displaced := v.displaced.filter (fun e => s.olds.any (fun g => g.1 == e.1)) ++ [((s.gen + 2 ^ 32 - 1) % 2 ^ 32, o)] }

/-- The memory of decider `d` as a head of generation `g` finds it: with the static entries of that generation and the learned
entries that later ones put away (R49, R196). -/
def emmAsOf (s : Sys) (d : DecId) (g : Nat) : Decider :=
  let v := decider s d
  if s.olds.any (fun e => e.1 == g) then
    let rows := (enabledRows (dictOf s g) 0x4001 1).map (staticEntry (asOf s g))
    let away := (v.displaced.filter (fun e => decide ((e.1 + 2 ^ 32 - g) % 2 ^ 32 < 2 ^ 31))).map (·.2)
    let kept := (v.entries.filter (fun e => !e.2.isStatic)).map (·.2)
    { v with emm := (rows ++ away ++ kept).map (fun e => (0, some e)) }
  else v

/-- The least recently hit learned entry, with its slot (R195). -/
def Decider.oldest (v : Decider) : Option (Nat × Emm) :=
  (v.entries.filter (fun x => !x.2.isStatic)).foldl
    (fun (a : Option (Nat × Emm)) x => match a with
      | some b => if x.2.seen < b.2.seen then some x else a
      | none => some x) none

/-- Where an entry of EMM_STATIC goes: to the entry of its key, the slot that its row `r` holds in pending state, or the lowest free
slot (R194 to R196). -/
def placeFor (s : Sys) (v : Decider) (r : Nat) (e : Emm) : Option Nat :=
  match v.find e.key with
  | some (slot, _) => some slot
  | none =>
    let pending := pendingRows s v
    match pending.find? (fun p => p.2.1 == r && p.2.2.1 == e.key) with
    | some p => some p.2.2.2
    | none =>
      let taken := pending.map (·.2.2.2)
      (v.freeIn taken false).orElse (fun _ => v.freeIn taken true)

/-- A slot is taken; its group of banks is awake. -/
def Decider.wakeFor (v : Decider) (slot : Nat) : Decider := { v with gated := setBit v.gated (slot / 16384) false }

/-- The decider with the static entry of row `r` placed, over the learned entry whose last source hit is oldest where no slot is free;
and whether it evicted one (R195). -/
def placeStatic (s : Sys) (v : Decider) (r : Nat) (e : Emm) : Decider × Bool :=
  match placeFor s v r e with
  | some slot =>
    match SMap.get none v.emm slot with
    | some o => if { o with hit := e.hit, seen := e.seen } = e then (v, false) else ((v.putAway s o).put slot (some e), false)
    | none => ((v.wakeFor slot).put slot (some e), false)
  | none =>
    match v.oldest with
    | some (slot, o) => ((v.putAway s o).put slot (some e), true)
    | none => (v, false)

/-- One decider's static entries in line with EMM_STATIC, and the rows that evicted a learned entry. -/
def syncRows (s : Sys) (v : Decider) : Decider × List Nat :=
  let want := (enabledRows s.dict 0x4001 1).map (fun r => (r, staticEntry s r))
  let gone := (v.entries.filter (fun x => x.2.isStatic && !(want.map (·.2.key)).contains x.2.key)).map (·.1)
  want.foldl (fun (a : Decider × List Nat) x =>
    let (v, out) := placeStatic s a.1 x.1 x.2
    (v, if out then a.2 ++ [x.1] else a.2)) (gone.foldl (fun v slot => v.put slot none) v, [])

/-- Bring one decider's static entries into line with EMM_STATIC. -/
def syncStatic (d : DecId) (s : Sys) : Sys :=
  let (v, out) := syncRows s (decider s d)
  bumpBy Ctr.emmStaticEvict out.length (setDecider d v s)

/-- Bring both into line at a commit point; a row that evicts an entry counts once (R195, log entry 85). -/
def syncStatics (s : Sys) : Sys :=
  let (a, outA) := syncRows s s.decA
  let (b, outB) := syncRows s s.decB
  bumpBy Ctr.emmStaticEvict (outA ++ outB).eraseDups.length { s with decA := a, decB := b }

/-- Place row `r` of EMM_STATIC in pending state for transaction `num`, `view` being the dictionary as its commit would leave it (R196).
A row that changes an entry of its key needs no slot, and one that finds none free evicts a learned entry at its commit (R195). -/
def Decider.placePending (s view : Sys) (num r : Nat) (v : Decider) : Decider :=
  let v := { v with pend := (pendingRows s v).filter (fun p => !(p.1 == num && p.2.1 == r)) }
  let e := staticEntry view r
  if cell view 0x4001 1 r 0 ≠ 1 ∨ (v.find e.key).isSome then v
  else match placeFor s v r e with
    | some slot => { v.wakeFor slot with pend := v.pend ++ [(num, r, e.key, slot)] }
    | none => v

/-- Whether a row has no place in a decider: every slot holds a static entry or one in pending state (R196). -/
def Decider.noPlace (s : Sys) (v : Decider) (r : Nat) (e : Emm) : Bool := (placeFor s v r e).isNone && v.oldest.isNone

/-! ### The decision (R185 to R192, R212 to R219) -/

/-- Forwarding found so far: action, target, and what the record says beside them. -/
structure Fwd where
  action : Nat := 0
  target : Nat := 0
  reason : Nat := 0
  peer : Bool := false
  routed : Bool := false
  encap : Bool := false
  terminate : Bool := false
  ttlDec : Bool := false
  hostCopy : Bool := false
  nextHop : Nat := 0xFFFF
  vidOut : Nat := 0
  prov : Nat := 0
  keyCrc : Nat := 0
  member : Nat := 0xFF

def Fwd.drop (reason : Nat) : Fwd := { reason := reason }

/-- Send to a port or a LAG (R215, R219). -/
def toTarget (s : Sys) (h16 : List Nat) (lag peer : Bool) (target : Nat) (w : Fwd) : Fwd :=
  if peer then
    if flag s 0x2800 1 then { w with action := if lag then 2 else 1, target := target, peer := true }
    else { w with action := 0, target := 0, reason := 10, nextHop := 0xFFFF }
  else if lag then
    match lagMember s target h16 with
    | some m => { w with action := 2, target := target, member := m }
    | none => { w with action := 0, target := 0, reason := 9 }
  else { w with action := 1, target := target }

/-- Routing on the first IP header (R207, R212 to R218). -/
def routeHead (s : Sys) (f : Frame) (p : Parsed) (vid : Nat) : Fwd :=
  match p.hdrs.find? (fun h => h.kind == 3 || h.kind == 4) with
  | none => if p.key.conflict || p.key.trunc then Fwd.drop 5 else Fwd.drop 6
  | some h =>
    if p.key.conflict then Fwd.drop 5
    else
      let v6 := h.kind == 4
      let dst := if v6 then field f.bytes (h.off + 24) 16 else field f.bytes (h.off + 16) 4
      let ttl := byteAt f.bytes (h.off + (if v6 then 7 else 8))
      let base : Fwd := { routed := true, prov := 0 }
      if ttl ≤ 1 then { base with action := 1, target := 73, vidOut := vid }
      else
        match lookupPrefix s v6 (cell s 0x4010 1 vid 4) dst with
        | none => Fwd.drop 7
        | some (kind, nh) =>
          match if kind = 1 then ecmpHop s nh p.h16 else some nh with
          | none => Fwd.drop 8
          | some n =>
            let c := cell s 0x4900 1 n
            let base := { base with prov := 4, nextHop := n, vidOut := c 2 }
            match c 0 with
            | 1 => toTarget s p.h16 (c 3 == 1) (c 4 == 1) (c 5) { base with ttlDec := true }
            | 2 => if p.key.tunnel then { base with action := 1, target := 75, terminate := true } else Fwd.drop 8
            | 3 =>
              let u := cell s 0x4C00 1 (c 5) 5
              let cu := cell s 0x4900 1 u
              if cu 0 = 1 then
                toTarget s p.h16 (cu 3 == 1) (cu 4 == 1) (cu 5) { base with ttlDec := true, encap := true, vidOut := cu 2 }
              else Fwd.drop 8
            | 4 =>
              if c 4 = 1 ∧ !flag s 0x2800 1 then Fwd.drop 10
              else { base with action := 3, target := c 5, peer := c 4 == 1, ttlDec := true }
            | 5 => { base with action := 1, target := 73 }
            | _ => Fwd.drop 8

/-- The source of a head: a LAG or a port (R185). -/
def sourceOf (s : Sys) (p : Nat) : Bool × Nat :=
  match lagOf s p with
  | some g => (true, g)
  | none => (false, p)

/-- Bridging (R189, R190). -/
def bridgeHead (s : Sys) (v : Decider) (f : Frame) (p : Parsed) (vid dmac : Nat) : Fwd :=
  let key := emmKey 1 vid dmac
  let base : Fwd := { vidOut := vid, keyCrc := crc32c (toBE 8 key) }
  match v.search s.now key with
  | none => { base with action := 4, target := vid, prov := 3 }
  | some e =>
    let base := { base with prov := if e.isStatic then 1 else 2, hostCopy := e.hostCopy }
    let src := sourceOf s f.orig
    match e.kind with
    | 0 => if !e.peer && f.orig == e.target then { base with reason := 3 } else toTarget s p.h16 false e.peer e.target base
    | 1 => if !e.peer && src.1 && src.2 == e.target then { base with reason := 3 } else toTarget s p.h16 true e.peer e.target base
    | 2 => if e.peer && !flag s 0x2800 1 then { base with reason := 10 } else { base with action := 3, target := e.target, peer := e.peer }
    | _ => { base with reason := 4 }

/-- The stream handle (R192). -/
def streamOf (v : Decider) (t vid dmac smac : Nat) : Option Nat :=
  match (v.search t (emmKey 2 vid dmac)).bind (·.stream) with
  | some h => some h
  | none => (v.search t (emmKey 3 vid smac)).bind (·.stream)

/-- The decision record of a head (R185), and the learn request it submits: key and source. -/
def decision (s : Sys) (d : DecId) (f : Frame) : Rec × Option (Nat × Bool × Nat) × Bool :=
  let v := asOf s f.gen
  let dv := emmAsOf s d f.gen
  let p := f.parsed.getD {}
  let dmac := field f.bytes 0 6
  let smac := field f.bytes 6 6
  let base : Rec := { seq := f.seq, gen := f.gen, rsGen := f.rsGen, dec := dnat d, lane := f.seq % 2, tc := p.sel.tc,
                      colour := p.sel.colour, prot := protects v p.sel.tc, qsel := boolNat p.sel.fixed,
                      queue := if p.sel.fixed then p.sel.queue else 0 }
  let finish (w : Fwd) (vid : Nat) (learn : Bool) : Rec :=
    let h := streamOf dv s.now vid dmac smac
    { base with action := w.action, target := w.target, peer := w.peer, hostCopy := w.hostCopy, routed := w.routed,
                encap := w.encap, terminate := w.terminate, ttlDec := w.ttlDec, streamValid := h.isSome, learnReq := learn,
                stream := h.getD 0xFFFF, nextHop := if w.action = 0 then 0xFFFF else w.nextHop, vidOut := w.vidOut,
                dropReason := w.reason, prov := w.prov, keyCrc := w.keyCrc, member := w.member }
  match ingressVid v f with
  | .error r => (finish (Fwd.drop r) 0 false, none, false)
  | .ok vid =>
    if flag v (pix f.orig 9) 3 && !bit (vlanMembers v vid) f.orig then (finish (Fwd.drop 1) vid false, none, false)
    else
      let may := f.port != 75 && decide (f.orig ≤ 72) && flag v (pix f.orig 9) 4 && cellB v 0x4010 1 vid 2
      let good := smac != 0 && !bit smac 40
      let learn := may && good
      let src := sourceOf v f.orig
      let w := if dmac = obj v 0x4020 1 ∧ cellB v 0x4010 1 vid 3 then routeHead v f p vid else bridgeHead v dv f p vid dmac
      (finish w vid learn, if learn then some (emmKey 1 vid smac, src.1, src.2) else none, may && !good)

/-- Submit a learn request to decider `d` (R198, R199). -/
def submitLearn (d : DecId) (r : LearnReq) (s : Sys) : Sys :=
  let v := decider s d
  if v.learn.length ≥ 4096 then learnBump d Ctr.learnQueueDrop s
  else setDecider d { v with learn := v.learn ++ [r] } s

/-- The head sequencer sends the verdict on a frame: its place in their order (R198). -/
def sendVerdict (id : Nat) (s : Sys) : Sys :=
  if (frame s id).verdictNo ≠ 0 then s
  else updFrame id (fun f => { f with verdictNo := s.verdicts + 1, verdictAt := s.now }) { s with verdicts := s.verdicts + 1 }

/-- The verdict on a frame reaches the requests that its head submitted (R198). -/
def readyLearn (id : Nat) (good : Bool) (s : Sys) : Sys :=
  let s := sendVerdict id s
  let f := frame s id
  let tell (v : Decider) : Decider :=
    { v with learn := v.learn.map (fun r => if r.frame == id && r.verdict.isNone then { r with verdict := some good, order := f.verdictNo, told := f.verdictAt } else r),
             behind := v.behind.map (fun e => if e.1 = id then (e.1, { e.2 with verdict := some good, verdictNo := f.verdictNo, verdictAt := f.verdictAt }) else e) }
  { s with decA := tell s.decA, decB := tell s.decB }

/-! ### The learn engine (R200 to R203) -/

/-- The number of a source in event parameters (R200). -/
def sourceCode (kind target : Nat) (peer : Bool) : Nat :=
  if peer then 0xA0 + target else if kind = 1 then 0x80 + target else target

/-- Whether a head with an earlier verdict is still to be decided by `v`: its request, if it makes one, goes before (R198). -/
def Decider.waitsFor (s : Sys) (v : Decider) (r : LearnReq) : Bool :=
  (openHeads s ++ v.behind).any (fun x =>
    decide (x.2.verdictNo ≠ 0 ∧ x.2.verdictNo < r.order ∧ v.doneOn (x.2.seq % 2) < x.2.seq))

/-- The request that the learn engine takes next: in the order of the verdicts, and of two that became ready in one cycle that of lane 0
(R198). -/
def nextLearn (s : Sys) (v : Decider) : Option LearnReq :=
  let due := (sortBy (·.order) (v.learn.filter (fun r => r.verdict.isSome))).filter (fun r => !v.waitsFor s r)
  due.head?.map (fun r =>
    (due.find? (fun q => q.lane == 0 && r.lane == 1 && max q.at_ q.told == max r.at_ r.told)).getD r)

/-- Take the next ready request of decider `d`. -/
def learnTake (d : DecId) (s : Sys) : Sys :=
  let v := decider s d
  match nextLearn s v with
  | none => s
  | some r =>
    let rest := v.learn.erase r
    let taken := (pendingRows s v).map (·.2.2.2)
    let s0 := setDecider d { v with learn := rest } s
    let v0 := { v with learn := rest }
    let kind := boolNat r.lag
    let put (slot : Nat) (e : Emm) : Sys := setDecider d (v0.put slot (some e)) s
    let mac := r.key % 2 ^ 48
    let vid := r.key / 2 ^ 48 % 4096
    let when_ (ev : Sys → Sys) (s : Sys) : Sys := if counted s = some d then ev s else s
    if r.verdict = some false then learnBump d Ctr.learnFcsDiscard s0
    else match v0.find r.key with
    | none =>
      let e : Emm := ({ key := r.key, made := s.now } : Emm).on s.now kind r.target r.peer
      match v0.freeIn taken false with
      | some slot => learnBump d Ctr.learnNew (put slot e)
      | none =>
        match v0.freeIn taken true with
        | some slot => setDecider d { v with waking := some (slot / 16384) } s
        | none =>
          let s1 := learnBump d Ctr.learnFullFail s0
          if v0.full then s1
          else raise 0x0501 2 (u8b (dnat d) ++ u32b (count s1 Ctr.learnFullFail)) (setDecider d { v0 with full := true } s1)
    | some (slot, e) =>
      if e.kind = kind ∧ e.peer = r.peer ∧ e.target = r.target then put slot { e with hit := true, seen := s.now }
      else if e.isStatic then learnBump d Ctr.learnStaticConflict s0
      else if e.flapping then learnBump d Ctr.learnFlapHeld s0
      else if s.now < e.born + obj s 0x4000 1 * Config.ticksPerMs then
        when_ (raise 0x0502 0 (toBE 6 mac ++ u16b vid ++ u8b (sourceCode e.kind e.target e.peer) ++ u8b (sourceCode kind r.target r.peer)))
          (learnBump d Ctr.learnContested (put slot { e with contested := true, hit := true, seen := s.now }))
      else if e.moves.length ≥ 8 ∧ s.now < e.moves.getD 7 0 + 10 * Config.ticksPerS then
        when_ (raise 0x0503 1 (toBE 6 mac ++ u16b vid))
          (learnBump d Ctr.learnFlapFreeze (put slot { e with flapping := true, frozen := s.now }))
      else
        learnBump d Ctr.learnMove (put slot { e.on s.now kind r.target r.peer with contested := false, moves := (s.now :: e.moves).take 8 })

/-- FLAP_HOLD_EXPIRY (R201): FLAP_HOLD after the freeze, flapping and the move history are cleared. -/
def flapHoldEffect (d : DecId) (slot : Nat) (s : Sys) : Sys :=
  let v := decider s d
  match SMap.get none v.emm slot with
  | some e =>
    if e.flapping ∧ obj s 0x4000 3 ≠ 0 ∧ e.frozen + obj s 0x4000 3 * Config.ticksPerS ≤ s.now then
      setDecider d (v.put slot (some { e with flapping := false, moves := [] })) s
    else s
  | none => s

/-- One decider's ageing sweep: each learned entry without a hit goes, the others lose theirs (R205). -/
def ageOne (d : DecId) (s : Sys) : Sys :=
  let v := decider s d
  let old := v.entries.filter (fun x => !x.2.isStatic && !x.2.hit)
  let kept := v.emm.filterMap (fun x => match x.2 with
    | some e => if e.isStatic then some (x.1, some e) else if e.hit then some (x.1, some { e with hit := false }) else none
    | none => none)
  let s := setDecider d { v with emm := kept, full := if old.isEmpty then v.full else false } s
  if counted s = some d then bumpBy Ctr.learnAged old.length s else s

/-- AGEING_SWEEP (R205). With AGE_TIME 0 no sweep runs. -/
def ageingEffect (s : Sys) : Sys := if obj s 0x4000 2 = 0 then s else ageOne .b (ageOne .a s)

/-- EMM_BANK_WAKE_DONE (R194): the group is awake. -/
def bankWakeEffect (d : DecId) (group : Nat) (s : Sys) : Sys :=
  let v := decider s d
  setDecider d { v with gated := setBit v.gated group false, waking := if v.waking = some group then none else v.waking } s

/-! ### Flushing (R206) -/

/-- The word of EMM_FLUSH (R206): mode, kind and place of the source, its number, and the VID. -/
def flushWord (mode : Nat) (lag peer : Bool) (target vid : Nat) : Nat :=
  mode * 2 ^ 28 + boolNat lag * 2 ^ 27 + boolNat peer * 2 ^ 26 + target % 256 * 2 ^ 12 + vid % 4096

/-- Whether a learned entry matches a flush word (Table TAB-6); `find` is the key of mode 5. -/
def flushMatches (word find : Nat) (e : Emm) : Bool :=
  let source := e.kind == boolNat (bit word 27) && e.target == bits word 19 12 && e.peer == bit word 26
  let vid := e.key / 2 ^ 48 % 4096 == bits word 11 0
  !e.isStatic && (match bits word 31 28 with
    | 1 => source
    | 2 => vid
    | 3 => source && vid
    | 4 => true
    | _ => e.key == find)

/-- Start a flush at its commit point: it takes the entries that exist and match now. -/
def startFlush (word find : Nat) (s : Sys) : Sys :=
  let keys (v : Decider) : List Nat := (v.entries.filter (fun x => flushMatches word find x.2)).map (fun x => x.2.key)
  { s with flush := some { start := s.now, word := word, keys := (keys s.decA ++ keys s.decB).eraseDups } }

/-- Whether a flush takes an entry: its key matched at the commit point, and the entry was neither created after it nor moved onto a
matching source after it. -/
def Flush.takes (u : Flush) (e : Emm) : Bool :=
  let onto := decide (u.start < e.born) && (bits u.word 31 28 == 1 || bits u.word 31 28 == 3) && flushMatches u.word 0 e
  u.keys.contains e.key && !e.isStatic && decide (e.made ≤ u.start) && !onto

/-- A decider without the entries that a flush takes. -/
def flushKeys (u : Flush) (v : Decider) : Decider :=
  (v.entries.filter (fun x => u.takes x.2)).foldl (fun v x => v.put x.1 none) v

/-- EMM_FLUSH_DONE: the entries taken are removed. -/
def flushDoneEffect (s : Sys) : Sys :=
  match s.flush with
  | none => s
  | some u => { s with flush := none, decA := flushKeys u s.decA, decB := flushKeys u s.decB }

/-- The decider an EMM_FIND row names: 0 the committed one, 1 A, 2 B (R222). -/
def findDecider (s : Sys) (which : Nat) : DecId :=
  match which with
  | 1 => .a
  | 2 => .b
  | _ => (counted s).getD .a

/-- The found, slot and result columns of an EMM_FIND row (Table TAB-13). -/
def emmFindResult (s : Sys) (key which : Nat) : Bool × Nat × Nat :=
  match (decider s (findDecider s which)).find key with
  | some (slot, e) => (true, slot, e.result s.now)
  | none => (false, 0xFFFFFFFF, 0)

/-! ### The skew sweep (R257, R258) -/

/-- The learned entries of a decider in one group of 2,048 slots. -/
def Decider.inGroup (v : Decider) (group : Nat) : List Emm :=
  (v.entries.filter (fun x => x.1 / 2048 == group && !x.2.isStatic)).map (·.2)

/-- The learned entry of a key. -/
def Decider.learned (v : Decider) (key : Nat) : Option Emm := ((v.find key).map (·.2)).filter (fun e => !e.isStatic)

/-- One group of a sweep, from both deciders at one generation (R257): the keys of A's slots and then those of B's alone. -/
def Sweep.take (w : Sweep) (s : Sys) (group : Nat) : Sweep :=
  let la := s.decA.inGroup group
  let res (v : Decider) (k : Nat) : Nat := ((v.learned k).map (fun e => e.result s.now)).getD 0
  let onlyA := la.filter (fun e => (s.decB.learned e.key).isNone)
  let onlyB := (s.decB.inGroup group).filter (fun e => (s.decA.learned e.key).isNone)
  let differs (e : Emm) : Bool := match s.decB.learned e.key with
    | none => true
    | some g => !(g.kind == e.kind && g.target == e.target && g.peer == e.peer)
  let keys := ((la.filter differs) ++ onlyB).map (fun e => (e.key, res s.decA e.key, res s.decB e.key))
  { next := group + 1, onlyA := w.onlyA + onlyA.length, onlyB := w.onlyB + onlyB.length,
    differing := w.differing + ((la.filter differs).length - onlyA.length), sample := (w.sample ++ keys).take 64 }

/-- The end of a sweep: totals, samples, and SKEW_HIGH (R257, R258). -/
def skewEnd (w : Sweep) (s : Sys) : Sys :=
  let total := w.onlyA + w.onlyB + w.differing
  let put (c v : Nat) (s : Sys) : Sys := putCell s 0x0530 3 0 c v
  let s := put 4 s.gen (put 3 (timeVal (dc s)) (put 2 w.differing (put 1 w.onlyB (put 0 w.onlyA s))))
  let s := loop (fun i s =>
    let e := w.sample.getD i (0, 0, 0)
    putCell (putCell (putCell s 0x0530 4 i 0 e.1) 0x0530 4 i 1 e.2.1) 0x0530 4 i 2 e.2.2) 0 64 s
  let limit := obj s 0x0530 2
  if total > limit then
    if s.skewHigh then s else raise 0x0307 2 (u32b total) { s with skewHigh := true }
  else { s with skewHigh := if total < limit then false else s.skewHigh }

/-- Whether a decider is in LEADING, FOLLOWING or SHADOW. -/
def Decider.running (v : Decider) : Bool := v.st == .leading || v.st == .following || v.st == .shadow

/-- SKEW_SWEEP: the stewards compare the next group; the first one starts a sweep and the last one ends it. It runs only while both
deciders do, and pauses while maintenance is traded away (Table NRG-2). -/
def skewSweepEffect (group : Nat) (s : Sys) : Sys :=
  if !s.decA.running ∨ !s.decB.running then { s with sweep := none }
  else if 3 ≤ traded s then s
  else
    let w : Sweep := if group = 0 then {} else s.sweep.getD {}
    if w.next ≠ group then s
    else if group = 63 then skewEnd (w.take s group) { s with sweep := none }
    else { s with sweep := some (w.take s group) }

end Sys2Proof.Machine
end

