-- ==== Sys2Proof/Machine/Streams.lean ====
section
/-! DEFINITION. Stream filters, gates and meters (R347 to R352), and frame replication and elimination (chapter 12). -/

namespace Sys2Proof.Machine

/-- The length of a frame with FCS, or the ingress port's MAX_FRAME while it is unknown. -/
def assumedLen (s : Sys) (f : Frame) : Nat := if f.length = 0 then maxFrame s f.port else f.length

/-! ### Meters (R351) -/

/-- A byte in bucket units. -/
def bucketByte : Nat := 655360000000

def meter (s : Sys) (m : Nat) : Meter := SMap.get {} s.meters m
def setMeter (m : Nat) (v : Meter) (s : Sys) : Sys := { s with meters := SMap.set {} s.meters m v }

/-- The buckets at a tick: Tc gains at CIR up to CBS, the other at EIR up to EBS; with coupling in mode 2 the other also takes
what Tc cannot. -/
def Meter.fill (s : Sys) (m : Nat) (v : Meter) : Meter :=
  let c := cell s 0x6200 1 m
  let dt := s.now - v.at_
  let full := v.tc + dt * c 1 * 65536
  let tc := min (c 2 * bucketByte) full
  let extra := if c 0 = 2 ∧ c 6 = 1 then full - tc else 0
  { v with tc := tc, te := min (c 4 * bucketByte) (v.te + dt * c 3 * 65536 + extra), at_ := s.now }

/-- A commit of any column refills both buckets. -/
def meterCommit (m : Nat) (s : Sys) : Sys :=
  let c := cell s 0x6200 1 m
  setMeter m { (meter s m) with tc := c 2 * bucketByte, te := c 4 * bucketByte, at_ := s.now } s

/-- Meter `n` bytes of input colour `col`: the colour out, and which buckets were charged. -/
def meterColour (mode : Nat) (v : Meter) (n col : Nat) : Nat × Bool × Bool :=
  let b := n * bucketByte
  if mode = 1 then
    if col = 2 ∨ v.te < b then (2, false, false)
    else if col = 1 ∨ v.tc < b then (1, false, true)
    else (0, true, true)
  else if col = 0 ∧ b ≤ v.tc then (0, true, false)
  else if col ≠ 2 ∧ b ≤ v.te then (1, false, true)
  else (2, false, false)

/-- The meter of a frame: passes it, with its new colour and what to give back, or drops it. A latched meter's result is red, and charges
no bucket, as no red result does (R351, log entry 92). -/
def meterFrame (m id : Nat) (s : Sys) : Sys × Bool :=
  let c := cell s 0x6200 1 m
  if c 0 = 0 then (s, true)
  else
    let f := frame s id
    let n := assumedLen s f
    let v := (meter s m).fill s m
    let (col, tc, te) := if c 9 = 1 ∧ v.red then (2, false, false) else meterColour (c 0) v n (if c 5 = 1 then f.colour else 0)
    let v := { v with tc := if tc then v.tc - n * bucketByte else v.tc, te := if te then v.te - n * bucketByte else v.te }
    let v := { v with red := v.red || (c 9 == 1 && col == 2) }
    let ctr := if col = 0 then Ctr.meterGreen m else if col = 1 then Ctr.meterYellow m else Ctr.meterRed m
    let s := updFrame id (fun f => { f with colour := col, meter := if f.length = 0 then some (m, n, tc, te) else none })
      (bump ctr (setMeter m v s))
    (s, !((col == 2 && c 8 == 1) || (col == 1 && c 7 == 1)))

/-- The tail of a frame that was charged with MAX_FRAME gives the difference back (R351). -/
def meterReturn (id : Nat) (s : Sys) : Sys :=
  let f := frame s id
  match f.meter with
  | none => s
  | some (m, n, tc, te) =>
    let c := cell s 0x6200 1 m
    let back := (n - f.length) * bucketByte
    let v := (meter s m).fill s m
    let v := { v with tc := if tc then min (c 2 * bucketByte) (v.tc + back) else v.tc,
                      te := if te then min (c 4 * bucketByte) (v.te + back) else v.te }
    setMeter m v (updFrame id (fun f => { f with meter := none }) s)

/-! ### The tests of Table EGR-10 -/

/-- A size failure counts, and blocks the row if it says so (R348). -/
def sduFail (h : Nat) (s : Sys) : Sys :=
  let s := bump (Ctr.sfSduDrop h) s
  if cellB s 0x6000 1 h 2 then { s with blocked := SMap.set false s.blocked h true } else s

/-- The stream gate of a frame (R349): its inner priority value, or the drop. -/
def gateFrame (g h id : Nat) (s : Sys) : Sys × Option Nat :=
  let c := cell s 0x6100 1 g
  if c 0 = 0 then (s, some 0xFF)
  else
    let s := if (streamGate s g).state < 2 then s else streamGateTurn g s
    let v := streamGate s g
    if v.latched then (bump (Ctr.sfGateDrop h) s, none)
    else if !bit v.gates 0 then
      let s := bump (Ctr.sfGateDrop h) s
      if c 8 = 1 then (raise 0x0803 1 (u16b g) (setStreamGate g { v with latched := true } s), none) else (s, none)
    else
      let n := assumedLen s (frame s id)
      if v.octetMax ≠ 0 ∧ v.octets + n > v.octetMax then (bump (Ctr.sfOctetDrop h) s, none)
      else (setStreamGate g { v with octets := v.octets + n } s, some v.op)

/-- Stream filtering and policing of a committed frame (R347): whether it passes. -/
def streamFilter (id : Nat) (s : Sys) : Sys × Bool :=
  match (frame s id).handle with
  | none => (s, true)
  | some h =>
    let c := cell s 0x6000 1 h
    if c 0 = 0 then (s, true)
    else
      let f := frame s id
      let s := bump (Ctr.sfMatched h) s
      if SMap.get false s.blocked h then (bump (Ctr.sfBlockedDrop h) s, false)
      else if c 1 ≠ 0 ∧ f.length > c 1 then (sduFail h s, false)
      else
        match if c 3 = 0xFFFF then (s, some 0xFF) else gateFrame (c 3) h id s with
        | (s, none) => (s, false)
        | (s, some ipv) =>
          let s := updFrame id (fun f => { f with ipv := ipv }) s
          match if c 4 = 0xFFFF then (s, true) else meterFrame (c 4) id s with
          | (s, true) => (bump (Ctr.sfPassed h) s, true)
          | (s, false) => (bump (Ctr.sfMeterDrop h) s, false)

/-! ### FRER encodings (R358) -/

/-- lsdu_size of a frame (log entry 20): its bytes before the FCS behind addresses, recognised tags and EtherType. -/
def lsduOf (tags : Nat) (b : List Byte) : Nat := b.length - 14 - 4 * tags

/-- Whether an lsdu_size fits a frame; a frame at the minimum length may carry padding. -/
def lsduFits (tags size : Nat) (b : List Byte) : Bool :=
  size == lsduOf tags b % 4096 || (decide (b.length ≤ 60) && decide (size ≤ lsduOf tags b))

/-- Recognised tags in front of an R-TAG or HSR tag: at most two (R358). -/
def frerTags (s : Sys) (port : Nat) (b : List Byte) : Nat := min 2 (tagsOf s port b).length

/-- The sequence number of a frame under a decode kind; none when it is tagless. -/
def decodeSeq (s : Sys) (f : Frame) (kind : Nat) : Option Nat :=
  let n := frerTags s f.orig f.bytes
  let off := 12 + 4 * n
  match kind with
  | 1 => if field f.bytes off 2 = 0xF1C1 then some (field f.bytes (off + 4) 2) else none
  | 2 => if field f.bytes off 2 = 0x892F then some (field f.bytes (off + 4) 2) else none
  | 3 =>
    let t := f.bytes.length - 6
    if f.ended ∧ field f.bytes (t + 4) 2 = 0x88FB ∧ lsduFits n (field f.bytes (t + 2) 2 % 4096) f.bytes then
      some (field f.bytes t 2) else none
  | _ => none

/-- An HSR tag whose lsdu_size does not match the frame (R358). -/
def hsrWrong (s : Sys) (f : Frame) : Bool :=
  let n := frerTags s f.orig f.bytes
  f.decodeKind == 2 && f.decoded.isSome && !lsduFits n (field f.bytes (12 + 4 * n + 2) 2 % 4096) f.bytes

/-! ### Recovery (R363 to R369) -/

def rcvy (s : Sys) (fn : Nat) : Rcvy := SMap.get {} s.rcvy fn
def setRcvy (fn : Nat) (v : Rcvy) (s : Sys) : Sys := { s with rcvy := SMap.set {} s.rcvy fn v }

/-- A reset of the function and of its individual states (R368). -/
def rcvyReset (fn : Nat) (s : Sys) : Sys :=
  raise 0x0805 0 (u16b fn) (bump (Ctr.frerResets fn)
    (setRcvy fn { (rcvy s fn) with takeAny := true, indiv := [], lastPass := none, lastReset := dc s } s))

/-- Zeros that shifting the history left by `d` moves out (R364). -/
def shiftedOut (hist h d : Nat) : Nat :=
  ((List.range (min d hist)).filter (fun i => !bit h (hist - 1 - i))).length

/-- The vector algorithm on one number (R364): the state after it, and whether it passes. -/
def vectorStep (fn hist n : Nat) (v : Rcvy) (s : Sys) : Sys × Rcvy × Bool :=
  if v.takeAny then (s, { v with recov := n, hist := 2 ^ hist - 1, takeAny := false }, true)
  else
    let up := (n + 65536 - v.recov) % 65536
    if up < 32768 then
      if up ≥ hist then (bump (Ctr.frerRogue fn) s, v, false)
      else if up = 0 then
        if bit v.hist 0 then (bump (Ctr.frerDiscarded fn) s, { v with x := v.x + 1 }, false)
        else (bump (Ctr.frerOutOfOrder fn) s, { v with hist := setBit v.hist 0 true }, true)
      else
        (bumpBy (Ctr.frerLost fn) (shiftedOut hist v.hist up) s,
          { v with recov := n, hist := setBit (v.hist * 2 ^ up % 2 ^ hist) 0 true }, true)
    else
      let down := 65536 - up
      if down ≥ hist then (bump (Ctr.frerRogue fn) s, v, false)
      else if bit v.hist down then (bump (Ctr.frerDiscarded fn) s, { v with x := v.x + 1 }, false)
      else (bump (Ctr.frerOutOfOrder fn) s, { v with hist := setBit v.hist down true }, true)

/-- The match algorithm (R365). -/
def matchStep (fn n : Nat) (v : Rcvy) (s : Sys) : Sys × Rcvy × Bool :=
  if v.takeAny then (s, { v with recov := n, takeAny := false }, true)
  else if n = v.recov then (bump (Ctr.frerDiscarded fn) s, { v with x := v.x + 1 }, false)
  else (bumpIf (n != (v.recov + 1) % 65536) (Ctr.frerOutOfOrder fn) s, { v with recov := n }, true)

/-- Individual recovery of a frame from a listed port (R366): whether it goes on. -/
def individual (fn port n : Nat) (v : Rcvy) (s : Sys) : Sys × Rcvy × Bool :=
  let m := SMap.get {} v.indiv port
  let put (m : MatchState) : Rcvy := { v with indiv := SMap.set {} v.indiv port m }
  if m.takeAny then (s, put { recov := n, takeAny := false }, true)
  else if n = m.recov then (bump (Ctr.frerIndivDiscard fn) s, v, false)
  else (bumpIf (n != (m.recov + 1) % 65536) (Ctr.frerOutOfOrder fn) s, put { m with recov := n }, true)

/-- Recovery of frame `id` by function `fn`: whether it passes. -/
def recover (fn id : Nat) (s : Sys) : Sys × Bool :=
  let c := cell s 0x6400 5 fn
  if c 0 = 0 then (s, true)
  else
    let f := frame s id
    match f.decoded with
    | none =>
      let s := bump (Ctr.frerTagless fn) s
      if c 4 = 1 then (bump (Ctr.frerPassed fn) (setRcvy fn { (rcvy s fn) with p := (rcvy s fn).p + 1 } s), true) else (s, false)
    | some n =>
      let v := rcvy s fn
      let listed := c 6 == 1 && (List.range 4).any (fun i => c (7 + i) == f.orig)
      let (s, v, on) := if listed then individual fn f.orig n v s else (s, v, true)
      if !on then (setRcvy fn v s, false)
      else
        let (s, v, pass) := if c 1 = 0 then vectorStep fn (c 2) n v s else matchStep fn n v s
        if pass then
          (bumpIf f.bad (Ctr.frerPassedBad fn) (bump (Ctr.frerPassed fn)
            (setRcvy fn { v with p := v.p + 1, lastPass := some s.now, resetMs := c 3 } (updFrame id (fun f => { f with rcvyFn := some fn }) s))), true)
        else (setRcvy fn v s, false)

/-- FRER_RECOVERY_TIMEOUT (R368). -/
def recoveryTimeoutEffect (fn : Nat) (s : Sys) : Sys :=
  match (rcvy s fn).lastPass with
  | some t => if cellB s 0x6400 5 fn 0 ∧ t + (rcvy s fn).resetMs * Config.ticksPerMs ≤ s.now then rcvyReset fn s else s
  | none => s

/-- FRER_LATENT_TEST (R369). -/
def latentTestEffect (fn : Nat) (s : Sys) : Sys :=
  let c := cell s 0x6400 5 fn
  if c 0 = 0 ∨ c 11 = 0 then s
  else
    let v := rcvy s fn
    if v.p * (c 12 - 1) > c 13 + v.x then
      let s' := bump (Ctr.frerLatentError fn) (setRcvy fn { v with latent := true } s)
      if v.latent then s' else raise 0x0804 2 (u16b fn) s'
    else setRcvy fn { v with latent := false } s

/-- FRER_LATENT_PERIOD_RESET (R369). -/
def latentPeriodEffect (fn : Nat) (s : Sys) : Sys :=
  if cellB s 0x6400 5 fn 0 ∧ cellB s 0x6400 5 fn 11 then setRcvy fn { (rcvy s fn) with p := 0, x := 0 } s else s

/-! ### Generation (R360, R361) -/

/-- Sequence generation of frame `id` by function `fn`. -/
def generate (fn id : Nat) (s : Sys) : Sys :=
  let c := cell s 0x6400 2 fn
  if c 0 = 0 then s
  else
    let f := frame s id
    let n := match f.decoded with
      | some d => if c 2 = 1 then d else SMap.get 0 s.genSeq fn
      | none => SMap.get 0 s.genSeq fn
    bump (Ctr.frerGenSeq fn) (updFrame id (fun f => { f with genFn := some fn, genSeq := n })
      { s with genSeq := SMap.set 0 s.genSeq fn ((n + 1) % 65536) })

end Sys2Proof.Machine
end

