-- ==== Sys2Proof/Machine/Edit.lean ====
section
/-! DEFINITION. Egress edits: tags, routing rewrites, tunnels, FRER tags, the host header and mirror encapsulation (R147, R191,
R212, R217, R359, R460), and what follows from them for a copy's length (R121, R327). -/

namespace Sys2Proof.Machine

/-- Replace bytes at an offset. -/
def patch (b : List Byte) (off : Nat) (p : List Byte) : List Byte := b.take off ++ p ++ b.drop (off + p.length)

/-- Insert bytes at an offset. -/
def insertAt (b : List Byte) (off : Nat) (p : List Byte) : List Byte := b.take off ++ p ++ b.drop off

/-- Remove `n` bytes at an offset. -/
def removeAt (b : List Byte) (off n : Nat) : List Byte := b.take off ++ b.drop (off + n)

/-- Fold a sum to 16 bits, ones' complement. -/
def fold16 (x : Nat) : Nat := iter (fun v => v % 65536 + v / 65536) 3 x

/-- The Internet checksum of a header. -/
def ipSum : List Byte → Nat
  | a :: b :: l => a.toNat * 256 + b.toNat + ipSum l
  | [a] => a.toNat * 256
  | [] => 0
def ipChecksum (b : List Byte) : Nat := 65535 - fold16 (ipSum b)

/-- TTL or hop limit down by one, and the IPv4 checksum updated incrementally (R212). -/
def decTtl (v6 : Bool) (off : Nat) (b : List Byte) : List Byte :=
  if v6 then patch b (off + 7) (u8b (byteAt b (off + 7) - 1))
  else
    let old := field b (off + 8) 2
    let new := old - 256
    let sum := fold16 ((65535 - field b (off + 10) 2) + (65535 - old) + new)
    patch (patch b (off + 8) (u16b new)) (off + 10) (u16b (65535 - sum))

/-- The PCP of an outer tag (R191): the received one, or the traffic class of a frame received untagged. -/
def pcpOf (s : Sys) (f : Frame) (r : Rec) : Nat :=
  match (tagsOf s f.orig f.bytes).head? with
  | some (_, tci) => bits tci 15 13
  | none => r.tc

/-- The outer tag of R191 for a VLAN on a port. -/
def tagFor (s : Sys) (f : Frame) (r : Rec) (vid egress : Nat) (b : List Byte) : List Byte :=
  let had := (tagsOf s f.orig f.bytes).head?
  let strip := bit (cell s 0x4010 1 vid 1) egress
  let tag := u16b 0x8100 ++ u16b (pcpOf s f r * 8192 + vid)
  match had with
  | some _ => if strip then removeAt b 12 4 else patch b 12 tag
  | none => if strip then b else insertAt b 12 tag

/-- The VID of the outer tag of a copy (R191): that of the underlay for an encapsulated one (R217). -/
def outerVid (s : Sys) (f : Frame) (r : Rec) : Nat :=
  if r.routed && r.nextHop != 0xFFFF && !f.knaing && r.encap then cell s 0x4900 1 (cell s 0x4C00 1 (cell s 0x4900 1 r.nextHop 5) 5) 2 else r.vidOut

/-- The first IP header of the walk: whether IPv6, and its offset. -/
def ipOf (f : Frame) : Option (Bool × Nat) :=
  ((f.parsed.getD {}).hdrs.find? (fun h => h.kind == 3 || h.kind == 4)).map (fun h => (h.kind == 4, h.off))

/-- The outer headers of template `t` over `payload` bytes: IP on, and whether the payload keeps its Ethernet header (R217).
`proto` is the GRE protocol type and the IP-in-IP next protocol; the flow label, ECN and UDP checksum are 0 (log entry 21). -/
def tunnelHeaders (s : Sys) (t dscp hash gre ipProto : Nat) (payload : List Byte) : List Byte :=
  let c := cell s 0x4C00 1 t
  let v6 := c 0 % 2 = 0
  let inner : List Byte × Nat :=
    match (c 0 + 1) / 2 with
    | 1 => (u16b (0xC000 + hash % 0x4000) ++ u16b 4789 ++ u16b (payload.length + 16) ++ u16b 0
        ++ u32b 0x08000000 ++ toBE 3 (c 3) ++ u8b 0 ++ payload, 17)
    | 2 => if c 3 = 0 then (u16b 0 ++ u16b gre ++ payload, 47) else (u16b 0x2000 ++ u16b gre ++ u32b (c 3) ++ payload, 47)
    | _ => (payload, ipProto)
  if v6 then
    u32b (6 * 2 ^ 28 + dscp * 4 * 2 ^ 20) ++ u16b inner.1.length ++ u8b inner.2 ++ u8b (c 4) ++ toBE 16 (c 1) ++ toBE 16 (c 2) ++ inner.1
  else
    let head := u8b 0x45 ++ u8b (dscp * 4) ++ u16b (inner.1.length + 20) ++ u16b 0 ++ u16b 0x4000 ++ u8b (c 4) ++ u8b inner.2
    let tail := toBE 4 (c 1) ++ toBE 4 (c 2)
    head ++ u16b (ipChecksum (head ++ u16b 0 ++ tail)) ++ tail ++ inner.1

/-- A frame encapsulated by template `t`, its outer Ethernet header from the underlay next hop and tagged for `egress`. -/
def encapsulate (s : Sys) (t egress pcp dscp hash gre ipProto : Nat) (payload : List Byte) : List Byte :=
  let nh := cell s 0x4900 1 (cell s 0x4C00 1 t 5)
  let v6 := cell s 0x4C00 1 t 0 % 2 = 0
  let tag := if bit (cell s 0x4010 1 (nh 2) 1) egress then [] else u16b 0x8100 ++ u16b (pcp * 8192 + nh 2)
  toBE 6 (nh 1) ++ toBE 6 (obj s 0x4020 1) ++ tag ++ u16b (if v6 then 0x86DD else 0x0800)
    ++ tunnelHeaders s t dscp hash gre ipProto payload

/-- The rewrites of R212 and R217 and the tag of R191, on the bytes received so far. A frame that came over the Knaing link was
rewritten by the device that decided it (log entry 26). -/
def forwardEdit (s : Sys) (f : Frame) (r : Rec) (egress : Nat) : List Byte :=
  if r.routed && r.nextHop != 0xFFFF && !f.knaing then
    let nh := cell s 0x4900 1 r.nextHop
    let ip := (ipOf f).getD (false, 14)
    let b := if r.ttlDec then decTtl ip.1 ip.2 f.bytes else f.bytes
    let b := if r.action = 3 then patch b 6 (toBE 6 (obj s 0x4020 1)) else patch b 0 (toBE 6 (nh 1) ++ toBE 6 (obj s 0x4020 1))
    if r.encap then
      let t := nh 5
      let dscp := (if ip.1 then (byteAt f.bytes ip.2 % 16 * 16 + byteAt f.bytes (ip.2 + 1) / 16) else byteAt f.bytes (ip.2 + 1)) / 4
      let payload := if (cell s 0x4C00 1 t 0 + 1) / 2 = 1 then b else
        (b.drop ip.2).take (if ip.1 then field b (ip.2 + 4) 2 + 40 else field b (ip.2 + 2) 2)
      encapsulate s t egress (pcpOf s f r) dscp ((f.parsed.getD {}).h16.getD 0 0) (if ip.1 then 0x86DD else 0x0800) (if ip.1 then 41 else 4) payload
    else tagFor s f r r.vidOut egress b
  else tagFor s f r r.vidOut egress f.bytes

/-- A frame without the tag or trailer that was decoded on it, where the transmit edit removes it (R359). -/
def untagged (s : Sys) (f : Frame) : Frame :=
  if f.decoded.isNone ∨ !(f.pop || f.genFn.isSome) then f
  else if f.decodeKind = 3 then { f with bytes := f.bytes.take (f.bytes.length - 6) }
  else
    let off := 12 + 4 * frerTags s f.orig f.bytes
    { f with bytes := removeAt f.bytes off 6,
             parsed := f.parsed.map (fun p => { p with hdrs := p.hdrs.map (fun h => if off < h.off then { h with off := h.off - 6 } else h) }) }

/-- Insert the tag that a generation function names (R359): behind the outer tag of R191, of which a copy has `tags`, or as a trailer. -/
def frerTag (s : Sys) (f : Frame) (egress pathId tags : Nat) (b : List Byte) : List Byte :=
  let off := 12 + 4 * tags
  if f.genFn.isNone then b
  else match f.encode with
    | 1 => insertAt b off (u16b 0xF1C1 ++ u16b 0 ++ u16b f.genSeq)
    | 2 => insertAt b off (u16b 0x892F ++ u16b (pathId * 4096 + (lsduOf tags b + 6) % 4096) ++ u16b f.genSeq)
    | _ =>
      let b := b ++ List.replicate (60 - b.length) 0
      b ++ u16b f.genSeq ++ u16b (pathId * 4096 + (lsduOf (frerTags s egress b) b + 6) % 4096) ++ u16b 0x88FB

/-- What a forwarded copy sends through `egress`: its decoded tag removed, its rewrites, and the tag of its generation function (R359). -/
def forwarded (s v : Sys) (f : Frame) (r : Rec) (egress pathId : Nat) : List Byte :=
  let g := untagged s f
  frerTag s f egress pathId (boolNat (!bit (cell v 0x4010 1 (outerVid v f r) 1) egress)) (forwardEdit v g r egress)

/-- The port a host frame leaves by (R146). -/
def hostExit (s : Sys) : Nat := obj s 0x1927 1

/-- The receive stamp on DC, one bit behind the reference point and less TS_RX_COMP (R301, R302). -/
def rxStamp (s : Sys) (f : Frame) : Nat :=
  let comp := objI s (pix f.port 0x0B) 1
  (((stampOf s (dcAt s (f.sfd + bitTicks 1 (port s f.port).speed)) : Nat) : Int) - comp * 65536 / 1000).toNat

/-- The host frame without its FCS, and whether it was cut (R147). -/
def hostBytes (s : Sys) (c : Copy) (f : Frame) (reason row : Nat) : List Byte × Bool :=
  let limit := maxFrame s (hostExit s) - 4
  let cut := decide (f.bytes.length + 28 > limit)
  let stamp := rxStamp s f
  let q := c.queue - 584
  let qi := if reason = 3 then c.sel.tc * 32 + c.sel.colour * 8 + q % 8 else q % 8
  let head := toBE 6 (obj s 0x1927 4) ++ toBE 6 (obj s 0x0300 2) ++ u16b (obj s 0x1927 2) ++ u8b 1
    ++ u8b (boolNat cut * 128 + boolNat (f.bad || c.stomped) * 64) ++ u8b reason ++ u8b f.orig
    ++ u8b (if reason = 3 then 0xFF else row) ++ u8b qi ++ u32b (stamp / secUnits % 2 ^ 32) ++ u32b (stamp % secUnits / nsUnits)
  ((head ++ f.bytes).take limit, cut)

/-- A mirror copy after its cut and its encapsulation (R458, R460). -/
def mirrorBytes (s : Sys) (i : Nat) (b : List Byte) : List Byte :=
  let m := cell s 0x7800 1 i
  let b := if m 8 = 0 then b else b.take (m 8)
  match m 10 with
  | 1 => insertAt b 12 (u16b 0x8100 ++ u16b (m 7 * 8192 + m 11))
  | 2 => encapsulate s (m 12) (m 6) (m 7) 0 0 0x6558 0 b
  | _ => b

/-- What a copy sends, without FCS: its bytes as far as they arrived. -/
def egressBytes (s : Sys) (c : Copy) : List Byte :=
  let f := frame s c.frame
  let v := asOf s f.gen
  let forward (p : Nat) (path : Option Nat) : List Byte :=
    match f.com with
    | some r => if p = 75 then f.bytes else forwarded s v f r p (path.getD 0)
    | none => f.bytes
  let source : List Byte := match c.body, c.of_ with
    | some b, _ => b
    | none, some (_, p, path) => forward p path
    | none, none => f.bytes
  match c.kind with
  | .host reason row => (hostBytes s c f reason row).1
  | .mirror i => mirrorBytes s i source
  | .recorder _ _ => source
  | .steward _ => source
  | .replay => source
  | .path id => forward c.port (some id)
  | .plain => match c.body with
    | some b => b
    | none => forward c.port none

/-- Whether all of a copy's bytes are known. -/
def copyWhole (s : Sys) (c : Copy) : Bool := c.body.isSome || (frame s c.frame).ended

/-- L', the length on the wire with FCS (R327): padded to 64; the ingress MAX_FRAME while unknown. -/
def wireLen (s : Sys) (c : Copy) : Nat :=
  if copyWhole s c then max 64 ((egressBytes s c).length + 4) else maxFrame s (frame s c.frame).port

/-- The port whose MAC sends a copy: the exit port for host frames. -/
def txPort (s : Sys) (p : Nat) : Nat := if p = 73 then hostExit s else p

/-- W, with preamble, delimiter and gap, or with the Knaing framing (R327). -/
def wireW (s : Sys) (p l : Nat) : Nat :=
  if isKng s p then l + 64 + 2 * ((l + 64 + 121) / 122)
  else l + 8 + (if 64 ≤ p ∧ p ≤ 71 then obj s (pix p 3) 3 / 8 else 12)

/-- The Knaing link's payload capacity in Mb/s at a width, with the expected stuffing of Table LAN-9's example (R150, log
entry 22). -/
def kngCapacity (width : Nat) : Nat :=
  if width = 0 then 0 else (28125 * width * 9999981 / 10000000 - 1000) * 992 / 1024

/-- The port's rate in Mb/s (R327). -/
def portRate (s : Sys) (p : Nat) : Nat := linkSpeed s p

end Sys2Proof.Machine
end

