-- ==== Sys2Proof/Machine/Fabric.lean ====
section
/-! DEFINITION. Buffer pools, back-pressure, enqueue tests, the crossbar and the fates of copies (chapter 09, R117, R139,
R320 to R325). -/

namespace Sys2Proof.Machine

/-! ### Pools (R275 to R282) -/

def pool (s : Sys) (k : Nat) : Pool := match k with | 0 => s.pool0 | 1 => s.pool1 | _ => s.pool2
def setPool (k : Nat) (p : Pool) (s : Sys) : Sys :=
  match k with | 0 => { s with pool0 := p } | 1 => { s with pool1 := p } | _ => { s with pool2 := p }

/-- Units of a buffer of pool `k`, and the first unit of buffer `b` (R275). -/
def unitsPer (k : Nat) : Nat := match k with | 0 => 1 | 1 => 4 | _ => 20
def poolBase (s : Sys) (k : Nat) : Nat :=
  match k with | 0 => 0 | 1 => s.pool0.buffers | _ => s.pool0.buffers + 4 * s.pool1.buffers
def unitOf (s : Sys) (k b : Nat) : Nat := poolBase s k + unitsPer k * b

/-- A pool of `n` buffers, all free, threaded as a rebuild threads them (R280, log entry 23). -/
def freshPool (n : Nat) : Pool :=
  { buffers := n, fresh := n / 121, fill := (List.range (n % 121)).map (fun i => 121 * (n / 121) + i) }

/-- The shared part, and the percentage thresholds (R281, R282). -/
def sharedPart (s : Sys) (k : Nat) : Nat := (pool s k).buffers - (pool s k).buffers * cell s 0x0680 1 k 1 / 100

/-- The level that occupancy gives, with hysteresis on the way down (R282). -/
def levelOf (s : Sys) (k : Nat) : Nat :=
  let p := pool s k
  let part := sharedPart s k
  let at_ (l less : Nat) : Bool := decide ((cell s 0x0680 1 k (1 + l) - less) * part ≤ p.shared * 100)
  if p.buffers = 0 ∨ part = 0 then 0
  else
    let up := if at_ 3 0 then 3 else if at_ 2 0 then 2 else if at_ 1 0 then 1 else 0
    let hyst := cell s 0x0680 1 k 5
    let stay := ((List.range 4).filter (fun l => decide (l = 0 ∨ (l ≤ p.level ∧ at_ l hyst = true)))).foldl max 0
    max up stay

/-- Take the new level, with its counter and event. -/
def relevel (k : Nat) (s : Sys) : Sys :=
  let p := pool s k
  let l := levelOf s k
  let s' := setPool k { p with level := l } s
  if l > p.level then raise 0x0607 1 (u8b k ++ u8b l) (bump (Ctr.poolLevelRise k) s')
  else if l = 0 ∧ p.level ≠ 0 then raise 0x0607 1 (u8b k ++ u8b 0) s'
  else s'

/-- The next link block: the newest written one, or one that start-up threaded. -/
def nextBlock (p : Pool) : Option ((Nat × List Nat) × Pool) :=
  match p.chain with
  | b :: l => some (b, { p with chain := l })
  | [] => if p.fresh = 0 then none
    else some ((121 * (p.fresh - 1) + 120, (List.range 120).map (fun i => 121 * (p.fresh - 1) + i)), { p with fresh := p.fresh - 1 })

/-- Take the last entry of a list. -/
def popLast (l : List Nat) : Option (Nat × List Nat) := l.getLast?.map (fun x => (x, l.dropLast))

/-- One allocation from the free list (R278): head block, its holder, then the fill block when no block is left. -/
def takeFree (p : Pool) : Option (Nat × Pool) :=
  match p.head with
  | some (h, es) => match popLast es with
    | some (x, r) => some (x, { p with head := some (h, r) })
    | none => some (h, { p with head := none })
  | none => match nextBlock p with
    | some ((h, es), p) => match popLast es with
      | some (x, r) => some (x, { p with head := some (h, r) })
      | none => some (h, p)
    | none => (popLast p.fill).map (fun x => (x.1, { p with fill := x.2 }))

/-- A link block (Table FAB-4). -/
def linkBlock (k self : Nat) (next : Option Nat) (entries : List Nat) : List Byte :=
  let head := u8b 0xA5 ++ u8b k ++ u8b entries.length ++ u8b (if next.isNone then 0x80 else 0) ++ u32b self ++ u32b (next.getD 0)
  let body := padRight 480 ((entries.map u32b).flatten)
  head ++ u32b (crc32c (head ++ body)) ++ body ++ List.replicate 16 0

/-- The holder of the newest block of a chain. -/
def chainHead (p : Pool) : Option Nat :=
  match p.chain with
  | b :: _ => some b.1
  | [] => if p.fresh = 0 then none else some (121 * (p.fresh - 1) + 120)

/-- Whether the next link block reads as uncorrectable, or as something else than a link block (R279). -/
def linkLost (s : Sys) (k : Nat) : Bool :=
  match (pool s k).head, chainHead (pool s k) with
  | none, some h => s.poison.contains (unitOf s k h) || s.mem.spoiled.contains (unitOf s k h)
  | _, _ => false

/-- Thread a freed buffer (R278): into the fill block, or as the holder of a full one. -/
def threadFree (b : Nat) (p : Pool) : Pool :=
  if p.fill.length ≥ 120 then { p with chain := (b, p.fill) :: p.chain, fill := [] }
  else { p with fill := p.fill ++ [b] }

/-- Start a rebuild of pool `k`: its chain and its on-die blocks are discarded (R280). -/
def startRebuild (k : Nat) (s : Sys) : Sys :=
  setPool k { pool s k with head := none, chain := [], fresh := 0, fill := [], rebuild := some s.now, scanned := 0 } s

/-- Buffers of pool `k` that a rebuild has passed by now: 64 units a BPM cycle of 1.25 ns, by its divider. -/
def scanPoint (s : Sys) (k : Nat) : Nat :=
  match (pool s k).rebuild with
  | none => (pool s k).buffers
  | some t0 => min (pool s k).buffers (64 * ((s.now - t0) * 16 / (25 * 2 ^ min 2 (bits s.nrg.form.clocks 3 2))) / unitsPer k)

/-- The scan goes on to buffer `n`, threading every buffer whose owner code is 0. While all of them are, the blocks are those of a
fresh pool. -/
def scanTo (n : Nat) (p : Pool) : Pool :=
  if p.rebuild.isNone ∨ n ≤ p.scanned then p
  else if p.head.isNone ∧ p.chain.isEmpty ∧ p.owner.all (fun e => e.2 == 0 || decide (n ≤ e.1))
      ∧ p.fresh = p.scanned / 121 ∧ p.fill.length = p.scanned % 121 then
    { p with fresh := n / 121, fill := (freshPool n).fill, scanned := n }
  else
    { (((List.range (n - p.scanned)).map (p.scanned + ·)).filter (fun i => SMap.get 0 p.owner i == 0)).foldl (fun p b => threadFree b p) p
        with scanned := n }

/-- The scan of a rebuild of pool `k` up to the present tick. -/
def scanNow (k : Nat) (s : Sys) : Sys := setPool k (scanTo (scanPoint s k) (pool s k)) s

/-- Take a buffer of pool `k`, skipping quarantined entries; an entry in use is a lost link (R279). -/
def takeBuffer (k : Nat) : Nat → Sys → Option Nat × Sys
  | 0, s => (none, s)
  | n + 1, s =>
    if linkLost s k then takeBuffer k n (startRebuild k (bump Ctr.bpmLinkLost s))
    else match takeFree (pool s k) with
    | none => (none, s)
    | some (b, p) =>
      match SMap.get 0 p.owner b with
      | 0 => (some b, setPool k { p with owner := SMap.set 0 p.owner b 0xB } s)
      | 0xC => takeBuffer k n (bump (Ctr.poolSkipQuarantined k) (setPool k p s))
      | _ => takeBuffer k n (startRebuild k (bump Ctr.bpmLinkLost s))

/-- The smallest pool that fits a length (R274). -/
def poolFor (len : Nat) : Nat := if len ≤ 512 then 0 else if len ≤ 2048 then 1 else 2

/-- Admission (R281): the part a copy may take from, or the counter of its refusal. -/
def admission (s : Sys) (k tc colour : Nat) : Except Nat Bool :=
  let p := pool s k
  if protects s tc then
    if p.reserve < p.buffers - sharedPart s k then .ok true
    else if p.level < 3 then .ok false
    else .error (Ctr.poolProtDrop k)
  else if p.level = 3 then .error (Ctr.poolDrop k)
  else if p.level = 2 ∧ colour ≠ 0 then .error (Ctr.poolAdmitDrop k)
  else .ok false

/-- The charge of a source port and class for back-pressure (R283). -/
def chargeKey (port tc : Nat) : Nat := port * 8 + tc

/-- Allocate a buffer for a copy of `len` bytes: pool and buffer, or the counter of the refusal. During a rebuild a larger
pool serves (R280). -/
def allocate (len tc colour src : Nat) (s : Sys) : Except Nat (Nat × Nat) × Sys :=
  let k := poolFor len
  match admission s k tc colour with
  | .error c => (.error c, s)
  | .ok res =>
    let r := ([k, k + 1, k + 2].filter (· ≤ 2)).foldl (fun (a : Option (Nat × Nat) × Sys) j =>
      match a.1 with
      | some _ => a
      | none =>
        if j ≠ k ∧ (pool a.2 k).rebuild.isNone then a
        else match takeBuffer j 4096 (scanNow j a.2) with
        | (some b, s) => (some (j, b), s)
        | (none, s) => (none, s)) (none, s)
    match r with
    | (none, s) => (.error (Ctr.poolEmptyDrop k), s)
    | (some (j, b), s) =>
      let p := pool s j
      let key := chargeKey src tc
      let p := { p with part := SMap.set false p.part b res, shared := if res then p.shared else p.shared + 1,
                        reserve := if res then p.reserve + 1 else p.reserve, charged := SMap.set 0 p.charged b (key + 1) }
      (.ok (j, b), relevel j { setPool j p s with charge := SMap.set 0 s.charge key (SMap.get 0 s.charge key + unitsPer j) })

/-- The charge and the reference-table entry of a buffer that is freed are given back (R283, R284). -/
def uncharge (k b tile : Nat) (s : Sys) : Sys :=
  let p := pool s k
  let key := SMap.get 0 p.charged b
  let s := if SMap.get false p.counted b then { s with refs := SMap.set 0 s.refs tile (SMap.get 0 s.refs tile - 1) } else s
  let s := if key = 0 then s else { s with charge := SMap.set 0 s.charge (key - 1) (SMap.get 0 s.charge (key - 1) - unitsPer k) }
  setPool k { p with charged := SMap.set 0 p.charged b 0, counted := SMap.set false p.counted b false } s

/-- A free of a buffer by an agent (R277): agents are tiles 0 to 8, and 9 for the BPM. During a rebuild a buffer that the scan has not
reached is left to it (R280). -/
def freeBuffer (k b agent : Nat) (s : Sys) : Sys × Bool :=
  let s := scanNow k s
  let p := pool s k
  let code := SMap.get 0 p.owner b
  let own := if agent = 9 then 0xB else 1 + agent
  if p.buffers ≤ b then
    (raise 0x0605 2 (u8b k ++ u32b b ++ u8b 0xE) (bump Ctr.bpmBadFree s), false)
  else if code ≠ own then
    (raise 0x0605 2 (u8b k ++ u32b b ++ u8b own) (bump Ctr.bpmBadFree s), false)
  else
    let first := unitOf s k b
    let bad := (List.range (unitsPer k)).any (fun i => s.poison.contains (first + i))
    let res := SMap.get false p.part b
    let p := { p with owner := SMap.set 0 p.owner b (if bad then 0xC else 0), part := SMap.set false p.part b false,
                      shared := if res then p.shared else p.shared - 1, reserve := if res then p.reserve - 1 else p.reserve }
    let left := p.rebuild.isSome && decide (p.scanned ≤ b)
    let s := if !bad ∧ !left ∧ p.fill.length ≥ 120 then { s with wq := s.wq ++ [(first, linkBlock k b (chainHead p) p.fill)] } else s
    (uncharge k b (code - 1) (relevel k (setPool k (if bad || left then p else threadFree b p) s)), true)

/-- BUFFER_FREE (R277). -/
def bufferFreeEffect (k b agent : Nat) (s : Sys) : Sys := (freeBuffer k b agent s).1

/-- POOL_REBUILD_DONE (R280): the duration is in microseconds. -/
def rebuildDoneEffect (k : Nat) (s : Sys) : Sys :=
  match (pool s k).rebuild with
  | none => s
  | some t0 =>
    raise 0x0606 2 (u8b k ++ u32b ((s.now - t0) / Config.ticksPerUs))
      (bump (Ctr.poolRebuild k) (setPool k { scanTo (pool s k).buffers (pool s k) with rebuild := none } s))

/-! ### Back-pressure (R283, R131) -/

/-- The classes of port `p` under back-pressure (R283). -/
def backPressure (s : Sys) (p : Nat) : Nat :=
  let unprot := 255 - obj s 0x0540 1
  let deep := s.pool0.level ≥ 2 ∨ s.pool1.level ≥ 2 ∨ s.pool2.level ≥ 2
  let min_ := obj s 0x0680 3
  let byPool := if deep then orAll ((List.range 8).map (fun c => if SMap.get 0 s.charge (chargeKey p c) ≥ min_ then 2 ^ c else 0)) else 0
  let byStage := if stagingUsed s (tileOf p) * 2 > stagingBytes then 255 else 0
  (byPool ||| byStage) &&& unprot

/-- The PAUSE or PFC frame of R131 for a set of classes; quanta 0 releases `gone`. -/
def fcFrame (s : Sys) (p on gone : Nat) : List Byte :=
  let q := obj s (pix p 2) 4
  let head := toBE 6 0x0180C2000001 ++ toBE 6 (obj s 0x0300 2) ++ u16b 0x8808
  let b := if obj s (pix p 2) 3 = 1 then head ++ u16b 1 ++ u16b (if on = 0 then 0 else q)
    else head ++ u16b 0x0101 ++ u16b (on ||| gone)
      ++ ((List.range 8).map (fun c => u16b (if bit on c then q else 0))).flatten
  b ++ List.replicate (60 - b.length) 0

/-- FC_REFRESH in ticks; 0 stands for half the time of FC_QUANTA at the port's speed. -/
def fcRefresh (s : Sys) (p : Nat) : Nat :=
  let r := obj s (pix p 2) 5
  if r = 0 then bitTicks (obj s (pix p 2) 4 * 512) (linkSpeed s p) / 2 else r * Config.ticksPerUs

/-- Whether a port sends PAUSE or PFC frames: FC_TX is set, its MAC runs, its link is up in full duplex (R117, R131, R132, R150). -/
def fcSends (s : Sys) (p : Nat) : Bool :=
  obj s (pix p 2) 3 != 0 && admin s p && (port s p).linkUp && !(port s p).half && !isKng s p

/-- Whether the last frame sent tells the partner the present back-pressure: a PAUSE frame names no class. -/
def fcTold (s : Sys) (p now sent : Nat) : Bool :=
  if obj s (pix p 2) 3 = 1 then (now != 0) == (sent != 0) else now == sent

/-- Bring one port's back-pressure up to date, with the frame that it asks for: when it begins, changes or ends, and while it lasts
when the port begins to send such frames (R131). -/
def fcUpdate (p : Nat) (s : Sys) : Sys :=
  let q := port s p
  let now := backPressure s p
  if !fcSends s p then (if q.bp = now ∧ q.fcSent = 0 then s else updPort p (fun q => { q with bp := now, fcSent := 0 }) s)
  else if fcTold s p now q.fcSent then (if q.bp = now ∧ q.fcSent = now then s else updPort p (fun q => { q with bp := now, fcSent := now }) s)
  else updPort p (fun q => { q with bp := now, macCtl := q.macCtl ++ [fcFrame s p now (q.fcSent &&& (255 - now))], fcAt := s.now,
                                    fcSent := now }) s

/-- No port asserts back-pressure and none has reason to: no pool is low and staging is at most half full. -/
def calm (s : Sys) : Bool :=
  decide (s.pool0.level < 2 ∧ s.pool1.level < 2 ∧ s.pool2.level < 2)
    && decide (((allFrames s).map (fun x => x.2.bytes.length)).foldl (· + ·) 0 * 2 ≤ stagingBytes) && s.ports.all (fun e => e.2.bp == 0)

/-- The ports whose back-pressure may have changed. -/
def fcAll (s : Sys) : Sys := if calm s then s else loop fcUpdate 0 73 s

/-- FC_REFRESH_EXPIRY (R131): the frame again while back-pressure lasts. -/
def fcRefreshEffect (p : Nat) (s : Sys) : Sys :=
  let q := port s p
  if fcSends s p ∧ q.fcSent ≠ 0 ∧ q.fcAt + fcRefresh s p ≤ s.now then
    updPort p (fun q => { q with macCtl := q.macCtl ++ [fcFrame s p q.bp 0], fcAt := s.now, fcSent := q.bp }) s
  else s

/-! ### Leaving queues and tiles -/

/-- Copies that still need the express cells of a crossing. -/
def needsCells (s : Sys) (x : Nat) : Bool :=
  (allCopies s).any (fun c => c.2.xing == x && !(c.2.path == .deep && c.2.written))

/-- Free a crossing's cells once nothing needs them (R274). -/
def freeCells (x : Nat) (s : Sys) : Sys :=
  if x = 0 ∨ needsCells s x then s
  else
    let y := xing s x
    let s := if y.reserve then { s with expReserve := s.expReserve - y.cells } else { s with expShared := s.expShared - y.cells }
    setXing x { y with cells := 0 } s

/-- Whether bytes of a frame still wait for the crossbar or are on their way through it (R259, R260). -/
def crossingOpen (s : Sys) (id : Nat) : Bool :=
  s.xings.any (fun e => match e.2 with
    | some y => y.frame == id && (!y.done || s.xcells.any (fun q => q.2.any (fun c => c.parts.any (fun p => p.xing == e.1))))
    | none => false)

/-- Drop a frame nobody holds any more: all of it has arrived and crossed, and no copy and no steward queue names it. -/
def reap (id : Nat) (s : Sys) : Sys :=
  let f := frame s id
  let held := (allCopies s).any (fun c => c.2.frame == id) || s.sq.any (fun e => e.2.contains id)
    || s.ports.any (fun e => e.2.rx == some id) || crossingOpen s id
  if (f.stage = .committed ∨ f.stage = .injected ∨ f.stage = .steered) ∧ f.ended ∧ !f.waits ∧ !held then
    { delFrame id s with xings := s.xings.filter (fun e => match e.2 with | some y => y.frame != id | none => true) }
  else s

/-- A copy leaves for good: its place in the queue, its buffer, its cells. -/
def removeCopy (id : Nat) (s : Sys) : Sys :=
  let c := copy s id
  let s := setQueue c.queue ((queue s c.queue).filter (· != id)) { s with copies := SMap.set none s.copies id none }
  let s := if c.st = .crossing ∨ 73 ≤ txPort s c.port then s else updPort (txPort s c.port) (fun q => { q with idleSince := s.now }) s
  let s := match c.buffer with
    | none => s
    | some (k, b) =>
      if (allCopies s).any (fun x => x.2.buffer == c.buffer) then s
      else
        (freeBuffer k b (if c.written then c.tile else 9) s).1
  reap c.frame (freeCells c.xing s)

/-- Drop a copy with the counter of the reason. `mc`: one of several also counts in MC_COPY_DROP. A mirror copy counts in
MIRROR_DROP alone (R459), and a recorder copy in REC_OVERRUN_DROP (R461). -/
def dropAs (mc : Bool) (ctr id : Nat) (s : Sys) : Sys :=
  let c := copy s id
  let s := match c.kind with
    | .mirror i => bump (Ctr.mirrorDrop i) s
    | .recorder _ _ => recOverrun s
    | _ => bumpIf (mc && c.multi) (Ctr.mcCopyDrop c.port) (bump ctr s)
  removeCopy id s

/-- Drop a copy that cannot be taken, for one of the reasons of R285. -/
def dropCopy (ctr id : Nat) (s : Sys) : Sys := dropAs true ctr id s

/-! ### Queues (R320 to R323) -/

/-- Port and class of a queue. -/
def queuePort (s : Sys) (q : Nat) : Nat := if q < 608 then q / 8 else cell s 0x5400 1 q 0
def queueTc (s : Sys) (q : Nat) : Nat := if q < 608 then q % 8 else cell s 0x5400 1 q 1

/-- The queue of a copy (R172, R349): whether a fixed selection fell back. -/
def resolveQueue (s : Sys) (c : Copy) (ipv : Nat) : Nat × Bool :=
  let own := classQueue c.port (if ipv ≤ 7 then ipv else c.sel.tc)
  if c.sel.fixed then (if queuePort s c.sel.queue = c.port then (c.sel.queue, false) else (own, true)) else (own, false)

/-- The copies that have joined a queue: those that wait for their tail only have a place in it. -/
def joined (s : Sys) (q : Nat) : List Nat := (queue s q).filter (fun i => (copy s i).st != .waiting)

def occupancy (s : Sys) (q : Nat) : Nat := ((joined s q).map (fun i => (copy s i).counted)).foldl (· + ·) 0

/-- Express cells that a queue's copies hold (R270). -/
def queueCells (s : Sys) (q : Nat) : Nat :=
  ((joined s q).map (fun i => let c := copy s i; if c.path = .deep then 0 else c.cells)).foldl (· + ·) 0

/-- Whether a queue has a deep backlog: a deep copy that waits, is written or stored, or is being read (R271). -/
def deepBacklog (s : Sys) (q : Nat) : Bool :=
  (allCopies s).any (fun x => x.2.queue == q && x.2.path == .deep && x.2.st != .crossing && x.2.st != .waiting)

/-- The admission limit of a queue for a colour (Table EGR-2); none without a limit. -/
def colourLimit (s : Sys) (q colour : Nat) : Option Nat :=
  let c := cell s 0x5400 1 q
  if c 2 = 0 then none else some (match colour with | 0 => c 2 | 1 => c 2 * c 3 / 100 | _ => c 2 * c 4 / 100)

/-- Shared express cells: all but the reserve (R270). -/
def sharedCells (s : Sys) : Nat := 65536 - obj s 0x5000 4

/-- Whether the tests of R270 would put an auto queue in deep mode for a copy of `n` cells. -/
def wantsDeep (s : Sys) (q n : Nat) : Bool :=
  decide (queueCells s q + n > obj s 0x5000 2) || decide (s.expShared * 100 ≥ obj s 0x5000 3 * sharedCells s)

/-- The mode a copy of `n` cells meets in a queue, with the switch it causes (R269 to R271). -/
def modeFor (q n : Nat) (s : Sys) : Sys × Bool :=
  let deep := SMap.get false s.qdeep q
  let set (b : Bool) (s : Sys) : Sys := { s with qdeep := SMap.set false s.qdeep q b }
  match cell s 0x5000 1 (queueTc s q) 0 with
  | 1 => if deepBacklog s q then (set true s, true) else (set false s, false)
  | 2 => (set true s, true)
  | _ =>
    if deep then
      if !deepBacklog s q && !wantsDeep s q n then (bump (Ctr.fabToExpress q) (set false s), false) else (s, true)
    else if wantsDeep s q n then (bump (Ctr.fabToDeep q) (set true s), true)
    else (s, false)

/-- The class queues and stream queues of class `c` of port `p` that hold copies, in ascending number. -/
def classMembers (s : Sys) (p c : Nat) : List Nat := (s.queues.filter (fun e => queuePort s e.1 == p && queueTc s e.1 == c)).map (·.1)

/-- Whether a copy of class `c` waits for port `p`; the host queues wait for the exit port. -/
def classWaits (s : Sys) (p c : Nat) : Bool :=
  (classMembers s p c).any (fun q => !(joined s q).isEmpty)
    || (p == hostExit s && (classMembers s 73 c).any (fun q => !(joined s q).isEmpty))

/-! ### PLCA (R135) -/

/-- Whether PLCA runs on a port: enabled, with a node number, in mode 1. -/
def plcaOn (s : Sys) (p : Nat) : Bool :=
  decide (64 ≤ p ∧ p ≤ 71) && flag s (pix p 3) 4 && obj s (pix p 3) 5 != 255 && obj s (pix p 3) 1 == 1

/-- The next transmit opportunity; the coordinator ends a cycle of NODE_COUNT opportunities with a BEACON. -/
def plcaNext (p : Nat) (s : Sys) : Sys :=
  let q := port s p
  if obj s (pix p 3) 5 = 0 ∧ obj s (pix p 3) 6 ≤ q.plcaId + 1 then
    updPort p (fun q => { q with plca := 2, plcaId := 0, plcaBurst := 0, plcaAt := s.now, plcaTimer := s.now }) s
  else updPort p (fun q => { q with plcaId := min 255 (q.plcaId + 1), plcaBurst := 0, plcaTimer := s.now }) s

/-- PLCA starts when it is enabled and when the link comes up: the coordinator sends a BEACON, a follower waits for one. -/
def plcaStart (p : Nat) (s : Sys) : Sys :=
  if plcaOn s p ∧ (port s p).linkUp then
    updPort p (fun q => { q with plca := 2, plcaId := if obj s (pix p 3) 5 = 0 then 0 else 255, plcaBurst := 0, plcaAt := s.now,
                                 plcaTimer := s.now }) s
  else updPort p (fun q => { q with plca := 0 }) s

/-- Another node's frame ends its opportunity. -/
def plcaCarrier (p : Nat) (s : Sys) : Sys :=
  let q := port s p
  if plcaOn s p ∧ q.plca = 2 ∧ q.plcaId ≠ obj s (pix p 3) 5 then plcaNext p s else s

/-- A frame that this node sent: the burst goes on while PLCA_BURST_COUNT allows more, else the opportunity ends. -/
def plcaSent (p : Nat) (s : Sys) : Sys :=
  let q := port s p
  if !plcaOn s p ∨ q.plca ≠ 2 then s
  else if q.plcaBurst < obj s (pix p 3) 8 then updPort p (fun q => { q with plcaBurst := q.plcaBurst + 1, plcaTimer := s.now }) s
  else plcaNext p s

/-! ### Windows and length tests (R340, R341) -/

/-- Units of base `b` that `bits` take at `mbps`. -/
def durUnits (s : Sys) (b bits mbps : Nat) : Nat :=
  if mbps = 0 then 0
  else
    let ns := bits * 1000 * nsUnits
    let rate : Int := if b = 4 then 0 else (base s b).rate
    ((ns : Int) * (2 ^ 40 + rate) / (2 ^ 40 * (mbps : Int))).toNat

/-- Whether preemption is active on a port (R342). -/
def preemptActive (s : Sys) (p : Nat) : Bool :=
  decide (p ≤ 63) && flag s (pix p 0x0E) 1 && (port s p).linkUp && (!flag s (pix p 0x0E) 3 || (port s p).verify == 3)

/-- Whether a class is preemptable now (R343). -/
def preemptable (s : Sys) (p c : Nat) : Bool :=
  preemptActive s p && bit (obj s (pix p 0x0E) 2) c && !protects s c

/-- Bits of a first fragment with preamble, SMD and gap (R344). -/
def fragmentBits (s : Sys) (p : Nat) : Nat := (64 * (1 + obj s (pix p 0x0E) 5) + 8 + 12) * 8

/-- The bits the length test takes for a copy: its whole wire length, or its first fragment. -/
def testBits (s : Sys) (p c w : Nat) : Nat := if preemptable s p c then min (fragmentBits s p) (w * 8) else w * 8

/-- The maximum window of class `c` of port `p`, in 2^-16 ns; none is unbounded. -/
def windowOf (s : Sys) (p c : Nat) : Option Nat :=
  if 73 ≤ p ∨ isKng s p ∨ !flag s (glIx p) 1 then none else (port s p).gate.window (glFallback s p) c

/-- Whether a copy is too long for its queue's maximum window (R341). -/
def tooLong (s : Sys) (c : Copy) : Bool :=
  let p := txPort s c.port
  let cls := queueTc s c.queue
  match windowOf s p cls with
  | none => false
  | some w => decide (durUnits s (obj s (glIx p) 2) (testBits s p cls (wireW s p (wireLen s c))) (linkSpeed s p) > w)

/-! ### The deep store (R274, R284) -/

/-- Admit a deep copy to the BPM once its tail is good. -/
def bpmAdmit (id : Nat) (s : Sys) : Sys :=
  let c := copy s id
  let len := match c.body with | some b => b.length + 4 | none => (frame s c.frame).length
  let shared := if c.xing = 0 then none else
    (allCopies s).find? (fun x => x.1 != id && x.2.xing == c.xing && x.2.buffer.isSome)
  let counted : Bool := match shared.bind (fun x => x.2.buffer) with | some (k, b) => SMap.get false (pool s k).counted b | none => false
  let full := !counted && decide (SMap.get 0 s.refs c.tile ≥ 16384)
  match if full then none else shared with
  | some x =>
    let s := match x.2.buffer with
      | some (k, b) =>
        if counted then s
        else setPool k { pool s k with counted := SMap.set false (pool s k).counted b true }
          { s with refs := SMap.set 0 s.refs c.tile (SMap.get 0 s.refs c.tile + 1) }
      | none => s
    updCopy id (fun c => { c with buffer := x.2.buffer, written := x.2.written, ready := x.2.written }) s
  | none =>
    let s := bumpIf (full && shared.isSome) Ctr.mcRefFull s
    match allocate len (queueTc s c.queue) c.sel.colour (frame s c.frame).orig s with
    | (.ok b, s) => updCopy id (fun c => { c with buffer := some b }) s
    | (.error ctr, s) => dropCopy ctr id s

/-- The blocks of a stored copy: lba and 512 bytes, the frame as received with its FCS (R274). -/
def deepBlocks (s : Sys) (c : Copy) : List (Nat × List Byte) :=
  match c.buffer with
  | none => []
  | some (k, b) =>
    let f := frame s c.frame
    let data := match c.body with | some x => x ++ fcsBytes x | none => f.bytes ++ f.fcs
    (List.range ((data.length + 511) / 512)).map (fun i => (unitOf s k b + i, padRight 512 (slice data (512 * i) 512)))

/-- A copy for the recorder: R268 does not drop it (R461). -/
def Copy.isRecorder (c : Copy) : Bool := match c.kind with | .recorder _ _ => true | _ => false

/-- DEEP_WRITE_DONE (R268, R274, R277): a frame found bad is dropped at its deep write; else every block is written and its tag checked; the tile owns the buffer, and the copies that
share it are eligible. -/
def deepWriteEffect (id : Nat) (s : Sys) : Sys :=
  let c := copy s id
  match c.buffer with
  | none => s
  | some (k, b) =>
    if c.written then s
    else if (frame s c.frame).bad ∧ c.body.isNone ∧ !c.isRecorder then
      (((allCopies s).filter (fun x => x.2.buffer == c.buffer)).map (·.1)).foldl (fun s i => dropCopy (Ctr.fabBadTailDrop (txPort s (copy s i).port)) i s) s
    else
      let p := pool s k
      let s := { setPool k { p with owner := SMap.set 0 p.owner b (1 + c.tile) } s with wq := s.wq ++ deepBlocks s c }
      let mates := ((allCopies s).filter (fun x => x.2.buffer == c.buffer)).map (·.1)
      let s := mates.foldl (fun s i => updCopy i (fun c => { c with written := true, ready := true }) s) s
      freeCells c.xing s

/-! ### Enqueue (Table EGR-3) -/

/-- Whether a copy's port takes frames: link up, or held (R139, R141). Ports 74 and 75 have no link. -/
def portTakes (s : Sys) (p : Nat) : Bool :=
  if p = 74 ∨ p = 75 then true
  else
    let q := txPort s p
    let typed := !(p = 73 ∧ q < 64 ∧ (obj s (0x2000 + 0x10 * q) 1 = 0 ∨ obj s (0x2000 + 0x10 * q) 1 = 15))
    typed && ((port s q).linkUp || (port s q).held)

/-- Take express cells for a crossing (R273): shared cells, or reserve cells of an express-only class. -/
def takeCells (x n : Nat) (only : Bool) (s : Sys) : Option Sys :=
  let y := xing s x
  if x = 0 ∨ y.cells ≠ 0 then some s
  else if only ∧ s.expShared * 100 ≥ obj s 0x5000 3 * sharedCells s then
    if s.expReserve + n ≤ obj s 0x5000 4 then some (setXing x { y with cells := n, reserve := true } { s with expReserve := s.expReserve + n })
    else none
  else if s.expShared + n ≤ sharedCells s then some (setXing x { y with cells := n } { s with expShared := s.expShared + n })
  else if only ∧ s.expReserve + n ≤ obj s 0x5000 4 then
    some (setXing x { y with cells := n, reserve := true } { s with expReserve := s.expReserve + n })
  else if only then none
  else some s

/-- A copy whose whole length is known meets tests 4 and 5 (R325): the counter of a refusal. -/
def lengthTests (s : Sys) (c : Copy) : Option Nat :=
  if !copyWhole s c then none
  else if tooLong s c then some (Ctr.gateTooLongDrop (txPort s c.port))
  else if c.path ≠ .cut ∧ c.port < 73 ∧ wireLen s c > maxFrame s c.port then some (Ctr.txOversizeDrop c.port)
  else none

/-- Refuse a copy for its length, with FRAME_TOO_LONG for a window (R341). -/
def refuseLength (ctr id : Nat) (s : Sys) : Sys :=
  let c := copy s id
  let s := if ctr = Ctr.gateTooLongDrop (txPort s c.port) then raise 0x0802 1 (u16b c.queue) s else s
  dropCopy ctr id s

/-- Whether a copy meets the conditions of R264 for cut-through, apart from the mode of its queue. -/
def mayCut (s : Sys) (c : Copy) : Bool :=
  let f := frame s c.frame
  let out := linkSpeed s c.port
  (match c.kind with | .plain => true | .path _ => true | _ => false)
    && decide (c.port ≤ 72) && flag s (pix c.port 0x0A) 1 && (port s c.port).linkUp
    && (decide (f.port = 75) || decide (out ≤ linkSpeed s f.port)) && !f.tailFirst && f.filter.isNone && c.body.isNone

/-- Put a copy into its queue, in the order in which copies were made, which is that of the commits (R272). -/
def placeCopy (q id : Nat) (s : Sys) : Sys :=
  let l := (queue s q).filter (· != id)
  setQueue q (l.filter (· < id) ++ id :: l.filter (id < ·)) s

/-- A copy that its port takes meets the tests of R325 in order, with the path, cells and length it is counted with, and joins
its queue or is dropped with the counter of the first test it fails. An express store-and-forward copy whose tail has not arrived only
takes its place, and meets the tests at its tail (R264, R272). -/
def offerCopy (id : Nat) (s : Sys) : Sys :=
  let c := copy s id
  let f := frame s c.frame
  let q := if c.st = .waiting then c.queue else (resolveQueue s c f.ipv).1
  let len := match c.body with | some b => b.length + 4 | none => assumedLen s f
  let cells := (len + 255) / 256
  let held := (port s (txPort s c.port)).held
  let c := { c with queue := q, counted := len, cells := cells, enq := s.now, wasHeld := held, prot := protects s c.sel.tc }
  let (s', deep) := modeFor q cells s
  let path : Path := if deep then .deep else if c.cutOk then .cut else .express
  let c := { c with path := path, ready := path == .cut || copyWhole s c && path == .express }
  if path = .express ∧ !copyWhole s c then
    let s := (takeCells c.xing cells (cell s 0x5000 1 (queueTc s q) 0 == 1) s).getD s
    placeCopy q id (setCopy id { c with st := .waiting } s)
  else
  let s := setCopy id c s'
  match lengthTests s c with
  | some ctr => refuseLength ctr id s
  | none =>
    if beyond (colourLimit s q c.sel.colour) (occupancy s q + len) then
      dropCopy (match c.sel.colour with | 0 => Ctr.queueDropGreen q | 1 => Ctr.queueDropYellow q | _ => Ctr.queueDropRed q) id s
    else
      let only := cell s 0x5000 1 (queueTc s q) 0 = 1
      if only ∧ !deep ∧ queueCells s q + cells > obj s 0x5000 2 then dropCopy (Ctr.expDrop q) id s
      else
        match takeCells c.xing cells (only && !deep) s with
        | none => dropCopy (Ctr.expDrop q) id s
        | some s =>
          let s := placeCopy q id (setCopy id { c with st := .queued } s)
          let s := match c.kind with | .mirror i => bump (Ctr.mirrorCopies i) s | _ => s
          if deep ∧ copyWhole s c ∧ !(frame s c.frame).bad then bpmAdmit id s else s

/-- The tests of Table EGR-3 in order, for a copy that crosses or one whose tail has arrived (R325). -/
def enqueue (id : Nat) (s : Sys) : Sys :=
  let c := copy s id
  if (c.st ≠ .crossing ∧ c.st ≠ .waiting) ∨ !hasCopy s id then s
  else
    let gramus := match c.kind with | .steward g => g | _ => false
    if silenced s (txPort s c.port) (protects s c.sel.tc) gramus ∧ c.port ≠ 74 ∧ c.port ≠ 75 then dropAs false (Ctr.safSilentDrop (txPort s c.port)) id s
    else if c.port = 74 ∧ 2 ≤ traded s then removeCopy id (bump Ctr.recTradedDrop s)
    else if !admin s c.port then dropCopy (Ctr.txLinkDownDrop c.port) id s
    else if !portTakes s c.port then dropCopy (Ctr.txLinkDownDrop c.port) id s
    else offerCopy id s

/-- COPY_ENQUEUE (R325): a copy that has crossed meets the tests. -/
def enqueueEffect (id : Nat) (s : Sys) : Sys := if (copy s id).st = .crossing then enqueue id s else s

/-- The length of a frame is known: its copies and its crossings are counted with it, where MAX_FRAME was assumed (R265, R323). -/
def trueLength (id : Nat) (s : Sys) : Sys :=
  let len := (frame s id).length
  let n := (len + 255) / 256
  let s := ((allCopies s).filter (fun c => c.2.frame == id && c.2.body.isNone)).foldl (fun s x =>
    updCopy x.1 (fun c => { c with counted := len, cells := n }) s) s
  (s.xings.filterMap (fun e => e.2.bind (fun y => if y.frame = id ∧ y.cells ≠ 0 then some e.1 else none))).foldl (fun s x =>
    let y := xing s x
    let less := y.cells - n
    let s := if y.reserve then { s with expReserve := s.expReserve - less } else { s with expShared := s.expShared - less }
    setXing x { y with cells := min y.cells n } s) s

/-! ### Crossing queues and cells (R259 to R263) -/

def xkey (i o c : Nat) : Nat := (i * 9 + o) * 8 + c

/-- Bytes of a frame for the fabric: as received, with its FCS field (R260). -/
def fabricBytes (f : Frame) : Nat := f.bytes.length + f.fcs.length

/-- Bytes of a crossing that wait to cross. -/
def xavail (s : Sys) (x : Xing) : Nat := fabricBytes (frame s x.frame) - x.sent

/-- The parts of the next cell of a crossing queue: up to 256 bytes of its frames, end to end. -/
def cellParts (s : Sys) : List Nat → Nat → List CellPart
  | [], _ => []
  | x :: l, room =>
    let y := xing s x
    let f := frame s y.frame
    let n := min room (xavail s y)
    let ends := f.ended && y.sent + n == fabricBytes f
    if n = 0 ∧ !ends then []
    else { xing := x, from_ := y.sent, len := n, starts := y.sent == 0, ends := ends, bad := f.bad }
      :: (if ends ∧ n < room then cellParts s l (room - n) else [])

/-- The frame slot of a crossing (Table FAB-2). -/
def slotBytes (s : Sys) (x : Nat) : List Byte :=
  let y := xing s x
  let f := frame s y.frame
  let r := f.com.getD {}
  let stamp := rxStamp s f
  u16b y.mask ++ u16b (boolNat (r.qsel == 1) * 32768 + r.queue) ++ u8b (y.tc * 32 + r.colour * 8 + boolNat r.prot * 4
    + boolNat y.cut * 2 + boolNat y.mc) ++ u8b f.port ++ u16b y.length ++ u32b (y.frame % 2 ^ 32)
    ++ u32b (stamp % secUnits / nsUnits)

/-- The header of a cell (Table FAB-1). -/
def cellHeader (i o c : Nat) (only : Bool) (cseq : Nat) (parts : List CellPart) : List Byte :=
  let offs := (parts.foldl (fun (a : Nat × List (CellPart × Nat)) p => (a.1 + p.len, a.2 ++ [(p, a.1)])) (0, [])).2
  let total := (parts.map (·.len)).foldl (· + ·) 0
  let starts := (offs.filter (fun p => p.1.starts)).map (fun p => p.2)
  let ends := (offs.filter (fun p => p.1.ends)).map (fun p => p.2 + p.1.len - 1)
  let bads := (offs.filter (fun p => p.1.ends)).map (fun p => boolNat p.1.bad)
  let b := u8b (i * 16 + o) ++ u8b (c * 32 + boolNat only * 16 + starts.length) ++ u16b (total * 128 + ends.length * 16) ++ u16b cseq
    ++ padRight 4 (starts.map (fun n => BitVec.ofNat 8 n)) ++ padRight 4 (ends.map (fun n => BitVec.ofNat 8 n))
    ++ u8b (bads.getD 0 0 * 128 + bads.getD 1 0 * 64 + bads.getD 2 0 * 32 + bads.getD 3 0 * 16)
  b ++ u8b (crc8 b)

def expressOnly (s : Sys) (c : Nat) : Bool := cell s 0x5000 1 c 0 == 1

/-- Whether the express cell buffer has a cell for a crossing of class `c` (R273). -/
def cellFree (s : Sys) (c : Nat) : Bool :=
  decide (s.expShared < sharedCells s) || (expressOnly s c && decide (s.expReserve < obj s 0x5000 4))

/-- The highest non-empty crossing queue of a pair: its class and level (R262). -/
def bestQueue (s : Sys) (i o : Nat) : Option (Nat × Nat) :=
  let ready (c : Nat) : Bool := match SMap.get [] s.xq (xkey i o c) with
    | [] => false
    | l => !(cellParts s l 256).isEmpty && cellFree s c
  let l := ((List.range 8).filter ready).map (fun c => (c, if expressOnly s c then 8 + c else c))
  l.foldl (fun (a : Option (Nat × Nat)) x => match a with | some b => if x.2 > b.2 then some x else a | none => some x) none

/-- The first of 0 to 8 that meets `p`, searching from `start` and wrapping. -/
def firstFrom (start : Nat) (p : Nat → Bool) : Option Nat := ((List.range 9).map (fun k => (start + k) % 9)).find? p

/-- The matcher's state: what is free, the pairs made, and the pointers. -/
structure Matching where
  ins : List Nat := List.range 9
  outs : List Nat := List.range 9
  pairs : List (Nat × Nat) := []
  gptr : SMap Nat
  aptr : SMap Nat

/-- One iteration of request, grant and accept (R262). -/
def matchTurn (req : Nat → Nat → Option Nat) (first : Bool) (m : Matching) : Matching :=
  let grants := m.outs.filterMap (fun o =>
    let cs := m.ins.filter (fun i => (req i o).isSome)
    let p := (cs.map (fun i => (req i o).getD 0)).foldl max 0
    if cs.isEmpty then none
    else (firstFrom (SMap.get 0 m.gptr (o * 16 + p)) (fun i => cs.contains i && req i o == some p)).map (fun i => (o, i)))
  m.ins.foldl (fun m i =>
    let g := (grants.filter (fun x => x.2 == i)).map (·.1)
    let p := (g.map (fun o => (req i o).getD 0)).foldl max 0
    match firstFrom (SMap.get 0 m.aptr (i * 16 + p)) (fun o => g.contains o && req i o == some p) with
    | none => m
    | some o =>
      let m := { m with ins := m.ins.filter (· != i), outs := m.outs.filter (· != o), pairs := m.pairs ++ [(i, o)] }
      if first then { m with gptr := SMap.set 0 m.gptr (o * 16 + p) ((i + 1) % 9), aptr := SMap.set 0 m.aptr (i * 16 + p) ((o + 1) % 9) }
      else m) m

/-- Three iterations. -/
def matching (s : Sys) : Matching :=
  let tab := (List.range 81).map (fun k => (bestQueue s (k / 9) (k % 9)).map (·.2))
  let req (i o : Nat) : Option Nat := (tab.getD (i * 9 + o) none)
  matchTurn req false (matchTurn req false (matchTurn req true { gptr := s.gptr, aptr := s.aptr }))

/-- Send the next cell of a pair. -/
def sendCell (i o : Nat) (s : Sys) : Sys :=
  match bestQueue s i o with
  | none => s
  | some (c, _) =>
    let k := xkey i o c
    let l := SMap.get [] s.xq k
    let parts := cellParts s l 256
    let cseq := SMap.get 0 s.xtx k
    let cell_ : XCell := { header := cellHeader i o c (expressOnly s c) cseq parts, parts := parts,
                           slots := (parts.filter (·.starts)).map (fun p => slotBytes s p.xing) }
    let s := parts.foldl (fun s p => let y := xing s p.xing
                                     setXing p.xing { y with sent := y.sent + p.len, done := p.ends } s) s
    { s with xq := SMap.set [] s.xq k (l.filter (fun x => !(xing s x).done)), xtx := SMap.set 0 s.xtx k ((cseq + 1) % 65536),
             xcells := SMap.set [] s.xcells k (SMap.get [] s.xcells k ++ [cell_]) }

/-- MATCHER_CYCLE (R262, R263). -/
def matcherEffect (s : Sys) : Sys :=
  let m := matching s
  m.pairs.foldl (fun s p => sendCell p.1 p.2 s) { s with gptr := m.gptr, aptr := m.aptr }

/-- A frame is found bad (R268). -/
def markBad (id : Nat) (s : Sys) : Sys := updFrame id (fun f => { f with bad := true }) s

end Sys2Proof.Machine
end

