-- ==== Sys2Proof/Machine/Commit.lean ====
section
/-! DEFINITION. Decision records, their comparison, the commit of a frame and what is taken at it (R224 to R240, R259, R347,
R354, R456 to R461). -/

namespace Sys2Proof.Machine

/-! ### Records (Table DEC-1) -/

def Rec.body (r : Rec) : List Byte :=
  u64b r.seq ++ u32b r.gen ++ u32b r.rsGen ++ u8b (r.typ * 64 + r.dec * 32 + r.lane * 16 + boolNat r.test * 8) ++ u8b r.action
  ++ u16b r.target ++ u8b (boolNat r.peer * 128 + boolNat r.hostCopy * 64 + boolNat r.routed * 32 + boolNat r.encap * 16
      + boolNat r.terminate * 8 + boolNat r.ttlDec * 4 + boolNat r.streamValid * 2 + boolNat r.learnReq)
  ++ u8b (r.tc * 32 + r.colour * 8 + boolNat r.prot * 4 + r.qsel) ++ u16b r.queue ++ u16b r.stream ++ u16b r.nextHop ++ u16b r.vidOut
  ++ u8b r.dropReason ++ u8b (r.prov * 32) ++ u32b r.keyCrc ++ u8b r.member ++ toBE 3 0 ++ u32b r.info

def Rec.encode (r : Rec) : List Byte := r.body ++ u32b (crc32c r.body)

def decodeRec (b : List Byte) : Rec :=
  let k := byteAt b 16
  let fl := byteAt b 20
  let q := byteAt b 21
  { seq := field b 0 8, gen := field b 8 4, rsGen := field b 12 4, typ := bits k 7 6, dec := bits k 5 5, lane := bits k 4 4,
    test := bit k 3, action := byteAt b 17, target := field b 18 2, peer := bit fl 7, hostCopy := bit fl 6, routed := bit fl 5,
    encap := bit fl 4, terminate := bit fl 3, ttlDec := bit fl 2, streamValid := bit fl 1, learnReq := bit fl 0, tc := bits q 7 5,
    colour := bits q 4 3, prot := bit q 2, qsel := bits q 1 0, queue := field b 22 2, stream := field b 24 2, nextHop := field b 26 2,
    vidOut := field b 28 2, dropReason := byteAt b 30, prov := bits (byteAt b 31) 7 5, keyCrc := field b 32 4, member := byteAt b 36,
    info := field b 40 4 }

def crcGood (b : List Byte) : Bool := b.length == 48 && crc32c (b.take 44) == field b 44 4

/-- A record that counts as corrupt (R234): its crc, a reserved value, or a drop without a reason. -/
def corrupt (b : List Byte) : Bool :=
  let r := decodeRec b
  !crcGood b || decide (r.typ = 3) || decide (r.action > 4) || decide (r.dropReason > 10) || decide (r.action = 0 ∧ r.dropReason = 0)

/-- Byte ranges of the diff bits of Table DEC-1. -/
def diffFields : List (Nat × Nat × Nat) :=
  [(0, 0, 8), (1, 8, 4), (2, 12, 4), (3, 16, 1), (4, 17, 1), (5, 18, 2), (6, 20, 1), (7, 21, 1), (8, 22, 2), (9, 24, 2), (10, 26, 2),
   (11, 28, 2), (12, 30, 1), (13, 31, 1), (14, 32, 4), (15, 36, 1), (16, 40, 4)]

/-- The diff mask of two records, the decider bit left out; all set when one is absent (R225, R240). -/
def diffMask (a b : Option (List Byte)) : Nat :=
  match a, b with
  | some x, some y =>
    let x := patch x 16 (u8b (byteAt x 16 &&& 0xDF))
    let y := patch y 16 (u8b (byteAt y 16 &&& 0xDF))
    orAll (diffFields.map (fun d => if slice x d.2.1 d.2.2 = slice y d.2.1 d.2.2 then 0 else 2 ^ d.1))
  | _, _ => 0xFFFFFFFF

/-- Whether the reserved bytes of two records, which no diff bit covers, are equal (R234). -/
def sameReserved (a b : Option (List Byte)) : Bool := slice (a.getD []) 37 3 == slice (b.getD []) 37 3

/-- Explainable skew (R235). -/
def skew (s : Sys) (a b : Rec) (mask later : Nat) : Bool :=
  let inside := mask &&& (0x1FFFF - (2 ^ 4 + 2 ^ 5 + 2 ^ 6 + 2 ^ 12 + 2 ^ 13 + 2 ^ 15)) == 0
  let learned (r : Rec) : Bool := (r.prov == 2 || r.prov == 3) && (r.dropReason == 0 || r.dropReason == 3)
  let flagsSame := { a with peer := false, hostCopy := a.hostCopy } == { a with peer := false, hostCopy := b.hostCopy }
    && a.routed == b.routed && a.encap == b.encap && a.terminate == b.terminate && a.ttlDec == b.ttlDec
    && a.streamValid == b.streamValid && a.learnReq == b.learnReq
  let link := mask == 2 ^ 15 && a.action == 2 && b.action == 2
    && (List.range (cell s 0x4B00 1 a.target 0)).any (fun i =>
      let p := cell s 0x4B00 1 a.target (2 + i)
      decide (p ≤ 71 ∧ (port s p).linkAt ≠ 0 ∧ (port s p).linkAt ≤ later ∧ later ≤ (port s p).linkAt + 2500))
  a.typ == 0 && b.typ == 0 && inside && ((learned a && learned b && a.keyCrc == b.keyCrc && flagsSame) || link)

/-! ### Deciding (R185, R192, R198) -/

def Decider.inLane (v : Decider) (lane : Nat) : List InFlight := if lane = 0 then v.lane0 else v.lane1
def Decider.setLane (v : Decider) (lane : Nat) (l : List InFlight) : Decider :=
  if lane = 0 then { v with lane0 := l } else { v with lane1 := l }
def Decider.gotOn (v : Decider) (lane : Nat) : Nat := if lane = 0 then v.got0 else v.got1
def Decider.gapOn (v : Decider) (lane : Nat) : Bool := if lane = 0 then v.gap0 else v.gap1
def Decider.setGot (v : Decider) (lane n : Nat) : Decider := if lane = 0 then { v with got0 := n } else { v with got1 := n }
def Decider.setGap (v : Decider) (lane : Nat) (b : Bool) : Decider := if lane = 0 then { v with gap0 := b } else { v with gap1 := b }

/-- A lane completes number `n` at tick `t`. -/
def Decider.setDone (v : Decider) (lane n t : Nat) : Decider :=
  if lane = 0 then { v with done0 := n, alive0 := t } else { v with done1 := n, alive1 := t }

/-- A record leaves a lane. -/
def Decider.send (v : Decider) (lane : Nat) (i : InFlight) : Decider := v.setLane lane (v.inLane lane ++ [i])

/-- Set off one slot of a lane (R454). -/
def markSlot (d : DecId) (lane : Nat) (s : Sys) : Sys :=
  { s with slotMarks := SMap.set 0 s.slotMarks (dnat d * 2 + lane) (SMap.get 0 s.slotMarks (dnat d * 2 + lane) + 1) }

/-- The decision on head `id`: a slot is used, the record leaves, the learn request is submitted (R185, R197, R454). -/
def decideHead (d : DecId) (lane id : Nat) (f : Frame) (s : Sys) : Sys :=
  let v := decider s d
  let (r, learn, badMac) := decision s d f
  let rec_ : InFlight := { head := some f.seq, bytes := r.encode }
  let s := markSlot d lane (bump (Ctr.slotDecided (dnat d) lane)
    (setDecider d { (v.send lane rec_).setDone lane f.seq s.now with behind := v.behind.filter (fun e => e.1 != id) } s))
  let s := if badMac then learnBump d Ctr.learnInvalidSmac s else s
  match learn with
  | some (key, lag, target) =>
    submitLearn d { frame := id, key := key, lag := lag, peer := false, target := target, at_ := s.now, verdict := f.verdict, lane := lane,
                    order := f.verdictNo, told := f.verdictAt } s
  | none => s

/-- Bytes 16 to 43 of the record of golden vector `k` (R245, R246): its look-ups go to the test area, which the Plinth's ROM fills. -/
def vectorBody (d : DecId) (k : Nat) : List Byte :=
  u8b (0x88 + dnat d * 32 + k / 48 * 16) ++ padRight 23 (Config.goldenResult k) ++ u32b k

/-- The record of golden vector `k` under number `seq` (Table DEC-1). -/
def vectorRecord (s : Sys) (d : DecId) (seq k : Nat) : List Byte :=
  let b := u64b seq ++ u32b s.gen ++ u32b s.rsGen ++ vectorBody d k
  b ++ u32b (crc32c b)

/-- A golden vector takes a slot, and its record leaves (R245, R454). -/
def decideVector (d : DecId) (lane seq k : Nat) (s : Sys) : Sys :=
  let v := decider s d
  let i : InFlight := { head := some seq, bytes := vectorRecord s d seq k, vec := some k }
  markSlot d lane (bump (Ctr.slotService (dnat d) lane)
    (setDecider d { (v.send lane i).setDone lane seq s.now with vecs := v.vecs.filter (fun e => e.2 != k) } s))

/-- The lane's next head in sequence, one that was settled without it among them (R14). -/
def nextHead (s : Sys) (v : Decider) (lane : Nat) : Option (Nat × Frame) :=
  (sortBy (fun x => x.2.seq) (v.behind ++ openHeads s)).find? (fun x => x.2.seq % 2 == lane && decide (v.doneOn lane < x.2.seq))

/-- The lane's next golden vector: its number and its index. -/
def nextVector (v : Decider) (lane : Nat) : Option (Nat × Nat) := v.vecs.find? (fun e => e.2 / 48 == lane)

/-- DECIDE (R185, R245): the lane's next number is decided, a vector or a head that is parsed; a bank that wakes holds decisions (R194). -/
def decideEffect (d : DecId) (lane : Nat) (s : Sys) : Sys :=
  let v := decider s d
  if !v.running ∨ !v.started ∨ v.waking.isSome then s
  else
    match nextVector v lane, nextHead s v lane with
    | none, none => s
    | some (n, k), none => decideVector d lane n k s
    | none, some (id, f) => if f.stage ≠ .parsed then s else decideHead d lane id f s
    | some (n, k), some (id, f) =>
      if n < f.seq then decideVector d lane n k s
      else if f.stage ≠ .parsed then s else decideHead d lane id f s

/-- A head is settled: deciders whose lane has not decided it still receive it (R14). -/
def leaveBehind (id : Nat) (s : Sys) : Sys :=
  let f := frame s id
  let keep (v : Decider) : Decider :=
    if v.running && v.started && decide (v.doneOn (f.seq % 2) < f.seq) then { v with behind := v.behind ++ [(id, f)] } else v
  { s with decA := keep s.decA, decB := keep s.decB }

/-! ### Samples, mirrors and recorder copies taken at the commit point (R456 to R461) -/

/-- One step of the random choice of a row (R456). -/
def xorshift (x : Nat) : Nat :=
  let x := (x ^^^ (x * 2 ^ 13)) % 2 ^ 32
  let x := x ^^^ (x / 2 ^ 17)
  (x ^^^ (x * 2 ^ 5)) % 2 ^ 32

/-- Whether row `r` considers the head. -/
def selMatches (s : Sys) (r : Nat) (f : Frame) (d : Rec) : Bool :=
  let c := cell s 0x7400 1 r
  c 0 == 1 && bit (c 2) f.orig && (match c 1 with
    | 0 => true
    | 1 => (f.parsed.getD {}).rule == some (c 3)
    | 2 => d.streamValid && d.stream == c 3
    | _ => d.action == 0)

/-- One row's turn: counts a match and says whether it chooses the head. -/
def selTurn (f : Frame) (d : Rec) (r : Nat) (a : Sys × List Nat) : Sys × List Nat :=
  let s := a.1
  if !selMatches s r f d then a
  else
    let s := { s with selMatched := SMap.set 0 s.selMatched r (SMap.get 0 s.selMatched r + 1) }
    let period := cell s 0x7400 1 r 5
    let (s, hit) :=
      if cell s 0x7400 1 r 4 = 0 then
        let n := SMap.get 0 s.selSince r + 1
        ({ s with selSince := SMap.set 0 s.selSince r n }, n % period == 0)
      else
        let x := xorshift (SMap.get (r + 1) s.selRng r)
        ({ s with selRng := SMap.set (r + 1) s.selRng r x }, x % period == 0)
    if hit then ({ s with selChosen := SMap.set 0 s.selChosen r (SMap.get 0 s.selChosen r + 1) }, a.2 ++ [r]) else (s, a.2)

/-- A sample record (Table OBS-7). -/
def sampleBytes (s : Sys) (n : Nat) (f : Frame) (d : Rec) (rows : List Nat) : List Byte :=
  let p := f.parsed.getD {}
  let frameLen := if f.length = 0 then 113 else f.length - 4
  u32b n ++ u16b f.length ++ u8b f.port ++ u8b (rows.headD 0) ++ timeb (rxStamp s f) ++ u64b f.seq
  ++ u8b (boolNat (decide (frameLen > 112)) * 128 + boolNat d.prot * 64 + boolNat (f.port == 75) * 32 + boolNat p.fragHit * 16)
  ++ u16b (orAll (rows.map (2 ^ ·))) ++ u8b 0 ++ d.encode ++ p.key.encode ++ padRight 112 f.bytes

/-- The sample of a committed head (R457); the fourth traded level takes sampling away. -/
def takeSample (id : Nat) (d : Rec) (s : Sys) : Sys :=
  let f := frame s id
  let (s, rows) := (List.range 16).foldl (fun a r => selTurn f d r a) (s, [])
  if rows.isEmpty then s
  else if 4 ≤ traded s then bump Ctr.sampleTraded s
  else
    let sec := dc s / secUnits
    let s := if s.sampleSec = sec then s else { s with sampleSec := sec, sampleIn := 0 }
    if s.sampleIn ≥ 10000000 then bump Ctr.sampleRateDrop s
    else
      let n := s.sampleSeq + 1
      let over_ := decide (4096 < n) && decide (obj s 0x7400 4 < n - 4096)
      let b := sampleBytes s n f d rows
      bump Ctr.sampleTaken (bumpIf over_ Ctr.sampleLost
        { s with samples := SMap.set [] s.samples (n % 4096) b, sampleSeq := n, sampleIn := s.sampleIn + 1 })

/-- Put a copy on its way over the crossbar (R259): it shares `x` with the frame's other copies in the tile. -/
def addXing (y : Xing) (s : Sys) : Nat × Sys :=
  let k := xkey y.src y.dst y.tc
  (s.nextXing, setXing s.nextXing { y with length := (frame s y.frame).length } { s with nextXing := s.nextXing + 1, xq := SMap.set [] s.xq k (SMap.get [] s.xq k ++ [s.nextXing]) })

/-- The bit of a port in its tile's mask (Table FAB-2). -/
def maskBit (p : Nat) : Nat := if p = 73 then 2 ^ 9 else if p < 64 then 2 ^ (p % 8) else 2 ^ (p - 64)

/-- The tile that holds a port's queues: host queues are in the exit port's tile. -/
def copyTile (s : Sys) (p : Nat) : Nat := tileOf (txPort s p)

/-- A copy with a crossing of its own (mirror and recorder copies). -/
def ownCopy (id : Nat) (c : Copy) (s : Sys) : Sys :=
  let f := frame s id
  let cls := queueTc s (resolveQueue s c 0xFF).1
  let (x, s) := addXing { frame := id, src := tileOf f.port, dst := copyTile s c.port, tc := cls, mask := maskBit c.port } s
  (addCopy { c with frame := id, xing := x, tile := copyTile s c.port } s).2

/-- Whether mirror session `i` counts this frame, and copies it (R458). -/
def mirrorTurn (i tc : Nat) (rule : Option Nat) (s : Sys) : Sys × Bool :=
  let m := cell s 0x7800 1 i
  if m 0 = 1 ∧ bit (m 4) tc ∧ (m 5 = 0xFFFF ∨ rule = some (m 5)) then
    let n := SMap.get 0 s.mirrorSeen i + 1
    ({ s with mirrorSeen := SMap.set 0 s.mirrorSeen i n }, n % m 9 == 0)
  else (s, false)

/-- Ingress mirror copies of a committed frame. -/
def mirrorIngress (id : Nat) (d : Rec) (s : Sys) : Sys :=
  (List.range 16).foldl (fun s i =>
    let m := cell s 0x7800 1 i
    let f := frame s id
    if bit (m 1) f.orig ∧ (d.action ≠ 0 ∨ m 3 = 1) then
      let (s, hit) := mirrorTurn i d.tc (f.parsed.getD {}).rule s
      if hit then ownCopy id { port := m 6, kind := .mirror i, sel := { tc := m 7 } } s else s
    else s) s

/-- The recorder's rx copy (R461). Recorder ingest that the Maquette traded away counts in REC_TRADED_DROP. -/
def recorderIngress (id : Nat) (d : Rec) (s : Sys) : Sys :=
  let f := frame s id
  if flag s 0x7810 1 ∧ bit (obj s 0x7810 3) f.port ∧ bit (obj s 0x7810 5) d.tc ∧ (d.action ≠ 0 ∨ flag s 0x7810 6) then
    ownCopy id { port := 74, kind := .recorder false f.port, sel := { tc := d.tc, colour := d.colour } } s
  else s

/-! ### Copies of a committed frame (R259, R284, R361) -/

/-- The copies of a group or flood: ports by their own bit, LAGs by their member; the counter LAG_NO_MEMBER_DROP for a LAG
without one (R190, R215, R216). -/
def expandSet (v : Sys) (f : Frame) (h16 : List Nat) (ports lags : Nat) (noPort : Option Nat) (noLag : Option Nat) : List Nat × Nat :=
  let direct := (portsOf ports).filter (fun p => some p != noPort)
  let picks := ((List.range 32).filter (fun g => bit lags g && some g != noLag)).map (fun g => lagMember v g h16)
  let _ := f
  (direct ++ (picks.filterMap id).filter (fun p => !direct.contains p), (picks.filter (·.isNone)).length)

/-- Egress ports of a committed record, and LAGs that had no member. -/
def targetsOf (v : Sys) (f : Frame) (r : Rec) : List Nat × Nat :=
  let kng := (kngPort v).toList
  let h16 := (f.parsed.getD {}).h16
  match r.action with
  | 1 => (if r.peer then kng else [r.target], 0)
  | 2 => if r.peer then (kng, 0)
    else match if f.knaing then lagMember v r.target h16 else some r.member with
      | some m => ([m], 0)
      | none => ([], 1)
  | 3 => if r.peer ∧ !f.knaing then (kng, 0) else
    let g := cell v 0x4800 1 r.target
    let src := sourceOf v f.orig
    let hair := g 2 == 1
    let noPort := if hair ∧ !f.knaing then none else if f.knaing then kngPort v else some f.orig
    expandSet v f h16 (g 0) (g 1) noPort (if !hair && src.1 && !f.knaing then some src.2 else none)
  | 4 =>
    let all := portsOf (vlanMembers v r.target)
    let inLag (p : Nat) : Option Nat := lagOf v p
    let src := sourceOf v f.orig
    let direct := orAll ((all.filter (fun p => (inLag p).isNone)).map (2 ^ ·))
    let lags := orAll ((all.filterMap inLag).map (2 ^ ·))
    expandSet v f h16 direct lags (if f.knaing then kngPort v else some f.orig) (if src.1 && !f.knaing then some src.2 else none)
  | _ => ([], 0)

/-- Create the copies of a frame whose functions have all passed: (port, kind) each, one crossing a tile. A copy whose fixed queue
is not its port's counts its fall back here, as its port is committed (R172). -/
def spread (id : Nat) (out : List (Nat × CopyKind)) (sel : Sel) (s : Sys) : Sys :=
  let f := frame s id
  let cls := if f.ipv ≤ 7 then f.ipv else sel.tc
  let tiles := (out.map (fun x => copyTile s x.1)).eraseDups
  tiles.foldl (fun s t =>
    let here := out.filter (fun x => copyTile s x.1 == t)
    let base (y : Nat × CopyKind) : Copy :=
      { frame := id, tile := t, port := y.1, kind := y.2, sel := sel, multi := decide (out.length > 1) }
    let express (c : Copy) : Bool :=
      let q := (resolveQueue s c f.ipv).1
      !(modeFor q ((assumedLen s f + 255) / 256) s).2
    let cuts := here.any (fun y => mayCut s (base y) && express (base y))
    let (x, s) := addXing { frame := id, src := tileOf f.port, dst := t, tc := cls, mask := orAll (here.map (fun y => maskBit y.1)),
                            cut := cuts, mc := decide (out.length > 1) } s
    here.foldl (fun s y =>
      let c : Copy := { base y with xing := x, cutOk := mayCut s (base y) }
      bumpIf (resolveQueue s c f.ipv).2 Ctr.clsQueueFallback (addCopy c s).2) s) s

/-- The copies of a committed frame: the decision's targets or the paths of its generation function, and host copies. -/
def makeCopies (id : Nat) (s : Sys) : Sys :=
  let f := frame s id
  match f.com with
  | none => s
  | some r =>
    let v := asOf s f.gen
    let sel : Sel := { tc := r.tc, colour := f.colour, fixed := r.qsel == 1, queue := r.queue }
    let kind (p : Nat) : CopyKind := if p = 73 then .host 3 0xFF else if p = 74 then .recorder false f.port else .plain
    let paths := if f.genFn.isNone ∨ f.routes.isEmpty then none else some f.routes
    let (plain, noMember) := targetsOf v f r
    let s := if paths.isNone then bumpBy Ctr.lagNoMemberDrop noMember s else s
    let routes : List (Nat × CopyKind) := match paths with
      | some l => (l.filter (fun x => x.1 != 0xFF && !isKng s x.1)).map (fun x => (x.1, .path x.2))
      | none => plain.map (fun p => (p, kind p))
    let s := match paths, f.genFn with
      | some l, some fn => bumpBy (Ctr.frerGenPathDrop fn) (l.filter (fun x => x.1 != 0xFF && isKng s x.1)).length s
      | _, _ => s
    let loops := routes.filter (fun x => f.knaing && isKng s x.1)
    let s := bumpBy Ctr.kngLoopDrop loops.length s
    let over_ := routes.filter (fun x => x.1 == 75 && decide (f.passes ≥ obj s 0x1967 1))
    let s := bumpBy (Ctr.recircLimitDrop 75) over_.length s
    let host : List (Nat × CopyKind) := if r.hostCopy then [(73, .host 3 0xFF)] else []
    let out := routes.filter (fun x => !(f.knaing && isKng s x.1) && !(x.1 == 75 && decide (f.passes ≥ obj s 0x1967 1))) ++ host
    spread id out sel s

/-- Recovery, generation and copies (steps 3 to 5 of R354), by the functions that the frame's commit point named. -/
def finishCommit (id : Nat) (s : Sys) : Sys :=
  match (frame s id).funcs with
  | none => makeCopies id s
  | some (gen, rc) =>
    let (s, ok) := if rc = 0xFFFF then (s, true) else recover rc id s
    if !ok then reap id s
    else makeCopies id (if gen = 0xFFFF then s else generate gen id s)

/-- The drop counter of a reason (Table DEC-1). -/
def dropCounter (r : Nat) : Nat :=
  ([Ctr.vlanIngressDrop, Ctr.vlanAcceptDrop, Ctr.bridgeSamePortDrop, Ctr.bridgeDiscard, Ctr.parseRouteDrop, Ctr.routeNonIpDrop,
    Ctr.routeMissDrop, Ctr.routeNhDrop, Ctr.lagNoMemberDrop, Ctr.kngNoPeerDrop] : List Nat).getD (r - 1) Ctr.bridgeDiscard

/-- Counters of a pass (R173). -/
def passCounters (f : Frame) (d : Rec) (s : Sys) : Sys :=
  let p := f.parsed.getD {}
  let s := bumpIf p.key.trunc Ctr.parseTrunc s
  let s := bumpIf p.key.conflict Ctr.parseLenConflict s
  let s := bumpIf p.inserted Ctr.fragInsert s
  let s := bumpIf p.key.fragMiss Ctr.fragMiss s
  let s := if p.fragHit then bump Ctr.fragHit s
    else match p.rule with | some r => bump (Ctr.clsRuleHit r) s | none => bump Ctr.clsDefault s
  let s := bumpIf p.fellBack Ctr.clsQueueFallback s
  let s := bumpIf (d.action == 0) (dropCounter d.dropReason) s
  let s := bumpIf (d.action == 4 && d.prov == 3) Ctr.bridgeFlood s
  bumpIf (d.action == 1 && d.routed && d.nextHop == 0xFFFF && d.target == 73) Ctr.routeTtlExpired s

/-- Steps 2 to 5 of R354 on a frame that goes on: the row of its handle is taken, its tag is decoded, and the functions act now or, where
recovery waits for the tail, at it (R367). -/
def frerCommit (h id : Nat) (s : Sys) : Sys :=
  let c := cell s 0x6400 1 h
  let g := cell s 0x6400 2 (c 0)
  let waits := decide (c 2 = 3) || (decide (c 1 ≠ 0xFFFF) && cellB s 0x6400 5 (c 1) 0 && cellB s 0x6400 5 (c 1) 5)
  let s := updFrame id (fun f => { f with funcs := some (c 0, c 1), decodeKind := c 2, pop := c 3 == 1, decoded := decodeSeq s f (c 2),
                                          tailFirst := waits, encode := g 1, routes := (List.range (g 3)).map (fun i => (g (4 + i), g (8 + i))) }) s
  let s := if (frame s id).ended ∧ hsrWrong s (frame s id) then bump (Ctr.frerEncErr (frame s id).orig) (markBad id s) else s
  if waits ∧ (frame s id).verdict.isNone then updFrame id (fun f => { f with waits := true }) s
  else if waits ∧ (frame s id).bad then reap id s
  else finishCommit id s

/-- Commit a record for a frame: counters, samples, mirrors and recorder, then the stream functions in the order of R354. They act
on no frame from the Knaing link and on no pass that goes to port 75 (R355). -/
def commitRec (id : Nat) (d : Rec) (s : Sys) : Sys :=
  let s := updFrame id (fun f => { f with stage := .committed, com := some d, colour := d.colour,
                                          handle := if d.streamValid then some d.stream else none }) s
  let s := if (frame s id).knaing then s
    else recorderIngress id d (mirrorIngress id d (takeSample id d (passCounters (frame s id) d s)))
  let acts := !(frame s id).knaing && !(d.action == 1 && d.target == 75)
  let (s, ok) := if acts then streamFilter id s else (s, true)
  if !ok ∨ (d.action = 0 ∧ !d.hostCopy) then reap id s
  else match if acts && d.action != 0 then (frame s id).handle else none with
    | none => makeCopies id s
    | some h => frerCommit h id s

/-! ### Classification (R233 to R240) -/

/-- Log a pair of categories 2 to 7 (R240). -/
def logPair (f : Frame) (cat : Nat) (s : Sys) : Sys :=
  let row : FaultRow := { seq := f.seq, time := dc s, category := cat, diff := diffMask f.recA f.recB,
                          a := f.recA.getD (List.replicate 48 0), b := f.recB.getD (List.replicate 48 0) }
  { s with faultLog := row :: s.faultLog.take 63, faultRow := if s.faultLog.isEmpty then 0 else (s.faultRow + 1) % 64 }

/-- A decision fault (R234, R247, R464): counter, event, the recorder's trigger, and the third within 1 ms asks for a run,
unless a triggered one is under way (R247). -/
def decisionFault (seq cat : Nat) (s : Sys) : Sys :=
  let recent := (s.now :: s.faultTimes).filter (fun t => decide (s.now < t + Config.ticksPerMs))
  let s := raise 0x0301 3 (u64b seq ++ u8b cat) (bump Ctr.decFault s)
  { s with faultTimes := recent.take 3, lastFault := s.now,
           runWanted := s.runWanted || (decide (recent.length ≥ 3) && !s.golden.any (·.2)),
           triggers := s.triggers ++ [(5, s.now)] }

/-- Whether a frame is protected at the commit stage (R236). -/
def protectedPair (s : Sys) (gen : Nat) (present valid : List (List Byte)) : Bool :=
  valid.any (fun b => (decodeRec b).prot) || present.any (fun b => protects (asOf s gen) (decodeRec b).tc)

/-- What classifying a head gives. -/
def classify (id : Nat) (s : Sys) : Sys :=
  let f := frame s id
  let run (d : DecId) : Bool := (decider s d).running
  let recOf (d : DecId) : Option (List Byte) := if run d then (match d with | .a => f.recA | .b => f.recB) else none
  let out (d : DecId) : Bool := match d with | .a => f.outA | .b => f.outB
  let seqBad (d : DecId) : Bool := match recOf d with | some b => crcGood b && (field b 0 8 != f.seq || out d) | none => false
  let crcBad (d : DecId) : Bool := match recOf d with | some b => corrupt b | none => false
  let valid (d : DecId) : Option (List Byte) := if seqBad d || crcBad d then none else recOf d
  let missing (d : DecId) : Bool := run d && (recOf d).isNone
  let prot := protectedPair s f.gen ([recOf .a, recOf .b].filterMap (fun x => x)) ([valid .a, valid .b].filterMap (fun x => x))
  let lead : Option DecId := if s.decA.st = .leading then some .a else if s.decB.st = .leading then some .b else none
  let done (c : Classified) (s : Sys) : Sys := updFrame id (fun f => { f with classified := some c }) s
  let nothing (s : Sys) : Sys := done { cand := none } (bump Ctr.decNoDeciderDrop s)
  let protDrop (s : Sys) : Sys := done { cand := none, protDrop := true } (bump Ctr.decFaultProtDrop s)
  let keep (b : List Byte) (s : Sys) : Sys :=
    if prot ∧ s.reloads.any (·.prot) then done { cand := none, protDrop := true } (bump Ctr.safReloadProtDrop s)
    else done { cand := some (decodeRec b) } s
  match lead with
  | none => nothing s
  | some l =>
    let o := dother l
    let ds := [DecId.a, DecId.b]
    let bad : Option (Nat × Nat) :=
      match ds.find? seqBad with
      | some d => some (6, Ctr.decSeqErr (dnat d))
      | none => match ds.find? crcBad with
        | some d => some (4 + dnat d, Ctr.decRecordCrcErr (dnat d))
        | none => (ds.find? missing).map (fun d => (2 + dnat d, Ctr.decMissing (dnat d)))
    if !run o then
      match valid l with
      | some b => if prot ∧ obj s 0x0500 4 = 1 then protDrop s else keep b s
      | none =>
        let (cat, ctr) := bad.getD (2 + dnat l, Ctr.decMissing (dnat l))
        let s := decisionFault f.seq cat (logPair f cat (bump ctr s))
        if prot then protDrop s else nothing s
    else
      let mask := diffMask (recOf .a) (recOf .b)
      let (cat, ctr) := match bad with
        | some x => x
        | none =>
          if !sameReserved (recOf .a) (recOf .b) then (7, Ctr.decFieldMismatch)
          else if mask = 0 then (0, Ctr.decPairIdentical)
          else if skew s (decodeRec ((recOf .a).getD [])) (decodeRec ((recOf .b).getD [])) mask s.now then (1, Ctr.decPairSkew)
          else (7, Ctr.decFieldMismatch)
      if cat ≤ 1 then keep ((valid l).getD []) (bump ctr s)
      else if (decider s o).st = .shadow then
        let v := decider s o
        let s := bump Ctr.decShadowDiff (logPair f cat (setDecider o { v with clean := s.now, eligible := false } s))
        if prot ∧ flag s 0x0500 5 ∧ (recOf o).isSome then protDrop s
        else match valid l with
          | some b => keep b s
          | none => nothing s
      else
        let s := decisionFault f.seq cat (logPair f cat (bump ctr s))
        if prot then protDrop s
        else match valid l with
          | some b => keep b s
          | none => match valid o with
            | some b => keep b s
            | none => nothing s

/-- Commit the classified heads at the front of the head sequence, in order (R272, R354). -/
def commitReady : Nat → Sys → Sys
  | 0, s => s
  | n + 1, s =>
    match (openHeads s).head? with
    | none => s
    | some (id, f) =>
      match f.classified with
      | none => s
      | some c =>
        let s := leaveBehind id s
        match c.cand with
        | some r => commitReady n (commitRec id r s)
        | none => commitReady n (reap id (updFrame id (fun f => { f with stage := .committed }) s))

/-- Classify a head and commit what may be committed. -/
def settle (id : Nat) (s : Sys) : Sys := let s := classify id s; commitReady (s.frames.length + 1) s

/-- Whether every awaited record of a head is there (R233). -/
def pairWhole (s : Sys) (f : Frame) : Bool :=
  (!s.decA.running || f.recA.isSome) && (!s.decB.running || f.recB.isSome)

/-- Heads parsed while no decider is awaited are classified at once (R231, R233). -/
def settleOrphans (s : Sys) : Sys :=
  let l := (openHeads s).filter (fun x => x.2.stage == .parsed && x.2.classified.isNone && pairWhole s x.2)
  let s := l.foldl (fun s x => classify x.1 s) s
  commitReady (s.frames.length + 1) s

/-- Open the windows of the heads that a lane's delivery has passed (R233). -/
def openWindows (lane upto : Nat) (s : Sys) : Sys :=
  ((openHeads s).filter (fun x => x.2.seq % 2 == lane && decide (x.2.seq ≤ upto) && x.2.window.isNone && x.2.stage == .parsed)).foldl
    (fun s x => updFrame x.1 (fun f => { f with window := some s.now }) s) s

/-- Periods without a heartbeat since tick `t0`: each ends 0.4 µs after the heartbeat was due (R243, log entry 32). -/
def missedPeriods (s : Sys) (t0 : Nat) : Nat := (s.now - t0 - 500) / 1280

/-- A null record at the Plinth (R241, R243): valid, it restarts the timer, and the periods before it that had none are counted. -/
def nullArrival (d : DecId) (lane : Nat) (b : List Byte) (s : Sys) : Sys :=
  let v := decider s d
  let r := decodeRec b
  if crcGood b ∧ r.typ = 1 ∧ r.info = (v.lastNull + 1) % 2 ^ 32 ∧ v.gotOn lane ≤ r.seq then
    openWindows lane r.seq (bumpBy (Ctr.decHbMissInband (dnat d)) (missedPeriods s v.hbIn)
      (setDecider d { v with lastNull := r.info, hbIn := s.now } s))
  else bump (Ctr.decHbBad (dnat d)) s

/-- The record of golden vector `k` reaches the Plinth: it passes when bytes 16 to 43 are as expected, apart from the decider bit (R246).
`altered` are bytes that it shows in place of its own. -/
def vectorArrival (d : DecId) (lane seq k : Nat) (altered : Option (List Byte)) (s : Sys) : Sys :=
  let v := decider s d
  let good : Bool := match altered with
    | none => true
    | some b => slice (patch b 16 (u8b (byteAt b 16 &&& 0xDF))) 16 28 == vectorBody .a k
  openWindows lane seq (if v.inRun ∧ good then setDecider d { v with passed := v.passed ++ [k] } s else s)

/-- A record of head `seq` at the commit stage: it joins its pair, windows open for what is missing, and a whole pair is settled;
for a head that is no longer open it is late (R233, R235). `out` says that it is out of order on its lane (R234). -/
def headRecord (d : DecId) (lane seq : Nat) (out : Bool) (b : List Byte) (s : Sys) : Sys :=
  match (openHeads s).find? (fun x => x.2.seq == seq && x.2.classified.isNone) with
  | none => bump Ctr.decLateRecord s
  | some (id, _) =>
    let s := updFrame id (fun f => match d with
      | .a => { f with recA := some b, outA := out }
      | .b => { f with recB := some b, outB := out }) s
    let s := openWindows lane seq s
    if pairWhole s (frame s id) then settle id s else s

/-- A record that a lane delivers. -/
def deliver (d : DecId) (lane : Nat) (out : Bool) (i : InFlight) (altered : Option (List Byte)) (s : Sys) : Sys :=
  let b := padRight 48 (altered.getD i.bytes)
  match i.head, i.vec with
  | none, _ => nullArrival d lane b s
  | some seq, some k => vectorArrival d lane seq k (altered.map (padRight 48 ·)) s
  | some seq, none => headRecord d lane seq out b s

/-- The lane behind a delivery (R234, R241): the number delivered, and whether the next one is out of order. -/
def Decider.delivered (v : Decider) (lane : Nat) (rest : List InFlight) (lost : Bool) (i : InFlight) : Decider :=
  let w := v.setLane lane rest
  match i.head with
  | none => w.setGap lane (v.gapOn lane || lost)
  | some seq => (w.setGot lane seq).setGap lane false

/-- DECISION_RECORD_ARRIVAL (R233): `skip` records of the lane are lost before this one; `altered` are the bytes it shows. -/
def recordArrivalEffect (d : DecId) (lane skip : Nat) (altered : Option (List Byte)) (s : Sys) : Sys :=
  let v := decider s d
  match (v.inLane lane).drop skip with
  | [] => s
  | i :: rest =>
    let lost := ((v.inLane lane).take skip).any (·.head.isSome)
    let s := setDecider d (v.delivered lane rest lost i) s
    if !v.running then s else deliver d lane (v.gapOn lane || lost) i altered s

/-- COMPARISON_WINDOW_EXPIRY (R233): 392 ns after the window opened the pair is classified. -/
def windowExpiryEffect (seq : Nat) (s : Sys) : Sys :=
  match (openHeads s).find? (fun x => x.2.seq == seq && x.2.classified.isNone) with
  | none => s
  | some (id, f) =>
    match f.window with
    | some t => if t + 490 ≤ s.now then settle id s else s
    | none => s

end Sys2Proof.Machine
end

