-- ==== Sys2Proof/Machine/Mac.lean ====
section
/-! DEFINITION. The receive MAC and its filters (R118 to R130, R145): heads and tails of received frames, PAUSE and PFC. -/

namespace Sys2Proof.Machine

/-! ### Acceptance (R119, R145) -/

/-- What a MAC does with what arrives: nothing; every frame; Gramus alone, counting the others, before ready; Gramus alone,
with DORMANT_RX_DROP for the others. -/
inductive Accept where
  | deaf | all | boot | dormant
  deriving DecidableEq, Repr

/-- Whether port 72 runs before ready: its start-up step is complete (R145, Table RST-2). -/
def mgmtStarts (s : Sys) : Bool := decide (s.devState = 0 ∧ 7 ≤ s.devStep)

/-- Whether a steward runs that could answer (R85, R445). -/
def stewardsRun (s : Sys) : Bool := s.plinth.restart.isNone && (s.devState != 0 || mgmtStarts s)

def macAccept (s : Sys) (p : Nat) : Accept :=
  if 73 ≤ p ∨ isKng s p ∨ !admin s p ∨ !(port s p).linkUp then .deaf
  else match s.devState with
    | 1 => .all
    | 0 => if p = 72 ∧ mgmtStarts s then .boot else .deaf
    | _ => .dormant

/-! ### The filters of Table PRT-6 -/

/-- Gramus under R64: the port, the EtherType behind at most one 802.1Q tag, the address and the VID. -/
def isGramus (s : Sys) (p : Nat) (b : List Byte) : Bool :=
  let tagged := field b 12 2 == 0x8100
  let ether := if tagged then field b 16 2 else field b 12 2
  let dst := field b 0 6
  let vid := obj s 0x0300 4
  bit (obj s 0x0300 3) p && ether == obj s 0x0300 1 && (dst == obj s 0x0300 2 || dst == Config.gmpGroup)
    && (!tagged || (decide (vid ≠ 0) && field b 14 2 % 4096 == vid))

/-- MAC control (R128): the bytes behind the addresses. -/
def isMacCtl (b : List Byte) : Bool := field b 12 2 == 0x8808

/-- The destination addresses of PTP over UDP (R308). -/
def ptpUdp (s : Sys) (inst tr : Nat) (off : Nat) (b : List Byte) : Bool :=
  let ip := cell s 0x0900 1 inst 9
  if tr = 1 then
    let dst := field b (off + 16) 4
    byteAt b off == 0x45 && byteAt b (off + 9) == 17 && (field b (off + 22) 2 == 319 || field b (off + 22) 2 == 320)
      && (dst == ip % 2 ^ 32 || dst == 0xE0000181 || dst == 0xE000006B)
  else
    let dst := field b (off + 24) 16
    byteAt b (off + 6) == 17 && (field b (off + 42) 2 == 319 || field b (off + 42) 2 == 320)
      && (dst == ip || dst == 0xFF0E0000000000000000000000000181 || dst == 0xFF020000000000000000000000000181
        || dst == 0xFF02000000000000000000000000006B)

/-- Whether instance `inst` carries the frame, by its transport (R308). -/
def ptpCarries (s : Sys) (inst p : Nat) (b : List Byte) : Bool :=
  let n := (tagsOf s p b).length
  let ether := etherOf s p b
  match cell s 0x0900 1 inst 3 with
  | 0 => ether == 0x88F7
  | 1 => decide (n ≤ 1) && ether == 0x0800 && ptpUdp s inst 1 (14 + 4 * n) b
  | _ => decide (n ≤ 1) && ether == 0x86DD && ptpUdp s inst 2 (14 + 4 * n) b

/-- Whether row `p` of instance `inst` is enabled. -/
def ptpRow (s : Sys) (inst p : Nat) : Bool := decide (p ≤ 72) && cell s 0x0900 1 inst 0 != 0 && cellB s 0x0910 1 (73 * inst + p) 0

/-- Built-in filter 3. -/
def isPtp (s : Sys) (p : Nat) (b : List Byte) : Bool :=
  (List.range 4).any (fun i => ptpRow s i p && decide (cell s 0x0900 1 i 1 ≤ 1) && ptpCarries s i p b)

/-- Built-in filter 4: slow protocols, untagged, on lane ports. -/
def isSlow (p : Nat) (b : List Byte) : Bool := decide (p ≤ 63) && field b 0 6 == 0x0180C2000002 && field b 12 2 == 0x8809

/-- The first user filter that matches (R124): its row. -/
def userFilter (s : Sys) (p : Nat) (b : List Byte) : Option Nat :=
  let tags := tagsOf s p b
  let tpid := match tags with | t :: _ => t.1 | [] => 0
  let tci := match tags with | t :: _ => t.2 | [] => 0
  let ether := field b (12 + 4 * min 2 tags.length) 2
  let hit (v key mask : Nat) : Bool := (v ^^^ key) &&& mask == 0
  findBelow 32 (fun r =>
    let c := cell s (pix p 1) 1 r
    c 0 == 1 && hit tpid (c 1) (c 2) && hit (tci % 4096) (c 3) (c 4) && hit (bits tci 15 13) (c 5) (c 6) && hit ether (c 7) (c 8))

/-! ### PAUSE and PFC (R128 to R130) -/

/-- The port's class stops until a tick; a time of 0 releases it. Protected classes never stop. -/
def stopClass (p c quanta : Nat) (s : Sys) : Sys :=
  if protects s c then s
  else
    let till := if quanta = 0 then 0 else s.now + bitTicks (512 * quanta) (linkSpeed s p)
    updPort p (fun q => { q with pause := SMap.set 0 q.pause c till }) s

/-- A PAUSE frame at an accepting MAC. -/
def pauseOp (p dst quanta : Nat) (s : Sys) : Sys :=
  if (port s p).half ∨ dst ≠ 0x0180C2000001 then bump (Ctr.rxMacctlDrop p) s
  else
    let s := bump (Ctr.rxPause p) s
    if obj s (pix p 2) 1 = 1 then loop (fun c => stopClass p c quanta) 0 8 s else s

/-- A PFC frame at an accepting MAC. -/
def pfcOp (p dst enables : Nat) (times : List Nat) (s : Sys) : Sys :=
  if (port s p).half ∨ dst ≠ 0x0180C2000001 then bump (Ctr.rxMacctlDrop p) s
  else
    let s := bump (Ctr.rxPfc p) s
    if obj s (pix p 2) 1 = 2 then
      loop (fun c s => if bit enables c ∧ bit (obj s (pix p 2) 2) c then stopClass p c (times.getD c 0) s else s) 0 8 s
    else s

/-- A whole MAC control frame. -/
def macCtlOp (p : Nat) (b : List Byte) (s : Sys) : Sys :=
  match field b 14 2 with
  | 0x0001 => pauseOp p (field b 0 6) (field b 16 2) s
  | 0x0101 => pfcOp p (field b 0 6) (field b 16 2) ((List.range 8).map (fun c => field b (18 + 2 * c) 2)) s
  | _ => bump (Ctr.rxMacctlDrop p) s

/-- A good frame of `n` bytes with its FCS in the counters of Table PRT-5. -/
def countGood (p n : Nat) (s : Sys) : Sys := bumpBy (Ctr.rxOctets p) n (bump (Ctr.rxFrames p) s)

/-- A good MAC control frame of 64 bytes at port `p` (log entry 37): counted as Table PRT-5 says where the MAC accepts it, consumed
with effect `f` while the device is ACTIVE, and met as any other frame before ready and in DORMANT (R119, R145). -/
def macCtlRx (p : Nat) (f : Sys → Sys) (s : Sys) : Sys :=
  if !fromBalls s p then s
  else match macAccept s p with
  | .deaf => s
  | .all => f (countGood p 64 s)
  | .boot => countGood p 64 s
  | .dormant => bump (Ctr.dormantRxDrop p) s

/-- PAUSE_RX and PFC_RX. -/
def pauseRxEffect (p dst quanta : Nat) (s : Sys) : Sys := macCtlRx p (pauseOp p dst quanta) s
def pfcRxEffect (p dst enables : Nat) (times : List Nat) (s : Sys) : Sys := macCtlRx p (pfcOp p dst enables times) s

/-- PAUSE_TIMER_EXPIRY: a time that has run out releases its class. -/
def pauseExpiryEffect (p c : Nat) (s : Sys) : Sys :=
  if SMap.get 0 (port s p).pause c ≤ s.now then updPort p (fun q => { q with pause := SMap.set 0 q.pause c 0 }) s else s

/-- The tick until which a class is stopped; a protected class never is, whenever it became one (R130). -/
def pausedTill (s : Sys) (p c : Nat) : Nat := if protects s c then 0 else SMap.get 0 (port s p).pause c

/-- Whether a class of a port is stopped. -/
def paused (s : Sys) (p c : Nat) : Bool := decide (s.now < pausedTill s p c)

/-! ### Heads -/

/-- The TILE clock cycle of a tick: two ticks, by T0's divider (log entry 79). -/
def tileCycle (s : Sys) (t : Nat) : Nat := t / (2 * 2 ^ min 2 (bits s.nrg.form.tiles 1 0))

/-- The place of a head among those of one TILE cycle: tile, then source port (R14). -/
def headRank (f : Frame) : Nat := 128 * tileOf f.port + f.port

/-- Put a head in its place among unparsed heads of its TILE cycle and generation: the numbers they hold go to them in the order
of tile and source port (R14). -/
def orderHeads (id : Nat) (s : Sys) : Sys :=
  let f := frame s id
  let same := (allFrames s).filter (fun x => x.2.stage == .numbered && x.2.gen == f.gen && tileCycle s x.2.headAt == tileCycle s f.headAt)
  let seqs := (sortBy (fun x => x.2.seq) same).map (fun x => x.2.seq)
  let ranked := sortBy (fun x => headRank x.2) (sortBy (fun x => x.2.seq) same)
  (ranked.zip seqs).foldl (fun s x => updFrame x.1.1 (fun f => { f with seq := x.2 }) s) s

/-- Give the frame the next number of the head sequence, with the generations in force (R14, R49, R179). -/
def numberHead (id : Nat) (s : Sys) : Sys :=
  let n := if lane1Napped s then s.headSeq + s.headSeq % 2 else s.headSeq
  let s := orderHeads id (updFrame id (fun f => { f with stage := .numbered, seq := n, gen := s.gen, rsGen := s.rsGen, headAt := s.now })
    { s with headSeq := n + 1 })
  if (frame s id).ended then sendVerdict id s else s

/-- The steward queues of the filter codes 0, 2 and 3 (Table PRT-6): queue, depth and drop counter. -/
def stewardQueue (code : Nat) : Nat × Nat × Nat :=
  match code with | 0 => (0, 256, Ctr.gmpRxDrop) | 2 => (1, 512, Ctr.stewQDrop) | _ => (2, 128, Ctr.stewQDrop)

/-- What the filters say of a frame that `acc` lets in: none for the parser, or a code: 0 SQ0, 1 discarded, 2 SQ1, 3 SQ2,
4 host, 5 copy to host, 9 MAC control; with the row of a user filter, and the state with its counters. -/
def filterFrame (acc : Accept) (p : Nat) (b : List Byte) (s : Sys) : Sys × Option (Nat × Nat) :=
  if acc = .all ∧ isMacCtl b then (s, some (9, 0))
  else if isGramus s p b then (s, some (0, 0))
  else if acc ≠ .all then (s, some (1, 0))
  else if isPtp s p b then (s, some (2, 0))
  else if isSlow p b then (s, some (3, 0))
  else match userFilter s p b with
    | none => (s, none)
    | some r =>
      let s := bump (Ctr.rxFilterHit p r) s
      match cell s (pix p 1) 1 r 9 with
      | 0 => (s, none)
      | 1 => (bump (Ctr.rxFilterDrop p) s, some (1, r))
      | a => (s, some (a, r))

/-- Pass a head on: into the head sequence, or towards the target of its filter (R123, R126). The row's host queue is the one in
force now. -/
def passHead (id : Nat) (acc : Accept) (s : Sys) : Sys :=
  let f := frame s id
  let (s, how) := filterFrame acc f.port f.bytes s
  let queue (r : Nat) : Nat := 584 + cell s (pix f.port 1) 1 r 10
  match how with
  | none => numberHead id (updFrame id (fun f => { f with filter := none }) s)
  | some (5, r) => numberHead id (updFrame id (fun f => { f with filter := some (5, r), hostQueue := queue r }) s)
  | some x => updFrame id (fun f => { f with filter := some x, stage := .steered, hostQueue := queue x.2, gen := s.gen }) s

/-- The copy that a user filter sends to the host (R125, R126). -/
def hostCopy (id reason row : Nat) (s : Sys) : Sys :=
  ownCopy id { port := 73, kind := .host reason row, sel := { fixed := true, queue := (frame s id).hostQueue } } s

/-- A new frame of a port. -/
def newFrame (p sfd : Nat) (b : List Byte) : Frame := { port := p, orig := p, sfd := sfd, bytes := b, stage := .steered, filter := some (1, 0) }

/-- Whether DORMANT accepts a frame: Gramus on port 72 alone (R145). -/
def dormantTakes (s : Sys) (p : Nat) (b : List Byte) : Bool := decide (p = 72) && isGramus s p b

/-- Begin a frame longer than its head (R13, R16): full staging drops it, and DORMANT drops what is not Gramus on port 72. -/
def beginFrame (p sfd : Nat) (b : List Byte) (marred : Bool) (s : Sys) : Sys :=
  let acc := macAccept s p
  if acc = .deaf ∨ (port s p).rx.isSome then s
  else
    let (id, s') := addFrame { newFrame p sfd b with marred := marred } s
    let s' := updPort p (fun q => { q with rx := some id }) s'
    if acc = .dormant ∧ !dormantTakes s p b then bump (Ctr.dormantRxDrop p) (updFrame id (fun f => { f with filter := some (8, 0) }) s')
    else if stagingUsed s (tileOf p) + b.length > stagingBytes then bump (Ctr.rxStageDrop p) s'
    else passHead id acc s'

/-! ### Tails (Table PRT-5) -/

/-- FEC codewords that came with the bytes of a frame: how many were corrected, and how many could not be. -/
abbrev Codewords := Nat × Nat

/-- Count a port's codewords, while it runs a FEC (R99). -/
def countCw (p : Nat) (cw : Codewords) (s : Sys) : Sys :=
  if p ≤ 63 ∧ obj s (0x2000 + 0x10 * p) 2 ≠ 0 then bumpBy (Ctr.fecUncorrectedCw p) cw.2 (bumpBy (Ctr.fecCorrectedCw p) cw.1 s) else s

/-- Whether a frame has a codeword that FEC could not correct: its symbols are marked bad (R99). -/
def marredBy (s : Sys) (p : Nat) (cw : Codewords) : Bool := decide (p ≤ 63) && obj s (0x2000 + 0x10 * p) 2 != 0 && cw.2 != 0

/-- Count a frame of `raw.length` bytes with its FCS at port `p`: whether its FCS is good and its size allowed. A frame with symbols marked
bad is a frame with a bad FCS. -/
def rxCount (p : Nat) (raw : List Byte) (partialOctet marred : Bool) (s : Sys) : Sys × Bool :=
  let n := raw.length
  let body := raw.take (n - 4)
  let tail := raw.drop (n - 4)
  let good := decide (4 ≤ n) && tail == fcsBytes body && !marred
  if n > maxFrame s p then (bump (if n < 16384 then Ctr.rxOversize p else Ctr.rxJabber p) s, false)
  else if n < 64 then (bump (if good then Ctr.rxRunt p else Ctr.rxFragment p) s, false)
  else if good then (countGood p n s, true)
  else if tail == stompBytes body ∧ !marred then (bump (Ctr.rxStomped p) s, false)
  else if partialOctet ∧ 64 ≤ p ∧ p ≤ 71 then (bump (Ctr.rxAlignErr p) s, false)
  else (bump (Ctr.rxFcsErr p) s, false)

/-- A steered frame whose tail is good reaches its target (R125, R126). -/
def deliverSteered (id code row : Nat) (s : Sys) : Sys :=
  let f := frame s id
  match code with
  | 1 => s
  | 8 => s
  | 9 => macCtlOp f.port f.bytes s
  | 4 =>
    if !admin s 73 then bump (Ctr.rxFilterDrop f.port) s else hostCopy id 1 row s
  | c =>
    if c = 0 ∧ !stewardsRun s then s else
    let (q, depth, full) := stewardQueue c
    let l := SMap.get [] s.sq q
    if l.length ≥ depth then bump full s else { s with sq := SMap.set [] s.sq q (l ++ [id]) }

/-- A tail over the limit of the stream row: the frame passed the size test provisionally (R348). -/
def lateSdu (id : Nat) (s : Sys) : Sys × Bool :=
  let f := frame s id
  match f.handle with
  | none => (s, false)
  | some h =>
    let c := cell s 0x6000 1 h
    if f.stage = .committed ∧ !f.knaing ∧ c 0 = 1 ∧ c 1 ≠ 0 ∧ f.length > c 1 then (sduFail h s, true) else (s, false)

/-- Where a bad tail cuts a copy in transmission: one over MAX_FRAME after the bytes sent by the arrival of byte MAX_FRAME + 1
(R120), any other at its end (R268). -/
def badCut (s : Sys) (f : Frame) (c : Copy) : Option Nat :=
  if !f.oversize then none
  else
    let p := txPort s c.port
    let then_ := f.sfd + bitTicks (8 * (maxFrame s f.port + 1)) (linkSpeed s f.port)
    some (if c.st = .sending then c.sent + ((then_ - c.start) * linkSpeed s p / 10000 - 8) else c.sent)

/-- Where the transmit MAC ends a frame that is cut through and longer than MAX_FRAME of its egress port (R121). -/
def overCut (s : Sys) (c : Copy) : Option Nat :=
  let p := txPort s c.port
  if c.path = .cut ∧ p ≤ 72 ∧ copyWhole s c ∧ wireLen s c > maxFrame s p then some (maxFrame s p - 4) else none

/-- The copies of a frame learn its tail (R265, R268, R274, R325). -/
def tailCopies (id : Nat) (s : Sys) : Sys :=
  ((allCopies s).filter (fun c => c.2.frame == id && c.2.body.isNone)).foldl (fun s x =>
    let f := frame s id
    let c := copy s x.1
    if !hasCopy s x.1 ∨ c.st = .crossing then s
    else if c.st = .waiting then
      if f.bad ∧ !c.isRecorder then dropCopy (Ctr.fabBadTailDrop (txPort s c.port)) x.1 s else enqueue x.1 s
    else if f.bad then
      if c.st = .sending ∨ c.st = .suspended then
        if c.stomped then s
        else
          let cut := badCut s f c
          let long := overCut s c
          if long.isSome ∧ (cut = none ∨ long.getD 0 < cut.getD 0) then
            bump (Ctr.txOversizeStomp (txPort s c.port)) (updCopy x.1 (fun c => { c with stomped := true, cutAt := long }) s)
          else bump (Ctr.txTailStomp (txPort s c.port)) (updCopy x.1 (fun c => { c with stomped := true, cutAt := cut }) s)
      else if c.path = .deep ∧ !c.isRecorder then dropCopy (Ctr.fabBadTailDrop (txPort s c.port)) x.1 s
      else if c.isRecorder then updCopy x.1 (fun c => { c with ready := true }) s else s
    else
      if c.st = .sending ∨ c.st = .suspended then s
      else match lengthTests s (copy s x.1) with
        | some ctr => refuseLength ctr x.1 s
        | none =>
          if c.path = .deep then bpmAdmit x.1 s
          else updCopy x.1 (fun c => { c with ready := true }) s) (trueLength id s)

/-- The end of a frame that has been counted: its verdict reaches learning, meters, streams, recovery and copies. -/
def settleTail (id : Nat) (s : Sys) : Sys :=
  let f := frame s id
  let good := !f.bad
  match f.stage, f.filter with
  | .steered, some (code, row) => reap id (if good then deliverSteered id code row s else s)
  | _, _ =>
    let s := match f.filter with
      | some (_, row) =>
        if good then hostCopy id 2 row s else s
      | none => s
    let s := meterReturn id (readyLearn id (f.verdict == some true) s)
    let (s, over_) := lateSdu id s
    let s := if over_ then markBad id s else s
    let s := if (frame s id).decodeKind = 2 ∧ hsrWrong s (frame s id) then bump (Ctr.frerEncErr f.orig) (markBad id s) else s
    let f := frame s id
    let s := match f.rcvyFn with
      | some fn => bumpIf f.bad (Ctr.frerPassedBad fn) s
      | none => s
    if f.waits then
      let s := updFrame id (fun f => { f with waits := false, decoded := decodeSeq s f f.decodeKind }) s
      if f.bad then reap id s else finishCommit id s
    else reap id (tailCopies id s)

/-- The last bit of a frame that arrived passes: on a half-duplex port the gap of CSMA/CD follows the carrier, and another node's
PLCA opportunity ends (R133, R135). -/
def carrierEnd (p : Nat) (s : Sys) : Sys :=
  if (port s p).half then
    plcaCarrier p (updPort p (fun q => { q with crsAt := s.now, free := max q.free (s.now + bitTicks (obj s (pix p 3) 3) (linkSpeed s p)) }) s)
  else s

/-- Complete a frame under way with the bytes that came last. Bytes that find staging full drop the frame (R16). -/
def endFrame (id : Nat) (rest : List Byte) (partialOctet marred : Bool) (s : Sys) : Sys :=
  let f := frame s id
  let raw := f.bytes ++ f.fcs ++ rest
  let n := raw.length
  let p := f.port
  let counts := f.filter ≠ some (8, 0)
  let (s', good) := rxCount p raw partialOctet (marred || f.marred) s
  let s := if counts then s' else s
  let s := carrierEnd p (updPort p (fun q => { q with rx := none }) s)
  let limit := maxFrame s p
  let full := stagingFull s f (min rest.length (limit - f.bytes.length))
  let s := bumpIf (full && !f.overrun) (Ctr.rxStageDrop p) s
  let lost := f.overrun || full
  let long := decide (n > limit)
  let kept := if lost then (f.bytes, f.fcs) else if long then (raw.take limit, []) else (raw.take (n - 4), raw.drop (n - 4))
  let s := updFrame id (fun f => { f with bytes := kept.1, fcs := kept.2, ended := true, length := n, oversize := long, overrun := lost,
                                          bad := f.bad || !good || lost, verdict := some good }) s
  settleTail id s

/-- A frame no longer than a head arrives whole (R13, R119). -/
def wholeFrame (p sfd : Nat) (raw : List Byte) (partialOctet marred : Bool) (s : Sys) : Sys :=
  let acc := macAccept s p
  let n := raw.length
  if acc = .deaf ∨ (port s p).rx.isSome then s
  else if acc = .dormant ∧ !dormantTakes s p raw then bump (Ctr.dormantRxDrop p) s
  else
    let (s, good) := rxCount p raw partialOctet marred s
    let s := carrierEnd p s
    if !good then s
    else if stagingUsed s (tileOf p) + n > stagingBytes then bump (Ctr.rxStageDrop p) s
    else
      let f := { newFrame p sfd (raw.take (n - 4)) with fcs := raw.drop (n - 4), ended := true, length := n, verdict := some true }
      let (id, s) := addFrame f s
      let s := passHead id acc s
      match (frame s id).stage, (frame s id).filter with
      | .steered, some (code, row) => reap id (deliverSteered id code row s)
      | _, some (5, row) => hostCopy id 2 row s
      | _, _ => s

/-- A frame of any length arrives whole: its head, then its tail. -/
def arrive (p sfd : Nat) (raw : List Byte) (s : Sys) : Sys :=
  if raw.length ≤ 128 then wholeFrame p sfd raw false false s
  else
    let s := beginFrame p sfd (raw.take 128) false s
    match (port s p).rx with
    | some id => endFrame id (raw.drop 128) false false s
    | none => s

/-- Far-end loopback: what arrives returns, retimed, to the transmit balls (R104). -/
def farEnd (p : Nat) (b : List Byte) (s : Sys) : Sys := if loopMode s p = 3 then updPort p (fun q => { q with lastTx := b }) s else s

/-- HEAD_COMPLETE: the first 128 bytes, or with `ended` the whole shorter frame with its FCS; with the FEC codewords that brought them. -/
def headCompleteEffect (p sfd : Nat) (b : List Byte) (ended : Bool) (cw : Codewords) (s : Sys) : Sys :=
  if !fromBalls s p then s
  else
    let marred := marredBy s p cw
    let s := farEnd p b (countCw p cw s)
    if ended then wholeFrame p sfd b false marred s else beginFrame p sfd b marred s

/-- FRAME_TAIL: the bytes from the last ones given to the FCS, with the FEC codewords that brought them. On a port with no frame under
way, `rest` is a frame no longer than a head (log entry 25). -/
def frameTailEffect (p : Nat) (rest : List Byte) (partialOctet : Bool) (cw : Codewords) (s : Sys) : Sys :=
  if !fromBalls s p then s
  else
    let marred := marredBy s p cw
    let s := farEnd p ((port s p).lastTx ++ rest) (countCw p cw s)
    match (port s p).rx with
    | some id => endFrame id rest partialOctet marred s
    | none => wholeFrame p (s.now - bitTicks (8 * rest.length) (linkSpeed s p)) rest partialOctet marred s

/-! ### Preemption fragments (R346) -/

/-- MM_FRAGMENT_RX: with PREEMPT_ENABLE true the receive side reassembles, and answers a verify mPacket (R342); the last fragment ends with
the frame's FCS. -/
def mmFragmentEffect (p : Nat) (kind : MmKind) (b : List Byte) (s : Sys) : Sys :=
  if 64 ≤ p ∨ !flag s (pix p 0x0E) 1 ∨ macAccept s p ≠ .all ∨ !fromBalls s p then s
  else
    let q := port s p
    let clear (q : Port) : Port := { q with mmOpen := false, mmBytes := [] }
    let smd (s : Sys) : Sys := bump (Ctr.mmSmdErr p) (updPort p clear s)
    match kind with
    | .badSmd => smd s
    | .verify => updPort p (fun q => { q with verifyReplies := q.verifyReplies + 1 }) s
    | .bad => bump (Ctr.mmAssyErr p) (updPort p clear (bump (Ctr.mmRxFrag p) s))
    | .first =>
      if q.mmOpen then smd s else updPort p (fun q => { q with mmOpen := true, mmBytes := b }) (bump (Ctr.mmRxFrag p) s)
    | .continuation =>
      if q.mmOpen then updPort p (fun q => { q with mmBytes := q.mmBytes ++ b }) (bump (Ctr.mmRxFrag p) s) else smd s
    | .final =>
      if q.mmOpen then
        let raw := q.mmBytes ++ b
        arrive p (s.now - bitTicks (8 * raw.length) (linkSpeed s p)) raw
          (bump (Ctr.mmAssyOk p) (updPort p clear (bump (Ctr.mmRxFrag p) s)))
      else smd s

end Sys2Proof.Machine
end

