-- ==== Sys2Proof/Machine/KngCode.lean ====
section
/-! DEFINITION. The line code of the Knaing link as a transmitter sends it and a receiver reads it: headers, scrambling, stuffing,
segments and blocks (R109 to R112). -/

namespace Sys2Proof.Machine

def kngFirst (s : Sys) : Nat := obj s 0x2800 2
def updKng (f : Kng → Kng) (s : Sys) : Sys := { s with kng := f s.kng }
def kngLane (s : Sys) (k : Nat) : KngLane := SMap.get {} s.kng.lanes k
def updKngLane (k : Nat) (f : KngLane → KngLane) (s : Sys) : Sys :=
  updKng (fun g => { g with lanes := SMap.upd {} g.lanes k f }) s

/-- seq at a tick: blocks of 1,024 bits at 28.125 Gb/s, modulo 4,096 (R111, log entry 22). -/
def kngSeq (t : Nat) : Nat := t * 45 / 2048 % 4096

/-- How far `a` lies ahead of `b`, modulo 4,096. -/
def seqAhead (a b : Nat) : Nat := (a + 4096 - b % 4096) % 4096

/-! ### Bits -/

/-- A number from bits, most significant first, and `n` bits of a number. -/
def bitsNat (l : List Bool) : Nat := l.foldl (fun a b => a * 2 + boolNat b) 0
def natBits (n v : Nat) : List Bool := (List.range n).map (fun i => bit v (n - 1 - i))

/-- Bytes from bits, and bits from bytes. -/
def bytesOfBits : Nat → List Bool → List Byte
  | 0, _ => []
  | n + 1, l => BitVec.ofNat 8 (bitsNat (l.take 8)) :: bytesOfBits n (l.drop 8)

def bitsOfBytes (b : List Byte) : List Bool := (b.map (fun x => natBits 8 x.toNat)).flatten

/-! ### Scrambling (R109): one function serves both directions -/

/-- The seed of a block's payload. -/
def kngSeed (laneId seq : Nat) : Nat := 2 ^ 30 + laneId * 2 ^ 27 + seq * 2 ^ 15 + 0x2AAA

/-- Scramble payload bits, or descramble them, from a scrambler state. -/
def scramble : List Bool → Nat → List Bool
  | [], _ => []
  | d :: l, st =>
    let k := bit st 30 != bit st 27
    (d != k) :: scramble l ((st * 2 + boolNat k) % 2 ^ 31)

/-! ### Stuffing (R110) -/

/-- Stuff bits behind a last bit and its run: the new last bit and run, and the bits sent in reverse. -/
def stuff : List Bool → Bool → Nat → List Bool → Bool × Nat × List Bool
  | [], last, run, acc => (last, run, acc)
  | b :: l, last, run, acc =>
    let n := if b == last then run + 1 else 1
    if n = 20 then stuff l (!b) 1 ((!b) :: b :: acc) else stuff l b n (b :: acc)

/-- Destuff received bits: the last bit and its run, how many stuff bits were wrong, and the delivered bits in reverse. -/
def destuff : List Bool → Bool → Nat → Nat → List Bool → Bool × Nat × Nat × List Bool
  | [], last, run, bad, acc => (last, run, bad, acc)
  | b :: l, last, run, bad, acc =>
    if run = 20 then destuff l b 1 (bad + boolNat (b == last)) acc
    else destuff l b (if b == last then run + 1 else 1) bad (b :: acc)

/-! ### Headers and blocks (R111) -/

/-- A block header: type 0 idle, 1 data, 2 control. -/
def kngHeader (typ laneId seq : Nat) : Nat :=
  let h := 0x2C * 2 ^ 18 + typ * 2 ^ 16 + laneId * 2 ^ 13 + seq % 4096 * 2
  h * 256 + crc8 (toBE 3 h)

/-- Whether a header has the right sync and a good hcrc. -/
def headerGood (h : Nat) : Bool := bits h 31 26 == 0x2C && crc8 (toBE 3 (h / 256)) == h % 256

/-- The 1,024 bits of a block before stuffing: `pay` is at most 124 bytes. -/
def kngBlockBits (typ laneId seq : Nat) (pay : List Byte) : List Bool :=
  natBits 32 (kngHeader typ laneId seq) ++ scramble (bitsOfBytes (padRight 124 pay)) (kngSeed laneId seq)

/-- Send a block on a lane of the group: the stuffer of the lane goes on from its last block. -/
def kngSendBlock (typ laneId seq : Nat) (pay : List Byte) (s : Sys) : Sys :=
  let l := kngLane s laneId
  let (last, run, acc) := stuff (kngBlockBits typ laneId seq pay) l.txLast l.txRun []
  updKng (fun g => { g with txBlocks := g.txBlocks ++ [(laneId, acc.reverse)] })
    (updKngLane laneId (fun l => { l with txLast := last, txRun := run }) s)

/-! ### Frames on the link (R112, Table LAN-7) -/

/-- Cut the descriptor and the frame into the payloads of blocks, a segment of at most 122 bytes in each (log entry 81). -/
def kngPayloads : Nat → Bool → List Byte → List (List Byte)
  | 0, _, _ => []
  | n + 1, first, b =>
    let rest := b.drop 122
    let head := boolNat first * 2 ^ 15 + boolNat rest.isEmpty * 2 ^ 14 + min 122 b.length
    (u16b head ++ b.take 122) :: (if rest.isEmpty then [] else kngPayloads n false rest)

/-- The descriptor of a frame of `len` bytes. -/
def kngDescriptor (f : Frame) (stomped : Bool) (len : Nat) : List Byte :=
  u8b f.orig ++ u8b (boolNat stomped * 128) ++ u16b len ++ u32b (f.seq % 2 ^ 32) ++ List.replicate 8 0 ++ (f.com.getD {}).encode

/-- Send a frame's bytes with its descriptor over the active lanes in lane_id order, one block per lane per seq. -/
def kngSendFrame (desc b : List Byte) (s : Sys) : Sys :=
  let x := desc ++ b
  let w := max 1 s.kng.txWidth
  let pays := kngPayloads (x.length / 122 + 1) true x
  (pays.zip (List.range pays.length)).foldl (fun s y => kngSendBlock 1 (y.2 % w) (kngSeq s.now + y.2 / w) y.1 s)
    (updKng (fun g => { g with txBlocks := [] }) s)

end Sys2Proof.Machine
end

