-- ==== Sys2Proof/Machine/Sched.lean ====
section
/-! DEFINITION. The port scheduler and the transmit MAC: selection, deficits, credits, preemption, stamps and the end of a
transmission (R303, R304, R309, R324 to R332, R339 to R345). -/

namespace Sys2Proof.Machine

/-! ### Credit (R331, R332); amounts are in 10^-7 of 2^-16 bit -/

/-- The limits of an I64 of 2^-16 bit. -/
def creditClamp (x : Int) : Int := max (-(2 ^ 63) * 10000000) (min x ((2 ^ 63 - 1) * 10000000))

/-- What a slope of `kbps` gains in a tick. -/
def slopeTick (kbps : Int) : Int := kbps * 524288

/-- Advance one credit over ticks in which nothing changes. -/
def creditRun (tx blocked waits : Bool) (i r : Nat) (n : Nat) (c : Int) : Int :=
  let idle : Int := min i r
  if n = 0 then c
  else if tx then creditClamp (c + slopeTick (idle - r) * n)
  else if blocked then c
  else if waits then creditClamp (c + slopeTick idle * n)
  else if c < 0 then min 0 (c + slopeTick idle * n)
  else 0

/-- Bring the credits of port `p` from their last update to tick `t`, across the end of a gap and of a pause. -/
def creditTo (p t : Nat) (s : Sys) : Sys :=
  let q := port s p
  if t ≤ q.creditAt then s
  else
    let one (c : Nat) (x : Int) : Int :=
      let i := SMap.get 0 q.idle c
      let gap := if q.txClass = some c then (if q.tx.isSome then t else min t (max q.creditAt q.free)) else q.creditAt
      let still := min t (max gap (pausedTill s p c))
      let w := classWaits s p c
      let closed := !isKng s p && !bit q.gate.gates c
      let x := creditRun true false w i q.rate (gap - q.creditAt) x
      let x := creditRun false true w i q.rate (still - gap) x
      creditRun false closed w i q.rate (t - still) x
    let cs := q.algo.filter (fun e => e.2 == 1)
    updPort p (fun q => { q with creditAt := t, credit := cs.foldl (fun m e => SMap.set 0 m e.1 (one e.1 (SMap.get 0 m e.1))) q.credit }) s

/-- All credits up to tick `t`. -/
def creditsTo (t : Nat) (s : Sys) : Sys := (s.ports.map (·.1)).foldl (fun s p => creditTo p t s) s

/-- CREDIT_TICK (R332): new slopes, rates and algorithms take effect, and the credits are published. -/
def creditTickPort (p : Nat) (s : Sys) : Sys :=
  let q := port s p
  let rate := linkSpeed s p * 1000
  let algoOf (c : Nat) : Nat := cell s (pix p 0x0C) 1 c 0
  let changed := (List.range 8).filter (fun c => SMap.get 0 q.algo c != algoOf c)
  let algo := (List.range 8).foldl (fun m c => SMap.set 0 m c (algoOf c)) q.algo
  let idle := (List.range 8).foldl (fun m c => SMap.set 0 m c (if algoOf c = 1 then cell s (pix p 0x0C) 1 c 2 else 0)) q.idle
  let credit := changed.foldl (fun m c => SMap.set 0 m c 0) q.credit
  let published := (List.range 8).foldl (fun m c => SMap.set 0 m c (SMap.get 0 credit c / 10000000)) q.published
  let slope := (List.range 8).foldl (fun m c => SMap.set 0 m c (if algoOf c = 1 then ((min (SMap.get 0 idle c) rate : Nat) : Int) - rate else 0)) q.slope
  let s := changed.foldl (fun s c => { s with deficit := SMap.set 0 s.deficit (8 * p + c) 0, charged := SMap.set false s.charged (8 * p + c) false }) s
  updPort p (fun q => { q with algo := algo, idle := idle, credit := credit, published := published, slope := slope, rate := rate }) s

def creditTickEffect (s : Sys) : Sys :=
  loop creditTickPort 0 73 s

/-! ### Eligibility (R324, R328, R340) -/

/-- Whether all bytes of a copy are in its egress tile. -/
def inTile (s : Sys) (c : Copy) : Bool :=
  c.xing == 0 || c.body.isSome || ((frame s c.frame).ended && decide ((xing s c.xing).recv ≥ fabricBytes (frame s c.frame)))

/-- Whether a copy may start (R264, R265, R274). -/
def mayStart (s : Sys) (c : Copy) : Bool :=
  match c.path with
  | .cut => inTile s c || decide (obj s 0x5000 5 ≤ (xing s c.xing).recv)
  | .express => c.ready && inTile s c
  | .deep => c.ready

/-- Ticks from now until an event at value `u` of base `b` takes effect: the first tick at or after its instant (R338). -/
def ticksUntil (s : Sys) (b u : Nat) : Nat :=
  if b = 4 then (5 * u + 262143) / 262144 + s.dcZero - s.now
  else
    let step := (baseStep (base s b).rate).toNat
    (u * (5 * 2 ^ 40) - (base s b).valAt s.now + (step - 1)) / step

/-- The length test of R340 and R344 for bits that start at the present instant, against the tick at which the gate closes. -/
def fitsWindow (s : Sys) (p cls bits : Nat) : Bool :=
  if 73 ≤ p ∨ isKng s p ∨ !flag s (glIx p) 1 then true
  else
    let b := obj s (glIx p) 2
    let g := (port s p).gate
    match g.close (glFallback s p) cls g.turns (clock s b) with
    | none => true
    | some u => decide (linkSpeed s p = 0 ∨ bits * 1250 ≤ ticksUntil s b u * linkSpeed s p)

def fits (s : Sys) (p cls : Nat) (c : Copy) : Bool := fitsWindow s p cls (testBits s p cls (wireW s p (wireLen s c)))

/-- The gate states of the present instant: a list that runs shows the entry in force now (R335). -/
def gateNow (s : Sys) (p : Nat) : Nat :=
  let g := (port s p).gate
  if g.state < 2 then g.gates else (g.at (glFallback s p) (clock s (obj s (glIx p) 2))).2.1.gates

def gateOpen (s : Sys) (p c : Nat) : Bool := isKng s p || !flag s (glIx p) 1 || bit (gateNow s p) c

/-- Whether byte MAX_FRAME + 1 of a frame that still arrives has passed: the tile has marked it bad (R120). -/
def arrivedLong (s : Sys) (id : Nat) (f : Frame) : Bool :=
  !f.ended && (port s f.port).rx == some id && linkSpeed s f.port != 0
    && decide (f.sfd + bitTicks (8 * (maxFrame s f.port + 1)) (linkSpeed s f.port) ≤ s.now)

/-- Why a copy may not start: silence, a bad tail, a lost first block. -/
def startDrop (s : Sys) (c : Copy) : Option Nat :=
  let p := txPort s c.port
  let f := frame s c.frame
  let gramus := match c.kind with | .steward g => g | _ => false
  let lostBlock : Bool := match c.buffer with
    | some (k, b) => decide (c.path = .deep) && s.poison.contains (unitOf s k b)
    | none => false
  if p ≤ 72 ∧ silenced s p c.prot gramus then some (Ctr.safSilentDrop p)
  else if (f.bad ∨ c.lost ∨ arrivedLong s c.frame f) ∧ c.body.isNone ∧ !c.isRecorder then some (Ctr.fabBadTailDrop p)
  else if lostBlock then some (Ctr.deepPoisonDrop p)
  else none

/-- Why the head copy of a queue is dropped when it is examined: it may not start, or its residence. -/
def headDrop (s : Sys) (q id : Nat) : Option Nat :=
  let c := copy s id
  let limit := cell s 0x5400 1 q 5
  if c.st ≠ .queued then none
  else match startDrop s c with
    | some ctr => some ctr
    | none =>
      if limit ≠ 0 ∧ s.now > c.enq + limit * Config.ticksPerUs then
        some (if c.wasHeld then Ctr.holdStaleDrop (txPort s c.port) else Ctr.resStaleDrop q)
      else none

/-- Drop the heads of a queue that may not be sent. -/
def pruneQueue (q : Nat) : Nat → Sys → Sys
  | 0, s => s
  | n + 1, s =>
    match (queue s q).head? with
    | none => s
    | some id => match headDrop s q id with
      | some ctr => pruneQueue q n (dropAs (ctr == Ctr.fabBadTailDrop (txPort s (copy s id).port)) ctr id s)
      | none => s

/-- Examine every queue that port `p` serves. -/
def pruneAll (p : Nat) (s : Sys) : Sys :=
  let mine := (s.queues.map (·.1)).filter (fun q => let r := queuePort s q; r == p || (r == 73 && hostExit s == p))
  mine.foldl (fun s q => pruneQueue q ((queue s q).length + 1) s) s

/-- The eligible head copy of queue `q` as class `c` of port `p`. -/
def eligible (s : Sys) (p c q : Nat) : Option Nat :=
  match (queue s q).head? with
  | none => none
  | some id =>
    let x := copy s id
    if x.st = .queued ∧ mayStart s x ∧ fits s p c x then some id else none

/-! ### Deficit round robin (R328) -/

/-- A member of a set: its number, the key of its deficit, its quantum and the W of its pick. -/
structure Member where
  num : Nat
  key : Nat
  quantum : Nat
  w : Nat

/-- The turns of the loop. -/
def drrTurns (set : Nat) (ms : List Member) (first : Member) : Nat → Sys → Sys × Option Nat
  | 0, s => (s, none)
  | n + 1, s =>
    let ptr := SMap.get 0 s.ptr set
    let m := (ms.find? (fun m => decide (ptr ≤ m.num))).getD first
    let d := SMap.get 0 s.deficit m.key + (if SMap.get false s.charged m.key then 0 else m.quantum)
    if m.w ≤ d then
      ({ s with deficit := SMap.set 0 s.deficit m.key (d - m.w), charged := SMap.set false s.charged m.key true,
                ptr := SMap.set 0 s.ptr set m.num }, some m.num)
    else drrTurns set ms first n { s with deficit := SMap.set 0 s.deficit m.key d, charged := SMap.set false s.charged m.key false,
                                          ptr := SMap.set 0 s.ptr set (m.num + 1) }

/-- One pick of a set: the number of the member picked. -/
def drr (set : Nat) (ms : List Member) (s : Sys) : Sys × Option Nat :=
  match ms with
  | [] => (s, none)
  | m :: _ =>
    let turns := (ms.map (fun m => m.w / (max 1 m.quantum) + 2)).foldl max 1
    drrTurns set ms m ((turns + 1) * (ms.length + 1)) s

/-- The deficit key of a queue; that of a class of a port is 8p + c. -/
def queueKey (q : Nat) : Nat := 100000 + q

/-- A member that holds no copy at all loses its deficit (R328). -/
def tidyDrr (s : Sys) : Sys :=
  let keep (k : Nat) : Bool := if k < 100000 then !(classMembers s (k / 8) (k % 8)).isEmpty else !(queue s (k - 100000)).isEmpty
  { s with deficit := s.deficit.filter (fun e => keep e.1), charged := s.charged.filter (fun e => keep e.1) }

/-- The pick among the queues of class `c` of port `own`, as class `c` of port `p`. -/
def child (p own c : Nat) (s : Sys) : Sys × Option Nat :=
  let ms := (classMembers s own c).filterMap (fun q => (eligible s p c q).map (fun id =>
    ({ num := q, key := queueKey q, quantum := cell s 0x5400 1 q 6, w := wireW s p (wireLen s (copy s id)) } : Member)))
  match drr (1000 + own * 8 + c) ms s with
  | (s', some q) => (s', (queue s q).head?)
  | (s', none) => (s', none)

/-- Whether a class may be served now, apart from having an eligible head. -/
def classOpen (s : Sys) (p c : Nat) : Bool :=
  !paused s p c && gateOpen s p c && (SMap.get 0 (port s p).algo c != 1 || decide (0 ≤ SMap.get 0 (port s p).credit c))
    && !((port s p).hold && preemptable s p c)

/-- The classes of the DWRR group with a pick. -/
def groupMembers (s : Sys) (p : Nat) (may : Nat → Bool) : List Member :=
  (List.range 8).filterMap (fun d =>
    if SMap.get 0 (port s p).algo d = 2 ∧ may d ∧ classOpen s p d then
      (child p p d s).2.map (fun id => ({ num := d, key := 8 * p + d, quantum := cell s (pix p 0x0C) 1 d 1,
                                          w := wireW s p (wireLen s (copy s id)) } : Member))
    else none)

/-- The selection of R328 from class `n - 1` downwards, among the classes that `may` allows. -/
def selectFrom (p : Nat) (may : Nat → Bool) (top : Option Nat) : Nat → Sys → Sys × Option Nat
  | 0, s => (s, none)
  | c + 1, s =>
    if top = some c then
      match drr p (groupMembers s p may) s with
      | (s', some d) => child p p d s'
      | (_, none) => selectFrom p may top c s
    else if SMap.get 0 (port s p).algo c ≠ 2 ∧ may c ∧ classOpen s p c then
      match child p p c s with
      | (s', some id) => (s', some id)
      | (_, none) => selectFrom p may top c s
    else selectFrom p may top c s

/-- The host queues of the exit port, from class `n - 1` downwards (R146). -/
def selectHost (p : Nat) (may : Nat → Bool) : Nat → Sys → Sys × Option Nat
  | 0, s => (s, none)
  | k + 1, s =>
    match if may k && classOpen s p k then child p 73 k s else (s, none) with
    | (s', some id) => (s', some id)
    | (_, none) => selectHost p may k s

/-- select(p, t): the copy to send, and the deficits that it leaves. -/
def select (p : Nat) (may : Nat → Bool) (s : Sys) : Sys × Option Nat :=
  let s := tidyDrr s
  let top := ((List.range 8).filter (fun c => SMap.get 0 (port s p).algo c == 2)).getLast?
  match selectFrom p may top 8 s with
  | (s', some id) => (s', some id)
  | (_, none) => if p = hostExit s ∧ s.hostFree ≤ s.now then selectHost p may 8 s else (s, none)

/-! ### PTP in sent bytes (R303, R309) -/

/-- A PTP message in a frame that leaves port `p`: its transport, its offset, and the offset of its UDP header. -/
def ptpAt (s : Sys) (p : Nat) (b : List Byte) : Option (Nat × Nat × Nat) :=
  let off := 14 + 4 * (tagsOf s p b).length
  match etherOf s p b with
  | 0x88F7 => some (0, off, 0)
  | 0x0800 =>
    if byteAt b off = 0x45 ∧ byteAt b (off + 9) = 17 ∧ field b (off + 22) 2 = 319 then some (1, off + 28, off + 20) else none
  | 0x86DD => if byteAt b (off + 6) = 17 ∧ field b (off + 42) 2 = 319 then some (2, off + 48, off + 40) else none
  | _ => none

/-- The transmit stamp on DC of a frame whose preamble started at tick `t` (R301, R302). -/
def txStamp (s : Sys) (p t : Nat) : Nat :=
  (((stampOf s (dcAt s (t + bitTicks 65 (linkSpeed s p))) : Nat) : Int) + objI s (pix p 0x0B) 2 * 65536 / 1000).toNat

/-- The residence of a copy in units of 2^-16 ns of base `b` (R309). -/
def residence (s : Sys) (b p : Nat) (c : Copy) : Int :=
  let r := ((txStamp s p c.start : Nat) : Int) - rxStamp s (frame s c.frame)
  r + r * (base s b).rate / 2 ^ 40

/-- The instance that corrects a copy as a transparent clock: its number, the transport and the offsets. -/
def tcOf (s : Sys) (p : Nat) (c : Copy) (b : List Byte) : Option (Nat × Nat × Nat × Nat) :=
  let f := frame s c.frame
  let own := match c.kind with | .plain => true | .path _ => true | _ => false
  match ptpAt s p b with
  | none => none
  | some (tr, off, udp) =>
    if !own ∨ f.orig = p ∨ byteAt b off % 16 > 1 then none
    else (findBelow 4 (fun i => cell s 0x0900 1 i 0 == 1 && cell s 0x0900 1 i 1 == 2 && cell s 0x0900 1 i 3 == tr
        && cell s 0x0900 1 i 2 == byteAt b (off + 4) && ptpRow s i p && ptpRow s i f.orig)).map (fun i => (i, tr, off, udp))

/-- The bytes a copy sends on port `p` before its FCS: corrected, padded (R121), and cut where its MAC ended it. -/
def sentBytes (s : Sys) (p : Nat) (c : Copy) : List Byte :=
  let b := egressBytes s c
  let b := match tcOf s p c b with
    | some (i, tr, off, udp) =>
      if tr = 2 then b
      else
        let b := patch b (off + 8) (toBE 8 (((sInt 64 (field b (off + 8) 8)) + residence s i p c) % 2 ^ 64).toNat)
        if tr = 1 then patch b (udp + 6) [0, 0] else b
    | none => b
  match c.cutAt with
  | some n => b.take n
  | none => b ++ List.replicate (60 - b.length) 0

/-- Write a stamp or a gap marker into a port's queue (R304). -/
def stampEntry (p : Nat) (e : TsEntry) (s : Sys) : Sys :=
  let l := (port s p).tsq
  let put (l : List TsEntry) (s : Sys) : Sys := updPort p (fun q => { q with tsq := l }) s
  if l.length ≤ 30 then put (l ++ [e]) s
  else if l.length = 31 then
    raise 0x0705 1 (u8b p ++ u16b e.seq) (bump (Ctr.tsQueueOverflow p) (put (l ++ [{ e with gap := true, info := 1, time := 0 }]) s))
  else
    match l.getLast? with
    | some g => bump (Ctr.tsQueueOverflow p) (put (l.dropLast ++ [if g.gap then { g with info := min 255 (g.info + 1) } else g]) s)
    | none => s

/-- The entry that a sent frame makes (R303): two-step event messages of a steward, and others while TS_TX_LOG is true. -/
def stampFrame (p : Nat) (c : Copy) (aborted : Bool) (s : Sys) : Sys :=
  let b := egressBytes s c
  match if isKng s p then none else ptpAt s p b with
  | none => s
  | some (_, off, _) =>
    let msg := byteAt b off % 16
    let oneStep := (msg == 0 || msg == 3) && !bit (byteAt b (off + 6)) 1
    let steward := match c.kind with | .steward _ => true | _ => false
    if msg > 3 ∨ oneStep ∨ (!steward ∧ !flag s (pix p 0x0B) 3) then s
    else stampEntry p { seq := field b (off + 30) 2, gap := false, log := !steward, msg := msg,
                        info := boolNat c.stomped * 2 + boolNat aborted, time := txStamp s p c.start } s

/-! ### Starting a transmission -/

/-- The copy as the source of an egress mirror or recorder copy. -/
def copySource (id : Nat) (c : Copy) : Nat × Nat × Option Nat := (id, c.port, match c.kind with | .path i => some i | _ => none)

/-- A copy made of a copy that starts (R458, R461). -/
def tapCopy (id port : Nat) (kind : CopyKind) (sel : Sel) (s : Sys) : Sys :=
  let c := copy s id
  (addCopy { frame := c.frame, tile := copyTile s port, port := port, kind := kind, sel := sel, start := s.now, of_ := some (copySource id c),
             body := if copyWhole s c then some (sentBytes s (txPort s c.port) c) else none } s).2

/-- Egress mirrors and the recorder take a copy that starts on port `p`. -/
def tapStart (p id : Nat) (s : Sys) : Sys :=
  let c := copy s id
  let cls := queueTc s c.queue
  let tappable := match c.kind with | .mirror _ => false | .recorder _ _ => false | .replay => false | _ => true
  if !tappable ∨ 73 ≤ p then s
  else
    let rule := ((frame s c.frame).parsed.getD {}).rule
    let s := (List.range 16).foldl (fun s i =>
      let m := cell s 0x7800 1 i
      if bit (m 2) p then
        let (s, hit) := mirrorTurn i cls rule s
        if hit then tapCopy id (m 6) (.mirror i) { tc := m 7 } s else s
      else s) s
    if flag s 0x7810 1 ∧ bit (obj s 0x7810 4) p ∧ bit (obj s 0x7810 5) cls then
      tapCopy id 74 (.recorder true p) { tc := cls, colour := c.sel.colour } s
    else s

/-- The first preamble bit of a copy leaves now. Its queue counts a copy once, however often a collision makes it start (R450). -/
def startCopy (p id : Nat) (s : Sys) : Sys :=
  let c := copy s id
  let len := wireLen s c
  let total := wireW s p len
  let f := frame s c.frame
  let poisoned := match c.buffer with
    | some (k, b) => if c.path = .deep then (List.range ((f.length + 511) / 512)).find? (fun i => i != 0 && s.poison.contains (unitOf s k b + i))
      else none
    | none => none
  let s := updCopy id (fun c => { c with st := .sending, start := s.now, finish := s.now + bitTicks (8 * (len + 8)) (linkSpeed s p),
                                         stomped := c.stomped || (frame s c.frame).tailStomped }) s
  let again := decide ((port s p).retry = some id)
  let s := bumpIf (!again) (Ctr.queueTxFrames c.queue) s
  let s := if again then s else if copyWhole s c then bumpBy (Ctr.queueTxOctets c.queue) len s else updCopy id (fun c => { c with octLate := true }) s
  let s := updPort p (fun q => { q with tx := some id, txClass := some (queueTc s c.queue), retry := none,
                                        free := s.now + bitTicks (8 * total) (linkSpeed s p) }) s
  let s := match c.kind with
    | .host _ _ =>
      let s := bumpIf (hostBytes s c (frame s c.frame) 0 0).2 (Ctr.hostTrunc p) s
      { s with hostFree := s.now + bitTicks (8 * len) (obj s 0x1927 3) }
    | _ => s
  let s := match poisoned with
    | some i => bump (Ctr.txTailStomp p) (updCopy id (fun c => { c with stomped := true, cutAt := some (512 * i + (len - 4) - f.bytes.length) }) s)
    | none => s
  tapStart p id s

/-- Whether a copy must wait for the latency floor: 380 ns, or 1.5 µs through the deep store (R11, R12). -/
def floorAt (s : Sys) (c : Copy) : Nat :=
  let f := frame s c.frame
  let received := match c.kind with | .steward _ => false | .replay => false | _ => decide (f.stage ≠ .injected) && !f.knaing
  if !received then 0 else f.sfd + (if c.path = .deep then 1875 else 475)

/-- Whether a copy that starts now leaves on time: the last bit of its start-frame delimiter, 64 bit times after the first preamble
bit, is what R11 and R12 measure. -/
def floorMet (s : Sys) (p : Nat) (c : Copy) : Bool := decide (floorAt s c * linkSpeed s p ≤ s.now * linkSpeed s p + 64 * 1250)

/-- A selected copy leaves its queue and starts, or is held at the MAC. -/
def launch (p id : Nat) (s : Sys) : Sys :=
  let c := copy s id
  let s := setQueue c.queue ((queue s c.queue).filter (· != id)) s
  if floorMet s p c then startCopy p id s
  else updPort p (fun q => { q with tx := some id, txClass := none }) (updCopy id (fun c => { c with st := .held }) s)

/-- A held copy returns to the head of its queue, and its pick is undone in the deficits. -/
def unpick (p id : Nat) (s : Sys) : Sys :=
  let c := copy s id
  let w := wireW s p (wireLen s c)
  let give (k : Nat) (s : Sys) : Sys := { s with deficit := SMap.set 0 s.deficit k (SMap.get 0 s.deficit k + w) }
  let cls := queueTc s c.queue
  let s := give (queueKey c.queue) s
  let s := if SMap.get 0 (port s p).algo cls = 2 ∧ queuePort s c.queue = p then give (8 * p + cls) s else s
  updPort p (fun q => { q with tx := none }) (setQueue c.queue (id :: queue s c.queue) (updCopy id (fun c => { c with st := .queued }) s))

/-- EXPRESS_LATENCY_FLOOR and DEEP_LATENCY_FLOOR: a held copy whose floor is reached starts, unless it may not start at all; one whose
class is stopped or shut meanwhile, or whose window is now too short, waits in its queue again (R129, R340). -/
def floorEffect (deep : Bool) (id : Nat) (s : Sys) : Sys :=
  let c := copy s id
  let p := txPort s c.port
  let cls := queueTc s c.queue
  if !hasCopy s id ∨ c.st ≠ .held ∨ (c.path == .deep) ≠ deep ∨ (port s p).tx ≠ some id ∨ !floorMet s p c then s
  else match startDrop s c with
    | some ctr => dropAs (ctr == Ctr.fabBadTailDrop p) ctr id (updPort p (fun q => { q with tx := none }) s)
    | none => if classOpen s p cls ∧ fits s p cls c then startCopy p id s else unpick p id s

/-! ### MAC control, preemption and the selection -/

/-- A PAUSE or PFC frame that waits leaves ahead of every queued frame (R131). -/
def sendMacCtl (p : Nat) (b : List Byte) (rest : List (List Byte)) (s : Sys) : Sys :=
  let s := bump (if field b 14 2 = 1 then Ctr.txPause p else Ctr.txPfc p) s
  let s := bumpBy (Ctr.txOctets p) (b.length + 4) (bump (Ctr.txFrames p) s)
  updPort p (fun q => { q with macCtl := rest, lastTx := b ++ fcsBytes b, free := s.now + bitTicks (8 * (b.length + 24)) (linkSpeed s p) }) s

/-- Bytes of the present fragment that have left (R343). -/
def fragmentSent (s : Sys) (p : Nat) (c : Copy) : Nat := (s.now - c.start) * linkSpeed s p / 10000 - 8

/-- A permitted point: the fragment holds its minimum, and 64 bytes of the frame remain. -/
def permitted (s : Sys) (p : Nat) (c : Copy) : Bool :=
  let n := fragmentSent s p c
  decide (64 * (1 + obj s (pix p 0x0E) 5) ≤ n + 4) && decide (c.sent + n + 64 ≤ wireLen s c)

/-- Preempt the frame in transmission. -/
def preempt (p : Nat) (s : Sys) : Sys :=
  match (port s p).tx with
  | none => s
  | some id =>
    let c := copy s id
    let s := updCopy id (fun c => { c with st := .suspended, sent := c.sent + fragmentSent s p c, fragments := c.fragments + 1 }) s
    let s := bump (Ctr.preemptTxFrag p) (bump (Ctr.preemptTxPreempted p) s)
    let _ := c
    updPort p (fun q => { q with tx := none, suspended := some id, free := s.now + bitTicks 128 (linkSpeed s p) }) s

/-- Resume the suspended frame with a continuation fragment (R344). -/
def resume (p id : Nat) (s : Sys) : Sys :=
  let c := copy s id
  let cls := queueTc s c.queue
  let left := wireLen s c - c.sent
  let bits := min (fragmentBits s p) (wireW s p left * 8)
  if classOpen s p cls ∧ fitsWindow s p cls bits then
    let s := updCopy id (fun c => { c with st := .sending, start := s.now, finish := s.now + bitTicks (8 * (left + 8)) (linkSpeed s p) }) s
    updPort p (fun q => { q with tx := some id, suspended := none, txClass := some cls, free := s.now + bitTicks (8 * wireW s p left) (linkSpeed s p) }) s
  else s

/-- Whether the frame in transmission is a preemptable one that must give way: to hold, or to its closed gate (R344, R345). -/
def mustYield (s : Sys) (p : Nat) : Bool :=
  match (port s p).tx with
  | some id =>
    let c := copy s id
    let cls := queueTc s c.queue
    c.st == .sending && preemptable s p cls && ((port s p).hold || !gateOpen s p cls) && permitted s p c
  | none => false

/-- The frame of a half-duplex port that must be tried again (R133, R134). -/
def retryTx (p id : Nat) (s : Sys) : Sys :=
  let c := copy s id
  let cls := queueTc s c.queue
  match startDrop s c with
  | some ctr => dropAs (ctr == Ctr.fabBadTailDrop p) ctr id (updPort p (fun q => { q with retry := none, attempts := 0 }) s)
  | none => if fits s p cls c ∧ classOpen s p cls then startCopy p id s else s

/-- Whether a half-duplex port must wait: carrier, a back-off, or another node's PLCA opportunity (R133, R135). -/
def mediumBusy (s : Sys) (p : Nat) : Bool :=
  let q := port s p
  q.half && (q.rx.isSome || q.backoff.isSome || (plcaOn s p && q.plca == 2 && q.plcaId != obj s (pix p 3) 5))

/-- The frame that a port would send next defers to carrier, during it or as it ends, and counts once (R134). -/
def defer (p : Nat) (s : Sys) : Sys :=
  let q := port s p
  if q.half ∧ q.linkUp ∧ q.tx.isNone ∧ (q.rx.isSome ∨ q.crsAt = some s.now) then
    match (match q.retry with | some id => some id | none => (select p (fun _ => true) s).2) with
    | some id =>
      if (copy s id).deferred then s else bump (Ctr.txDeferred p) (updCopy id (fun c => { c with deferred := true }) s)
    | none => s
  else s

/-- Every half-duplex port. -/
def deferAll (s : Sys) : Sys := if s.ports.any (fun e => e.2.half) then loop defer 64 8 s else s

/-- SCHEDULER_SELECT (R326, R328, R343). -/
def schedulerEffect (p : Nat) (s : Sys) : Sys :=
  let q := port s p
  if 73 ≤ p ∨ !admin s p ∨ !q.linkUp then s
  else
    let s := pruneAll p s
    let express (c : Nat) : Bool := !preemptable s p c
    let any (_ : Nat) : Bool := true
    match q.tx with
    | some id =>
      let c := copy s id
      if c.st = .sending ∧ preemptable s p (queueTc s c.queue) ∧ permitted s p c then
        if (select p express s).2.isSome ∨ mustYield s p then preempt p s else s
      else s
    | none =>
      if s.now < q.free then s
      else if q.lpiTx then
        let waits := (List.range 8).any (fun c => classWaits s p c) || !q.macCtl.isEmpty
        if waits ∧ q.lpiWake.isNone then updPort p (fun q => { q with lpiWake := some s.now }) s else s
      else if mediumBusy s p then s
      else match if bit (fullSilent s) p then [] else q.macCtl, q.retry, q.suspended with
        | b :: rest, _, _ => sendMacCtl p b rest s
        | [], some id, _ => retryTx p id s
        | [], none, some id =>
          match select p express s with
          | (s', some x) => launch p x s'
          | (_, none) => resume p id s
        | [], none, none =>
          match select p any s with
          | (s', some x) => launch p x s'
          | (_, none) => s

/-! ### The end of a transmission -/

/-- Egress mirror and recorder copies of a copy that is stomped or aborted (R459, R461). -/
def tapFail (id : Nat) (s : Sys) : Sys :=
  ((allCopies s).filter (fun x => match x.2.of_ with | some (i, _, _) => i == id | none => false)).foldl (fun s x =>
    match x.2.kind with
    | .mirror _ =>
      if x.2.st = .sending then updCopy x.1 (fun c => { c with stomped := true }) s
      else dropCopy (Ctr.fabBadTailDrop (txPort s x.2.port)) x.1 s
    | .recorder _ _ => updCopy x.1 (fun c => { c with stomped := true }) s
    | _ => s) s

/-- End a copy in transmission with the stomp pattern after `n` bytes. -/
def stompAt (id n ctr : Nat) (s : Sys) : Sys :=
  tapFail id (bump ctr (updCopy id (fun c => { c with stomped := true, cutAt := some n }) s))

/-- CUT_THROUGH_UNDERRUN (R266, R346): the byte that is missing is the first not yet in the egress tile. -/
def underrunEffect (p : Nat) (s : Sys) : Sys :=
  match (port s p).tx with
  | none => s
  | some id =>
    let c := copy s id
    if c.st = .sending ∧ c.path = .cut ∧ !inTile s c ∧ !c.stomped then stompAt id (xing s c.xing).recv (Ctr.txUnderrunStomp p) s else s

/-- The gap behind a frame (R327). -/
def gapBits (s : Sys) (p : Nat) : Nat := if isKng s p then 0 else if 64 ≤ p ∧ p ≤ 71 then obj s (pix p 3) 3 else 96

/-- The end of copy `id` at port `p`: a cut-through frame over MAX_FRAME is stomped, the frame is counted and stamped, its bytes and
FCS have left, the gap begins and the copy is gone (R266, R303, R326, R450). On the Knaing port they leave in blocks behind a descriptor
(R112), and a near-end loopback returns them to the port's own receiver (R104). -/
def finishTx (p id : Nat) (s : Sys) : Sys :=
  let c := copy s id
  let s := match overCut s c with
    | some n => if c.cutAt.getD (n + 1) ≤ n then s else stompAt id n (Ctr.txOversizeStomp p) s
    | none => s
  let c := copy s id
  let b := sentBytes s p c
  let tail := if c.stomped then stompBytes b else fcsBytes b
  let s := bumpBy (Ctr.txOctets p) (b.length + 4) (bump (Ctr.txFrames p) s)
  let s := if c.octLate then bumpBy (Ctr.queueTxOctets c.queue) (if copyWhole s c then wireLen s c else b.length + 4) s else s
  let s := bumpIf (decide (0 < c.fragments)) (Ctr.preemptTxFrag p) s
  let s := match tcOf s p c (egressBytes s c) with
    | some (i, tr, _, _) => bump (if tr = 2 then Ctr.ptpTcUnsupported i else Ctr.ptpTcCorrected i) s
    | none => s
  let s := stampFrame p c false s
  let s := if c.stomped then tapFail id s else s
  let s := updPort p (fun q => { q with tx := none, lastTx := b ++ tail, idleSince := s.now, attempts := 0,
                                        free := s.now + bitTicks (gapBits s p) (linkSpeed s p) }) s
  let f := frame s c.frame
  let s := removeCopy id (plcaSent p s)
  if isKng s p then kngSendFrame (kngDescriptor f c.stomped (b.length + 4)) (b ++ tail) s
  else if loopMode s p = 1 ∨ loopMode s p = 2 then arrive p (c.start + bitTicks 64 (linkSpeed s p)) (b ++ tail) s
  else s

/-- FRAME_TX_END (R450): the last byte leaves; for a whole frame not before its bytes have had their time. -/
def frameTxEndEffect (p : Nat) (s : Sys) : Sys :=
  match (port s p).tx with
  | none => s
  | some id =>
    let c := copy s id
    if c.st ≠ .sending ∨ (!c.stomped ∧ (!copyWhole s c ∨ s.now < c.start + bitTicks (8 * (wireLen s c - c.sent + 8)) (linkSpeed s p))) then s
    else finishTx p id s

/-! ### Cells that arrive (R261) -/

/-- The copies of crossing `x` lost bytes, and their frame is bad (R261, R268): copies in transmission end with the stomp pattern, those
of the crossing where its bytes end; a copy that waits for its tail is dropped, and those in queues at dequeue or deep write. -/
def loseXing (x : Nat) (s : Sys) : Sys :=
  let id := (xing s x).frame
  ((allCopies s).filter (fun c => c.2.frame == id && c.2.body.isNone)).foldl (fun s e =>
    let c := copy s e.1
    let mine := c.xing == x
    let s := if mine then updCopy e.1 (fun c => { c with lost := true }) s else s
    if !hasCopy s e.1 ∨ c.stomped then s
    else if c.st = .sending ∨ c.st = .suspended then
      tapFail e.1 (bump (Ctr.txTailStomp (txPort s c.port))
        (updCopy e.1 (fun c => { c with stomped := true, cutAt := if mine then some (xing s x).recv else c.cutAt }) s))
    else if c.st = .waiting ∧ (frame s id).ended ∧ !c.isRecorder then dropCopy (Ctr.fabBadTailDrop (txPort s c.port)) e.1 s
    else s) (markBad id s)

/-- Take the parts of a good cell into the egress tile. -/
def takeParts (parts : List CellPart) (s : Sys) : Sys :=
  parts.foldl (fun s p =>
    let y := xing s p.xing
    reap y.frame (if y.lost then s else setXing p.xing { y with recv := y.recv + p.len, endBad := y.endBad || (p.ends && p.bad) } s)) s

/-- CELL_ARRIVAL (R261). `altered` replaces the header. -/
def cellArrivalEffect (i o c : Nat) (altered : Option (List Byte)) (s : Sys) : Sys :=
  let k := xkey i o c
  match SMap.get [] s.xcells k with
  | [] => s
  | cell_ :: rest =>
    let s := { s with xcells := SMap.set [] s.xcells k rest }
    let h := padRight 16 (altered.getD cell_.header)
    let good := crc8 (h.take 15) == byteAt h 15
    let cseq := field h 4 2
    let exp := SMap.get 0 s.xrx k
    if good ∧ cseq = exp then takeParts cell_.parts { s with xrx := SMap.set 0 s.xrx k ((exp + 1) % 65536) }
    else
      let s := { s with xrx := SMap.set 0 s.xrx k (if good then (cseq + 1) % 65536 else exp) }
      let s := bump Ctr.xbarCellErr s
      cell_.parts.foldl (fun s p =>
        let y := xing s p.xing
        let s := loseXing p.xing s
        reap y.frame (if p.starts then bump Ctr.xbarFrameLost (setXing p.xing { y with lost := true } s) else s)) s

end Sys2Proof.Machine
end

