-- ==== Sys2Proof/Machine/Lanes.lean ====
section
/-! DEFINITION. Serial lanes: port types, equalisation, training, test modes and power states (R95 to R107). -/

namespace Sys2Proof.Machine

def laneIx (n : Nat) : Nat := 0x2000 + 0x10 * n
def lane (s : Sys) (n : Nat) : Lane := SMap.get {} s.lanes n
def updLane (n : Nat) (f : Lane → Lane) (s : Sys) : Sys := { s with lanes := SMap.upd {} s.lanes n f }

/-- PORT_TYPE of a lane. -/
def laneType (s : Sys) (n : Nat) : Nat := obj s (laneIx n) 1

/-- Lanes of a port type (Table LAN-1). -/
def typeLanes (t : Nat) : Nat := if t = 7 ∨ t = 9 then 4 else if t = 8 then 2 else 1

/-- The family of a type: 0 X, 1 E, 2 K; none for Off and Member. -/
def typeFamily (t : Nat) : Option Nat :=
  if 1 ≤ t ∧ t ≤ 3 then some 0 else if 4 ≤ t ∧ t ≤ 9 then some 1 else if t = 10 then some 2 else none

/-- The FEC codes of a type (Table LAN-1, R98). -/
def typeFec (t : Nat) : List Nat :=
  match t with | 5 => [0, 1] | 6 => [0, 1, 2] | 7 => [0, 1] | 8 => [0, 3] | 9 => [0, 3] | _ => [0]

/-- Port types for which EEE exists (Table PRT-1), and those that train (R101). -/
def typeEee (t : Nat) : Bool := t == 2 || t == 5 || t == 6 || t == 7 || t == 9
def typeTrains (t : Nat) : Bool := decide (5 ≤ t ∧ t ≤ 9)

/-- The lanes of lane port `p`; those of the Knaing port are its group. -/
def portLanes (s : Sys) (p : Nat) : List Nat :=
  if 63 < p then [] else (List.range (if isKng s p then obj s 0x2800 3 else typeLanes (laneType s p))).map (p + ·)

/-- The first lane of the port a lane belongs to. -/
def laneOwner (s : Sys) (n : Nat) : Nat :=
  if laneType s n ≠ 15 then n
  else ([n / 2 * 2, n / 4 * 4].find? (fun f => laneType s f != 15 && decide (n < f + typeLanes (laneType s f)))).getD n

/-- A lane in a test mode (R103, R104), and whether the mode carries no frames: PRBS in either direction, or far-end loopback. A near-end
loopback lets the port's link come up with itself. -/
def laneTested (s : Sys) (n : Nat) : Bool := obj s (laneIx n) 9 != 0 || obj s (laneIx n) 0x0A != 0 || obj s (laneIx n) 0x0B != 0
def laneBlocked (s : Sys) (n : Nat) : Bool := obj s (laneIx n) 9 == 3 || obj s (laneIx n) 0x0A != 0 || obj s (laneIx n) 0x0B != 0

/-- Bring a lane's link up again (R99, R101): training where the type has it, else adaptation. -/
def bringUp (n : Nat) (s : Sys) : Sys :=
  let t := laneType s (laneOwner s n)
  let link := if t = 0 ∨ t = 15 ∨ t = 10 then 0 else if laneTested s n then 4
    else if typeTrains t ∧ flag s (laneIx n) 5 then 1 else 2
  updLane n (fun l => { l with link := link, fec := false, taps := if link = 1 then some (obj s (laneIx n) 3) else none,
                               trainAt := s.now }) s

/-- The taps of a TX_EQ word, and its limits (R100). -/
def eqPre (v : Nat) : Nat := bits v 23 16
def eqMain (v : Nat) : Nat := bits v 15 8
def eqPost (v : Nat) : Nat := v % 256
def eqWord (pre main post : Nat) : Nat := pre * 65536 + main * 256 + post
def eqLegal (pre main post : Nat) : Bool :=
  decide (pre ≤ 15) && decide (16 ≤ main) && decide (main ≤ 63) && decide (post ≤ 31) && decide (pre + main + post ≤ 63)
    && decide (8 + pre + post ≤ main)

/-- The check of TX_EQ (R100): each tap within its range, then the joint limits, reducing post first and then pre; with the
codes of pre, main and post. -/
def eqCheck (v : Nat) : Nat × List Nat :=
  let pre := min 15 (eqPre v)
  let main := max 16 (min 63 (eqMain v))
  let post := min 31 (eqPost v)
  let excess := max (pre + main + post - 63) (8 + pre + post - main)
  let post' := post - excess
  let pre' := pre - (excess - (post - post'))
  let c (was now : Nat) : Nat := if now < was then 2 else if was < now then 1 else 0
  (eqWord pre' main post', [c (eqPre v) pre', c (eqMain v) main, c (eqPost v) post'])

/-- TX_EQ_ACTIVE (R101). -/
def eqActive (s : Sys) (n : Nat) : Nat := ((lane s n).taps).getD (obj s (laneIx n) 3)

/-- LANE_TRAINING_REQUEST (R101): one step of a tap; one that would leave the limits is answered with maximum or minimum. -/
def trainingRequestEffect (n : Nat) (tap : Tap) (up : Bool) (s : Sys) : Sys :=
  if (lane s n).link ≠ 1 then s
  else
    let v := eqActive s n
    let step (x : Nat) : Option Nat := if up then some (x + 1) else if x = 0 then none else some (x - 1)
    let new : Option (Nat × Nat × Nat) := match tap with
      | .pre => (step (eqPre v)).map (fun x => (x, eqMain v, eqPost v))
      | .main => (step (eqMain v)).map (fun x => (eqPre v, x, eqPost v))
      | .post => (step (eqPost v)).map (fun x => (eqPre v, eqMain v, x))
    match new.filter (fun x => eqLegal x.1 x.2.1 x.2.2) with
    | some (a, b, c) => updLane n (fun l => { l with taps := some (eqWord a b c), answer := 1 }) s
    | none => updLane n (fun l => { l with answer := if up then 3 else 2 }) s

/-- LANE_TRAINING_DONE and LANE_TRAINING_TIMEOUT (R101). -/
def trainingDoneEffect (n : Nat) (s : Sys) : Sys :=
  if (lane s n).link = 1 then updLane n (fun l => { l with link := 2, trainOk := true }) s else s

def trainingTimeoutEffect (n : Nat) (s : Sys) : Sys :=
  let l := lane s n
  if l.link = 1 ∧ l.trainAt + 500 * Config.ticksPerMs ≤ s.now then
    raise 0x0404 2 (u8b n) (bump (Ctr.laneTrainFail n) (updLane n (fun l => { l with link := 2, trainOk := false, taps := none }) s))
  else s

/-- Six coefficients that adaptation found: the manual leaves their values open (log entry 81). -/
def freeCoeffs (s : Sys) : List Nat × Sys := (List.range 6).foldl (fun a _ => let (x, s) := free a.2; (a.1 ++ [x], s)) ([], s)

/-- While the link is up and RX_ADAPT is 0 the receiver adapts, and retention SRAM keeps what it found (R102). -/
def adaptTurn (n : Nat) (s : Sys) : Sys :=
  if (lane s n).power = .active ∧ (lane s n).link = 3 ∧ obj s (laneIx n) 7 = 0 then
    let (c, s) := freeCoeffs s
    updLane n (fun l => { l with coeffs := c, kept := c }) s
  else s

/-- RX_EYE_MEASURE (R102, R103): adaptation, the eye, and the bit errors that a locked PRBS checker has counted since the last one. -/
def eyeEffect (n h w errors : Nat) (s : Sys) : Sys :=
  let s := adaptTurn n s
  let s := if (lane s n).prbs then bumpBy (Ctr.lanePrbsErr n) errors s else s
  if (lane s n).power = .active ∧ traded s < 3 then updLane n (fun l => { l with eye := h * 65536 + w }) s else s

/-- PRBS_LOCK_ACQUIRED and PRBS_LOCK_LOSS (R103); `errors` are those since the last report. -/
def prbsLockEffect (n : Nat) (s : Sys) : Sys :=
  if obj s (laneIx n) 0x0B ≠ 0 then updLane n (fun l => { l with prbs := true }) s else s

def prbsLossEffect (n errors : Nat) (s : Sys) : Sys :=
  if (lane s n).prbs then
    bump (Ctr.lanePrbsLockLoss n) (bumpBy (Ctr.lanePrbsErr n) errors (updLane n (fun l => { l with prbs := false }) s))
  else s

/-- LANE_CDR_LOSS (R106). -/
def cdrLossEffect (n : Nat) (s : Sys) : Sys :=
  let l := lane s n
  if l.power = .active ∧ l.signal then bump (Ctr.laneCdrLoss n) (updLane n (fun l => { l with cdr := false, signal := false }) s) else s

/-! ### Power states (R105, R106) -/

/-- How deep a power state is. -/
def powerDepth : LanePower → Nat
  | .active => 0 | .quietLpi => 1 | .quietIdle => 1 | .deep => 2 | .off => 3

/-- Whether a lane may be put in Deep or Off. -/
def mayDeep (s : Sys) (n : Nat) : Bool :=
  let t := laneType s n
  let p := laneOwner s n
  if t = 10 then decide (s.kng.txWidth ≤ n - obj s 0x2800 2) else t == 0 || !(port s p).linkUp

/-- Whether a pending commit writes the PORT_TYPE of a lane, or of a lane whose new port takes it in (R106). -/
def typePending (s : Sys) (n : Nat) : Bool :=
  (s.sessions ++ s.orphans).any (fun v => v.txn.st == .pending && v.txn.staged.any (fun g =>
    g.sub == 1 && decide (0x2000 ≤ g.ix ∧ g.ix < 0x2400) &&
      (let m := (g.ix - 0x2000) / 16
       decide (m ≤ n ∧ n < m + typeLanes g.val.toNat) || m == laneOwner s n)))

/-- A lane that is held in Active: it trains, is in a test mode, or is subject to a pending PORT_TYPE commit (R106). -/
def laneHeld (s : Sys) (n : Nat) : Bool := decide ((lane s n).link = 1) || laneTested s n || typePending s n

/-- Ticks from a command until a lane is in a state, where Table LAN-3 gives a value and not a bound. -/
def powerTicks (was now : LanePower) : Nat :=
  match now with
  | .quietLpi => Config.ticksPerUs
  | .quietIdle => 250
  | .deep => 10 * Config.ticksPerUs
  | .off => 50 * Config.ticksPerUs
  | .active => match was with | .quietIdle => 125 | .off => 20 * Config.ticksPerMs | _ => 0

/-- A lane goes to a power state, which it reaches no earlier than Table LAN-3 says. -/
def aimLane (n : Nat) (x : LanePower) (s : Sys) : Sys :=
  updLane n (fun l => if l.power = x then { l with target := none } else
    { l with target := some x, reachAt := if l.target = some x then l.reachAt else s.now + powerTicks l.power x }) s

/-- A held lane that is not in Active goes there. -/
def holdLane (n : Nat) (s : Sys) : Sys := if laneHeld s n ∧ (lane s n).power ≠ .active then aimLane n .active s else s

/-- Lanes that a pending commit holds. -/
def laneWatch (s : Sys) : Sys :=
  let waits := (s.sessions ++ s.orphans).any (fun v => v.txn.st == .pending && v.txn.staged.any (fun g => decide (0x2000 ≤ g.ix ∧ g.ix < 0x2400)))
  if waits then loop holdLane 0 64 s else s

/-- The state that a command may reach: the Maquette's limits, STATE_LIMIT and that of its plan (R106, R405), Deep, the LPI form, and lanes that are held in Active. -/
def powerAllowed (s : Sys) (n : Nat) (byManager : Bool) (want : LanePower) : LanePower :=
  let t := laneType s (laneOwner s n)
  let held := laneHeld s n
  let limit := if byManager then 3 else min (obj s (laneIx n) 0x0D) (planLane s n)
  let lpi := typeEee t && flag s (pix (laneOwner s n) 4) 1
  let quiet : LanePower := if want = .quietLpi ∧ lpi then .quietLpi else .quietIdle
  if held then .active
  else match min (powerDepth want) limit with
    | 0 => .active
    | 1 => quiet
    | 2 => if mayDeep s n then .deep else quiet
    | _ => if t = 0 then .off else if mayDeep s n then .deep else quiet

/-- The 1.024 ms period of the Maquette (R397). -/
def periodOf (s : Sys) : Nat := (s.now - s.dcZero) / 1280000

/-- LANE_POWER_COMMAND (R106): of a manager's and a Maquette's command in one period the shallower holds. -/
def powerCommandEffect (n : Nat) (byManager : Bool) (want : LanePower) (s : Sys) : Sys :=
  let x := powerAllowed s n byManager want
  let x := match (lane s n).cmd with
    | some (k, who, y) => if k = periodOf s ∧ who ≠ byManager ∧ powerDepth y < powerDepth x then y else x
    | none => x
  aimLane n x (updLane n (fun l => { l with cmd := some (periodOf s, byManager, x) }) s)

/-- What a lane loses and regains as it takes a power state: in Deep and Off the CDR and the DFE are off, Off takes the signal too, and
leaving Deep the receiver starts from the coefficients that retention SRAM kept (R102, R105). -/
def enterPower (x : LanePower) (l : Lane) : Lane :=
  match x with
  | .deep => { l with power := x, target := none, cdr := false, fec := false, coeffs := [] }
  | .off => { l with power := x, target := none, cdr := false, fec := false, signal := false, coeffs := [] }
  | _ => { l with power := x, target := none, coeffs := if l.power = .deep then l.kept else l.coeffs }

/-- LANE_POWER_STATE_REACHED (R105): the commanded state is in force, once its time has passed; leaving Deep or Off starts bring-up. -/
def powerReachedEffect (n : Nat) (s : Sys) : Sys :=
  let l := lane s n
  match l.target with
  | none => s
  | some x =>
    if s.now < l.reachAt then s
    else
      let s := updLane n (enterPower x) s
      if powerDepth l.power ≥ 2 ∧ powerDepth x ≤ 1 then bringUp n s else s

/-- A lane of a port that restarts its link: a lane that is not powered leaves Deep or Off first (R99, R105). -/
def restartBring (n : Nat) (s : Sys) : Sys :=
  if laneType s (laneOwner s n) = 0 ∧ !laneTested s n then bringUp n s
  else if 2 ≤ powerDepth (lane s n).power then aimLane n .active (updLane n (fun l => { l with link := 0, fec := false }) s)
  else holdLane n (bringUp n s)

/-- Whether a lane carries its port's link: Active or Quiet, or at the end of an exit to Active. -/
def laneReady (s : Sys) (n : Nat) : Bool :=
  decide (powerDepth (lane s n).power ≤ 1) || (decide ((lane s n).target = some .active) && decide ((lane s n).reachAt ≤ s.now))

/-- LANE_STATUS (Table LAN-6). -/
def laneStatus (s : Sys) (n : Nat) : Nat :=
  let l := lane s n
  let power := match l.power with | .active => 0 | .quietLpi => 1 | .quietIdle => 2 | .deep => 3 | .off => 4
  power * 4096 + l.link * 256 + boolNat l.cdr * 128 + boolNat l.signal * 64 + boolNat l.fec * 32 + boolNat l.trainOk * 16

end Sys2Proof.Machine
end

