-- ==== Sys2Proof/Machine/Link.lean ====
section
/-! DEFINITION. Links and media access: link changes and the hold, EEE, half duplex and PLCA, MDIO and PHY polls, preemption
verification, steward frames, recirculation (R11, R18, R117, R123, R132 to R149, R342, R498). -/

namespace Sys2Proof.Machine

/-! ### Links and the hold (R138 to R142) -/

/-- Copies queued to port `p`, the host copies of the exit port among them: those whose preamble has not left. -/
def queuedFor (s : Sys) (p : Nat) : List (Nat × Copy) :=
  (allCopies s).filter (fun c => txPort s c.2.port == p && (c.2.st == .queued || c.2.st == .held) && c.2.port != 74 && c.2.port != 75)

/-- Drop every copy queued to a port, and say how many. -/
def dropQueued (p ctr : Nat) (s : Sys) : Sys × Nat :=
  let l := queuedFor s p
  (l.foldl (fun s c => dropCopy ctr c.1 s) s, l.length)

/-- Queued copies that no longer fit their maximum window (R341). -/
def dropTooLong (p : Nat) (s : Sys) : Sys :=
  ((queuedFor s p).filter (fun c => c.2.st == .queued)).foldl (fun s c =>
    if hasCopy s c.1 ∧ copyWhole s (copy s c.1) ∧ tooLong s (copy s c.1) then refuseLength (Ctr.gateTooLongDrop p) c.1 s else s) s

/-- When a port's hold ends (R139, R142). -/
def holdEnd (s : Sys) (p : Nat) : Nat := (port s p).downAt + obj s (pix p 5) 1 * Config.ticksPerMs

/-- HOLD_EXPIRY (R141). -/
def holdExpiryEffect (p : Nat) (s : Sys) : Sys :=
  if (port s p).held ∧ holdEnd s p ≤ s.now then
    let (s, n) := dropQueued p (Ctr.linkDownDrop p) s
    raise 0x0403 1 (u8b p ++ u32b n) (updPort p (fun q => { q with held := false }) s)
  else s

/-- A link comes up (R138, R140); preemption verifies anew (R342). -/
def linkUpPort (p mbps : Nat) (half : Bool) (s : Sys) : Sys :=
  let s := holdExpiryEffect p s
  let verify := if p ≤ 63 ∧ flag s (pix p 0x0E) 1 ∧ flag s (pix p 0x0E) 3 then 1 else 0
  let s := updPort p (fun q => { q with linkUp := true, speed := mbps, half := half && decide (64 ≤ p ∧ p ≤ 71), held := false,
                                        linkAt := s.now, lastChange := dc s, refclkLost := false, free := s.now, idleSince := s.now, verify := verify,
                                        verifies := 0, verifyAt := s.now, backoff := none, attempts := 0 }) s
  let s := (portLanes s p).foldl (fun s n =>
    updLane n (fun l => { enterPower .active l with link := 3, cdr := true, signal := true, fec := obj s (laneIx p) 2 != 0 }) s) s
  dropTooLong p (raise 0x0401 0 (u8b p ++ u32b mbps) (if p ≤ 63 then s else plcaStart p s))

/-- Speed and duplex of a fixed SVC_MODE (Table PRT-11). -/
def svcMode (m : Nat) : Option (Nat × Bool) :=
  match m with | 1 => some (10, true) | 2 => some (10, false) | 3 => some (100, true) | 4 => some (100, false) | _ => none

/-- The best mode that two 10/100 PHYs share, by the priority of IEEE 802.3 clause 28, from their registers 4 and 5 (R132). -/
def phyResolve (adv lpa : Nat) : Option (Nat × Bool) :=
  let common := adv &&& lpa
  if bit common 8 then some (100, false)
  else if bit common 9 || bit common 7 then some (100, true)
  else if bit common 6 then some (10, false)
  else if bit common 5 then some (10, true)
  else none

/-- Speed and duplex of a service port's link: those of SVC_MODE, or what its PHY resolved (R132). -/
def svcRate (s : Sys) (p : Nat) : Option (Nat × Bool) :=
  match svcMode (obj s (pix p 3) 1) with | some x => some x | none => (port s p).resolved

/-- The rate of SGMII: what its auto-negotiation gives, 10, 100 or 1,000 Mb/s. -/
def sgmiiRate (mbps : Nat) : Nat := if mbps = 10 ∨ mbps = 100 then mbps else 1000

/-- The rate in Mb/s of a lane port's type (Table LAN-1) and of port 72's MGMT_MODE; `mbps` is what SGMII negotiates. -/
def typeSpeed (s : Sys) (p mbps : Nat) : Nat :=
  if p = 72 then (if obj s 0x1907 1 = 0 then sgmiiRate mbps else 1000)
  else match laneType s p with
    | 1 => sgmiiRate mbps
    | 2 => 1000
    | 3 => 2500
    | 4 => 5000
    | 5 => 10000
    | 6 => 25000
    | 7 => 40000
    | 8 => 50000
    | _ => 100000

/-- Whether a port can have a link: lane ports with a port type whose lanes run and carry frames, service ports whose PHY reports link and whose reference clock runs
(R138), port 72; the Knaing port has its own link. -/
def linkCapable (s : Sys) (p : Nat) : Bool :=
  if 73 ≤ p then false
  else if p ≤ 63 then decide (1 ≤ laneType s p ∧ laneType s p ≤ 9) && (portLanes s p).all (fun n => !laneBlocked s n && laneReady s n)
  else p == 72 || (port s p).phyLink && !(port s p).refclkLost

/-- LINK_UP. The port kind fixes the speed and the duplex; `mbps` is what an SGMII partner resolves. -/
def linkUpEffect (p mbps : Nat) (s : Sys) : Sys :=
  if !linkCapable s p ∨ isKng s p then s
  else match (if 64 ≤ p ∧ p ≤ 71 then svcRate s p else some (typeSpeed s p mbps, false)) with
    | none => s
    | some (rate, half) => if (port s p).linkUp ∧ (port s p).speed = rate then s else linkUpPort p rate half s

/-- The frame in transmission is lost (R139); one that was only selected returns to the head of its queue. -/
def abortTx (p : Nat) (s : Sys) : Sys :=
  let q := port s p
  let lose (id : Nat) (s : Sys) : Sys :=
    let c := copy s id
    let s := if c.octLate ∧ copyWhole s c then bumpBy (Ctr.queueTxOctets c.queue) (wireLen s c) s else s
    removeCopy id (tapFail id (stampFrame p c true (bump (Ctr.txAbort p) s)))
  let s := match q.tx with
    | some id => if (copy s id).st = .held then unpick p id s else lose id s
    | none => s
  let s := match q.suspended with | some id => lose id s | none => s
  let s := match q.retry with
    | some id => if hasCopy s id then let c := copy s id; setQueue c.queue (id :: queue s c.queue) (updCopy id (fun c => { c with st := .queued }) s) else s
    | none => s
  updPort p (fun q => { q with tx := none, suspended := none, retry := none, txClass := none }) s

/-- Credits and deficits of a port return to 0 (R330). -/
def clearCredits (p : Nat) (s : Sys) : Sys :=
  let mine (k : Nat) : Bool := if k < 100000 then k / 8 == p else queuePort s (k - 100000) == p
  updPort p (fun q => { q with credit := [] })
    { s with deficit := s.deficit.filter (fun e => !mine e.1), charged := s.charged.filter (fun e => !mine e.1) }

/-- The frame that was arriving ends where it is, without a good FCS. -/
def cutRx (p : Nat) (s : Sys) : Sys :=
  match (port s p).rx with
  | some id => endFrame id [] false false (markBad id s)
  | none => s

/-- LINK_DOWN (R130, R138, R139, R330). -/
def linkDownEffect (p : Nat) (s : Sys) : Sys :=
  if !(port s p).linkUp then s
  else
    let s := clearCredits p (abortTx p (cutRx p s))
    let s := updPort p (fun q => { q with linkUp := false, downAt := s.now, linkAt := s.now, lastChange := dc s, pause := [], lpiTx := false, lpiRx := false,
                                          lpiWake := none, verify := 0, hold := false, mmOpen := false, mmBytes := [], fcSent := 0, plca := 0,
                                          macCtl := [], backoff := none }) s
    let s := (portLanes s p).foldl (fun s n => updLane n (fun l => { l with link := 0, fec := false }) s) s
    if obj s (pix p 5) 1 = 0 ∨ !admin s p then
      let (s, _) := dropQueued p (Ctr.linkDownDrop p) s
      raise 0x0402 1 (u8b p ++ u32b 0) s
    else
      let l := queuedFor s p
      let s := l.foldl (fun s c => updCopy c.1 (fun c => { c with wasHeld := true }) s) s
      raise 0x0402 1 (u8b p ++ u32b l.length) (updPort p (fun q => { q with held := true }) s)

/-- A commit of SVC_MODE or of a PLCA object: another speed or duplex takes the link down until the next poll (log entry 80). -/
def svcCommit (old : Sys) (p sub : Nat) (s : Sys) : Sys :=
  if sub = 1 then (if obj old (pix p 3) 1 = obj s (pix p 3) 1 then s else linkDownEffect p s)
  else if 4 ≤ sub ∧ sub ≤ 6 then plcaStart p s else s

/-- A commit that sets ADMIN false drops what is queued (R117). -/
def adminOff (p : Nat) (s : Sys) : Sys :=
  let s := cutRx p (abortTx p s)
  (dropQueued p (Ctr.linkDownDrop p) (updPort p (fun q => { q with held := false }) s)).1

/-- PORT_STATUS and LINK_STATE (Tables PRT-4, PRT-13). The other ports of the Knaing octet read 0 (R150). -/
def portStatus (s : Sys) (p : Nat) : Nat :=
  if (kngPort s).any (fun n => n != p && n / 8 == p / 8) then 0 else
  let q := port s p
  let stopped := orAll ((List.range 8).map (fun c => if paused s p c then 2 ^ c else 0))
  stopped * 256 + boolNat q.linkUp * 128 + boolNat q.held * 64 + boolNat q.half * 32 + boolNat q.lpiTx * 16 + boolNat q.lpiRx * 8
    + boolNat (bit (fullSilent s) p) * 4 + boolNat q.phyLink * 2 + boolNat (decide (q.fcSent ≠ 0))

def linkState (s : Sys) (p : Nat) : Nat :=
  let q := port s p
  if !admin s p then 3 else if q.linkUp then 1 else if q.held then 2 else 0

/-! ### EEE (R137) -/

/-- The wake time of a port in ticks. -/
def wakeTime (s : Sys) (p : Nat) : Nat :=
  let tw := obj s (pix p 4) 3
  if tw = 0 then Config.twSysTx (laneType s p) else tw * Config.ticksPerUs

/-- Whether a gate that is closed opens on a base within `span`, seen over `n` events. -/
def opensWithin (g : GateList) (fb : GateEntry) (till : Nat) : Nat → Nat → Bool
  | 0, _ => false
  | n + 1, t => match g.next t with
    | none => false
    | some u =>
      if u > till then false
      else if (g.at fb u).2.1.gates &&& (255 - (g.at fb t).2.1.gates) ≠ 0 then true else opensWithin g fb till n u

/-- Whether a window of a port opens within `ticks`. -/
def windowSoon (s : Sys) (p ticks : Nat) : Bool :=
  let b := obj s (glIx p) 2
  flag s (glIx p) 1
    && opensWithin (port s p).gate (glFallback s p) (clock s b + ticks * 262144 / 5) (port s p).gate.turns (clock s b)

/-- EEE_IDLE_EXPIRY: low-power idle, unless a window of the port opens within the wake time and 1 µs. -/
def eeeIdleEffect (p : Nat) (s : Sys) : Sys :=
  let q := port s p
  let busy := q.tx.isSome || q.suspended.isSome || !q.macCtl.isEmpty || (List.range 8).any (fun c => classWaits s p c)
  let soon := windowSoon s p (wakeTime s p + Config.ticksPerUs)
  if 64 ≤ p ∨ isKng s p ∨ !flag s (pix p 4) 1 ∨ !q.linkUp ∨ q.lpiTx ∨ busy ∨ soon ∨ (portLanes s p).any (laneHeld s) ∨ s.now < q.idleSince + obj s (pix p 4) 2 * Config.ticksPerUs
  then s
  else
    let s := bump (Ctr.eeeLpiEntry p) (updPort p (fun q => { q with lpiTx := true, lpiWake := none }) s)
    (portLanes s p).foldl (fun s n => aimLane n .quietLpi s) s

/-- LPI_WAKE_DONE: the wake time since a frame was given has passed. -/
def lpiWakeEffect (p : Nat) (s : Sys) : Sys :=
  match (port s p).lpiWake with
  | none => s
  | some t =>
    if t + wakeTime s p ≤ s.now then
      let s := updPort p (fun q => { q with lpiTx := false, lpiWake := none, idleSince := s.now }) s
      (portLanes s p).foldl (fun s n => updLane n (enterPower .active) s) s
    else s

/-- A port in LPI begins to wake when a window opens within its wake time, so that its lanes are Active at the opening (R137). -/
def lpiEarly (p : Nat) (s : Sys) : Sys :=
  let q := port s p
  if q.lpiTx ∧ q.lpiWake.isNone ∧ windowSoon s p (wakeTime s p) then updPort p (fun q => { q with lpiWake := some s.now }) s else s

def lpiWatch (s : Sys) : Sys := if s.ports.any (fun e => e.2.lpiTx) then loop lpiEarly 0 64 s else s

/-- PARTNER_LPI. -/
def partnerLpiEffect (p : Nat) (on : Bool) (s : Sys) : Sys :=
  if (port s p).linkUp then updPort p (fun q => { q with lpiRx := on }) s else s

/-! ### Half duplex and PLCA (R133 to R135) -/

/-- Drop the frame that a collision ended. -/
def collisionDrop (p id ctr : Nat) (s : Sys) : Sys :=
  removeCopy id (tapFail id (bump ctr (updPort p (fun q => { q with tx := none, retry := none, txClass := none, attempts := 0,
                                                                    free := s.now + bitTicks (32 + obj s (pix p 3) 3) (linkSpeed s p) }) s)))

/-- COLLISION, `bits` after the first preamble bit; `draw` is the generator's number. -/
def collisionEffect (p bits draw : Nat) (s : Sys) : Sys :=
  let q := port s p
  match q.tx with
  | none => s
  | some id =>
    if !q.half ∨ (copy s id).st ≠ .sending then s
    else
      let s := bump (Ctr.txCollision p) s
      let n := q.attempts + 1
      if bits > 512 then collisionDrop p id (Ctr.txLateColl p) s
      else if n ≥ obj s (pix p 3) 2 then collisionDrop p id (Ctr.txExcessColl p) s
      else
        let slots := draw % 2 ^ (min n 10)
        let till := s.now + bitTicks (32 + 512 * slots) (linkSpeed s p)
        let gap := s.now + bitTicks (32 + obj s (pix p 3) 3) (linkSpeed s p)
        updPort p (fun q => { q with tx := none, txClass := none, retry := some id, attempts := n, backoff := some till, free := max till gap })
          (updCopy id (fun c => { c with st := .held }) s)

/-- BACKOFF_EXPIRY: the frame is tried again, as a new start (R134). -/
def backoffEffect (p : Nat) (s : Sys) : Sys :=
  match (port s p).backoff with
  | none => s
  | some t => if t ≤ s.now then schedulerEffect p (updPort p (fun q => { q with backoff := none }) s) else s

/-- PLCA_BEACON_RX: a new cycle starts with node 0. -/
def beaconEffect (p : Nat) (s : Sys) : Sys :=
  if plcaOn s p ∧ obj s (pix p 3) 5 ≠ 0 then updPort p (fun q => { q with plca := 2, plcaId := 0, plcaBurst := 0, plcaAt := s.now, plcaTimer := s.now }) s else s

/-- PLCA_BEACON_LOSS: 4,000 bit times without a BEACON. -/
def beaconLossEffect (p : Nat) (s : Sys) : Sys :=
  let q := port s p
  if plcaOn s p ∧ obj s (pix p 3) 5 ≠ 0 ∧ q.plca ≠ 1 ∧ q.plcaAt + bitTicks 4000 10 ≤ s.now then
    bump (Ctr.svcPlcaBeaconLoss p) (updPort p (fun q => { q with plca := 1 }) s)
  else s

/-- The bit times of the running PLCA timer: the burst timer behind a frame of this node's own burst, else the TO timer. -/
def plcaTimerBits (s : Sys) (p : Nat) : Nat :=
  let q := port s p
  if q.plcaId = obj s (pix p 3) 5 ∧ 0 < q.plcaBurst then obj s (pix p 3) 9 else obj s (pix p 3) 7

/-- PLCA_TO_TIMER_EXPIRY: the TO timer or the burst timer has run out with the medium idle, and the opportunity moves on. -/
def plcaTimerEffect (p : Nat) (s : Sys) : Sys :=
  let q := port s p
  if !plcaOn s p ∨ q.plca ≠ 2 ∨ q.tx.isSome ∨ q.rx.isSome ∨ s.now < q.plcaTimer + bitTicks (plcaTimerBits s p) 10 then s
  else plcaNext p s

/-! ### MDIO and the PHY (R143, R144, R498) -/

/-- A written MDIO_CMD: none is the refusal with code 6. -/
def mdioCommand (c : MdioCmd) (s : Sys) : Option Sys :=
  if (port s c.port).mdioBusy ∨ s.mdio.length ≥ 16 then none
  else some (updPort c.port (fun q => { q with mdioBusy := true }) { s with mdio := s.mdio ++ [c] })

/-- MDIO_FRAME_DONE: `line` is what the line carried; a read keeps it. -/
def mdioDoneEffect (line : Nat) (s : Sys) : Sys :=
  match s.mdio with
  | [] => s
  | c :: l =>
    let isRead := c.op == 0 || c.op == 4 || c.op == 5
    updPort c.port (fun q => { q with mdioBusy := false, mdioDone := true, mdioSeq := (q.mdioSeq + 1) % 256,
                                      mdioData := if isRead then line else q.mdioData }) { s with mdio := l }

/-- MDIO_RESULT (Table PRT-14). -/
def mdioResult (s : Sys) (p : Nat) : Nat :=
  let q := port s p
  (if q.mdioBusy then 1 else if q.mdioDone then 2 else 0) * 2 ^ 30 + q.mdioSeq * 65536 + q.mdioData

/-- PHY_POLL: bit 2 of the status register is the PHY's link; `adv` and `lpa` are its advertisement and partner-ability registers, and
`clk` says whether the port's reference clock runs. A service port follows them (R132, R138). -/
def phyPollEffect (p line adv lpa : Nat) (clk : Bool) (s : Sys) : Sys :=
  if 73 ≤ p ∨ isKng s p ∨ obj s (pix p 6) 3 = 0 ∨ obj s (pix p 6) 1 = 0 then s
  else
    let up := bit line 2
    let s := updPort p (fun q => { q with phyLink := up, pollAt := s.now }) s
    if p < 64 ∨ 71 < p then s
    else
      let s := updPort p (fun q => { q with refclkLost := !clk, resolved := if up then phyResolve adv lpa else none }) s
      if !up ∨ !clk then linkDownEffect p s else if (port s p).linkUp then s else linkUpEffect p 0 s

/-- SVC_REFCLK_LOSS. -/
def refclkLossEffect (p : Nat) (s : Sys) : Sys :=
  if 64 ≤ p ∧ p ≤ 71 then linkDownEffect p (updPort p (fun q => { q with refclkLost := true }) s) else s

/-! ### Preemption verification (R342) -/

/-- PREEMPT_VERIFY_TX: the next verify mPacket, or the failure after three. -/
def verifyTxEffect (p : Nat) (s : Sys) : Sys :=
  let q := port s p
  if 64 ≤ p ∨ !flag s (pix p 0x0E) 1 ∨ !flag s (pix p 0x0E) 3 ∨ !q.linkUp ∨ (q.verify ≠ 1 ∧ q.verify ≠ 2) then s
  else if s.now < q.verifyAt + obj s (pix p 0x0E) 4 * Config.ticksPerMs then s
  else if q.verifies < 3 then updPort p (fun q => { q with verify := 2, verifies := q.verifies + 1, verifyAt := s.now }) s
  else bump (Ctr.preemptVerifyFail p) (updPort p (fun q => { q with verify := 4 }) s)

/-- PREEMPT_VERIFY_RESPONSE. -/
def verifyResponseEffect (p : Nat) (s : Sys) : Sys :=
  if p ≤ 63 ∧ (port s p).verify = 2 then updPort p (fun q => { q with verify := 3 }) s else s

/-- PREEMPT_STATUS (Table EGR-9). -/
def preemptStatus (s : Sys) (p : Nat) : Nat :=
  let classes := orAll ((List.range 8).map (fun c => if preemptable s p c then 2 ^ c else 0))
  (port s p).verify * 4096 + boolNat (preemptActive s p) * 2048 + boolNat (port s p).hold * 1024 + classes

/-! ### Gates of a port (R335 to R338, R345) -/

def glOf (c : GateCfg) : List Nat := c.entries.map (fun e => e.op * 2 ^ 40 + e.gates * 2 ^ 32 + e.interval)

/-- The pending configuration `c` becomes the operating one, GL_CHANGED is raised, and frames too long for it leave (R335). -/
def gateAdopt (p : Nat) (c : GateCfg) (s : Sys) : Sys :=
  let b := obj s (glIx p) 2
  let g : GateList := { (port s p).gate with oper := some c, pend := none, state := 3 }
  let g := g.refresh (glFallback s p) (clock s b)
  dropTooLong p (raise 0x0801 0 (u8b p ++ timeb c.start) (updPort p (fun q => { q with gate := g }) s))

/-- GATE_CHANGE_TIME (R335): the pending configuration becomes operating, once its time has come. -/
def gateChangeEffect (p : Nat) (s : Sys) : Sys :=
  let q := port s p
  let b := obj s (glIx p) 2
  match q.gate.pend with
  | none => s
  | some c =>
    if clock s b < c.start ∨ !baseRuns s b ∨ isKng s p then s else gateAdopt p c s

/-- Release or assert hold as the entry in force says (R345). -/
def holdFollow (p : Nat) (s : Sys) : Sys :=
  let q := port s p
  if !preemptActive s p then s
  else match q.gate.op with
    | 2 => updPort p (fun q => { q with hold := false }) s
    | 1 => if q.hold then s else bump (Ctr.preemptHold p) (updPort p (fun q => { q with hold := true }) s)
    | _ => s

/-- The gates of a port take the states of the present instant; at one that opens a transmitter in LPI has been woken in time, any other
that sleeps is late, and hold follows (R137, R336, R338, R345). -/
def gateTurn (p : Nat) (s : Sys) : Sys :=
  let b := obj s (glIx p) 2
  let was := (port s p).gate.gates
  let s := updPort p (fun q => { q with gate := q.gate.refresh (glFallback s p) (clock s b) }) s
  let opened := (port s p).gate.gates &&& (255 - was) ≠ 0
  let lpi := (port s p).lpiTx
  let asleep := (port s p).linkUp && !lpi && (portLanes s p).any (fun n => (lane s n).power != .active)
  let s := bumpIf (decide opened && asleep) (Ctr.nrgWakeLate p) s
  holdFollow p (if opened ∧ lpi then
    (portLanes s p).foldl (fun s n => updLane n (enterPower .active) s)
      (updPort p (fun q => { q with lpiTx := false, lpiWake := none }) s) else s)

/-- GATE_EVENT (R335, R338): the gates follow the list at the present instant; a port in LPI is awake for its window (R137). -/
def gateEventEffect (p : Nat) (s : Sys) : Sys :=
  if 73 ≤ p ∨ isKng s p ∨ !flag s (glIx p) 1 ∨ !baseRuns s (obj s (glIx p) 2) then s else gateTurn p (gateChangeEffect p s)

/-- Whether an op 1 entry of the port's list begins within PREEMPT_HOLD_ADVANCE (R345). -/
def holdDue (s : Sys) (p : Nat) : Bool :=
  let q := port s p
  let t := clock s (obj s (glIx p) 2)
  match q.gate.next t with
  | some u => (q.gate.at (glFallback s p) u).2.1.op == 1 && decide (u ≤ t + obj s (pix p 0x0E) 6 * nsUnits)
  | none => false

/-- PREEMPT_HOLD_ASSERT (R345): hold rises PREEMPT_HOLD_ADVANCE before an entry with op 1. -/
def holdAssertEffect (p : Nat) (s : Sys) : Sys :=
  if 64 ≤ p ∨ !preemptActive s p ∨ (port s p).hold ∨ !flag s (glIx p) 1 ∨ !holdDue s p then s
  else bump (Ctr.preemptHold p) (updPort p (fun q => { q with hold := true }) s)

/-! ### Steward frames (R18, R123) -/

/-- Whether bytes are a Gramus frame by their EtherType. -/
def gramusBytes (s : Sys) (b : List Byte) : Bool :=
  (if field b 12 2 = 0x8100 then field b 16 2 else field b 12 2) == obj s 0x0300 1

/-- A frame of its own that a steward sends on a port's class queue. -/
def injectFrame (p tc : Nat) (b : List Byte) (s : Sys) : Sys :=
  let (f, s) := addFrame { port := p, orig := p, bytes := b, ended := true, fcs := fcsBytes b, length := b.length + 4, stage := .injected,
                           verdict := some true } s
  let (c, s) := addCopy { frame := f, tile := copyTile s p, port := p, kind := .steward (gramusBytes s b), sel := { tc := tc }, body := some b } s
  reap f (enqueue c s)

/-- STEWARD_INJECT (R18): the oldest frame a steward has to send meets the enqueue tests of its port. -/
def stewardInjectEffect (s : Sys) : Sys :=
  match s.outbox with
  | [] => s
  | (p, tc, b) :: l => injectFrame p tc b { s with outbox := l }

/-- Hand a frame to the injection path. -/
def sendSteward (p tc : Nat) (b : List Byte) (s : Sys) : Sys := { s with outbox := s.outbox ++ [(p, tc, b)] }

/-- Take the front frame of a steward queue. -/
def takeSq (q : Nat) (s : Sys) : Option (Frame × Sys) :=
  match SMap.get [] s.sq q with
  | [] => none
  | id :: l => some (frame s id, reap id { s with sq := SMap.set [] s.sq q l })

/-- The addresses and EtherType of a slow-protocol frame. -/
def slowHeader (s : Sys) : List Byte := toBE 6 0x0180C2000002 ++ toBE 6 (obj s 0x0300 2) ++ u16b 0x8809

/-- SLOW_PROTOCOL_RX (R123): LACP is kept for the port, a marker is answered (IEEE 802.1AX, log entry 29), others discarded. -/
def slowRxEffect (s : Sys) : Sys :=
  match takeSq 2 s with
  | none => s
  | some (f, s) =>
    match byteAt f.bytes 14 with
    | 1 => { s with lacp := SMap.set [] s.lacp f.port (f.bytes.drop 14) }
    | 2 => if byteAt f.bytes 16 = 1 then sendSteward f.port 7 (slowHeader s ++ patch (f.bytes.drop 14) 2 [2]) s else s
    | _ => bump Ctr.stewSlowOther s

/-- LACPDU_TX (R18). -/
def lacpduTxEffect (p : Nat) (body : List Byte) (s : Sys) : Sys := if 64 ≤ p then s else sendSteward p 7 (slowHeader s ++ body) s

/-! ### Recirculation (R149) -/

/-- Strict priority from TC7 downwards on a port without scheduler (R329). -/
def drawFrom (p : Nat) : Nat → Sys → Sys × Option Nat
  | 0, s => (s, none)
  | c + 1, s => match child p p c s with
    | (s', some id) => (s', some id)
    | (_, none) => drawFrom p c s

/-- A frame drawn from port 75 is a new head with that source port; its original port, its VID and its rule-set generation
travel with it (R149, R169, R179), and tunnel termination removes the outer headers (R218). -/
def recirculate (id : Nat) (s : Sys) : Sys :=
  let c := copy s id
  let f := frame s c.frame
  let r := f.com.getD {}
  let b := if r.terminate then f.bytes.drop ((f.parsed.getD {}).inner.getD 0) else egressBytes s c
  let vid := if r.terminate then cell (asOf s f.gen) 0x4900 1 r.nextHop 2 else r.vidOut
  let n := b.length + 4
  let prev : Sel := { tc := r.tc, colour := r.colour, fixed := r.qsel == 1, queue := r.queue }
  let s := bumpBy (Ctr.txOctets 75) n (bump (Ctr.txFrames 75) s)
  let s := bumpBy (Ctr.queueTxOctets c.queue) n (bump (Ctr.queueTxFrames c.queue) s)
  let (new, s) := addFrame { port := 75, orig := f.orig, sfd := f.sfd, bytes := b, ended := true, fcs := fcsBytes b, length := n,
                             verdict := some true, passes := f.passes + 1, prev := some prev, vid := some vid, stage := .numbered } s
  updFrame new (fun g => { g with rsGen := f.rsGen }) (numberHead new (removeCopy id { s with recircFree := s.now + max 13 (bitTicks (8 * n) 100000) }))

/-- The copy that T8 draws from the queues of port 75, highest class first. -/
def recircNext (s : Sys) : Sys × Option Nat :=
  let mine := (s.queues.map (·.1)).filter (fun q => queuePort s q == 75)
  drawFrom 75 8 (tidyDrr (mine.foldl (fun s q => pruneQueue q ((queue s q).length + 1) s) s))

/-- RECIRC_DRAW (R149): once the caps allow it, the next copy of port 75 re-enters; one of a rule-set generation retired by
force is dropped (R183). -/
def recircDrawEffect (s : Sys) : Sys :=
  if s.now < s.recircFree ∨ s.devState ≠ 1 then s
  else
    match recircNext s with
    | (_, none) => s
    | (s, some id) =>
      if s.rsRetired.contains (frame s (copy s id).frame).rsGen then dropAs false Ctr.rsGenDrop id s else recirculate id s

end Sys2Proof.Machine
end

