-- ==== Sys2Proof/Machine/Hbm.lean ====
section
/-! DEFINITION. The bytes of the HBM stacks and the die-spread code (R371 to R376): shares of 32 data bytes and a 4-byte tag.
Byte `b` of slot `n` of die `d` has address (d * 67108864 + n) * 36 + b, the tag behind the data. -/

namespace Sys2Proof.Machine

/-! ### Bytes -/

/-- What an unlisted byte reads as: 0, and a tag whose parity fails (DESIGN CHOICE, log entry 7). -/
def hbmDflt (a : Nat) : Byte := if a % 36 = 32 then 0x80 else 0

def Memory.read (m : List Host.Cell) (a : Nat) : Byte :=
  match m with
  | [] => hbmDflt a
  | (j, v) :: r => if j = a then v else Memory.read r a

def Memory.put (m : List Host.Cell) (a : Nat) (v : Byte) : List Host.Cell :=
  match m with
  | [] => [(a, v)]
  | (j, w) :: r => if a < j then (a, v) :: (j, w) :: r else if a = j then (a, v) :: r else (j, w) :: Memory.put r a v

def Memory.del (m : List Host.Cell) (a : Nat) : List Host.Cell :=
  match m with
  | [] => []
  | (j, w) :: r => if j = a then r else (j, w) :: Memory.del r a

/-- Store a byte; the value that an unlisted byte reads as removes the entry. -/
def Memory.write (m : List Host.Cell) (a : Nat) (v : Byte) : List Host.Cell :=
  if v = hbmDflt a then Memory.del m a else Memory.put m a v

/-- The canonical form: addresses strictly rising, no entry equal to what an unlisted byte reads as. -/
def Memory.wf : List Host.Cell → Bool
  | [] => true
  | (j, v) :: r => decide (v ≠ hbmDflt j) && Memory.wf r && r.all (fun p => decide (j < p.1))

/-- Store bytes from address `a` on, and read `n` of them. -/
def Memory.writeAll (a : Nat) : List Byte → List Host.Cell → List Host.Cell
  | [], m => m
  | b :: l, m => Memory.writeAll (a + 1) l (Memory.write m a b)

def Memory.readAll (m : List Host.Cell) (a n : Nat) : List Byte := (List.range n).map (fun i => Memory.read m (a + i))

/-! ### The field GF(2^8) and the code (R373) -/

def gfDouble (a : Nat) : Nat := if 128 ≤ a then (2 * a % 256) ^^^ 0x1D else 2 * a

/-- Sum of a·2^i over the bits of `b`. -/
def gfMulBits : Nat → Nat → Nat → Nat
  | 0, _, _ => 0
  | n + 1, a, b => (if b % 2 = 1 then a else 0) ^^^ gfMulBits n (gfDouble a) (b / 2)

def gfMul (a b : Nat) : Nat := gfMulBits 8 a b

/-- α to the power `m`. -/
def gfAlpha (m : Nat) : Nat := iter gfDouble m 1

/-- The inverse: the power 254. -/
def gfInv (a : Nat) : Nat := iter (gfMul a) 254 1

def xorAll (l : List Nat) : Nat := l.foldl (· ^^^ ·) 0

/-- S1 of the symbols c_0, c_1, … at one position, the first with weight α^17. -/
def syndrome1 : Nat → List Nat → Nat
  | _, [] => 0
  | w, c :: l => gfMul c (gfAlpha w) ^^^ syndrome1 (w - 1) l

/-- The check symbols for sixteen data symbols. -/
def checkSymbols (c : List Nat) : Nat × Nat :=
  let a := xorAll c
  let b := syndrome1 17 c
  let c16 := gfMul (a ^^^ b) (gfInv 3)
  (c16, a ^^^ c16)

/-- The eighteen shares of a block's 512 bytes. -/
def encodeShares (data : List Byte) : List (List Byte) :=
  let shares := (List.range 16).map (fun j => slice data (32 * j) 32)
  let chk := (List.range 32).map (fun p => checkSymbols (shares.map (fun s => byteAt s p)))
  shares ++ [chk.map (fun c => BitVec.ofNat 8 c.1), chk.map (fun c => BitVec.ofNat 8 c.2)]

/-! ### Tags and places (R371, R374) -/

def oddParity (n v : Nat) : Bool := ((List.range n).filter (bit v)).length % 2 == 1

/-- The tag word of Table MEM-2. -/
def tagWord (poison : Bool) (area lba : Nat) : Nat :=
  let t := boolNat poison * 2 ^ 30 + area * 2 ^ 28 + lba
  (if oddParity 31 t then 2 ^ 31 else 0) + t

/-- The die and slot of share `j` of physical block `n`. -/
def sharePlace (n j : Nat) : Nat × Nat := ((18 * (n % 4) + j) % 24, 3 * (n / 4) + (18 * (n % 4) + j) / 24)

def shareAddr (n j : Nat) : Nat := ((sharePlace n j).1 * Config.dieSlots + (sharePlace n j).2) * 36

/-- The window of a logical block (Table MEM-1): 0 deep store, 1 recorder, 2 system region. -/
def areaOf (lba : Nat) : Nat := if lba < 16777216 then 0 else if lba < 83886080 then 1 else 2

/-- Write the shares of physical block `n` with one tag. -/
def putShares (n tag : Nat) : Nat → List (List Byte) → List Host.Cell → List Host.Cell
  | _, [], m => m
  | j, x :: l, m => putShares n tag (j + 1) l (Memory.writeAll (shareAddr n j) (x ++ toBE 4 tag) m)

/-- Encode and write a block (R376). -/
def putBlock (n : Nat) (poison : Bool) (area lba : Nat) (data : List Byte) (m : List Host.Cell) : List Host.Cell :=
  putShares n (tagWord poison area lba) 0 (encodeShares (padRight 512 data)) m

/-! ### Reading (R375) -/

/-- A share as read: its bytes and its tag. -/
structure Share where
  data : List Nat
  tag : Nat

def getShares (n : Nat) (m : List Host.Cell) : List Share :=
  (List.range 18).map (fun j => { data := (Memory.readAll m (shareAddr n j) 32).map (·.toNat),
                                  tag := beNat (Memory.readAll m (shareAddr n j + 32) 4) })

/-- What decoding says: 0 clean, 1 corrected, 2 corrected with two erasures, 3 poisoned, 4 uncorrectable. -/
structure Decoded where
  verdict : Nat
  shares : List (List Nat)
  /-- the shares that were corrected, and those whose tag failed -/
  fixed : List Nat := []
  tagBad : List Nat := []

def Decoded.data (d : Decoded) : List Byte := ((d.shares.take 16).flatten).map (BitVec.ofNat 8)

def position (shares : List (List Nat)) (p : Nat) : List Nat := shares.map (fun s => s.getD p 0)

/-- Add an error value to position `p` of share `j`. -/
def addError (shares : List (List Nat)) (j p e : Nat) : List (List Nat) :=
  let s := shares.getD j []
  setAt shares j (setAt s p (s.getD p 0 ^^^ e))

/-- One erasure (rule 5): none when S1 does not check. -/
def solveOne (j : Nat) : List Nat → List (List Nat) × Bool → Option (List (List Nat) × Bool)
  | [], a => some a
  | p :: l, (sh, any) =>
    let c := position sh p
    let s0 := xorAll c
    if syndrome1 17 c ^^^ gfMul s0 (gfAlpha (17 - j)) ≠ 0 then none
    else solveOne j l (addError sh j p s0, any || decide (s0 ≠ 0))

/-- Two erasures (rule 4). -/
def solveTwo (i j : Nat) (sh : List (List Nat)) (p : Nat) : List (List Nat) :=
  let c := position sh p
  let s0 := xorAll c
  let s1 := syndrome1 17 c
  let ei := gfMul (s1 ^^^ gfMul s0 (gfAlpha (17 - j))) (gfInv (gfAlpha (17 - i) ^^^ gfAlpha (17 - j)))
  addError (addError sh i p ei) j p (s0 ^^^ ei)

/-- No erasure (rule 6): the one share that every position which is not clean locates; none when the block is uncorrectable. -/
def locate (sh : List (List Nat)) : List Nat → Option Nat → Option (Option Nat)
  | [], at_ => some at_
  | p :: l, at_ =>
    let c := position sh p
    let s0 := xorAll c
    let s1 := syndrome1 17 c
    if s0 = 0 ∧ s1 = 0 then locate sh l at_
    else
      match if s0 = 0 then none else findBelow 18 (fun m => gfMul s0 (gfAlpha m) == s1) with
      | none => none
      | some m =>
        match at_ with
        | none => locate sh l (some (17 - m))
        | some j => if j = 17 - m then locate sh l at_ else none

/-- Decode a block: `failed` are the shares on a failed die, which are not read. -/
def decodeBlock (area lba : Nat) (failed : List Nat) (raw : List Share) : Decoded :=
  let badTag (x : Share) : Bool := oddParity 32 x.tag || decide (bits x.tag 29 28 ≠ area) || decide (x.tag % 2 ^ 27 ≠ lba)
  let tagBad := (List.range 18).filter (fun j => !failed.contains j && badTag (raw.getD j ⟨[], 0⟩))
  let eras := (List.range 18).filter (fun j => failed.contains j || tagBad.contains j)
  let sh := (List.range 18).map (fun j => if failed.contains j then List.replicate 32 0 else (raw.getD j ⟨[], 0⟩).data)
  let poisoned := (List.range 18).any (fun j => !eras.contains j && bit (raw.getD j ⟨[], 0⟩).tag 30)
  let base : Decoded := { verdict := 0, shares := sh, tagBad := tagBad }
  if poisoned then { base with verdict := 3 }
  else match eras with
    | [] =>
      match locate sh (List.range 32) none with
      | none => { base with verdict := 4 }
      | some none => base
      | some (some j) =>
        { base with verdict := 1, fixed := [j], shares := (List.range 32).foldl (fun sh p => addError sh j p (xorAll (position sh p))) sh }
    | [j] =>
      match solveOne j (List.range 32) (sh, false) with
      | none => { base with verdict := 4 }
      | some (sh, any) => { base with verdict := if any then 1 else 0, fixed := if any then [j] else [], shares := sh }
    | [i, j] => { base with verdict := 2, fixed := [i, j], shares := (List.range 32).foldl (solveTwo i j) sh }
    | _ => { base with verdict := 4 }

end Sys2Proof.Machine
end

