-- ==== Sys2Proof/Machine/Memory.lean ====
section
/-! DEFINITION. The HBM controller, the merge buffer, poison, remapping and the Chisel (chapter 13). An operation works on
the block's state and the bytes of the stacks together. -/

namespace Sys2Proof.Machine

/-- The state without its queue, with the bytes of HBM. -/
abbrev SysMem := Sys × List Host.Cell

def onSys (f : Sys → Sys) (x : SysMem) : SysMem := (f x.1, x.2)
def updMem (f : Mem → Mem) (s : Sys) : Sys := { s with mem := f s.mem }

/-! ### Dies (R378) -/

def die (s : Sys) (d : Nat) : Die := SMap.get {} s.mem.dies d
def updDie (d : Nat) (f : Die → Die) (s : Sys) : Sys := updMem (fun m => { m with dies := SMap.upd {} m.dies d f }) s
def failedDie (s : Sys) : Option Nat := findBelow Config.dies (fun d => (die s d).failed)

/-- A die is declared failed; the next CHISEL_DONE says so, and that of every pass during which it was. -/
def declareFailed (d : Nat) (s : Sys) : Sys :=
  let mark (p : Option Pass) : Option Pass := p.map (fun p => { p with dieFailed := true })
  updMem (fun m => { m with req := mark m.req, auto := mark m.auto, dieNews := true })
    (updDie d (fun v => { v with failed := true, since := dc s }) s)

/-- One correction in a share of die `d`: above the threshold within 1 s the die fails, if no other has. -/
def dieCorrection (d : Nat) (s : Sys) : Sys :=
  let recent := s.now :: ((die s d).recent.filter (fun t => decide (s.now < t + Config.ticksPerS)))
  let s := updDie d (fun v => { v with corrected := v.corrected + 1, recent := recent }) (bump (Ctr.memDieCorr d) s)
  if obj s 0x0600 4 < recent.length ∧ (failedDie s).isNone then declareFailed d s else s

/-- MEM_DIE_CMD: refused with code 6 while another die is failed (R378). -/
def dieFailRefused (s : Sys) (d : Nat) : Bool := match failedDie s with | some e => e != d | none => false
def dieFailEffect (d : Nat) (s : Sys) : Sys := if (die s d).failed ∨ dieFailRefused s d then s else declareFailed d s
def dieRestoreEffect (d : Nat) (s : Sys) : Sys :=
  if (die s d).failed then updDie d (fun v => { v with failed := false, since := dc s, recent := [] }) s else s

/-! ### Where a block stands -/

def spare (s : Sys) (i : Nat) : Spare := SMap.get {} s.mem.spares i
def setSpare (i : Nat) (v : Spare) (s : Sys) : Sys := updMem (fun m => { m with spares := SMap.set {} m.spares i v }) s

/-- The spare in use for a logical block (R394). -/
def spareOf (s : Sys) (lba : Nat) : Option Nat := findBelow Config.memSpares (fun i => spare s i == { spare s i with st := 1, block := lba })

/-- Physical block and area of a logical block. -/
def physical (s : Sys) (lba : Nat) : Nat × Nat :=
  match spareOf s lba with
  | some i => (Config.memBlocks + i, 3)
  | none => (lba, areaOf lba)

/-- The shares of physical block `n` on the failed die. -/
def failedShares (s : Sys) (n : Nat) : List Nat :=
  match failedDie s with
  | some d => (List.range 18).filter (fun j => (sharePlace n j).1 == d)
  | none => []

def touched (s : Sys) (lba : Nat) : Bool := SMap.get false s.mem.touched (lba / 128)

/-! ### Writes (R376, R385) -/

/-- Write zero blocks with good tags to the blocks of a region but `skip`. -/
def fillRegion (s : Sys) (r skip : Nat) (m : List Host.Cell) : List Host.Cell :=
  let zero := List.replicate 18 (List.replicate 32 (0 : Byte))
  loop (fun l m => if l = skip ∨ Config.memBlocks ≤ l then m
    else putShares (physical s l).1 (tagWord false (physical s l).2 l) 0 zero m) (128 * r) 128 m

/-- The first write to an untouched region fills it (R385). -/
def touch (lba : Nat) (x : SysMem) : SysMem :=
  if touched x.1 lba then x
  else (bump Ctr.memZeroFill (updMem (fun m => { m with touched := SMap.set false m.touched (lba / 128) true }) x.1),
        fillRegion x.1 (lba / 128) lba x.2)

/-- Write a block whole, with or without poison; a merge entry of it is discarded (R376, R382). -/
def storeBlock (lba : Nat) (poison : Bool) (data : List Byte) (x : SysMem) : SysMem :=
  let (s, m) := touch lba (onSys hbmWake x)
  let (n, area) := physical s lba
  let s := updMem (fun v => { v with merge := v.merge.filter (fun e => e.lba != lba), spoiled := v.spoiled.filter (· != lba) }) s
  let others := s.poison.filter (· != lba)
  ({ s with poison := if poison then others ++ [lba] else others }, putBlock n poison area lba data m)

/-- The block writes that a command asked for. -/
def flushWrites (x : SysMem) : SysMem :=
  x.1.wq.foldl (fun x w => storeBlock w.1 false w.2 x) ({ x.1 with wq := [] }, x.2)

/-! ### Reads -/

def mergeOf (s : Sys) (lba : Nat) : Option MergeEntry := s.mem.merge.find? (fun e => e.lba == lba)

/-- The words of an entry over a block's bytes. -/
def overlay (e : MergeEntry) (data : List Byte) : List Byte :=
  ((List.range 64).map (fun w => if bit e.mask w then slice e.data (8 * w) 8 else slice data (8 * w) 8)).flatten

/-- Shares as the controller reads them: each disturbance changes a byte and a tag. -/
def disturb (noise : List Disturbance) (l : List Share) : List Share :=
  noise.foldl (fun l d =>
    let x := l.getD d.share ⟨[], 0⟩
    setAt l d.share { data := setAt x.data d.pos (x.data.getD d.pos 0 ^^^ d.flip.toNat), tag := x.tag ^^^ d.tagFlip.toNat }) l

/-- Decode block `lba` as stored. -/
def decodeAt (lba : Nat) (noise : List Disturbance) (x : SysMem) : Decoded :=
  let (n, area) := physical x.1 lba
  decodeBlock area lba (failedShares x.1 n) (disturb noise (getShares n x.2))

/-- The reports of the on-die ECC count for the dies that are read, and decide nothing (R374). -/
def countReports (lba : Nat) (noise : List Disturbance) (s : Sys) : Sys :=
  let n := (physical s lba).1
  ((noise.filter (·.reported)).map (fun d => (sharePlace n d.share.val).1)).foldl (fun s d =>
    if (die s d).failed then s else updDie d (fun v => { v with odecc := v.odecc + 1 }) s) s

/-- The counters of a decoding (R375). -/
def countDecoded (lba : Nat) (d : Decoded) (s : Sys) : Sys :=
  let n := (physical s lba).1
  let s := bumpBy Ctr.memTagErr d.tagBad.length s
  let s := match d.verdict with
    | 1 => bump Ctr.memCorrected s
    | 2 => bump Ctr.memCorrected2e s
    | 3 => bump Ctr.memPoisonRead s
    | _ => s
  d.fixed.foldl (fun s j => dieCorrection (sharePlace n j).1 s) s

/-! ### Poison (R379 to R381) -/

/-- The buffer of the deep store that a unit belongs to. -/
def bufferOfUnit (s : Sys) (u : Nat) : Option (Nat × Nat) :=
  ([2, 1, 0].find? (fun k => poolBase s k ≤ u)).bind (fun k =>
    let b := (u - poolBase s k) / unitsPer k
    if b < (pool s k).buffers then some (k, b) else none)

/-- Whether a free buffer holds a link block. -/
def holdsLink (p : Pool) (b : Nat) : Bool :=
  p.head.any (fun h => h.1 == b) || p.chain.any (fun h => h.1 == b) || decide (b % 121 = 120 ∧ b / 121 < p.fresh)

/-- The first block of segment `k` in the recorder window (Table MEM-1, R462). -/
def segLba (k : Nat) : Nat := 16777216 + 131072 * k

/-- Whether a Cast holds a block of the recorder window. -/
def inCast (s : Sys) (lba : Nat) : Bool :=
  s.recd.casts.any (fun e => e.2.st != 0 && e.2.segs.any (fun k => decide (segLba k ≤ lba ∧ lba < segLba (k + 1))))

/-- The owner of a block (Table MEM-3): pools and recorder know theirs, and the owners of the system region claim their blocks. -/
def ownerOf (s : Sys) (lba : Nat) : Nat :=
  match areaOf lba with
  | 0 => match bufferOfUnit s lba with
    | none => 0
    | some (k, b) =>
      if holdsLink (pool s k) b then 2 else if SMap.get 0 (pool s k).owner b = 0 then 0 else 1
  | 1 => if inCast s lba then 4 else 3
  | _ => SMap.get 9 s.mem.claims lba

/-- A client claims the block of the system region that it reads or writes, under its owner code of Table MEM-3 (log entry 89). -/
def claim (lba owner : Nat) (s : Sys) : Sys :=
  if areaOf lba = 2 ∧ 5 ≤ owner then updMem (fun m => { m with claims := SMap.set 9 m.claims lba owner }) s else s

/-- Quarantine a buffer: owner code 0xC. -/
def quarantine (k b : Nat) (s : Sys) : Sys := setPool k { pool s k with owner := SMap.set 0 (pool s k).owner b 0xC } s

/-- What follows from the poison of a block (Table MEM-3). -/
def poisonOwner (lba owner : Nat) (s : Sys) : Sys :=
  match owner with
  | 0 => match bufferOfUnit s lba with | some (k, b) => quarantine k b s | none => s
  | 2 => match bufferOfUnit s lba with
    | some (k, b) => startRebuild k (quarantine k b (bump Ctr.bpmLinkLost s))
    | none => s
  | 5 | 6 => updMem (fun m => { m with rebuilds := m.rebuilds + 1 }) s
  | 7 =>
    let used := (List.range 4).filter (fun i => decide (2 ≤ (SMap.get {} s.snaps i).st))
    let (x, s) := free s
    match used[x % used.length]? with
    | some i => bump Ctr.memSnapLost { s with snaps := SMap.set {} s.snaps i {} }
    | none => s
  | 8 => updMem (fun m => { m with castDirLost := true }) s
  | _ => s

/-- A block is uncorrectable: source 0 Chisel, 1 read, 2 merge flush (R379). -/
def uncorrectable (lba owner source : Nat) (s : Sys) : Sys :=
  let row := if s.mem.poisonLog.isEmpty then 0 else (s.mem.poisonRow + 1) % 64
  let s := updMem (fun m => { m with poisonRow := row, poisonLog := (row, lba, owner, source, dc s) :: m.poisonLog.take 63 })
    (bump Ctr.memUncorr s)
  poisonOwner lba owner (raise 0x0601 2 (u64b lba ++ u8b owner) s)

/-! ### Remapping (R393, R394) -/

def dropCand (lba : Nat) (s : Sys) : Sys := updMem (fun m => { m with cands := m.cands.filter (fun c => c.1 != lba) }) s

/-- Remap a candidate to the free spare with the lowest number. What its read finds uncorrectable is recorded as at any read (R379). -/
def remap (lba : Nat) (x : SysMem) : SysMem :=
  let s := x.1
  match findBelow Config.memSpares (fun i => (spare s i).st == 0) with
  | none =>
    let mark (p : Option Pass) : Option Pass := p.map (fun p => { p with full := true })
    (raise 0x0603 2 (u64b lba) (updMem (fun m => { m with req := mark m.req, auto := mark m.auto }) s), x.2)
  | some i =>
    let live := touched s lba
    let d := decodeAt lba [] x
    let bad := live && decide (3 ≤ d.verdict)
    let s := if live then countDecoded lba d s else s
    let s := if live && d.verdict == 4 then uncorrectable lba (ownerOf s lba) 1 s else s
    let data := if live then d.data else List.replicate 512 0
    let s := match spareOf s lba with | some o => setSpare o { spare s o with st := 2 } s | none => s
    let s := setSpare i { st := 1, block := lba, since := dc s } s
    (raise 0x0602 1 (u64b lba ++ u8b i) (bump Ctr.memRemap (dropCand lba s)), putBlock (Config.memBlocks + i) bad 3 lba data x.2)

/-- A block becomes a candidate: reason 1 uncorrectable, 2 corrected again, 3 command. -/
def candidate (lba reason : Nat) (x : SysMem) : SysMem :=
  let s := x.1
  let had := s.mem.cands.any (fun c => c.1 == lba)
  let s := if had then s
    else
      let s := bumpIf (decide (16 ≤ s.mem.cands.length)) Ctr.memRemapCandDrop s
      updMem (fun m => { m with cands := (m.cands ++ [(lba, reason, dc s)]).drop (m.cands.length - 15) }) s
  if reason = 3 ∨ flag s 0x0610 2 then remap lba (s, x.2) else (s, x.2)

/-! ### Reading a block (R375, R379) -/

/-- Poison goes into the tags of all shares, with the data as read. -/
def writePoison (lba : Nat) (d : Decoded) (x : SysMem) : SysMem :=
  let (n, area) := physical x.1 lba
  ({ x.1 with poison := x.1.poison.filter (· != lba) ++ [lba] },
   putShares n (tagWord true area lba) 0 (d.shares.map (fun s => s.map (BitVec.ofNat 8))) x.2)

/-- A client's or the Chisel's read of a block, and its consequences: verdict, data, and the shares corrected. -/
def readBlock (lba source : Nat) (noise : List Disturbance) (x : SysMem) : Decoded × SysMem :=
  if !touched x.1 lba then ({ verdict := 0, shares := List.replicate 18 (List.replicate 32 0) }, x)
  else
    let d := decodeAt lba noise x
    let x := (countDecoded lba d (countReports lba noise (hbmWake x.1)), x.2)
    if d.verdict = 4 then
      let (s, m) := writePoison lba d x
      (d, candidate lba 1 (uncorrectable lba (ownerOf s lba) source s, m))
    else (d, x)

/-! ### The merge buffer (R382, R383) -/

/-- Flush an entry. -/
def flushEntry (e : MergeEntry) (noise : List Disturbance) (x : SysMem) : SysMem :=
  let x := (bump Ctr.memMergeFlush (updMem (fun m => { m with merge := m.merge.filter (fun o => o.lba != e.lba) }) x.1), x.2)
  if e.mask = 2 ^ 64 - 1 then storeBlock e.lba false e.data x
  else if !touched x.1 e.lba then storeBlock e.lba false (overlay e (List.replicate 512 0)) x
  else
    let d := decodeAt e.lba noise x
    let x := (countDecoded e.lba d (countReports e.lba noise x.1), x.2)
    let x := storeBlock e.lba (decide (3 ≤ d.verdict)) (overlay e d.data) x
    if d.verdict = 4 then
      candidate e.lba 1 (uncorrectable e.lba (ownerOf x.1 e.lba) 2 (bump Ctr.memMergePoison x.1), x.2)
    else x

def flushLba (lba : Nat) (noise : List Disturbance) (x : SysMem) : SysMem :=
  match mergeOf x.1 lba with
  | some e => flushEntry e noise x
  | none => x

/-- Flush every entry, oldest first (entry to DORMANT, warm reset). -/
def flushMerge (x : SysMem) : SysMem := x.1.mem.merge.foldl (fun x e => flushEntry e [] x) x

/-- Word `w` of an entry takes 8 bytes of a narrow write. -/
def MergeEntry.put (e : MergeEntry) (w : Nat) (data : List Byte) : MergeEntry :=
  { e with mask := setBit e.mask w true, data := e.data.take (8 * w) ++ padRight 8 data ++ e.data.drop (8 * w + 8) }

/-- Of 256 entries the oldest makes room. -/
def mergeRoom (x : SysMem) : SysMem :=
  match x.1.mem.merge with
  | e :: _ => if 256 ≤ x.1.mem.merge.length then flushEntry e [] (onSys (bump Ctr.memMergeEvict) x) else x
  | [] => x

/-- The words of a narrow write, in an entry. -/
def MergeEntry.puts (e : MergeEntry) (words : List (Fin 64 × List Byte)) : MergeEntry := words.foldl (fun e w => e.put w.1.val w.2) e

/-- A narrow write goes to the entry of its block, which it opens if there is none. -/
def mergeWords (lba : Nat) (words : List (Fin 64 × List Byte)) (x : SysMem) : SysMem :=
  if (mergeOf x.1 lba).isSome then
    onSys (updMem (fun m => { m with merge := m.merge.map (fun e => if e.lba = lba then e.puts words else e) })) x
  else
    let e : MergeEntry := { lba := lba, mask := 0, data := List.replicate 512 0, at_ := x.1.now }
    onSys (updMem (fun m => { m with merge := m.merge ++ [e.puts words] })) (mergeRoom x)

/-- An entry that is full is flushed, and every entry while MERGE_WINDOW is 0. -/
def mergeSettle (lba : Nat) (x : SysMem) : SysMem :=
  match mergeOf x.1 lba with
  | some e => if e.mask = 2 ^ 64 - 1 ∨ obj x.1 0x0620 1 = 0 then flushEntry e [] x else x
  | none => x

/-- A client's write of part of a link block loses it (R279). -/
def spoil (lba : Nat) (s : Sys) : Sys :=
  if ownerOf s lba = 2 then updMem (fun m => { m with spoiled := m.spoiled ++ [lba] }) s else s

/-- NARROW_WRITE: one or more words of one block. -/
def narrowEffect (lba owner : Nat) (words : List (Fin 64 × List Byte)) (x : SysMem) : SysMem :=
  if words.isEmpty then x else onSys (spoil lba) (mergeSettle lba (mergeWords lba words (onSys (claim lba owner) x)))

/-- HBM_BLOCK_WRITE by a client. -/
def blockWriteEffect (lba owner : Nat) (data : List Byte) (x : SysMem) : SysMem :=
  onSys (spoil lba) (storeBlock lba false data (onSys (claim lba owner) x))

/-- MERGE_WINDOW_EXPIRY: MERGE_WINDOW after an entry's first write. -/
def mergeExpiryEffect (lba : Nat) (noise : List Disturbance) (x : SysMem) : SysMem :=
  match mergeOf x.1 lba with
  | some e => if e.at_ * 4 + obj x.1 0x0620 1 * 5 ≤ x.1.now * 4 then flushEntry e noise x else x
  | none => x

/-- HBM_BLOCK_READ by a client. -/
def blockReadEffect (lba owner : Nat) (noise : List Disturbance) (x : SysMem) : SysMem :=
  (readBlock lba 1 noise (onSys (claim lba owner) x)).2

/-- What a client's read returns: the stored block under its merge entry, and whether it is poisoned (R375, R377, R384). -/
def readData (lba : Nat) (noise : List Disturbance) (x : SysMem) : List Byte × Bool :=
  let base := if touched x.1 lba then decodeAt lba noise x else { verdict := 0, shares := List.replicate 18 (List.replicate 32 0) }
  let data := match mergeOf x.1 lba with | some e => overlay e base.data | none => base.data
  (data, decide (3 ≤ base.verdict))

/-! ### The Chisel (R388 to R392) -/

def Pass.end_ (p : Pass) : Nat := p.first + p.count
def passOf (s : Sys) (req : Bool) : Option Pass := if req then s.mem.req else s.mem.auto
def setPass (req : Bool) (p : Option Pass) (s : Sys) : Sys :=
  updMem (fun m => if req then { m with req := p } else { m with auto := p }) s

/-- The next block at or after `pos` in a touched region. -/
def nextTouched (s : Sys) (pos : Nat) : Option Nat :=
  if touched s pos then some pos
  else (s.mem.touched.find? (fun e => decide (pos < 128 * e.1))).map (fun e => 128 * e.1)

/-- CHISEL_PASS_START: every CHISEL_PERIOD from the first ready (R389). -/
def passStartEffect (s : Sys) : Sys :=
  let period := obj s 0x0630 1 * 3600 * Config.ticksPerS
  match s.mem.autoBase with
  | some t =>
    if s.devState = 1 ∧ s.mem.auto.isNone ∧ t + period ≤ s.now then
      let p : Pass := { cmd := 0x81, first := 0, count := Config.memBlocks, start := dc s, pos := 0 }
      updMem (fun m => { m with auto := some p, autoBase := some (t + period), prevCorr := m.curCorr, curCorr := [] }) s
    else s
  | none => s

/-- Whether the Chisel may go on with a pass: a requested pass suspends the automatic one, which stops outside ACTIVE. -/
def mayChisel (s : Sys) (req : Bool) : Bool :=
  if req then decide (traded s < 3) && decide (s.devState = 1 ∨ s.devState = 2) else s.mem.req.isNone && s.devState == 1

/-- The corrections of the last 1,024 blocks among `l`, newest first (R391). -/
def lastBlocks (l : List (Nat × Nat)) : List (Nat × Nat) :=
  let keep := ((l.map (·.1)).eraseDups).take 1024
  l.filter (fun e => keep.contains e.1)

/-- Candidates that have been listed, ever. -/
def candidates (s : Sys) : Nat := s.mem.cands.length + count s Ctr.memRemap + count s Ctr.memRemapCandDrop

/-- One block of a pass. -/
def chiselTurn (req : Bool) (lba : Nat) (p : Pass) (noise : List Disturbance) (x : SysMem) : SysMem :=
  let x := flushLba lba [] x
  let before := candidates x.1
  let die (j : Nat) : Nat := (sharePlace (physical x.1 lba).1 j).1
  let (d, x) := readBlock lba 0 noise x
  let x := if (d.verdict = 1 ∨ d.verdict = 2) ∧ p.cmd ≠ 2 then storeBlock lba false d.data x else x
  let live := d.fixed.filter (fun j => !((SMap.get {} x.1.mem.dies (die j) : Die).failed))
  let again := !req && live.any (fun j => x.1.mem.prevCorr.contains (lba, j))
  let x := if req then x else onSys (updMem (fun m => { m with curCorr := lastBlocks (d.fixed.map (fun j => (lba, j)) ++ m.curCorr) })) x
  let x := if again then candidate lba 2 x else x
  let after := candidates x.1
  let upd (p : Pass) : Pass :=
    { p with pos := lba + 1, read := p.read + 1, untouched := p.untouched + (lba - p.pos),
             corrected := p.corrected + boolNat (d.verdict == 1), corrected2 := p.corrected2 + boolNat (d.verdict == 2),
             uncorr := p.uncorr + boolNat (d.verdict == 4), poisoned := p.poisoned + boolNat (d.verdict == 3),
             cands := p.cands + (after - before) }
  onSys (fun s => setPass req ((passOf s req).map upd) s) x

/-- CHISEL_BLOCK. -/
def chiselBlockEffect (req : Bool) (noise : List Disturbance) (x : SysMem) : SysMem :=
  match passOf x.1 req with
  | none => x
  | some p =>
    if !mayChisel x.1 req then x
    else match nextTouched x.1 p.pos with
      | some lba => if lba < p.end_ then chiselTurn req lba p noise x else x
      | none => x

/-- The flags of Table MEM-5. -/
def Pass.flags (p : Pass) (aborted : Bool) : Nat :=
  boolNat p.dieFailed * 64 + boolNat p.full * 32 + boolNat (decide (0 < p.uncorr)) * 16
    + boolNat (decide (0 < p.corrected + p.corrected2)) * 8 + boolNat (p.cmd == 0x81) * 4 + boolNat aborted * 2 + boolNat (!aborted)

/-- A pass ends with its summary (R392). -/
def endPass (req aborted : Bool) (s : Sys) : Sys :=
  match passOf s req with
  | none => s
  | some p =>
    let p := if aborted then p else { p with untouched := p.untouched + (p.end_ - p.pos) }
    let p := { p with dieFailed := p.dieFailed || s.mem.dieNews }
    let n := s.mem.passSeq + 1
    let b := u32b n ++ u8b p.cmd ++ [0, 0, 0] ++ u32b p.first ++ u32b p.count ++ timeb p.start ++ timeb (dc s) ++ u32b p.read
      ++ u32b p.untouched ++ u32b p.corrected ++ u16b p.corrected2 ++ u16b p.uncorr ++ u16b p.poisoned ++ u16b p.cands
      ++ u32b (p.flags aborted)
    raise 0x0604 0 (u32b n ++ u32b (p.flags aborted))
      (updMem (fun m => { m with passSeq := n, dieNews := false, summaries := (n, b) :: m.summaries.take 7 }) (setPass req none s))

/-- Whether a touched block is left in the range of a pass. -/
def passLeft (s : Sys) (p : Pass) : Bool := match nextTouched s p.pos with | some l => decide (l < p.end_) | none => false

/-- CHISEL_PASS_END. -/
def passEndEffect (req : Bool) (s : Sys) : Sys :=
  match passOf s req with
  | none => s
  | some p => if passLeft s p ∨ !mayChisel s req then s else endPass req false s

/-- CHISEL_CMD: refused with code 6 (R390), and its effect. -/
def chiselRefused (s : Sys) (cmd : Nat) : Bool := if cmd = 3 then s.mem.req.isNone else s.mem.req.isSome
def chiselCmdEffect (cmd : Nat) (s : Sys) : Sys :=
  if chiselRefused s cmd then s
  else if cmd = 3 then endPass true true s
  else
    let first := obj s 0x0630 3
    let n := if obj s 0x0630 4 = 0 then Config.memBlocks - first else min (obj s 0x0630 4) (Config.memBlocks - first)
    setPass true (some { cmd := cmd, first := first, count := n, start := dc s, pos := first }) s

/-- SHADOW_REBUILD_DONE (R381): TABLE_REBUILT, and a check of the configuration while both deciders run. -/
def shadowRebuildEffect (index : Nat) (s : Sys) : Sys :=
  if s.mem.rebuilds = 0 then s
  else
    let runs (d : Decider) : Bool := d.st == .leading || d.st == .following || d.st == .shadow
    raise 0x0505 1 (u16b index)
      (updMem (fun m => { m with rebuilds := m.rebuilds - 1, checkWanted := m.checkWanted || (runs s.decA && runs s.decB) }) s)

/-- The bits of the bitmap word `w` are rebuilt: a bit is set where the first block of its region decodes with 16 good tags or more (R387). -/
def rebuildTouched (w : Nat) (x : SysMem) : SysMem :=
  let good (r : Nat) : Bool :=
    let d := decodeAt (128 * r) [] x
    decide (128 * r < Config.memBlocks) && d.verdict != 4
      && decide (d.tagBad.length + (failedShares x.1 (physical x.1 (128 * r)).1).length ≤ 2)
  (bump Ctr.memRtbRebuild (loop (fun r s => updMem (fun m => { m with touched := SMap.set false m.touched r (good r) }) s) (64 * w) 64 x.1), x.2)

end Sys2Proof.Machine
end

