-- ==== Sys2Proof/Machine/Txn.lean ====
section
/-! DEFINITION. Transactions short of their commit (R44 to R55), the rule-set bank a commit waits for (R178 to R184), and
what becomes of commits and snapshots whose base is stepped or disabled. -/

namespace Sys2Proof.Machine

def session? (s : Sys) (sid : Nat) : Option Session := if sid = 0 then none else s.sessions.find? (fun v => v.sid == sid)
def updSession (sid : Nat) (f : Session → Session) (s : Sys) : Sys :=
  { s with sessions := s.sessions.map (fun v => if v.sid = sid then f v else v) }
def updTxn (sid : Nat) (f : Txn → Txn) (s : Sys) : Sys := updSession sid (fun v => { v with txn := f v.txn }) s
def txnOf (s : Sys) (sid : Nat) : Txn := ((session? s sid).map (·.txn)).getD {}

/-- Objects of a rule-set generation (R178). -/
def ruleObject (ix sub : Nat) : Bool := (ix == 0x3000 && 1 ≤ sub && sub ≤ 4) || (ix == 0x3400 && 1 ≤ sub && sub ≤ 2)
def stagesRules (l : List Staged) : Bool := l.any (fun x => ruleObject x.ix x.sub)

/-- A restore of defaults (R56). It was written in an ARMED transaction when its row says 1. -/
def isRestore (y : Staged) : Bool := y.ix == 0x0200 && y.sub == 0x0F && y.val == .num 2

/-- What a restore returns to its default: writable objects of class P, K and V; RWS objects where `rws` says so. -/
def restorable (rws : Bool) (k : Nat) : Bool :=
  match objAt (keyIx k) (keySub k) with
  | some o => (o.acc == .rw || o.acc == .wo || (o.acc == .rws && rws)) && o.cls != .s
  | none => false

/-- Whether a commit of these fields makes a new rule-set generation: it stages rule objects, or restores the defaults of some that
hold other values (R54, R178). -/
def changesRules (s : Sys) (l : List Staged) : Bool :=
  stagesRules l || (l.any isRestore && s.dict.any (fun e => ruleObject (keyIx e.1) (keySub e.1)))

/-- Whether an object is locked against `sid`, whose own transaction may write it when `inTxn` (R46). -/
def lockedFor (s : Sys) (sid : Nat) (inTxn : Bool) (ix sub : Nat) : Bool :=
  let holds (v : Session) : Bool := v.txn.live && v.txn.staged.any (fun x => x.ix == ix && x.sub == sub)
  s.orphans.any holds || s.sessions.any (fun v => holds v && !(inTxn && v.sid == sid))

/-- TXN_ABORTED with its cause (Table GMP-10). -/
def abortEvent (num cause : Nat) (s : Sys) : Sys := raise 0x0203 1 (u16b num ++ u8b cause) s

def aborted (x : Txn) : Txn := { x with st := .aborted, staged := [], stated := none, by79 := false }

/-- Abort the transaction of a session that is not IDLE, if it is live (Table DIC-6). -/
def abortTxn (sid cause : Nat) (s : Sys) : Sys :=
  let x := txnOf s sid
  if !x.live then s
  else
    let s := if s.rsWait.any (fun w => w.sid == sid && !w.direct) then { s with rsWait := none } else s
    abortEvent x.num cause (updTxn sid aborted s)

/-- The report of a commit that waits on the disabled base `b`: code 8 naming the base's enable object (R53). -/
def disabledNote (sid num b time : Nat) (s : Sys) : Sys :=
  clampField sid num 0x0200 8 0 0 8 (0x0800 + 16 * b, 1) (.num (timeVal time)) (.num 0) s

/-- The commits that wait for their time on base `b`, which is about to be disabled, are aborted, with code 8 naming its enable object
(R53). One whose time has come waits for its bank alone, and commits when that is loaded. -/
def abortOnBase (b : Nat) (s : Sys) : Sys :=
  let on (v : Session) : Bool := v.txn.st == .pending && v.txn.stated.any (fun x => x.1 == b)
  let hit (v : Session) : Bool := on v && !v.txn.late && v.txn.stated.any (fun x => decide (clock s b < x.2))
  let note (v : Session) (s : Sys) : Sys := disabledNote v.sid v.txn.num b (v.txn.stated.getD (0, 0)).2 s
  let came (v : Session) : Session := if on v ∧ !v.txn.late ∧ !hit v then { v with txn := { v.txn with stated := none } } else v
  let reached : Nat := (((holders s).filter (fun v => on v && !hit v)).map (fun v => tickOf s b (v.txn.stated.getD (0, 0)).2)).foldl max 0
  let keep (w : RsWait) : RsWait := if 0 < reached then { w with alone := reached } else w
  let ends (v : Session) (s : Sys) : Sys :=
    { s with orphans := s.orphans.filter (fun w => !(w.sid == v.sid && w.txn.num == v.txn.num)),
             rsWait := if s.rsWait.any (fun w => w.sid == v.sid && !w.direct) then none else s.rsWait }
  let s' := (s.sessions.filter hit).foldl (fun s v => abortTxn v.sid 4 (note v s)) s
  let s' := (s.orphans.filter hit).foldl (fun s v => abortEvent v.txn.num 4 (note v (ends v s))) s'
  { s' with sessions := s'.sessions.map came, orphans := s'.orphans.map came, rsWait := s'.rsWait.map keep }

/-- A step of base `b`: stated times that now lie in the past are late (R52, R53, R58). -/
def stepPending (b : Nat) (s : Sys) : Sys :=
  let mark (v : Session) : Session :=
    if v.txn.st = .pending ∧ v.txn.stated.any (fun x => x.1 == b && decide (x.2 < clock s b)) then { v with txn := { v.txn with late := true } }
    else v
  let snap (v : Snap) : Snap := if v.st = 1 ∧ v.stated ∧ v.base = b ∧ v.time < clock s b then { v with late := true } else v
  { s with sessions := s.sessions.map mark, orphans := s.orphans.map mark, snaps := s.snaps.map (fun e => (e.1, snap e.2)) }

/-! ### Rule-set generations -/

/-- Frames that keep generation `g` live (R180). -/
def pinnedFrames (s : Sys) (g : Nat) : Nat :=
  let queued (id : Nat) : Bool := (allCopies s).any (fun c => c.2.frame == id && c.2.port == 75)
  ((allFrames s).filter (fun f => f.2.rsGen == g && (f.2.stage == .numbered || f.2.stage == .parsed || queued f.1))).length

/-- The load of a bank: 6.5536 µs (R181). -/
def bankTicks : Nat := 8192

/-- A rule-set commit is accepted (R181, R182). -/
def rsAccept (sid : Nat) (direct : Bool) (s : Sys) : Sys :=
  { s with rsWait := some { sid := sid, direct := direct, accepted := s.now,
                            loadEnd := if s.rsBank.isEmpty then some (s.now + bankTicks) else none } }

/-- A pending commit that has come to change rules since it was accepted asks for its bank once none else does (R184). -/
def rsAsk (s : Sys) : Sys :=
  if s.rsWait.isSome then s
  else match (holders s).find? (fun v => v.txn.st == .pending && changesRules s v.txn.staged) with
    | some v => rsAccept v.sid (v.txn.num == 0) s
    | none => s

/-- Retire generations that no frame keeps live; a commit that waited for a bank then loads (R180, R182). -/
def rsWatch (s : Sys) : Sys :=
  let s := { s with rsBank := s.rsBank.filter (fun e => decide (0 < pinnedFrames s e.1)),
                    rsRetired := s.rsRetired.filter (fun g => (allFrames s).any (fun f => f.2.rsGen == g)) }
  let s := rsAsk s
  match s.rsWait with
  | some w =>
    if w.loadEnd.isNone ∧ s.rsBank.isEmpty then
      { s with rsWait := some { w with loadEnd := some (s.now + bankTicks), delay := s.now - w.accepted } }
    else s
  | none => s

/-- The delay of a commit that changed rules, in ticks: its commit point less the one that the load alone would have given, which is not
before its stated time (R182). -/
def rsDelayOf (s : Sys) (x : Txn) : Nat :=
  match s.rsWait with
  | none => 0
  | some w =>
    let stated := match x.stated with | some (b, u) => if x.late then 0 else tickOf s b u | none => 0
    w.delay - (max stated w.alone - (w.accepted + bankTicks))

/-- RULESET_FORCED_RETIRE: 1 ms after the waiting commit was accepted (R183). -/
def forcedRetireEffect (s : Sys) : Sys :=
  match s.rsWait with
  | some w =>
    if w.loadEnd.isNone ∧ w.accepted + Config.ticksPerMs ≤ s.now then
      { s with rsRetired := s.rsRetired ++ s.rsBank.map (·.1), rsBank := [],
               rsWait := some { w with loadEnd := some (s.now + bankTicks), forced := true, delay := Config.ticksPerMs } }
    else s
  | none => s

/-- A new generation takes over from the one in force, which stays live while frames keep it so (R178, R179). -/
def newGeneration (s : Sys) : Sys :=
  let old := s.rsGen
  let s := { s with rsBank := s.rsBank ++ [(old, s.dict)], rsGen := (old + 1) % 2 ^ 32 }
  rsWatch s

/-! ### The states of a transaction before its commit -/

/-- TXN_OPEN: a code (R44, R45). -/
def txnOpen (sid : Nat) (s : Sys) : Nat × Sys :=
  if (txnOf s sid).st ≠ .idle ∨ ((holders s).filter (fun v => v.txn.live && v.txn.num != 0)).length ≥ 8 then (6, s)
  else
    let (x, s) := free s
    (0, updTxn sid (fun _ => { st := .open_, num := x % 65535 + 1, last := s.now }) s)

/-- The arming of a transaction with value `crc`, the safety CRC being `now_` (R47); `allowed` by the role (R76, R79). -/
def txnArm (sid crc now_ : Nat) (allowed by79 : Bool) (s : Sys) : Nat × Sys :=
  if (txnOf s sid).st ≠ .open_ ∨ !allowed then (6, s)
  else if crc = now_ then (0, updTxn sid (fun x => { x with st := .armed, last := s.now, by79 := by79 }) s)
  else (6, abortTxn sid 3 s)

/-- An abort written (Table DIC-6); where there is nothing to abort it has code 6 (log entry 82). -/
def txnAbort (sid : Nat) (s : Sys) : Nat × Sys := if (txnOf s sid).live then (0, abortTxn sid 1 s) else (6, s)

/-- A stated time as accepted: no more than 86,400 s after the base's time, with code 2 (R51). -/
def statedTime (s : Sys) (b time : Nat) : Nat × Bool :=
  let lim := clock s b + 86400 * secUnits
  if time > lim then (lim, true) else (time, false)

/-- A commit is accepted: the transaction is PENDING, for the next commit point or for a stated time, and one with rule objects
waits for its bank (R49, R51, R54). -/
def acceptCommit (sid : Nat) (stated : Option (Nat × Nat)) (late : Bool) (s : Sys) : Sys :=
  let z := updTxn sid (fun y => { y with st := .pending, acceptedAt := s.now, stated := stated, late := late }) s
  if changesRules s (txnOf s sid).staged then rsAccept sid false z else z

/-- Whether a commit accepted now with stated time `u` on base `b` is late: the time has passed, or leaves less than the load of a bank
to one that changes rules (R52, R181). -/
def acceptedLate (s : Sys) (l : List Staged) (b u : Nat) : Bool :=
  decide (u < clock s b) || (changesRules s l && decide (u < clockAt s b (s.now + bankTicks)))

/-- TXN_COMMIT with mode 1 or 2: a code (R44, R49, R51, R53, R184). A rule-set commit asks for its bank at once; a commit stated on
a base that is disabled is aborted at once. A state that Table DIC-6 does not list for a commit has code 6 (log entry 82). -/
def txnCommit (sid mode b time : Nat) (s : Sys) : Nat × Sys :=
  let x := txnOf s sid
  let stated := ((holders s).filter (fun v => v.txn.st == .pending && v.txn.stated.isSome)).length
  if !(x.st == .open_ || x.st == .armed) ∨ (changesRules s x.staged ∧ s.rsWait.isSome) ∨ (mode = 2 ∧ 8 ≤ stated) then (6, s)
  else if mode = 2 ∧ b ≠ 4 ∧ (base s b).st = 0 then (8, abortTxn sid 4 (disabledNote sid x.num b time s))
  else if mode = 2 then
    let (u, over_) := statedTime s b time
    let s := if over_ then clampField sid x.num 0x0200 8 0 0 2 (0, 0) (.num (timeVal time)) (.num (timeVal u)) s else s
    (if over_ then 2 else 0, acceptCommit sid (some (b, u)) (acceptedLate s x.staged b u) s)
  else (0, acceptCommit sid none false s)

/-- TXN_TIMEOUT_EXPIRY (R48). -/
def txnTimeoutEffect (sid : Nat) (s : Sys) : Sys :=
  let x := txnOf s sid
  if (x.st = .open_ ∨ x.st = .armed) ∧ x.last + obj s 0x0200 0x0D * Config.ticksPerS ≤ s.now then
    abortTxn sid 2 (bump Ctr.dicTxnTimeout s)
  else s

end Sys2Proof.Machine
end

