-- ==== Sys2Proof/Machine/Plinth.lean ====
section
/-! DEFINITION. The Plinth: generations and claim points, deposition, fault causes, silence and the FAULT pins (R227 to R232,
R250, R421 to R430). -/

namespace Sys2Proof.Machine

/-! ### Generations -/

/-- The generation advances at a commit point; commit points of one XBAR cycle are one (R49, R228, R254). Heads that are not
yet decided keep the dictionary in force when they were numbered. -/
def nextGen (s : Sys) : Sys :=
  if s.genTick = some s.now then s
  else
    let used (g : Nat) : Bool := (allFrames s ++ s.decA.behind ++ s.decB.behind).any (fun f => f.2.gen == g)
    let olds := ((s.gen, s.dict) :: s.olds).filter (fun e => used e.1)
    { s with gen := (s.gen + 1) % 2 ^ 32, olds := olds, genTick := some s.now }

/-! ### Causes (R421, R422, R429) -/

/-- Bytes of a copy on the wire so far. -/
def sentSoFar (s : Sys) (p : Nat) (c : Copy) : Nat := c.sent + fragmentSent s p c

/-- A copy in transmission ends with the stomp pattern after the bytes already sent. -/
def stompSilent (id n : Nat) (s : Sys) : Sys := tapFail id (updCopy id (fun c => { c with stomped := true, cutAt := some n }) s)

/-- Silence takes hold on a port: what may not be sent any more ends (R421). -/
def silencePort (p : Nat) (s : Sys) : Sys :=
  let hit (id : Nat) : Bool :=
    let c := copy s id
    let gramus := match c.kind with | .steward g => g | _ => false
    silenced s p c.prot gramus && !c.stomped
  let q := port s p
  let s := match q.tx with
    | some id => if hit id then stompSilent id (sentSoFar s p (copy s id)) s else s
    | none => s
  match q.suspended with
  | some id => if hit id then stompSilent id (copy s id).sent s else s
  | none => s

def silenceAll (s : Sys) : Sys := loop silencePort 0 73 s

/-- The reaction of a cause (Table SAF-2): 0 none, 1 pin B, 2 protected silence, 3 full silence, 4 Plinth. -/
def causeReaction (n : Nat) : Nat :=
  match n with | 0 => 4 | 1 => 3 | 2 => 2 | 3 => 3 | 4 => 3 | 5 => 3 | 6 => 0 | 16 => 0 | _ => 1

/-- Set a cause: its bit, its reaction on `ports`, a row of the log, the recorder's trigger, FAIL_SILENT. -/
def setCause (n detail ports : Nat) (s : Sys) : Sys :=
  let fresh := !bit s.faults n
  let r := causeReaction n
  let row := if s.safLog.isEmpty then 0 else (s.safRow + 1) % 32
  let s := { s with safRow := row, safLog := (dc s, n, detail, r, ports) :: s.safLog.take 31 }
  let s := { s with faults := setBit s.faults n true,
                    triggers := if fresh ∧ bit (obj s 0x7810 0x0C) n then s.triggers ++ [(3, s.now)] else s.triggers }
  let s := if r = 3 ∨ r = 4 then { s with causeFull := SMap.upd 0 s.causeFull n (· ||| ports) }
    else if r = 2 then { s with causeProt := SMap.upd 0 s.causeProt n (· ||| ports) } else s
  if ports = 0 then s else raise 0x030D 3 (toBE 10 ports) (silenceAll s)

/-- A lane port that leaves electrical idle restarts link bring-up (R430, R99); `before` are those that were. -/
def unsilence (before : Nat) (s : Sys) : Sys :=
  let after := darkPorts s
  loop (fun p s => if bit before p ∧ !bit after p then
    let s := linkDownEffect p s
    if p ≤ 63 then bringUp p s else s else s) 0 73 s

/-- Clear a cause and lift its silence. -/
def clearCause (n : Nat) (s : Sys) : Sys :=
  let before := darkPorts s
  unsilence before { s with faults := setBit s.faults n false, causeFull := SMap.set 0 s.causeFull n 0, causeProt := SMap.set 0 s.causeProt n 0 }

/-- A held cause follows its condition. -/
def holdCause (n detail : Nat) (on : Bool) (s : Sys) : Sys :=
  if on ∧ !bit s.faults n then setCause n detail 0 s
  else if !on ∧ bit s.faults n then clearCause n s
  else s

/-- The ports of the tiles and of the whole device. -/
def octetPorts (k : Nat) : Nat := portRange (8 * k) (8 * k + 7)

/-- Cause 0: the Plinth's keep signals stop (R432). -/
def plinthFault (s : Sys) : Sys := if bit s.faults 0 then s else { setCause 0 0 allPorts s with keepLost := 1023 }

/-! ### The FAULT pins (R425 to R427) -/

/-- Causes with pin A, and with pin B. -/
def pinACauses : Nat := 0x7F
def pinBCauses : Nat := 0x7F41

/-- Whether FAULT_A_N and FAULT_B_N are driven low. -/
def pinADriven (s : Sys) : Bool :=
  (s.faults &&& pinACauses) != 0 || !s.plinth.tested || s.bootSilent || bit s.keepLost 9 || s.plinth.pinTest.any (·.1)
def pinBDriven (s : Sys) : Bool :=
  (s.faults &&& pinBCauses) != 0 || !s.plinth.tested || bit s.keepLost 9 || s.plinth.pinTest.any (fun x => !x.1)

/-! ### Claims (R227 to R232) -/

def committing (v : Decider) : Bool := v.st == .leading || v.st == .following

/-- DEC_COMMITTER: 0 A, 1 B, 2 none. -/
def committer (s : Sys) : Nat := if s.decA.st = .leading then 0 else if s.decB.st = .leading then 1 else 2

/-- DEC_MODE. -/
def decMode (s : Sys) : Nat :=
  if s.latch then 4 else if s.unresolved.isSome then 3
  else match committing s.decA, committing s.decB with
    | true, true => 0
    | false, false => 2
    | _, _ => 1

def cfgClaim (s : Sys) (d : DecId) : Nat := obj s 0x0500 (1 + dnat d)

/-- Give a decider a state, noting since when. -/
def enterState (d : DecId) (st : DecState) (s : Sys) : Sys :=
  let v := decider s d
  if v.st = st then s else setDecider d { v with st := st, since := dc s } s

def claimsEqual (s : Sys) : Bool := committing s.decA && committing s.decB && s.decA.claim == s.decB.claim

/-- Deciders with a claim lead or follow (Table DEC-4, R230). -/
def elect (s : Sys) : Sys :=
  match committing s.decA, committing s.decB with
  | true, true =>
    let aLeads := decide (s.decB.claim < s.decA.claim) || (s.decA.claim == s.decB.claim && obj s 0x0500 3 == 0)
    enterState .b (if aLeads then .following else .leading) (enterState .a (if aLeads then .leading else .following) s)
  | true, false => enterState .a .leading s
  | false, true => enterState .b .leading s
  | false, false => s

/-- A snapshot that flipped in this cycle waits for the next commit point: the claim point comes first (R256). -/
def unflip (s : Sys) : Sys :=
  loop (fun i s =>
    let v := SMap.get {} s.snaps i
    if v.st = 2 ∧ v.flipTick = some s.now then
      let unnamed (c : Cast) : Cast := if c.snap = i ∧ c.snapGen = v.gen then { c with snapGen := 0 } else c
      let s := { s with snaps := SMap.set {} s.snaps i { v with st := 1, flipTick := none },
                        recd := { s.recd with casts := s.recd.casts.map (fun e => (e.1, unnamed e.2)) } }
      if v.late then { s with ctr := SMap.upd 0 s.ctr Ctr.snapLate (· - 1) } else s
    else s) 0 4 s

/-- The decider's part of a deposition (R250) is in its state; its event, its count and its cause follow. -/
def deposition (old : Sys) (s : Sys) (d : DecId) : Sys :=
  let v := decider s d
  if (decider old d).st ≠ .deposed ∧ v.st = .deposed then
    setCause 8 (dnat d) 0 (raise 0x0303 3 (u8b (dnat d) ++ u8b v.cause) (bump (Ctr.decDeposed (dnat d)) s))
  else s

/-- A decider that leaves SHADOW for a claim of its own is announced (R253). -/
def readmitted (old : Sys) (s : Sys) (d : DecId) : Sys :=
  if (decider old d).st = .shadow ∧ committing (decider s d) then raise 0x0304 1 (u8b (dnat d) ++ u8b (decider s d).claim) s else s

/-- Whether claims, states and DEC_PREFER are as they were. -/
def sameClaims (old s : Sys) : Bool :=
  old.decA.claim == s.decA.claim && old.decB.claim == s.decB.claim && old.decA.st == s.decA.st && old.decB.st == s.decB.st
    && obj old 0x0500 3 == obj s 0x0500 3

/-- What follows a change of claims and states since `old` at one claim point: leadership, the generation, events, causes, and the pairs
that need not wait any more (R228 to R232, R250). -/
def settleClaims (old : Sys) (s : Sys) : Sys :=
  if sameClaims old s then s
  else
    let moved := decide ((old.decA.claim, old.decB.claim) ≠ (s.decA.claim, s.decB.claim))
    let s := elect s
    if !moved ∧ (old.decA.st, old.decB.st) = (s.decA.st, s.decB.st) then s else
    let s := unflip { nextGen s with claimTick := some s.now }
    let s := if moved then raise 0x0302 1 (u8b s.decA.claim ++ u8b s.decB.claim) s else s
    let s := if claimsEqual s ∧ !claimsEqual old then raise 0x0306 3 (u8b s.decA.claim) (bump Ctr.decClaimsEqual s) else s
    let s := holdCause 9 0 (claimsEqual s) s
    let s := if committer s = 2 ∧ committer old ≠ 2 then setCause 1 0 allPorts s else s
    settleOrphans ([DecId.a, DecId.b].foldl (readmitted old) ([DecId.a, DecId.b].foldl (deposition old) s))

/-- A claim point: `f` changes claims and states. -/
def claimPoint (f : Sys → Sys) (s : Sys) : Sys := settleClaims s (f s)

/-- A decider whose clock stops: nothing is under way in it any more. -/
def Decider.halt (v : Decider) : Decider :=
  { v with started := false, lane0 := [], lane1 := [], learn := [], waking := none, behind := [], vecs := [], passed := [], inRun := false, wire := none,
           gap0 := false, gap1 := false }

/-- A decider that starts at tick `t`. -/
def Decider.begin (v : Decider) (t : Nat) : Decider :=
  { v with started := true, hbIn := t, hbArm := t, clean := t, alive0 := t, alive1 := t, learnAt := t }

/-- A decider is deposed for `cause`. -/
def toDeposed (d : DecId) (cause : Nat) (s : Sys) : Sys :=
  setDecider d { (decider s d).halt with st := .deposed, since := dc s, cause := cause, claim := 0, eligible := false } s

/-- Deposition (R250). -/
def depose (d : DecId) (cause : Nat) (s : Sys) : Sys := if (decider s d).st = .deposed then s else claimPoint (toDeposed d cause) s

/-- A configured claim at its commit point (R229). -/
def takeClaim (d : DecId) (s : Sys) : Sys :=
  if !committing (decider s d) then s
  else if cfgClaim s d = 0 then toDeposed d 4 s
  else setDecider d { decider s d with claim := cfgClaim s d } s

end Sys2Proof.Machine
end

