-- ==== Sys2Proof/Machine/Heartbeat.lean ====
section
/-! DEFINITION. Heartbeats, golden-vector runs, the unresolved state, shadow and re-admission (R241 to R253). -/

namespace Sys2Proof.Machine

/-! ### Heartbeats -/

/-- The Armature word that a decider sends (Table DEC-7); no depth of its output FIFO is given, so that it never overflows (log entry 86). -/
def armatureWord (s : Sys) (v : Decider) : Nat :=
  let alive (t : Nat) : Nat := boolNat (decide (s.now ≤ t + 1280))
  let w := (v.armSent + 1) % 16 * 4096 + alive v.alive0 * 2048 + alive v.alive1 * 1024 + boolNat (v.learn.isEmpty || decide (s.now ≤ v.learnAt + 1280)) * 512 + 256
  w + boolNat (oddParity 16 w)

/-- NULL_RECORD_EMIT (R241, R242): the null record leaves on the lane whose turn it is, and the Armature word on the wire. -/
def nullEmitEffect (d : DecId) (s : Sys) : Sys :=
  let v := decider s d
  if !v.running ∨ !v.started then s
  else
    let lane := v.nullLane
    let r : Rec := { seq := v.doneOn lane, gen := s.gen, rsGen := s.rsGen, typ := 1, dec := dnat d, lane := lane, info := (v.nullCount + 1) % 2 ^ 32 }
    let v := { v with nullCount := (v.nullCount + 1) % 2 ^ 32, nullLane := 1 - lane }
    let v := (v.send lane { head := none, bytes := r.encode }).setDone lane (v.doneOn lane) s.now
    markSlot d lane (bump (Ctr.slotService (dnat d) lane)
      (setDecider d { v with wire := some (armatureWord s v), armSent := (v.armSent + 1) % 16 } s))

/-- A word that the Plinth receives (R242, R243). -/
def armatureCheck (d : DecId) (w : Nat) (s : Sys) : Sys :=
  let v := decider s d
  if oddParity 16 w = false ∧ bit w 11 ∧ bit w 10 ∧ bit w 8 ∧ bits w 15 12 = (v.lastArm + 1) % 16 then
    bumpBy (Ctr.decHbMissArmature (dnat d)) (missedPeriods s v.hbArm) (setDecider d { v with lastArm := bits w 15 12, hbArm := s.now } s)
  else bump (Ctr.decHbBad (dnat d)) s

/-- ARMATURE_WORD (R242): the word on the wire, or what it shows in its place. -/
def armatureEffect (d : DecId) (altered : Option Nat) (s : Sys) : Sys :=
  let v := decider s d
  if !v.running ∨ !v.started then s
  else
    match altered.or v.wire with
    | none => s
    | some w => armatureCheck d w (setDecider d { v with wire := none } s)

/-- The limit of a heartbeat timer: 4.496 µs (R243). -/
def heartbeatTicks : Nat := 5620

/-- HEARTBEAT_TIMEOUT (R243). -/
def heartbeatTimeoutEffect (d : DecId) (path : HbPath) (s : Sys) : Sys :=
  let v := decider s d
  let (at_, ctr, cause) := match path with
    | .inBand => (v.hbIn, Ctr.decHbMissInband (dnat d), 1)
    | .armature => (v.hbArm, Ctr.decHbMissArmature (dnat d), 2)
  if !v.running ∨ !v.started ∨ s.now < at_ + heartbeatTicks then s
  else depose d cause (bumpBy ctr (missedPeriods s at_) s)

/-! ### Golden vectors (R245 to R248) -/

def runningDecs (s : Sys) : List DecId := [DecId.a, DecId.b].filter (fun d => (decider s d).running && (decider s d).started)

/-- Runs that started within the last 1 ms; no lane may run a third (R247). -/
def recentRuns (s : Sys) : List Nat := s.runAt.filter (fun t => decide (s.now < t + Config.ticksPerMs))

/-- The vectors of a run that takes the numbers from `n` on, in their order: even numbers go to lane 0 with vectors 0 to 47, odd ones to
lane 1 with 48 to 95 (R14, R245). -/
def runVectors (n : Nat) : List (Nat × Nat) :=
  (List.range 96).map (fun i => (n + i, (n + i) % 2 * 48 + i / 2))

/-- A run starts: it takes 96 numbers of the head sequence, and each running decider receives its vectors. -/
def startRun (triggered : Bool) (s : Sys) : Sys :=
  let enter (s : Sys) (d : DecId) : Sys :=
    let v := decider s d
    setDecider d { v with vecs := runVectors s.headSeq, passed := [], inRun := true } s
  let s := (runningDecs s).foldl enter s
  { s with golden := some (s.now, triggered), runAt := s.now :: recentRuns s, headSeq := s.headSeq + 96,
           runWanted := if triggered then false else s.runWanted }

/-- GOLDEN_RUN: the regular run, 1 ms after the last one at the earliest; a triggered run takes its place (R245, R247). -/
def goldenRunEffect (s : Sys) : Sys :=
  if s.golden.isSome ∨ s.runWanted ∨ (runningDecs s).isEmpty ∨ !(recentRuns s).isEmpty then s else startRun false s

/-- TRIGGERED_GOLDEN_RUN: at once, or when the limit of two runs in 1 ms allows it; a trigger during a run merges into it. -/
def triggeredRunEffect (s : Sys) : Sys :=
  if !s.runWanted ∨ s.golden.isSome ∨ (runningDecs s).isEmpty ∨ 2 ≤ (recentRuns s).length then s else startRun true s

/-- What a run says of one lane: DEC_GOLDEN_STATUS (R246). -/
def laneRun (d : DecId) (lane : Nat) (fail : Option Nat) (s : Sys) : Sys :=
  let v := decider s d
  let k := boolNat fail.isSome
  let first := fail.getD 0xFFFF
  setDecider d (if lane = 0 then { v with runs0 := v.runs0 + 1, fails0 := v.fails0 + k, firstFail0 := first, lastRun := dc s }
    else { v with runs1 := v.runs1 + 1, fails1 := v.fails1 + k, firstFail1 := first, lastRun := dc s }) s

/-- The verdict on one decider: whether it passed. -/
def judge (d : DecId) (f0 f1 : Option Nat) (s : Sys) : Sys × Bool :=
  let s := bump (Ctr.decGoldenRun (dnat d)) (laneRun d 1 f1 (laneRun d 0 f0 s))
  match f0, f1 with
  | none, none => (s, true)
  | f0, f1 =>
    let (lane, v) := match f0 with | some v => (0, v) | none => (1, f1.getD 0)
    (bump (Ctr.decGoldenFail (dnat d)) (raise 0x0305 3 (u8b (dnat d) ++ u8b lane ++ u16b v) s), false)

/-- The run that a decider makes as it starts: of a failing one the manual does not say which vector fails (log entry 34). -/
def loadRun (d : DecId) (failed : Bool) (s : Sys) : Sys × Bool :=
  if !failed then judge d none none s
  else
    let (v, s) := free s
    if v % 96 < 48 then judge d (some (v % 96)) none s else judge d none (some (v % 96)) s

/-- The first vector of a lane that did not pass. -/
def laneFail (v : Decider) (lane : Nat) : Option Nat := findFrom (fun k => !v.passed.contains k) (48 * lane) 48

/-- Whether vectors of the run are still to be decided or on their way. -/
def Decider.vectorsOut (v : Decider) : Bool := v.inRun && (!v.vecs.isEmpty || (v.lane0 ++ v.lane1).any (·.vec.isSome))

/-- The Plinth judges one decider that took part in the run. -/
def judgeRun (d : DecId) (s : Sys) : Sys × Bool :=
  let v := decider s d
  if v.running && v.inRun then judge d (laneFail v 0) (laneFail v 1) (setDecider d { v with inRun := false, passed := [] } s) else (s, true)

/-- GOLDEN_VERDICT, once all records of the run have come or are lost: failing deciders are deposed; a triggered run that both pass opens
the unresolved state (R248). -/
def goldenVerdictEffect (s : Sys) : Sys :=
  match s.golden with
  | none => s
  | some (_, triggered) =>
    if s.decA.vectorsOut ∨ s.decB.vectorsOut then s
    else
      let both := s.decA.running && s.decA.inRun && s.decB.running && s.decB.inRun
      let (s, okA) := judgeRun .a s
      let (s, okB) := judgeRun .b s
      let s := { s with golden := none }
      let s := if okA then s else depose .a 3 s
      let s := if okB then s else depose .b 3 s
      if triggered ∧ both ∧ okA ∧ okB ∧ s.unresolved.isNone then
        bump Ctr.decUnresolved { updMem (fun m => { m with checkWanted := true }) s with unresolved := some s.now }
      else s

/-- Plinth actions that are due at a commit point come before the manager's (R254): timers that have reached their limit, whose claim point
may fall here (R243), and the verdict on a run that is complete. -/
def plinthFirst (s : Sys) : Sys :=
  let s := [DecId.a, DecId.b].foldl (fun s d => heartbeatTimeoutEffect d .armature (heartbeatTimeoutEffect d .inBand s)) s
  goldenVerdictEffect s

/-- UNRESOLVED_END: 1 s without a decision fault (R248). -/
def unresolvedEndEffect (s : Sys) : Sys :=
  if s.unresolved.isSome ∧ s.lastFault + Config.ticksPerS ≤ s.now then { s with unresolved := none } else s

/-- UNRESOLVED_LATCH: DEC_UNRESOLVED_LIMIT after the state began or the latch was last cleared (R249). -/
def unresolvedLatchEffect (s : Sys) : Sys :=
  match s.unresolved with
  | some t => if !s.latch ∧ t + obj s 0x0500 6 * Config.ticksPerMs ≤ s.now then setCause 2 0 allPorts { s with latch := true } else s
  | none => s

/-- DEC_UNRESOLVED_CLEAR at its commit point. -/
def unresolvedClear (s : Sys) : Sys :=
  if s.latch then clearCause 2 { s with latch := false, unresolved := s.unresolved.map (fun _ => s.now) } else s

/-! ### Shadow and re-admission (R251 to R253) -/

/-- DEC_READMIT: the decider enters LOADING with an empty EMM. -/
def readmit (d : DecId) (s : Sys) : Sys :=
  let v := decider s d
  setDecider d { v.halt with st := .loading, since := dc s, emm := [], pend := [], full := false, gated := 0, eligible := false, loadedAt := s.now } s

/-- The vectors of a run that the decider alone makes, and whose records `shown` differ from its own: the first of a lane that fails. -/
def shownFail (shown : List (Nat × List Byte)) (lane : Nat) : Option Nat :=
  findFrom (fun k => shown.any (fun e => e.1 == k && slice (patch e.2 16 (u8b (byteAt e.2 16 &&& 0xDF))) 16 28 != vectorBody .a k)) (48 * lane) 48

/-- READMIT_LOAD_DONE (Table DEC-8): the tables are copied and the load's run decides. -/
def readmitDoneEffect (d : DecId) (shown : List (Nat × List Byte)) (s : Sys) : Sys :=
  if (decider s d).st ≠ .loading then s
  else
    let (s, ok) := judge d (shownFail shown 0) (shownFail shown 1) (syncStatic d s)
    if !ok then depose d 3 s
    else claimPoint (fun s => setDecider d { (decider s d).begin s.now with
                                             st := .shadow, since := dc s, eligible := false, lastNull := 0, nullCount := 0, lastArm := 0, armSent := 0,
                                             done0 := 0, done1 := 0, got0 := 0, got1 := 0 } s) s

/-- SHADOW_CLEAN_EXPIRY (R252). -/
def shadowCleanEffect (d : DecId) (s : Sys) : Sys :=
  let v := decider s d
  if v.st = .shadow ∧ v.clean + obj s 0x0500 7 * Config.ticksPerS ≤ s.now then setDecider d { v with eligible := true } s else s

/-- DEC_RAISE: false where the decider is not eligible (R253). -/
def raiseDecider (d : DecId) (s : Sys) : Sys × Bool :=
  let v := decider s d
  if v.st ≠ .shadow ∨ !v.eligible then (s, false)
  else if cfgClaim s d = 0 then (s, true)
  else (setDecider d { v with claim := cfgClaim s d, st := .following, since := dc s, eligible := false } s, true)

end Sys2Proof.Machine
end

