-- ==== Sys2Proof/Machine/Time.lean ====
section
/-! DEFINITION. Time bases, the transmit time-stamp queues, TIME_IO and scheduled actions (chapter 10). -/

namespace Sys2Proof.Machine

def tbIx (b : Nat) : Nat := 0x0800 + 16 * b

/-- TB_SOURCE_ACTIVE: 0 manual, 1 PTP, 2 PPS, 3 the Knaing peer (R299). -/
def activeSource (s : Sys) (b : Nat) : Nat := if flag s 0x2800 1 && bit (obj s 0x2800 0x0C) b then 3 else obj s (tbIx b) 2

/-- The PPS pin of a base: the lowest-numbered pin in mode 4 whose row names it (R314). -/
def ppsPin (s : Sys) (b : Nat) : Option Nat := findBelow 4 (fun n => cell s 0x0841 1 n 0 == 4 && cell s 0x0841 1 n 1 == b)

def ptpPort (s : Sys) (b p : Nat) : PtpPort := SMap.get {} s.ptpPorts (73 * b + p)
def updPtpPort (b p : Nat) (f : PtpPort → PtpPort) (s : Sys) : Sys := { s with ptpPorts := SMap.upd {} s.ptpPorts (73 * b + p) f }
def ptpInst (s : Sys) (b : Nat) : PtpInst := SMap.get {} s.ptp b
def updPtpInst (b : Nat) (f : PtpInst → PtpInst) (s : Sys) : Sys := { s with ptp := SMap.upd {} s.ptp b f }

/-- Whether the input of a base is present, its timeout apart (R296). -/
def inputPresent (s : Sys) (b : Nat) : Bool :=
  match activeSource s b with
  | 0 => true
  | 1 => cell s 0x0900 1 b 0 != 0 && (List.range 73).any (fun p => 8 ≤ (ptpPort s b p).state)
  | 2 => (ppsPin s b).isSome
  | _ => s.kng.st == 2

/-! ### The value and the rate of a base -/

/-- What a base counted before now, for stamps of earlier ticks (R291): a disabled base stands at 0. -/
def Base.mapping (v : Base) : Nat × Nat × Int := if v.st = 0 then (v.at_, 0, -(2 ^ 40)) else (v.at_, v.val, v.rate)

/-- Give a base a state, a value in its own units and a rate, from now on. -/
def rebase (b st value : Nat) (rate : Int) (s : Sys) : Sys :=
  let v := base s b
  setBase b { v with st := st, at_ := s.now, val := value, rate := rate, past := v.mapping :: v.past.take 63 } s

def setRate (b : Nat) (rate : Int) (s : Sys) : Sys := rebase b (base s b).st ((base s b).valAt s.now) rate s
def setTbState (b st : Nat) (s : Sys) : Sys := setBase b { base s b with st := st } s

/-- A fraction in units of 2^-40, rounded (R294). -/
def rateUnits (x : Rat) : Int := (x * (2 ^ 40 : Nat) + 1 / 2).floor
def ratClamp (lim x : Rat) : Rat := max (-lim) (min x lim)
def rateLimit (s : Sys) (b : Nat) : Rat := (obj s (tbIx b) 0x0A : Rat) / 1000000

/-- HOLDOVER: the rate freezes at the frequency term (R296). -/
def enterHoldover (b : Nat) (s : Sys) : Sys :=
  let r := rateUnits (base s b).freq
  let s := setTbState b 4 (setRate b r s)
  raise 0x0702 2 (u8b b ++ toBEInt 8 r) (bump (Ctr.tbHoldoverEntry b) s)

/-- A base whose input is gone enters HOLDOVER (R296). -/
def inputWatch (b : Nat) (s : Sys) : Sys :=
  let st := (base s b).st
  if (st = 2 ∨ st = 3) ∧ !inputPresent s b then enterHoldover b s else s

/-- All bases: their inputs count as lost while the stewards do not run (R290, R300). -/
def basesWatch (s : Sys) : Sys := loop inputWatch 0 4 s
def basesHoldover (s : Sys) : Sys := loop (fun b s => if (base s b).st = 2 ∨ (base s b).st = 3 then enterHoldover b s else s) 0 4 s

/-- TB_INPUT_LOSS (R296). -/
def inputLossEffect (b : Nat) (s : Sys) : Sys :=
  let v := base s b
  if v.st ≠ 2 ∧ v.st ≠ 3 then s
  else if v.lastMeas + obj s (tbIx b) 0x0C * Config.ticksPerMs ≤ s.now ∨ !inputPresent s b then enterHoldover b s
  else s

/-! ### Scheduled actions (R315 to R319) -/

def action (s : Sys) (r : Nat) : Action := SMap.get {} s.actions r
def setAction (r : Nat) (v : Action) (s : Sys) : Sys := { s with actions := SMap.set {} s.actions r v }
def pin (s : Sys) (n : Nat) : Pin := SMap.get {} s.pins n
def updPin (n : Nat) (f : Pin → Pin) (s : Sys) : Sys := { s with pins := SMap.upd {} s.pins n f }

/-- The next occurrence `time + k * period` later than `u`, and how many occurrences after `due` it passes over. -/
def nextDue (due period u : Nat) : Nat × Nat :=
  let k := if u < due then 1 else (u - due) / period + 1
  (due + k * period, k - 1)

/-- A row arms at the commit point (R315): `time` and `period` as stored. -/
def armAction (r : Nat) (s : Sys) : Sys :=
  let c := cell s 0x0842 1 r
  let b := c 1
  let due := timeUnits (c 2)
  let v := action s r
  if c 0 = 0 then setAction r { v with state := 0, pulseEnd := none } s
  else if b < 4 ∧ (base s b).st = 0 then setAction r { v with state := 3, pulseEnd := none } s
  else setAction r { v with state := 1, due := due, late := decide (due < clock s b) } s

/-- Drive a pin in mode 2; false in any other mode (R317). -/
def drivePin (n : Nat) (level : Bool) (s : Sys) : Sys × Bool :=
  if cell s 0x0841 1 n 0 = 2 then (updPin n (fun p => { p with active := level }) s, true) else (s, false)

/-- The end of a pulse at its own tick. -/
def pulseTurn (r : Nat) (s : Sys) : Sys :=
  match (action s r).pulseEnd with
  | some u =>
    if u ≤ clock s (cell s 0x0842 1 r 1) then (drivePin (cell s 0x0842 1 r 5) false (setAction r { action s r with pulseEnd := none } s)).1 else s
  | none => s

/-- A row whose time has come executes (R315 to R318). -/
def actionTurn (r : Nat) (s : Sys) : Sys :=
  let c := cell s 0x0842 1 r
  let v := action s r
  let u := clock s (c 1)
  if v.state ≠ 1 ∨ u < v.due then s
  else
    let lateness := if v.late then (u - v.due) / nsUnits else 0
    let s := if v.late then raise 0x0706 1 (u16b r ++ u64b lateness) (bump Ctr.timActionLate s) else s
    let period := c 3 * nsUnits
    let w : Action := { v with runs := v.runs + 1, last := dc s, lateness := lateness, late := false }
    let s := if period = 0 then setAction r { w with state := 2 } s
      else
        let (d, k) := nextDue v.due period u
        bumpBy Ctr.timActionSkip k (setAction r { w with due := d } s)
    if c 4 = 4 then { s with triggers := s.triggers ++ [(2, s.now)] }
    else
      let (s, ok) := drivePin (c 5) (decide (c 4 ≠ 2)) s
      if !ok then bump Ctr.timActionNopin s
      else if c 4 = 3 then setAction r { action s r with pulseEnd := some (u + c 6 * nsUnits) } s
      else s

/-- ACTION_EXECUTE and ACTION_PULSE_END: rows up to `r` whose instant has come act in ascending order (R317). -/
def actionsUpTo (r : Nat) (s : Sys) : Sys := loop (fun i s => actionTurn i (pulseTurn i s)) 0 (r + 1) s
def actionEffect (r : Nat) (s : Sys) : Sys :=
  let v := action s r
  if v.state = 1 ∧ v.due ≤ clock s (cell s 0x0842 1 r 1) then actionsUpTo r s else s
def pulseEndEffect (r : Nat) (s : Sys) : Sys :=
  match (action s r).pulseEnd with
  | some u => if u ≤ clock s (cell s 0x0842 1 r 1) then actionsUpTo r s else s
  | none => s

/-- What a step of base `b` does to the rows armed on it (R319). -/
def actionsStep (b : Nat) (s : Sys) : Sys :=
  let u := clock s b
  let turn (r : Nat) (s : Sys) : Sys :=
    let c := cell s 0x0842 1 r
    let v := action s r
    if v.state ≠ 1 ∨ c 1 ≠ b then s
    else if c 3 = 0 then setAction r { v with late := decide (v.due < u) } s
    else
      let time := timeUnits (c 2)
      setAction r { v with due := if u < time then time else (nextDue time (c 3 * nsUnits) u).1, late := false } s
  loop turn 0 64 s

/-- Rows armed on a base that becomes DISABLED (R319). -/
def actionsCancel (b : Nat) (s : Sys) : Sys :=
  loop (fun r s => if (action s r).state = 1 ∧ cell s 0x0842 1 r 1 = b then setAction r { action s r with state := 3, pulseEnd := none } s else s) 0 64 s

/-! ### The step (R293) -/

/-- The frequency term at the step: 0, or under profile 3 the rate ratio to the grandmaster, less 1 (R294). -/
def stepFreq (s : Sys) (b : Nat) : Rat :=
  if activeSource s b = 1 ∧ cell s 0x0900 1 b 0 = 3 then ((ptpInst s b).ratio : Rat) / (2 ^ 40 : Nat) else 0

/-- The one step of a base: to `u`, in units of 2^-16 ns. -/
def stepBase (b u : Nat) (s : Sys) : Sys :=
  let old := clock s b
  let st := if activeSource s b = 0 then 5 else 2
  let rate := if st = 5 then objI s (tbIx b) 9 else (base s b).rate
  let f := stepFreq s b
  let s := rebase b st (u * (5 * 2 ^ 40)) rate s
  let s := setBase b { base s b with freq := f, steps := (base s b).steps + 1, lastMeas := s.now, good := 0, poor := 0, stepTo := none } s
  let d := ((u : Int) - old).tdiv nsUnits
  actionsStep b (gatesFollow b (stepPending b (raise 0x0703 1 (u8b b ++ toBEInt 8 d) s)))

/-- TB_STEP_TO: whether it is refused with code 6 (R293), and its effect at the commit point. -/
def stepToRefused (s : Sys) (b : Nat) : Bool :=
  (base s b).st != 1 || activeSource s b == 1 || activeSource s b == 3

def stepToEffect (b u : Nat) (s : Sys) : Sys :=
  if stepToRefused s b then s
  else if activeSource s b = 2 then setBase b { base s b with stepTo := some u } s
  else stepBase b u s

/-! ### The servo (R294, R295) -/

/-- Consecutive good and poor measurements move ACQUIRING to LOCKED and back. -/
def lockTurn (b : Nat) (o : Int) (s : Sys) : Sys :=
  let v := base s b
  let thresh := obj s (tbIx b) 0x0B * nsUnits
  let good := if o.natAbs ≤ thresh then v.good + 1 else 0
  let poor := if o.natAbs > 4 * thresh then v.poor + 1 else 0
  let s := setBase b { v with good := good, poor := poor } s
  if v.st = 2 ∧ 8 ≤ good then raise 0x0701 0 (u8b b) (setBase b { base s b with st := 3, good := 0, poor := 0 } s)
  else if v.st = 3 ∧ 4 ≤ poor then setBase b { base s b with st := 2, good := 0, poor := 0 } s
  else s

/-- One turn of the servo on offset `o`, in units of 2^-16 ns. -/
def servo (b : Nat) (o : Int) (s : Sys) : Sys :=
  let v := base s b
  let word := obj s (tbIx b) 0x0D
  let lim := rateLimit s b
  -- o in s over dt in s: both in units of 2^-16 ns
  let slope : Rat := (o : Rat) / ((s.now - v.lastMeas) * 262144 / 5 : Rat)
  let f := ratClamp lim (v.freq - (word % 65536 : Nat) / 65536 * slope)
  let r := ratClamp lim (f - (word / 65536 : Nat) / 65536 * slope)
  let s := setRate b (rateUnits r) s
  setBase b { base s b with freq := f, offset := o, lastMeas := s.now } s

/-- One offset measurement against a source that read `u` when the base read `own`: the step in UNSET, else the servo. -/
def measure (b : Nat) (own u : Int) (s : Sys) : Sys :=
  let v := base s b
  if v.st = 0 ∨ v.st = 5 ∨ activeSource s b = 0 ∨ !inputPresent s b then s
  else if v.st = 1 then stepBase b ((clock s b : Int) + (u - own)).toNat (setBase b { v with offset := own - u } s)
  else if s.now ≤ v.lastMeas then s
  else
    let s := if v.st = 4 then setBase b { v with st := 2, good := 0, poor := 0 } s else s
    let o := own - u
    let s := lockTurn b o (servo b o s)
    if activeSource s b = 1 then updPtpInst b (fun i => { i with offset := o }) s else s

/-- TB_OFFSET_MEASUREMENT: by a PTP instance against `source`, or by the Knaing link against its phase (R299). -/
def measurementEffect (b source : Nat) (s : Sys) : Sys :=
  let own : Int := clock s b
  match activeSource s b with
  | 1 => measure b own source s
  | 3 => measure b own (own - s.kng.offsets.getD b 0) s
  | _ => s

/-- PPS_EDGE (R314): the edge, less the pin's comp, marks a whole second. -/
def ppsEffect (n : Nat) (s : Sys) : Sys :=
  let b := cell s 0x0841 1 n 1
  if cell s 0x0841 1 n 0 ≠ 4 ∨ activeSource s b ≠ 2 ∨ ppsPin s b ≠ some n then s
  else
    let at_ : Int := (stampOf s (clock s b) : Int) - cellI s 0x0841 1 n 7 * 65536 / 1000
    let near : Int := (at_ + secUnits / 2) / secUnits * secUnits
    let u : Int := if (base s b).st = 1 then (match (base s b).stepTo with | some w => w / secUnits * secUnits | none => near) else near
    measure b at_ u s

/-! ### Enabling, restep and source (R297, R298) -/

/-- The rate of a base in UNSET (Table TIM-1). -/
def unsetRate (s : Sys) (b : Nat) : Int := if activeSource s b = 0 then objI s (tbIx b) 9 else 0

/-- Outputs bound to a base that is DISABLED are held inactive (R298, R311). -/
def outputsOff (b : Nat) (s : Sys) : Sys :=
  loop (fun n s => if cell s 0x0841 1 n 1 = b then updPin n (fun p => { p with active := false }) s else s) 0 4 s

/-- A commit of TB_ENABLE that changes it. -/
def tbEnable (b : Nat) (on : Bool) (s : Sys) : Sys :=
  if on then
    let s := rebase b 1 0 (unsetRate s b) s
    gatesFollow b (setBase b { base s b with freq := 0, offset := 0, good := 0, poor := 0, stepTo := none } s)
  else outputsOff b (actionsCancel b (gatesFollow b (rebase b 0 0 0 (abortOnBase b s))))

/-- TB_RESTEP at its commit point; a DISABLED base stays as it is, with code 8 naming TB_ENABLE. -/
def restepEffect (b sid txn : Nat) (s : Sys) : Sys :=
  if (base s b).st = 0 then clampField sid txn (tbIx b) 0x0E 0 0 8 (tbIx b, 1) (.num 1) (.num 0) s
  else gatesFollow b (setBase b { base s b with st := 1, stepTo := none } s)

/-- A commit that changes the active source of a base from `old` (R298). -/
def sourceChanged (b old : Nat) (s : Sys) : Sys :=
  let v := base s b
  if v.st = 0 then s
  else if v.st = 1 then setRate b (unsetRate s b) (setBase b { v with stepTo := none } s)
  else
    let f : Rat := if old = 0 then (v.rate : Rat) / (2 ^ 40 : Nat) else v.freq
    let s := setBase b { v with freq := f, good := 0, poor := 0, lastMeas := s.now, st := if activeSource s b = 0 then 5 else 2 } s
    if activeSource s b = 0 then setRate b (objI s (tbIx b) 9) s else inputWatch b s

/-- A commit of TB_RATE_SET. -/
def rateSetCommit (b : Nat) (s : Sys) : Sys :=
  if activeSource s b = 0 ∧ ((base s b).st = 1 ∨ (base s b).st = 5) then setRate b (objI s (tbIx b) 9) s else s

/-! ### Fallback ticks (R290) -/

def timeFallback (s : Sys) : Sys := if s.fallback then s else basesHoldover { s with fallback := true }

/-! ### TIME_IO (R311 to R313) -/

/-- Whether an output pin is at its active level now: mode 1 from the base's value, mode 2 as actions left it. -/
def pinActive (s : Sys) (n : Nat) : Bool :=
  let c := cell s 0x0841 1 n
  if c 1 < 4 ∧ (base s (c 1)).st = 0 then false
  else match c 0 with
    | 1 =>
      let t := ((clock s (c 1) : Int) - cellI s 0x0841 1 n 7 * 65536 / 1000) / nsUnits
      decide ((t - c 3) % c 2 < c 4)
    | 2 => (pin s n).active
    | _ => false

/-- The level that the device drives on a pin: none at high impedance (Table TIM-10, R311). -/
def pinLevel (s : Sys) (n : Nat) : Option Bool :=
  let c := cell s 0x0841 1 n
  if c 0 = 1 ∨ c 0 = 2 then some (pinActive s n != (c 5 == 1)) else none

/-- A commit that changes a row of TIO_CFG: an output starts from its inactive level, and a base whose PPS pin has left mode 4 has lost
its input (R296, R311). -/
def pinCommit (n : Nat) (s : Sys) : Sys := basesWatch (updPin n (fun p => { p with active := false }) s)

/-! ### Ports of PTP instances -/

/-- A commit that changes a PTP row: a port that comes into use listens, as IEEE 1588 has it, and one that goes out of use has no state
(log entry 87). -/
def ptpPortCommit (i p : Nat) (s : Sys) : Sys :=
  let runs := ptpRow s i p && decide (cell s 0x0900 1 i 1 ≤ 1)
  let st := (ptpPort s i p).state
  if runs ∧ st = 0 then updPtpPort i p (fun q => { q with state := 4, announceAt := s.now }) s
  else if !runs ∧ st ≠ 0 then
    let s := updPtpPort i p (fun _ => {}) s
    inputWatch i (if (ptpInst s i).slave = p then updPtpInst i (fun v => { v with slave := 0xFF }) s else s)
  else s

/-- TIO_EDGE (R312). -/
def tioEdgeEffect (n : Nat) (rising : Bool) (s : Sys) : Sys :=
  let c := cell s 0x0841 1 n
  let v := pin s n
  let sense := c 6
  if c 0 ≠ 3 ∨ (sense = 1 ∧ !rising) ∨ (sense = 2 ∧ rising) then s
  else if v.lastEdge.any (fun l => decide (s.now < l + 25)) then bump (Ctr.tioGlitch n) s
  else if 16 ≤ (v.events.filter (fun e => decide (cell s 0x0841 3 n 0 < e.1))).length then bump (Ctr.tioEventOverflow n) s
  else
    let at_ := if c 1 < 4 ∧ (base s (c 1)).st = 0 then 0 else ((stampOf s (clock s (c 1)) : Int) - cellI s 0x0841 1 n 7 * 65536 / 1000).toNat
    let s := updPin n (fun p => { p with number := p.number + 1, lastEdge := some s.now,
                                         events := (p.number + 1, if rising then 1 else 2, at_) :: p.events.take 15 }) s
    let s := if bit (obj s 0x7810 0x0D) n then { s with triggers := s.triggers ++ [(4, s.now)] } else s
    if bit (obj s 0x0420 4) 2 ∧ bit (obj s 0x0420 7) n ∧ (s.devState = 2 ∨ s.devState = 3) ∧ s.nrg.pendingWake.isNone then
      { s with nrg := { s.nrg with pendingWake := some 3 } }
    else s

end Sys2Proof.Machine
end

