-- ==== Sys2Proof/Machine/Knaing.lean ====
section
/-! DEFINITION. The Knaing link: line code, control blocks, width, and the frames it delivers (R15, R108 to R115, R150 to R152,
R219, R226). -/

namespace Sys2Proof.Machine

/-- TB0 to TB3 as TIME values. -/
def baseTimes (s : Sys) : List Nat := (List.range 4).map (fun b => clock s b)

/-! ### Frames from the peer (R15, R152, R219, R226) -/

/-- The learn requests of a frame from the peer, to both deciders (R219, log entry 27). -/
def kngLearn (id src : Nat) (r : Rec) (s : Sys) : Sys :=
  let f := frame s id
  let vid := if r.action = 4 then r.target else r.vidOut
  let smac := field f.bytes 6 6
  let may := flag s (pix (kngFirst s) 9) 4 && cellB s 0x4010 1 vid 2 && decide (1 ≤ vid ∧ vid ≤ 4094)
  if !may then s
  else if smac = 0 ∨ bit smac 40 then learnBump .b Ctr.learnInvalidSmac (learnBump .a Ctr.learnInvalidSmac s)
  else
    let q : LearnReq := { frame := id, key := emmKey 1 vid smac, lag := false, peer := true, target := src, at_ := s.now, verdict := none }
    submitLearn .b q (submitLearn .a q s)

/-- The descriptor of a frame from the peer (Table LAN-7) has come: the record's crc is checked, and the frame is forwarded on the record
from here on, its bytes still to come. -/
def kngBegin (x : List Byte) (s : Sys) : Sys :=
  let n := kngFirst s
  let desc := x.take 64
  let src := byteAt desc 0
  let len := field desc 2 2
  let dec := padRight 48 (desc.drop 16)
  if !crcGood dec then bump Ctr.kngDescCrcDrop (updKng (fun g => { g with asmDrop := true }) s)
  else
    let r := decodeRec dec
    let r := { r with peer := r.peer && decide (3 ≤ r.action) }
    let (h, s) := (List.range 4).foldl (fun (a : List Nat × Sys) _ => let (x, s) := free a.2; (a.1 ++ [x % 65536], s)) ([], s)
    let (id, s) := addFrame { port := n, orig := src, sfd := s.now, bytes := x.drop 64, length := len, bad := decide (len > 10240),
                              tailStomped := bit (byteAt desc 1) 7, knaing := true, gen := s.gen, rsGen := s.rsGen, parsed := some { h16 := h } } s
    commitRec id r (kngLearn id src r (updKng (fun g => { g with rxId := some id }) s))

/-- Bytes of the frame under way: `x` is its descriptor and what has come of it. -/
def kngFeed (x : List Byte) (s : Sys) : Sys :=
  match s.kng.rxId with
  | some id => updFrame id (fun f => { f with bytes := x.drop 64 }) s
  | none => if s.kng.asmDrop ∨ s.kng.asmLost ∨ x.length < 64 then s else kngBegin x s

/-- The frame under way ends: it is counted as an Ethernet frame with FCS, and one that lost a segment ends bad (R152). A frame whose
record failed, or whose descriptor was lost, goes no further. -/
def kngEnd (lost : Bool) (s : Sys) : Sys :=
  match s.kng.asm_ with
  | none => s
  | some x =>
    let n := kngFirst s
    let b := x.drop 64
    let id := s.kng.rxId
    let lost := lost || s.kng.asmLost
    let long := decide (field x 2 2 > 10240)
    let stomped := bit (byteAt x 1) 7
    let s := updKng (fun g => { g with asm_ := none, asmLost := false, rxId := none, asmDrop := false }) s
    let s := if lost then bump Ctr.kngSegLoss s
      else
        let s := if long then bump (Ctr.rxOversize n) s else countGood n b.length s
        bumpIf (stomped && !long) (Ctr.rxStomped n) s
    match id with
    | none => s
    | some id =>
      settleTail id (updFrame id (fun f => { f with bytes := b.take (b.length - 4), fcs := b.drop (b.length - 4), ended := true,
                                                    length := b.length, bad := f.bad || lost, verdict := some (!(f.bad || lost || stomped)) }) s)

/-- Open a frame's reassembly; one that is still open has lost its end. -/
def kngOpen (data : List Byte) (s : Sys) : Sys :=
  kngFeed data (updKng (fun g => { g with asm_ := some data, asmLost := false, rxId := none, asmDrop := false }) (kngEnd true s))

/-- A whole frame from the peer: `desc` is its descriptor, `b` its bytes with the FCS. -/
def kngFrameOp (desc b : List Byte) (lost : Bool) (s : Sys) : Sys := kngEnd lost (kngOpen (desc ++ b) s)

/-- KNAING_FRAME_RX. -/
def kngFrameEffect (desc b : List Byte) (lost : Bool) (s : Sys) : Sys :=
  if flag s 0x2800 1 ∧ s.kng.st = 2 ∧ s.devState = 1 then kngFrameOp desc b lost s else s

/-! ### Link state and width (R113, R115, R151) -/

/-- Declare the link down. -/
def kngDown (s : Sys) : Sys :=
  if s.kng.st ≠ 2 then s
  else
    let s := updKng (fun g => { g with st := 3, txWidth := 0, rxWidth := 0, nextWidth := 0, wantWidth := 0, good := 0, rxBuf := [],
                                       rxSeq := none, rxPend := none }) (kngEnd true s)
    basesWatch (linkDownEffect (kngFirst s) (raise 0x0406 2 (u8b (kngFirst s)) s))

/-- Change the transmit width. Lanes that leave it send idle in Quiet (R115). -/
def kngSetWidth (w : Nat) (s : Sys) : Sys :=
  let old := s.kng.txWidth
  if w = old then s
  else
    let s := updKng (fun g => { g with txWidth := w, nextWidth := w, wantWidth := 0, low := 0 }) s
    let s := (List.range 8).foldl (fun s k =>
      if w ≤ k ∧ k < old then aimLane (kngFirst s + k) .quietIdle (updKngLane k (fun l => { l with idleAt := s.now }) s) else s) s
    let s := updPort (kngFirst s) (fun q => { q with speed := kngCapacity w }) s
    raise 0x0405 0 (u8b old ++ u8b w) (bump Ctr.kngWidthChange s)

/-- Declare the link up: locks on lanes 0 and 1 and four control blocks in a row. -/
def kngUp (s : Sys) : Sys :=
  if s.kng.st = 2 ∨ !flag s 0x2800 1 ∨ !(kngLane s 0).locked ∨ !(kngLane s 1).locked ∨ s.kng.good < 4 then s
  else
    let w := obj s 0x2800 3
    linkUpPort (kngFirst s) (kngCapacity w) false (updKng (fun g => { g with st := 2, txWidth := w, nextWidth := w, rxWidth := w }) s)

/-- The lanes that a width of `w` takes in and that are not Active. -/
def kngAsleep (w : Nat) (s : Sys) : List Nat :=
  ((List.range w).map (kngFirst s + ·)).filter (fun n => (lane s n).power != .active)

/-- Announce a width (R115): the switch falls at least 64 blocks ahead. Lanes that it takes in wake first; from Quiet they are Active by
then, and while one is deeper the announcement waits. -/
def kngAnnounce (w : Nat) (s : Sys) : Sys :=
  let w := max (obj s 0x2800 4) (min w (obj s 0x2800 3))
  if s.kng.st ≠ 2 ∨ w = s.kng.nextWidth then s
  else
    let l := kngAsleep w s
    let deep := l.any (fun n => decide (2 ≤ powerDepth (lane s n).power))
    let s := l.foldl (fun s n => aimLane n .active s) s
    if deep then updKng (fun g => { g with wantWidth := w }) s
    else updKng (fun g => { g with nextWidth := w, wantWidth := 0, switchAt := s.now + (64 * 2048 + 44) / 45 }) s

/-- A raise that waited for its lanes is announced once none is deeper than Quiet. -/
def kngWakes (s : Sys) : Sys :=
  if s.kng.wantWidth = 0 ∨ (kngAsleep s.kng.wantWidth s).any (fun n => decide (2 ≤ powerDepth (lane s n).power)) then s
  else kngAnnounce s.kng.wantWidth (updKng (fun g => { g with wantWidth := 0 }) s)

/-- KNG_WIDTH_SWITCH: at the announced block. -/
def kngSwitchEffect (s : Sys) : Sys :=
  if s.kng.st = 2 ∧ s.kng.nextWidth ≠ s.kng.txWidth ∧ s.kng.switchAt ≤ s.now then kngSetWidth s.kng.nextWidth s else s

/-- Bytes that wait for the link. -/
def kngWaiting (s : Sys) : Nat := ((queuedFor s (kngFirst s)).map (fun c => c.2.counted)).foldl (· + ·) 0

/-- Frames waiting beyond 64 KiB double the width at once (R115). -/
def kngWatch (s : Sys) : Sys :=
  let s := kngWakes s
  if s.kng.st = 2 ∧ flag s 0x2800 5 ∧ s.kng.wantWidth = 0 ∧ kngWaiting s > 65536 then kngAnnounce (2 * s.kng.txWidth) s else s

/-- One Maquette period of the width rules (R115): the load of the period in percent of a capacity. -/
def kngPeriod (window : Bool) (s : Sys) : Sys :=
  let sent := count s (Ctr.txOctets (kngFirst s))
  let bits := (sent - s.kng.octets) * 8
  let s := updKng (fun g => { g with octets := sent }) s
  if s.kng.st ≠ 2 ∨ !flag s 0x2800 5 then s
  else
    let w := s.kng.txWidth
    let atMost (w pct : Nat) : Nat := kngCapacity w * 1024 * pct / 100
    if window then kngAnnounce (obj s 0x2800 3) s
    else if bits > atMost w (obj s 0x2800 0x0B) then kngAnnounce (2 * w) (updKng (fun g => { g with low := 0 }) s)
    else if bits < atMost (w / 2) (obj s 0x2800 0x0A) then
      let s := updKng (fun g => { g with low := g.low + 1 }) s
      if s.kng.low ≥ 8 then kngAnnounce (w / 2) (updKng (fun g => { g with low := 0 }) s) else s
    else updKng (fun g => { g with low := 0 }) s

/-- KNG_HEADER_LOCK (R111): the headers that the receiver found at 1,024-bit spacing; four good ones in a row lock it. -/
def kngLockEffect (k : Nat) (headers : List Nat) (s : Sys) : Sys :=
  if !flag s 0x2800 1 ∨ obj s 0x2800 3 ≤ k ∨ headers.length < 4 ∨ !(headers.drop (headers.length - 4)).all headerGood then s
  else
    let s := updKngLane k (fun l => { l with locked := true, failed := false, seen := 0, bad := 0, seq := headers.getLast?.map (fun h => bits h 20 9) }) s
    kngUp (updLane (kngFirst s + k) (fun l => { l with link := if s.kng.st = 2 then 3 else 2, cdr := true, signal := true }) s)

/-- The largest width whose lanes are all healthy: locked, and not failed for their skew. -/
def kngHealthy (s : Sys) : Nat := ([8, 4, 2].find? (fun w => (List.range w).all (fun k => (kngLane s k).locked && !(kngLane s k).failed))).getD 2

/-- A lane fails: 0 or 1 takes the link down, another inside the width narrows it (R113, R115). -/
def kngLaneFails (k : Nat) (s : Sys) : Sys :=
  if k ≤ 1 then kngDown (updKng (fun g => { g with good := 0 }) s)
  else if s.kng.st = 2 ∧ k < s.kng.txWidth then kngSetWidth (min s.kng.txWidth (kngHealthy s)) s
  else s

/-- KNG_LOCK_LOSS (R111). -/
def kngLockLossEffect (k : Nat) (s : Sys) : Sys :=
  if !(kngLane s k).locked then s
  else
    let s := bump (Ctr.kngLockLoss (kngFirst s + k)) (updKngLane k (fun l => { l with locked := false, seen := 0, bad := 0, seq := none }) s)
    kngLaneFails k (updLane (kngFirst s + k) (fun l => { l with link := 0, cdr := false }) s)

/-- KNG_HEARTBEAT_MISS (R113): 4.096 µs without a new heartbeat. -/
def kngHeartbeatEffect (s : Sys) : Sys :=
  if s.kng.st = 2 ∧ s.kng.hbAt + 5120 ≤ s.now then bump Ctr.kngHeartbeatMiss (kngDown s) else s

/-- KNG_IDLE_LANE_DEEP (R115): 64 ms of idle outside the width. -/
def kngIdleDeepEffect (k : Nat) (s : Sys) : Sys :=
  if flag s 0x2800 1 ∧ s.kng.txWidth ≤ k ∧ k < obj s 0x2800 3 ∧ (kngLane s k).idleAt + 64 * Config.ticksPerMs ≤ s.now
      ∧ !laneHeld s (kngFirst s + k) then
    aimLane (kngFirst s + k) .deep s
  else s

/-! ### Control blocks (R113, R114, Table LAN-8) -/

/-- KNG_CONTROL_BLOCK_TX: a control block on the lowest active lane. While the link aligns it announces the width at which it will come
up. -/
def kngControlTxEffect (s : Sys) : Sys :=
  if !flag s 0x2800 1 ∨ s.devState = 3 then s
  else
    let g := s.kng
    let ts := baseTimes s
    let b := u32b (g.hbTx + 1) ++ (ts.map timeb).flatten ++ (g.arrive.map timeb).flatten ++ u16b g.arriveSeq
      ++ u8b (if g.nextWidth = 0 then obj s 0x2800 3 else g.nextWidth) ++ u8b 0
      ++ u16b (kngSeq g.switchAt) ++ Config.serial ++ u16b 0
    kngSendBlock 2 0 (kngSeq s.now) b
      (updKng (fun g => { g with hbTx := (g.hbTx + 1) % 2 ^ 32, lastCtl := b, sent := (kngSeq s.now, ts) :: g.sent.take 7, txBlocks := [] }) s)

/-- The four-time-stamp exchange: our departure and the peer's arrival, the peer's departure and our arrival. -/
def kngExchange (t1 t2 t3 t4 : Nat) : Int × Nat :=
  let off : Int := (((t1 : Int) - t2) + ((t4 : Int) - t3)) / 2
  let delay : Int := (((t4 : Int) - t1) - ((t3 : Int) - t2)) / 2
  (off, (delay * 1000 / 65536).toNat)

/-- The peer's announced width applies from its seq on. -/
def kngRxWidth (seq : Nat) (s : Sys) : Sys :=
  match s.kng.rxPend with
  | some (w, at_) => if seqAhead seq at_ < 2048 then updKng (fun g => { g with rxWidth := w, rxPend := none }) s else s
  | none => s

/-- KNG_CONTROL_BLOCK_RX. Control blocks are consecutive while their heartbeat advances by 1. -/
def kngControlRxEffect (b : List Byte) (seq : Nat) (s : Sys) : Sys :=
  if !flag s 0x2800 1 then s
  else
    let hb := field b 0 4
    let new := decide (s.kng.hbRx ≠ some hb)
    let ts := baseTimes s
    let times (off : Nat) : List Nat := (List.range 4).map (fun i => timeUnits (field b (off + 12 * i) 12))
    let pairs := match s.kng.sent.find? (fun x => x.1 == field b 100 2) with
      | some (_, t1) => some ((List.range 4).map (fun i => kngExchange (t1.getD i 0) ((times 52).getD i 0) ((times 4).getD i 0) (ts.getD i 0)))
      | none => none
    let s := updKng (fun g => { g with hbRx := some hb, hbAt := if new then s.now else g.hbAt, good := if new then (if g.hbRx.any (fun h => hb == (h + 1) % 2 ^ 32) then g.good + 1 else 1) else 0,
                                       arrive := ts, arriveSeq := seq, peer := slice b 106 16,
                                       rxPend := if g.st = 2 ∧ byteAt b 102 ≠ g.rxWidth then some (byteAt b 102, field b 104 2 % 4096) else g.rxPend,
                                       offsets := match pairs with | some l => l.map (·.1) | none => g.offsets,
                                       delays := match pairs with | some l => l.map (·.2) | none => g.delays }) s
    kngUp (kngRxWidth seq s)

/-! ### Blocks (R109 to R112) -/

/-- Take segments from a block's payload (R112). A segment of a frame whose start was lost makes that frame one that lost a segment. -/
def kngSegments : Nat → List Byte → Sys → Sys
  | 0, _, s => s
  | n + 1, b, s =>
    let h := field b 0 2
    let len := bits h 13 0
    if b.length < 2 ∨ len = 0 ∨ 122 < len then s
    else
      let data := slice b 2 len
      let s := if bit h 15 then kngOpen data s
        else match s.kng.asm_ with
          | some x => kngFeed (x ++ data) (updKng (fun g => { g with asm_ := some (x ++ data) }) s)
          | none => updKng (fun g => { g with asm_ := some data, asmLost := true }) s
      kngSegments n (b.drop (2 + len)) (if bit h 14 then kngEnd false s else s)

/-- Deliver one data block, or note that it was lost. -/
def kngDeliver (pay : Option (List Byte)) (s : Sys) : Sys :=
  match pay with
  | some b => kngSegments 62 b s
  | none => updKng (fun g => { g with asmLost := g.asmLost || g.asm_.isSome }) s

/-- Deliver blocks in seq and lane_id order, up to `n` seqs: one whose lanes have all come, and one that a lane is more than 16 blocks
behind with, which fails that lane (R111, R112). -/
def kngDrain : Nat → Sys → Sys
  | 0, s => s
  | n + 1, s =>
    match s.kng.rxSeq with
    | none => s
    | some q =>
      let s := kngRxWidth q s
      let here (k : Nat) : Option (Nat × Nat × Option (List Byte)) := s.kng.rxBuf.find? (fun e => e.1 == q && e.2.1 == k)
      let missing := (List.range s.kng.rxWidth).filter (fun k => (here k).isNone)
      let skewed := s.kng.rxBuf.any (fun e => decide (16 < seqAhead e.1 q ∧ seqAhead e.1 q < 2048))
      if s.kng.rxBuf.isEmpty ∨ (!missing.isEmpty ∧ !skewed) then s
      else
        let blocks := (List.range s.kng.rxWidth).map (fun k => ((here k).map (fun e => e.2.2)).getD none)
        let s := blocks.foldl (fun s b => kngDeliver b s)
          (updKng (fun g => { g with rxBuf := g.rxBuf.filter (fun e => e.1 != q), rxSeq := some ((q + 1) % 4096) }) s)
        kngDrain n (missing.foldl (fun s k => kngLaneFails k (updKngLane k (fun l => { l with failed := true }) s)) s)

/-- A block of the group arrives on lane `k`: it waits for the other lanes of its seq. One older than the seq that is next is lost. -/
def kngArrive (k seq : Nat) (pay : Option (List Byte)) (s : Sys) : Sys :=
  let next := s.kng.rxSeq.getD seq
  if 2048 ≤ seqAhead seq next then kngDeliver none s
  else kngDrain 32 (updKng (fun g => { g with rxSeq := some next, rxBuf := g.rxBuf ++ [(seq, k, pay)] }) s)

/-- KNG_BLOCK_RX: the bits that lane `k` of the group received for one block. -/
def kngBlockEffect (k : Nat) (rx : List Bool) (s : Sys) : Sys :=
  if !flag s 0x2800 1 ∨ obj s 0x2800 3 ≤ k then s
  else
    let l := kngLane s k
    let (last, run, wrong, acc) := destuff rx l.last l.run 0 []
    let d := acc.reverse
    let head := bitsNat (d.take 32)
    let good := headerGood head
    let n := kngFirst s + k
    let seq := if good then bits head 20 9 else l.seq.elim 0 (fun q => (q + 1) % 4096)
    let s := updKngLane k (fun l => { l with last := last, run := run, seen := if l.seen ≥ 63 then 0 else l.seen + 1, seq := some seq,
                                             bad := if l.seen ≥ 63 then 0 else l.bad + boolNat (!good) }) s
    let s := bumpBy (Ctr.kngStuffErr n) wrong s
    let s := bumpIf (!good) (Ctr.kngHdrErr n) s
    if !l.locked then s
    else if !good ∧ l.bad + 1 ≥ 8 then kngLockLossEffect k s
    else if !good ∨ wrong ≠ 0 ∨ d.length ≠ 1024 then (if s.kng.st = 2 then kngArrive k seq none s else s)
    else
      let pay := bytesOfBits 124 (scramble (d.drop 32) (kngSeed (bits head 23 21) seq))
      match bits head 25 24 with
      | 2 => kngControlRxEffect pay seq (if s.kng.st = 2 then kngArrive k seq (some []) s else s)
      | 1 => if s.kng.st = 2 ∧ s.devState = 1 then kngArrive k seq (some pay) s else s
      | _ => if s.kng.st = 2 then kngArrive k seq (some []) s else s

/-- A commit of KNG_ENABLE (R108): the link starts to align, or goes off. -/
def kngEnable (on : Bool) (s : Sys) : Sys :=
  if on then updKng (fun _ => { st := 1 }) (kngEnd true s) else updKng (fun _ => {}) (kngDown s)

end Sys2Proof.Machine
end

