-- ==== Sys2Proof/Machine/Observe.lean ====
section
/-! DEFINITION. The recorder, Casts, export and replay (R461 to R470). -/

namespace Sys2Proof.Machine

def updRecd (f : Recd → Recd) (s : Sys) : Sys := { s with recd := f s.recd }
def seg (s : Sys) (k : Nat) : Seg := SMap.get {} s.recd.segs k
def setSeg (k : Nat) (v : Seg) (s : Sys) : Sys := updRecd (fun r => { r with segs := SMap.set {} r.segs k v }) s
def cast (s : Sys) (i : Nat) : Cast := SMap.get {} s.recd.casts i
def setCast (i : Nat) (v : Cast) (s : Sys) : Sys := updRecd (fun r => { r with casts := SMap.set {} r.casts i v }) s

/-- Stream bytes of a segment. -/
def segBytes : Nat := 66846210

/-! ### The clock of the recorder -/

/-- The clock of capture times: REC_BASE, or DC while it is DISABLED or UNSET. -/
def recClock (s : Sys) : Nat :=
  let b := obj s 0x7810 8
  if b = 4 ∨ !baseRuns s b then 4 else b

/-- The stamp of a recorder copy (R301, R462). -/
def recStamp (s : Sys) (c : Copy) : Nat :=
  let f := frame s c.frame
  match c.kind with
  | .recorder true p => (((stampOf s (clockAt s (recClock s) (c.start + bitTicks 65 (linkSpeed s p))) : Nat) : Int) + objI s (pix p 0x0B) 2 * 65536 / 1000).toNat
  | _ => (((stampOf s (clockAt s (recClock s) (f.sfd + bitTicks 1 (port s f.port).speed)) : Nat) : Int) - objI s (pix f.port 0x0B) 1 * 65536 / 1000).toNat

/-! ### Segments -/

/-- Segments that belong to the ring. -/
def ringSegs (s : Sys) : List Nat := (List.range s.recd.size).filter (fun k => (seg s k).owner == 0xFF)

/-- Ring segments that hold records, oldest first. -/
def ringFilled (s : Sys) : List Nat := sortBy (fun k => (seg s k).order) ((ringSegs s).filter (fun k => (seg s k).order != 0))

/-- The header of a segment (Table OBS-11), a block of the HBM. -/
def segHeader (s : Sys) (k : Nat) : List Byte :=
  let v := seg s k
  padRight 512 (u16b 0xCA57 ++ u8b v.owner ++ u8b (boolNat v.closed * 128 + boolNat v.part * 64) ++ u32b k ++ u32b v.serial ++ u32b v.order
    ++ timeb v.first ++ timeb v.trigger ++ u64b (if v.closed then v.records else 0))

def writeHeader (k : Nat) (s : Sys) : Sys := { s with wq := s.wq ++ [(segLba k, segHeader s k)] }

/-- Empty a segment: its blocks are untouched and clean again (R463, R467). -/
def clearSeg (k : Nat) (s : Sys) : Sys :=
  let inside (lba : Nat) : Bool := decide (segLba k ≤ lba ∧ lba < segLba (k + 1))
  updMem (fun m => { m with touched := m.touched.filter (fun e => !inside (128 * e.1)) })
    (setSeg k {} { s with poison := s.poison.filter (fun lba => !inside lba) })

/-- Write the block in hand of segment `k`, the last one padded with zeros. -/
def writeStream (k : Nat) (s : Sys) : Sys :=
  let r := s.recd
  let full := (seg s k).used / 510
  let n := if r.tail.length % 510 = 0 then full - 1 else full
  updRecd (fun r => { r with tail := [], tailFirst := 0xFFFF })
    { s with wq := s.wq ++ [(segLba k + 1 + n, padRight 512 (u16b r.tailFirst ++ r.tail))] }

/-- Close the segment that is being filled. -/
def closeSeg (s : Sys) : Sys :=
  match s.recd.cur with
  | none => s
  | some k =>
    let s := if s.recd.tail.isEmpty then s else writeStream k s
    let s := updRecd (fun r => { r with cur := none }) (setSeg k { seg s k with closed := true } s)
    writeHeader k s

/-! ### Freezing a Cast (R465) -/

/-- The segments a Cast of instant `t` takes, and whether its window is incomplete. -/
def castTake (s : Sys) (t : Nat) : List Nat × Bool :=
  let pre := obj s 0x7810 9 * 1000000 * nsUnits
  let l := ringFilled s
  let older := l.filter (fun k => decide (pre ≤ t) && decide ((seg s k).first ≤ t - pre))
  let (l, short) := match older.getLast? with
    | some k => (l.filter (fun x => decide ((seg s k).order ≤ (seg s x).order)), false)
    | none => (l, true)
  let room := (ringSegs s).length - 8
  (l.drop (l.length - room), short || decide (room < l.length))

/-- Freeze a COLLECTING Cast; `early` before its time. -/
def freezeCast (i : Nat) (early : Bool) (s : Sys) : Sys :=
  let c := cast s i
  let s := closeSeg s
  let (l, short) := castTake s c.at_
  let part := early || short
  let n := s.recd.serial + 1
  let s := l.foldl (fun s k =>
    writeHeader k (setSeg k { seg s k with owner := i, serial := n, trigger := c.at_, part := part } s)) (updRecd (fun r => { r with serial := n }) s)
  let recs := (l.map (fun k => (seg s k).records)).foldl (· + ·) 0
  let c := { c with st := 2, segs := l, part := part, records := recs, first := ((l.head?).map (fun k => (seg s k).first)).getD 0,
                    last := ((l.getLast?).map (fun k => (seg s k).last)).getD 0 }
  raise 0x0901 1 (u8b i ++ u8b c.code) (bump Ctr.castFreeze (setCast i c s))

def collecting (s : Sys) : Option Nat := findBelow 8 (fun i => (cast s i).st == 1)

/-- CAST_FREEZE: REC_BASE has reached t + REC_POST. -/
def castFreezeEffect (s : Sys) : Sys :=
  match collecting s with
  | none => s
  | some i =>
    if (cast s i).at_ + obj s 0x7810 0x0A * 1000000 * nsUnits ≤ clock s (recClock s) then freezeCast i false s else s

/-- A warm reset, or step 4 of Table NRG-6, freezes what is COLLECTING. -/
def freezeNow (s : Sys) : Sys := match collecting s with | some i => freezeCast i true s | none => s

/-! ### Records -/

/-- Open the ring's oldest segment; a Cast freezes first when fewer than eight segments would be left. -/
def openSeg (s : Sys) : Sys :=
  let s := match collecting s with
    | some i => if (ringSegs s).length < (castTake s (cast s i).at_).1.length + 9 then freezeCast i true s else s
    | none => s
  match (sortBy (fun k => (seg s k).order) (ringSegs s)).head? with
  | none => s
  | some k =>
    let s := clearSeg k s
    let n := s.recd.order + 1
    writeHeader k (setSeg k { order := n } (updRecd (fun r => { r with cur := some k, order := n, tail := [], tailFirst := 0xFFFF }) s))

/-- Add bytes to the stream, writing each block that becomes whole. -/
def pushStream (k : Nat) : Nat → List Byte → Sys → Sys
  | 0, _, s => s
  | n + 1, b, s =>
    if b.isEmpty then s
    else
      let m := 510 - s.recd.tail.length
      let s := setSeg k { seg s k with used := (seg s k).used + (b.take m).length } (updRecd (fun r => { r with tail := r.tail ++ b.take m }) s)
      pushStream k n (b.drop m) (if s.recd.tail.length = 510 then writeStream k s else s)

/-- Append one record, in a new segment where the present one has no room for it. -/
def appendRecord (time : Nat) (b : List Byte) (s : Sys) : Sys :=
  let s := match s.recd.cur with
    | some k => if segBytes < (seg s k).used + b.length then openSeg (closeSeg s) else s
    | none => openSeg s
  match s.recd.cur with
  | none => s
  | some k =>
    let s := updRecd (fun r => { r with tailFirst := if r.tailFirst = 0xFFFF then 2 + r.tail.length else r.tailFirst }) s
    let v := seg s k
    pushStream k (b.length / 510 + 2) b
      (setSeg k { v with first := if v.records = 0 then time else v.first, last := time, records := v.records + 1 } s)

/-- Captured bytes, padded to a multiple of 8. -/
def pad8 (n : Nat) : Nat := (n + 7) / 8 * 8

/-- The capture record of a copy: its header of Table OBS-10, the captured bytes and the padding. -/
def captureRecord (s : Sys) (c : Copy) (no : Nat) : List Byte :=
  let f := frame s c.frame
  let r := f.com.getD {}
  let b := egressBytes s c
  let cap := min (obj s 0x7810 7) b.length
  let (tx, p) := match c.kind with | .recorder tx p => (tx, p) | _ => (false, f.port)
  let stomp := c.stomped || (!tx && f.bad && f.fcs == stompBytes f.bytes)
  let flags := boolNat tx * 128 + boolNat (decide (cap < b.length)) * 64 + boolNat (f.bad && !stomp) * 32 + boolNat stomp * 16
    + boolNat (decide (f.com.map (·.action) = some 0)) * 8 + boolNat (recClock s == 4) * 4
  u16b cap ++ u16b b.length ++ u8b p ++ u8b flags ++ u8b (c.sel.tc * 32 + c.sel.colour * 8 + boolNat r.prot * 4) ++ u8b r.dropReason
    ++ timeb (recStamp s c) ++ u64b f.seq ++ u32b (no % 2 ^ 32) ++ padRight (pad8 cap) (b.take cap)

/-- The capture record of a drawn copy is written (R461, R462). The copy counts in the counters of port 74 and of its queue (R450). -/
def recordCopy (id : Nat) (s : Sys) : Sys :=
  let c := copy s id
  let no := s.recd.recNo + 1
  let b := captureRecord s c no
  let s := appendRecord (recStamp s c) b (updRecd (fun r => { r with recNo := no }) s)
  let s := bumpBy Ctr.recOctets b.length (bump Ctr.recFrames s)
  let n := (egressBytes s c).length + 4
  let s := bumpBy (Ctr.txOctets 74) n (bump (Ctr.txFrames 74) s)
  let s := bumpBy (Ctr.queueTxOctets c.queue) n (bump (Ctr.queueTxFrames c.queue) s)
  removeCopy id { s with recFree := s.now + bitTicks (8 * b.length) 40000 }

/-- RECORDER_DRAW: strict priority from TC7 downwards, within 40 Gb/s of capture (R21, R329, R461). -/
def recorderDrawEffect (s : Sys) : Sys :=
  if s.now < s.recFree ∨ 2 ≤ traded s ∨ s.devState ≠ 1 then s
  else match drawFrom 74 8 (tidyDrr s) with
    | (_, none) => s
    | (s, some id) => recordCopy id s

/-- REC_OVERRUN_REPORT (R463): once per second while drops continue. -/
def overrunReportEffect (s : Sys) : Sys :=
  let r := s.recd
  if 0 < r.overCount ∧ r.overTold + Config.ticksPerS ≤ s.now then
    raise 0x0902 1 (u64b r.overCount) (updRecd (fun r => { r with overCount := 0, overTold := s.now }) s)
  else s

/-- REC_STATUS. -/
def recState (s : Sys) : Nat := if !flag s 0x7810 1 then 0 else if 2 ≤ traded s then 2 else 1

/-- A commit point at which REC_ENABLE is false brings REC_SIZE into force (R463). -/
def recSizeCommit (s : Sys) : Sys :=
  let n := 16 * obj s 0x7810 2
  if flag s 0x7810 1 ∨ s.recd.size = n then s
  else
    let s := match s.recd.cur with | some k => if n ≤ k then closeSeg s else s | none => s
    let gone := (s.recd.segs.map (·.1)).filter (fun k => decide (n ≤ k))
    updRecd (fun r => { r with size := n }) (gone.foldl (fun s k => clearSeg k s) s)

/-- The least REC_SIZE that covers the segments of every Cast. -/
def recSizeMin (s : Sys) : Nat :=
  ((s.recd.segs.filter (fun e => e.2.owner != 0xFF)).map (fun e => e.1 / 16 + 1)).foldl max 0

/-! ### Triggers (R464 to R466) -/

/-- A snapshot for a Cast: the lowest FREE slot is scheduled for the next commit point. -/
def castSnapshot (s : Sys) : Nat × Sys :=
  if !flag s 0x7810 0x10 then (0xFF, s)
  else match findBelow 4 (fun i => (SMap.get {} s.snaps i : Snap).st == 0) with
    | some i => (i, { s with snaps := SMap.set {} s.snaps i { st := 1 } })
    | none => (0xFF, s)

/-- A trigger of source `code` with instant `t` on REC_BASE. -/
def trigger (code t : Nat) (s : Sys) : Sys :=
  if !bit (obj s 0x7810 0x0B) (code - 1) then s
  else if !flag s 0x7810 1 then bump Ctr.castTriggerIgnored s
  else match collecting s with
    | some i => bump Ctr.castTriggerMerged (setCast i { cast s i with triggers := min 65535 ((cast s i).triggers + 1) } s)
    | none => match findBelow 8 (fun i => (cast s i).st == 0) with
      | none => bump Ctr.castTriggerIgnored s
      | some i =>
        let (slot, s) := castSnapshot s
        castFreezeEffect (setCast i { st := 1, code := code, triggers := 1, at_ := t, snap := slot } s)

/-- The triggers that hardware and stewards have seen, in order. -/
def triggersTurn (s : Sys) : Sys :=
  s.triggers.foldl (fun s x => trigger x.1 (clockAt s (recClock s) x.2) s) { s with triggers := [] }

/-! ### Reading a Cast -/

/-- Block `i` of a segment's stream: where its first record starts, and its 510 bytes; none where it is poisoned. -/
def streamBlock (x : SysMem) (k i : Nat) : Option (Nat × List Byte) :=
  let (b, bad) := readData (segLba k + 1 + i) [] x
  if bad then none else some (field b 0 2, b.drop 2)

/-- Stream bytes; none where a block of them is poisoned. -/
def streamBytes (x : SysMem) (k off len : Nat) : Option (List Byte) :=
  let first := off / 510
  let l := (List.range ((off + len - 1) / 510 + 1 - first)).map (fun i => streamBlock x k (first + i))
  if l.any (·.isNone) then none else some (slice ((l.map (fun b => (b.getD (0, [])).2)).flatten) (off % 510) len)

/-- The next record that starts in block `b` or later of `n` blocks. -/
def resync (x : SysMem) (k n b : Nat) : Option Nat :=
  (findFrom (fun i => match streamBlock x k i with | some (o, _) => o != 0xFFFF | none => false) b (n - b)).map
    (fun i => 510 * i + ((streamBlock x k i).getD (2, [])).1 - 2)

/-- The records of a segment that lie in no poisoned block. -/
def segRecords (x : SysMem) (k : Nat) : Nat → Nat → List (Nat × Nat)
  | 0, _ => []
  | fuel + 1, pos =>
    let used := (seg x.1 k).used
    let n := (used + 509) / 510
    if used < pos + 32 then []
    else match streamBytes x k pos 32 with
      | none => match resync x k n (pos / 510 + 1) with
        | some q => segRecords x k fuel q
        | none => []
      | some h =>
        let len := 32 + pad8 (field h 0 2)
        match streamBytes x k pos len with
        | some _ => (k, pos) :: segRecords x k fuel (pos + len)
        | none => match resync x k n (pos / 510 + 1) with
          | some q => segRecords x k fuel q
          | none => []

def castRecords (x : SysMem) (i : Nat) : List (Nat × Nat) :=
  ((cast x.1 i).segs.map (fun k => segRecords x k ((seg x.1 k).records + (seg x.1 k).used / 510 + 1) 0)).flatten

/-- Poisoned blocks of a Cast. -/
def castPoison (s : Sys) (i : Nat) : Nat :=
  (s.poison.filter (fun lba => (cast s i).segs.any (fun k => decide (segLba k ≤ lba ∧ lba < segLba (k + 1))))).length

/-- The place of a block, or of a record, in a Cast's stream. -/
def castPlace (s : Sys) (i k block : Nat) : Nat := (cast s i).segs.idxOf k * 131072 + block

/-- Poisoned blocks that a scan of part `n` meets: those from its first record on, or from the Cast's start, up to the first record of the
next part (R469). -/
def partPoison (s : Sys) (i n : Nat) (parts : List (List (Nat × Nat))) : Nat :=
  let first (n : Nat) : Option Nat := (parts[n]?.bind (·.head?)).map (fun r => castPlace s i r.1 (r.2 / 510 + 1))
  let from_ := if n = 0 then 0 else (first n).getD 0
  (s.poison.filter (fun lba =>
    let k := (lba - segLba 0) / 131072
    let p := castPlace s i k ((lba - segLba 0) % 131072)
    decide (segLba 0 ≤ lba) && (cast s i).segs.contains k && decide (from_ ≤ p) && (first (n + 1)).all (fun e => decide (p < e)))).length

/-- A record's header and captured bytes; what proves poisoned now reads as zero (R469). -/
def recordBytes (x : SysMem) (r : Nat × Nat) : List Byte × List Byte :=
  let get (off len : Nat) : List Byte :=
    ((List.range len).map (fun j => match streamBlock x r.1 ((off + j) / 510) with
      | some (_, b) => b.getD ((off + j) % 510) 0
      | none => 0))
  let h := get r.2 32
  (h, get (r.2 + 32) (field h 0 2))

/-! ### Export (R468, R469) -/

/-- The length of a record's Enhanced Packet Block. -/
def epbLength (x : SysMem) (r : Nat × Nat) : Nat := 44 + (field (recordBytes x r).1 0 2 + 3) / 4 * 4

/-- Bytes before the packets of a part: the section header and 76 interfaces. -/
def partHead : Nat := 28 + 76 * 32

/-- The records of a Cast in parts of at most 2 GiB, split between records. -/
def splitParts (x : SysMem) (l : List (Nat × Nat)) : List (List (Nat × Nat)) :=
  let (acc, cur, _) := l.foldl (fun (a : List (List (Nat × Nat)) × List (Nat × Nat) × Nat) r =>
    let n := epbLength x r
    if a.2.2 + n ≤ 2147483648 then (a.1, a.2.1 ++ [r], a.2.2 + n) else (a.1 ++ [a.2.1], [r], partHead + n)) ([], [], partHead)
  acc ++ [cur]

def updExport (sid : Nat) (f : Export → Export) (s : Sys) : Sys := updSession sid (fun v => { v with exp := f v.exp }) s

/-- CAST_EXPORT_SEL: a scan of a FROZEN Cast's part starts. -/
def exportSel (sid c part : Nat) (s : Sys) : Sys := updExport sid (fun _ => { cast := c, part := part, st := 1 }) s

/-- EXPORT_SCAN_DONE. -/
def exportScanEffect (sid : Nat) (x : SysMem) : SysMem :=
  match session? x.1 sid with
  | none => x
  | some v =>
    if v.exp.st ≠ 1 then x
    else
      let i := v.exp.cast
      let parts := splitParts x (castRecords x i)
      let l := parts.getD v.exp.part []
      let n := if v.exp.part < parts.length then partHead + (l.map (epbLength x)).foldl (· + ·) 0 else 0
      let skipped := if v.exp.part < parts.length then partPoison x.1 i v.exp.part parts else 0
      onSys (fun s => bumpBy Ctr.recPoisonSkip skipped (setCast i { cast s i with poisoned := castPoison s i }
        (updExport sid (fun e => { e with st := 2, parts := parts.length, length := n, recs := l }) s))) x

/-- The bytes of a part (R468), all big-endian. -/
def exportBytes (x : SysMem) (e : Export) : List Byte :=
  if e.length = 0 then []
  else
    let shb := u32b 0x0A0D0D0A ++ u32b 28 ++ u32b 0x1A2B3C4D ++ u16b 1 ++ u16b 0 ++ u64b (e.length - 28) ++ u32b 28
    let idb := u32b 1 ++ u32b 32 ++ u16b 1 ++ u16b 0 ++ u32b (obj x.1 0x7810 7) ++ u16b 9 ++ u16b 1 ++ [9, 0, 0, 0] ++ u32b 0 ++ u32b 32
    let epb (r : Nat × Nat) : List Byte :=
      let (h, data) := recordBytes x r
      let t := field h 8 6 * 1000000000 + field h 14 4
      let n := epbLength x r
      let fl := byteAt h 5
      let dir := if bit fl 7 then 2 else 1
      u32b 6 ++ u32b n ++ u32b (byteAt h 4) ++ u32b (t / 2 ^ 32) ++ u32b (t % 2 ^ 32) ++ u32b (field h 0 2) ++ u32b (field h 2 2)
        ++ padRight (n - 44) data ++ u16b 2 ++ u16b 4 ++ u32b (boolNat (bit fl 5 || bit fl 4) * 2 ^ 24 + dir) ++ u32b 0 ++ u32b n
    shb ++ ((List.replicate 76 idb).flatten) ++ ((e.recs.map epb).flatten)

/-! ### Releasing and replaying (R467, R470) -/

def stopReplay (i : Nat) (s : Sys) : Sys :=
  match s.recd.replay with
  | some r => if r.cast = i then updRecd (fun v => { v with replay := none }) (setCast i { cast s i with st := 2 } s) else s
  | none => s

/-- CAST_CMD: whether it is refused with code 6. -/
def castRefused (s : Sys) (cmd i : Nat) : Bool :=
  match cmd with
  | 1 => decide ((cast s i).st < 2)
  | 2 => (cast s i).st != 2 || s.recd.replay.isSome || isKng s (cell s 0x7820 3 0 0)
  | _ => (cast s i).st != 3

/-- CAST_CMD at its commit point. -/
def castCommand (cmd i : Nat) (x : SysMem) : SysMem :=
  let s := x.1
  if castRefused s cmd i then x
  else match cmd with
    | 1 =>
      let s := stopReplay i s
      (setCast i {} ((cast s i).segs.foldl (fun s k => clearSeg k s) s), x.2)
    | 2 =>
      let r : Replay := { cast := i, start := s.now, first := (cast s i).first, left := castRecords x i, free := s.now }
      (bumpBy Ctr.recPoisonSkip (castPoison s i) (updRecd (fun v => { v with replay := some r }) (setCast i { cast s i with st := 3 } s)), x.2)
    | _ => (stopReplay i s, x.2)

/-- A frame that a replay sends: no decision, no stream functions, no taps. -/
def replayFrame (p tc : Nat) (b : List Byte) (s : Sys) : Sys :=
  let (f, s) := addFrame { port := p, orig := p, bytes := b, ended := true, fcs := fcsBytes b, length := b.length + 4, stage := .injected,
                           verdict := some true } s
  let (c, s) := addCopy { frame := f, tile := copyTile s p, port := p, kind := .replay, sel := { tc := tc }, body := some b } s
  reap f (enqueue c s)

/-- Records that may not be sent are skipped; the first that may is answered with what follows it. -/
def skipRecords (x : SysMem) : List (Nat × Nat) → Nat → Nat × Option (List Byte × List Byte × List (Nat × Nat))
  | [], n => (n, none)
  | r :: l, n =>
    let (h, b) := recordBytes x r
    if field h 0 2 = field h 2 2 ∧ !bit (byteAt h 5) 5 ∧ !bit (byteAt h 5) 4 then (n, some (h, b, l)) else skipRecords x l (n + 1)

/-- Whether the record with header `h` leaves now: at its own distance from the first record, or as fast as the rate allows (R470). -/
def replayDue (s : Sys) (r : Replay) (h : List Byte) : Bool :=
  if cell s 0x7820 3 0 2 = 0 then decide ((timeUnits (field h 8 12) - r.first) * 5 ≤ (s.now - r.start) * 262144) else decide (r.free ≤ s.now)

/-- A replay sends bytes `b` and goes on with the records `l`, or ends. -/
def replaySend (r : Replay) (b : List Byte) (l : List (Nat × Nat)) (s : Sys) : Sys :=
  let cfg := cell s 0x7820 3 0
  let s := updRecd (fun v => { v with replay := some { r with left := l, free := s.now + bitTicks (8 * (b.length + 4)) (cfg 3) } }) s
  let s := replayFrame (cfg 0) (cfg 1) b s
  if l.isEmpty then stopReplay r.cast s else s

/-- CAST_REPLAY_FRAME: the next record leaves when its instant has come. -/
def replayEffect (x : SysMem) : SysMem :=
  match x.1.recd.replay with
  | none => x
  | some r =>
    let (n, next) := skipRecords x r.left 0
    let s := bumpBy Ctr.castReplaySkip n x.1
    match next with
    | none => (stopReplay r.cast s, x.2)
    | some (h, b, l) =>
      if replayDue s r h ∧ s.devState = 1 then (replaySend r b l s, x.2)
      else (updRecd (fun v => { v with replay := some { r with left := r.left.drop n } }) s, x.2)

/-- A Cast's row comes back from the headers of its segments; what these do not hold is free (R467). -/
def castRebuild (i : Nat) (s : Sys) : Sys :=
  let mine := sortBy (fun k => (seg s k).order) ((s.recd.segs.filter (fun e => e.2.owner == i)).map (·.1))
  if mine.isEmpty ∨ (cast s i).st < 2 then s
  else
    let k := mine.headD 0
    let (a, s) := free s
    let (b, s) := free s
    let (c, s) := free s
    let (d, s) := free s
    setCast i { cast s i with segs := mine, at_ := (seg s k).trigger, first := (seg s k).first, part := (seg s k).part,
                              records := (mine.map (fun k => (seg s k).records)).foldl (· + ·) 0, last := ((mine.getLast?).map (fun k => (seg s k).last)).getD 0,
                              code := a % 6, triggers := b % 65536, snap := c % 256, snapGen := d % 2 ^ 32 } s

/-- CAST_DIRECTORY_REBUILT. -/
def directoryRebuiltEffect (s : Sys) : Sys :=
  if !s.mem.castDirLost then s else updMem (fun m => { m with castDirLost := false }) (loop castRebuild 0 8 s)

end Sys2Proof.Machine
end

