-- ==== Sys2Proof/Machine/Energy.lean ====
section
/-! DEFINITION. The energy ledger, the Maquette, surges and DORMANT (R397 to R416). Energy is in nJ, power in mW. -/

namespace Sys2Proof.Machine

def updNrg (f : Nrg → Nrg) (s : Sys) : Sys := { s with nrg := f s.nrg }

/-! ### EMM bank groups (R409) -/

/-- Groups of a decider that must stay awake: those with entries, and one above the highest. -/
def emmNeed (v : Decider) : Nat :=
  let gs := (v.entries.map (fun e => e.1 / 16384)).eraseDups
  let top := gs.foldl max 0
  orAll (gs.map (2 ^ ·)) ||| (if gs.isEmpty then 1 else if top < 7 then 2 ^ (top + 1) else 0)

/-- Gate the groups of a decider that a plan leaves out and that may be gated. -/
def gateGroups (d : DecId) (awake : Nat) (s : Sys) : Sys :=
  let v := decider s d
  setDecider d { v with gated := 255 - ((awake % 256) ||| emmNeed v) } s

/-! ### Forms in force (R404, R408, R411, R412) -/

/-- Every tile that is not off at /1. -/
def tilesUp (tiles : Nat) : Nat := (List.range 8).foldl (fun a k => if bits a (2 * k + 1) (2 * k) = 3 then a else putBits a (2 * k + 1) (2 * k) 0) tiles

/-- What a surge raises: deciders, tiles that are not off, XBAR and BPM at /1, lane 1 awake. -/
def raiseForm (f : Plan) : Plan := { f with clocks := f.clocks % 4, tiles := tilesUp f.tiles, t8 := 0 }

/-- Raise what a scheduled class of port `p` needs: its tile, both deciders and lane 1; its lanes go to Active. -/
def raisePort (p : Nat) (s : Sys) : Sys :=
  let f := s.nrg.form
  let f := { f with clocks := f.clocks % 32, tiles := if p < 64 then putBits f.tiles (2 * (p / 8) + 1) (2 * (p / 8)) 0 else f.tiles,
                    t8 := if p < 64 then f.t8 else 0 }
  let s := updNrg (fun n => { n with form := f }) s
  (portLanes s p).foldl (fun s n => if (lane s n).power = .active then s else aimLane n .active s) s

/-- A lane tile may be off only while its lanes are Deep or Off; a tile with a port up is at /4 or above (R411, Table NRG-1). -/
def tileForm (s : Sys) (k want : Nat) : Nat :=
  let lanes := (List.range 8).map (8 * k + ·)
  if want = 3 ∧ lanes.all (fun n => decide (2 ≤ powerDepth (lane s n).power) && !(port s n).linkUp) then 3 else min want 2

/-- HBM stacks go to power-down only while no queue is in deep mode and the recorder is stopped (R410). -/
def hbmForm (s : Sys) (want : Nat) : Nat :=
  let busy := !s.qdeep.isEmpty || recState s == 1
  let one (x : Nat) : Nat := if busy then min x 1 else min x 2
  one (bits want 7 6) * 64 + one (bits want 5 4) * 16

/-- Whether port `p`'s gate list still waits for a plan that covers its change time (R408). -/
def holdLasts (s : Sys) (p : Nat) : Bool :=
  match (port s p).gate.pend with
  | some c => decide (clock s (obj s (glIx p) 2) + 1024000 * nsUnits < c.start)
  | none => false

def surging (s : Sys) (k : Nat) : Bool := match s.nrg.surgeAt with | some p => decide (k ≤ p + 1) | none => false

/-- A lane deeper than the plan permits is raised, unless a manager commanded it there (R106, R405). -/
def planLanes (s : Sys) : Sys :=
  loop (fun n s =>
    let byManager : Bool := match (lane s n).cmd with | some (_, who, _) => who | none => false
    let to_ : LanePower := match planLane s n with | 0 => .active | 1 => .quietIdle | _ => .deep
    if byManager ∨ laneType s (laneOwner s n) = 0 ∨ powerDepth (lane s n).power ≤ planLane s n then s else aimLane n to_ s) 0 64 s

/-- Put a plan's forms in force at its boundary. -/
def applyPlan (k : Nat) (p : Plan) (s : Sys) : Sys :=
  let tiles := (List.range 8).foldl (fun a i => putBits a (2 * i + 1) (2 * i) (tileForm s i (bits p.tiles (2 * i + 1) (2 * i)))) 0
  let f := { p with tiles := tiles, hbm := hbmForm s p.hbm }
  let f := if surging s k then raiseForm f else f
  let s := gateGroups .b p.emm (gateGroups .a (p.emm / 256) s)
  let emm := (255 - s.decA.gated) * 256 + (255 - s.decB.gated)
  let s := updNrg (fun n => { n with plan := { p with emm := emm, tiles := tiles, hbm := f.hbm }, form := f }) s
  let s := if p.fallback then s else planLanes s
  let holds := s.nrg.holds.filter (holdLasts s)
  holds.foldl (fun s p => raisePort p s) (updNrg (fun n => { n with holds := holds }) s)

/-- A commit point that leaves port `p` with a pending configuration wakes its resources (R408). -/
def gateHold (p : Nat) (s : Sys) : Sys :=
  if (port s p).gate.pend.isNone then s
  else raisePort p (updNrg (fun n => { n with holds := n.holds.filter (· != p) ++ [p] }) s)

/-! ### The ledger (R398, R399, R401) -/

/-- NRG_EFFECTIVE. -/
def effective (s : Sys) : Nat := max (obj s 0x0400 1) s.nrg.plan.floor

/-- The allowance stands above what is stored: counted when it comes to, and reported once until a period without (R401). -/
def allowanceClamped (requested floor : Nat) (s : Sys) : Sys :=
  let s := bump Ctr.nrgAllowanceClamped s
  if s.nrg.told then s else raise 0x0A01 1 (u32b requested ++ u32b floor) (updNrg (fun n => { n with told := true }) s)

/-- The floor rounded up to a step of 100 mW. -/
def floorStep (s : Sys) : Nat := (s.nrg.plan.floor + 99) / 100 * 100

/-- The fallback plan (R404); what it predicts is not stated. -/
def fallbackPlan (k : Nat) (s : Sys) : Plan × Sys :=
  let (x, s) := free s
  ({ period := k, emm := 0, predicted := x % 2 ^ 32, floor := s.nrg.plan.floor, parts := s.nrg.plan.parts }, s)

/-- The energy of a period in nJ, scaled by the weight trim: `spentUj` is the weighted sum of R398 before its scaling. -/
def scaledEnergy (s : Sys) (spentUj : Nat) : Int := (spentUj : Int) * (10 * (100 + objI s 0x0400 7))

/-- The balance after a period that spent `e` (R399). -/
def ledgerBalance (s : Sys) (e : Int) : Int :=
  let lim : Int := ((obj s 0x0400 6 * 1000000 : Nat) : Int)
  max (-lim) (min lim (s.nrg.bal + ((effective s * 1024 : Nat) : Int) - e))

/-- The ledger of the period that ends: its row of the history and the balance. -/
def ledgerTurn (spentUj : Nat) (s : Sys) : Sys :=
  let old := s.nrg.plan
  let e := scaledEnergy s spentUj
  let history := SMap.set (0, 0, 0, 0) s.nrg.history (old.period % 64) (old.period, old.predicted, (e / 1024).toNat, old.level)
  let told := s.nrg.told && effective s != obj s 0x0400 1
  updNrg (fun n => { n with bal := ledgerBalance s e, history := history, told := told }) s

/-- The plan for period `k`: the one loaded for it, or the fallback plan, counted as late once planning has begun (R404). -/
def planFor (k : Nat) (s : Sys) : Plan × Sys :=
  let counts := s.devState == 1 && flag s 0x0400 8 && !s.nrg.first
  let loaded := s.nrg.next.filter (fun p => counts && p.period == k)
  match loaded with
  | some p => (p, s)
  | none => let (p, s) := fallbackPlan k s; (p, bumpIf counts Ctr.nrgPlanLate s)

/-- The period `k` begins: the ledger of the one that ends, the plan in force, and what it reports (R397 to R404). -/
def periodTurn (k spentUj : Nat) (s : Sys) : Sys :=
  let old := s.nrg.plan
  let spent := (scaledEnergy s spentUj / 1024).toNat
  let s := ledgerTurn spentUj s
  let (plan, s) := planFor k s
  let plan := { plan with spent := spent, balance := s.nrg.bal / 1000, surge := s.nrg.surgeAt == some (k - 1) }
  let s := updNrg (fun n => { n with next := none, first := n.first && s.devState != 1, surgeAt := if surging s k then n.surgeAt else none }) s
  let s := applyPlan k plan s
  let s := updNrg (fun n => { n with plan := { n.plan with effective := effective s } }) s
  let above := decide (obj s 0x0400 1 < s.nrg.plan.floor)
  let s := if above ∧ !s.nrg.exceeds then allowanceClamped s.nrg.asked s.nrg.plan.floor s else s
  let s := updNrg (fun n => { n with exceeds := above }) s
  let s := bumpIf plan.over_ Ctr.nrgOver s
  if old.level < plan.level then
    raise 0x0A02 1 (u8b plan.level) ((List.range (plan.level - old.level)).foldl (fun s i => bump (Ctr.nrgTrade (old.level + 1 + i)) s) s)
  else s

/-- A scheduled class of some port has a window that opens within NRG_LOOKAHEAD periods (R407). -/
def windowAhead (s : Sys) : Bool := (List.range 73).any (fun p => windowSoon s p (1280000 * obj s 0x0400 0x0D))

/-- MAQUETTE_PERIOD; the width of the Knaing link follows (R115). -/
def periodEffect (spentUj : Nat) (s : Sys) : Sys :=
  if periodOf s ≤ s.nrg.plan.period then s
  else
    let s := periodTurn (periodOf s) spentUj s
    kngPeriod (windowAhead s) s

/-! ### Planning (R402, R403) -/

/-- The places of the offer's predictions, from the demand plan to the lowest level: level 1 has one for each of its steps. -/
def offerLevel (o : PlanOffer) (i : Nat) : Nat := if i = 0 then 0 else if i ≤ o.steps.length then 1 else 1 + i - o.steps.length
def offerAll (o : PlanOffer) : List Nat := o.demand :: (o.steps ++ o.traded.take 3)

/-- The place of the plan in force, among the places of this offer. -/
def offerPlace (o : PlanOffer) (p : Plan) : Nat :=
  if p.level = 0 then 0 else if p.level = 1 then min p.step o.steps.length else o.steps.length + p.level - 1

/-- The last place that NRG_TRADE_LIMIT permits. -/
def offerTop (o : PlanOffer) (s : Sys) : Nat :=
  min ((offerAll o).length - 1) (match obj s 0x0400 9 with | 0 => 0 | 1 => o.steps.length | l => o.steps.length + l - 1)

/-- Whether every permitted place exceeds P_t; `limit` is 65536 P_t. -/
def overAll (o : PlanOffer) (s : Sys) (limit : Int) : Bool :=
  ((offerAll o).take (offerTop o s + 1)).all (fun p => decide (limit < ((p * 65536 : Nat) : Int)))

/-- The place that is used, and the count of periods that allow a restoration; `limit` is 65536 P_t. -/
def choosePlace (o : PlanOffer) (s : Sys) (limit : Int) : Nat × Nat :=
  let top := offerTop o s
  let pred (i : Nat) : Int := (((offerAll o).getD i 0 * 65536 : Nat) : Int)
  let need := (findBelow (top + 1) (fun i => decide (pred i ≤ limit))).getD top
  let cur := min top (offerPlace o s.nrg.plan)
  if cur < need then (need, 0)
  else if cur = 0 then (0, 0)
  else if pred (cur - 1) * 100 ≤ limit * (100 - objI s 0x0400 0x0B) then
    if 7 ≤ s.nrg.plan.good then (cur - 1, 0) else (cur, s.nrg.plan.good + 1)
  else (cur, 0)

/-- The wake list holds 64 entries: later ones are merged into the last of them, which wakes them sooner (R405). -/
def mergeWakes (l : List (Nat × Nat × Nat × Nat)) : List (Nat × Nat × Nat × Nat) :=
  let at_ := (l.getD 63 (0, 0, 0, 0)).1
  l.take 64 ++ (l.drop 64).map (fun e => (at_, e.2))

/-- MAQUETTE_PLAN_LOAD: the plan for the next period, unless less than 10 µs remain. -/
def planLoadEffect (o : PlanOffer) (s : Sys) : Sys :=
  let k := periodOf s + 1
  let left := s.dcZero + 1280000 * k - s.now
  if left < 12500 ∨ s.devState ≠ 1 ∨ s.plinth.restart.isSome then s
  else
    let floor := o.floorSafety + o.floorSched + o.floorLinks
    let a := max (obj s 0x0400 1) floor
    let limit := max ((floor * 65536 : Nat) : Int) (((a * 65536 : Nat) : Int) + s.nrg.bal)
    let (i, good) := choosePlace o s limit
    let predicted := (offerAll o).getD i 0
    let p : Plan :=
      { period := k, clocks := o.clocks.toNat, hbm := o.hbm.toNat, emm := o.emm.toNat, tiles := o.tiles.toNat, t8 := o.t8, level := offerLevel o i,
        step := if i ≤ o.steps.length then i else o.steps.length, good := good, fallback := false,
        over_ := overAll o s limit, lanes := padRight 16 o.lanes, predicted := predicted, floor := floor,
        parts := [o.floorSafety, o.floorSched, o.floorLinks], wakes := mergeWakes (sortBy (·.1) o.wakes), effective := a,
        balance := s.nrg.bal / 1000, spent := s.nrg.plan.spent }
    updNrg (fun n => { n with next := some p }) s

/-- The record of Table NRG-4. -/
def planBytes (s : Sys) (p : Plan) : List Byte :=
  let start := p.period * 67108864000
  u32b (p.period % 2 ^ 32) ++ timeb start ++ u8b p.clocks ++ u8b p.hbm ++ u16b p.emm ++ u16b p.tiles
    ++ u8b (p.t8 * 64 + p.level * 8 + boolNat (decide (p.level < 2) && recState s == 1) * 4 + boolNat (decide (p.level < 3)) * 2 + boolNat (decide (p.level < 4)))
    ++ u8b (boolNat p.fallback * 128 + boolNat p.surge * 64 + boolNat p.over_ * 32) ++ padRight 16 p.lanes ++ u32b p.predicted ++ u32b p.spent
    ++ u32b p.effective ++ u32b p.floor ++ toBEInt 4 p.balance ++ u16b (min 64 p.wakes.length) ++ u16b 0

/-- What an entry of the wake list raises: resource, unit and target (Table NRG-5). -/
def wakeRaise (res unit target : Nat) (s : Sys) : Sys :=
  let f := s.nrg.form
  let low (v hi lo : Nat) : Nat := putBits v hi lo (min (bits v hi lo) target)
  let put (g : Plan) : Sys := updNrg (fun n => { n with form := g }) s
  match res with
  | 1 =>
    if powerDepth (lane s unit).power ≤ target ∨ 64 ≤ unit then s
    else aimLane unit (powerAllowed s unit false (match target with | 0 => .active | 1 => .quietIdle | _ => .deep)) s
  | 2 => put (if unit = 8 then { f with t8 := min f.t8 target } else { f with tiles := low f.tiles (2 * unit + 1) (2 * unit) })
  | 3 =>
    let c := low f.clocks 7 6
    put { f with clocks := if target = 0 then putBits c 5 5 0 else c }
  | 4 => put { f with clocks := low f.clocks 4 4 }
  | 5 => put { f with clocks := low f.clocks 3 2 }
  | 6 => put { f with hbm := low f.hbm (7 - 2 * (unit % 2)) (6 - 2 * (unit % 2)) }
  | 7 =>
    let d : DecId := if unit < 8 then .a else .b
    setDecider d { decider s d with gated := setBit (decider s d).gated (unit % 8) false } s
  | _ => s

/-- WAKE_LIST_ENTRY (R405): the entries whose tick has come raise their resources, in order. -/
def wakeEntryEffect (s : Sys) : Sys :=
  let due (e : Nat × Nat × Nat × Nat) : Bool := decide (s.dcZero + 1280000 * s.nrg.form.period + e.1 ≤ s.now)
  let l := s.nrg.form.wakes
  (l.filter due).foldl (fun s e => wakeRaise e.2.1 e.2.2.1 e.2.2.2 s)
    (updNrg (fun n => { n with form := { n.form with wakes := l.filter (fun e => !due e) } }) s)

/-- Heads that wait for a slot of a decider that runs. -/
def waitingHeads (s : Sys) : Nat :=
  let left (v : Decider) : Nat := if v.running then ((openHeads s).filter (fun x => decide (v.doneOn (x.2.seq % 2) < x.2.seq))).length else 0
  max (left s.decA) (left s.decB)

/-- SURGE (R412): one that holds does not start again. -/
def surgeEffect (s : Sys) : Sys :=
  let k := periodOf s
  let full := (List.range 8).any (fun t => decide (stagingBytes < 8 * stagingUsed s t))
  if (!full ∧ waitingHeads s ≤ 256) ∨ surging s k ∨ s.devState = 3 then s
  else bump Ctr.nrgSurge (updNrg (fun n => { n with surgeAt := some k, form := raiseForm n.form }) s)

/-! ### DORMANT (R413 to R416) -/

/-- A change of DEV_STATE after start-up (R478). -/
def setDevState (n : Nat) (s : Sys) : Sys := raise 0x0102 1 (u8b s.devState ++ u8b n) { s with devState := n }

/-- Why entry to DORMANT is refused: a code, with the governing object of code 8 (R413). -/
def dormantRefusal (s : Sys) : Option (Nat × Nat × Nat) :=
  if s.devState ≠ 1 then some (6, 0, 0)
  else if !flag s 0x0420 2 then some (8, 0x0420, 2)
  else if bit (obj s 0x0420 4) 1 ∧ timeUnits (obj s 0x0420 5) ≤ clock s (obj s 0x0420 6) + (obj s 0x0420 3 + 10) * 1000000 * nsUnits then
    some (8, 0x0420, 5)
  else none

/-- NRG_POWER_CMD 1 at its commit point. -/
def dormantEnter (s : Sys) : Sys :=
  setDevState 2 (updNrg (fun n => { n with drainEnd := s.now + obj s 0x0420 3 * Config.ticksPerMs, pendingWake := none }) s)

/-- A frame that a steward queue holds. -/
def inSteward (s : Sys) (id : Nat) : Bool := s.sq.any (fun e => e.2.contains id)

/-- Drop every frame that is still queued, each once, and what has not been decided. -/
def drainFrames (s : Sys) : Sys :=
  let n := (((allCopies s).map (fun c => c.2.frame)).eraseDups).length
  let s := bumpBy Ctr.dormantFlushDrop n ((allCopies s).foldl (fun s c => removeCopy c.1 s) s)
  let arriving (id : Nat) : Bool := s.ports.any (fun e => e.2.rx == some id)
  let stay (e : Nat × Option Frame) : Nat × Option Frame :=
    if arriving e.1 ∧ !inSteward s e.1 then (e.1, e.2.map (fun f => { f with stage := .steered, filter := some (8, 0) })) else e
  { s with frames := (s.frames.filter (fun e => inSteward s e.1 || arriving e.1)).map stay, xings := [], xq := [], xcells := [], queues := [], qdeep := [],
           expShared := 0, expReserve := 0 }

/-- A decider stops: its learned entries go; one in LOADING is DEPOSED again. -/
def sleepDecider (d : DecId) (s : Sys) : Sys :=
  let v := decider s d
  let v : Decider := { v.halt with emm := v.emm.filter (fun e => match e.2 with | some x => x.isStatic | none => false), full := false }
  setDecider d (if v.st = .loading then { v with st := .deposed, since := dc s } else v) s

/-- Lanes Off; ports lose their links (Table NRG-6, step 5). Port 72 keeps its own. -/
def sleepPorts (s : Sys) : Sys :=
  let s := loop (fun p s => linkDownEffect p s) 0 72 s
  loop (fun n s => updLane n (fun l => { enterPower .off l with link := 0 }) s) 0 64 s

/-- Exit from DORMANT starts (Table NRG-7, steps 1 to 4): the lanes leave Off. -/
def dormantLeave (src : Nat) (s : Sys) : Sys :=
  let s := setDevState 4 (updNrg (fun n => { n with pendingWake := none, lastWake := src }) s)
  loop (fun n s => if laneType s (laneOwner s n) = 0 then s else aimLane n .active s) 0 64 s

/-- A wake source that waits takes effect once the device is DORMANT. -/
def wakeWatch (s : Sys) : Sys :=
  match s.nrg.pendingWake with
  | some src => if s.devState = 3 then dormantLeave src s else s
  | none => s

/-- DORMANT_DRAIN_END: steps 3 to 7 of Table NRG-6. -/
def drainEndEffect (x : SysMem) : SysMem :=
  let s := x.1
  if s.devState ≠ 2 ∨ s.now < s.nrg.drainEnd then x
  else
    let s := freezeNow (closeSeg (drainFrames s))
    let (s, m) := flushMerge (s, x.2)
    let s := sleepDecider .b (sleepDecider .a (sleepPorts s))
    let s := basesHoldover s
    (wakeWatch (raise 0x0A03 0 [] (setDevState 3 { s with golden := none, flush := none, sweep := none })), m)

/-- NRG_POWER_CMD 2 at its commit point: refused in ACTIVE. -/
def dormantExitRefused (s : Sys) : Bool := s.devState != 2 && s.devState != 3
def dormantExit (s : Sys) : Sys :=
  if dormantExitRefused s ∨ s.nrg.pendingWake.isSome then s else wakeWatch (updNrg (fun n => { n with pendingWake := some 1 }) s)

/-- DORMANT_WAKE_TIME: the base named by NRG_WAKE_BASE has reached NRG_WAKE_TIME. -/
def wakeTimeEffect (s : Sys) : Sys :=
  let b := obj s 0x0420 6
  if bit (obj s 0x0420 4) 1 ∧ baseCounts s b ∧ timeUnits (obj s 0x0420 5) ≤ clock s b ∧ (s.devState = 2 ∨ s.devState = 3) ∧ s.nrg.pendingWake.isNone then
    updNrg (fun n => { n with pendingWake := some 2 }) s
  else s

/-- One decider's reload at step 5 of Table NRG-7: its run decides. -/
def wakeDecider (d : DecId) (failed : Bool) (s : Sys) : Sys :=
  let v := decider s d
  if v.st = .deposed ∨ v.st = .loading then s
  else
    let (s, ok) := loadRun d failed s
    let v := decider s d
    if !ok then depose d 3 s
    else syncStatic d (setDecider d { v.begin s.now with eligible := if v.st = .shadow then false else v.eligible } s)

/-- DORMANT_EXIT_READY: the device is ACTIVE. -/
def exitReadyEffect (failA failB : Bool) (s : Sys) : Sys :=
  if s.devState ≠ 4 then s
  else
    let s := wakeDecider .b failB (wakeDecider .a failA s)
    let s := updNrg (fun n => { n with bal := 0, first := true, next := none, surgeAt := none }) s
    raise 0x0A04 0 (u8b s.nrg.lastWake) (silenceAll (setDevState 1 s))

end Sys2Proof.Machine
end

