-- ==== Sys2Proof/Machine/Clamps.lean ====
section
/-! DEFINITION. Dependency clamps (R40): where the range of one object depends on another, what a commit stores in its place,
with the code and the governing object that the rule of each object names. -/

namespace Sys2Proof.Machine

/-- A value that a commit changes: where, to what, the code, and the governing object. -/
structure Clamp where
  ix : Nat
  sub : Nat
  row : Nat := 0
  col : Nat := 0
  v : Int
  code : Nat := 8
  gov : Nat × Nat
  deriving DecidableEq, Repr

/-- A clamp where the value is not already `v`. -/
def wants (s : Sys) (ix sub row col : Nat) (v : Int) (gov : Nat × Nat) (code : Nat := 8) : List Clamp :=
  if cellI s ix sub row col = v then [] else [{ ix := ix, sub := sub, row := row, col := col, v := v, code := code, gov := gov }]

/-- A clamp that keeps a number within 0 to `hi`. -/
def atMost (s : Sys) (ix sub row col : Nat) (hi : Nat) (gov : Nat × Nat) : List Clamp :=
  if hi < cell s ix sub row col then wants s ix sub row col hi gov else []

/-! ### Lanes and the Knaing link (R96 to R98, R108, R136, R342) -/

/-- The first lane whose multi-lane type covers lane `n`. -/
def memberOf (s : Sys) (n : Nat) : Option Nat :=
  [n / 2 * 2, n / 4 * 4].find? (fun f => f != n && laneType s f != 15 && decide (n < f + typeLanes (laneType s f)))

/-- Member lanes: those a type covers are Member, and no others. -/
def memberDeps (old s : Sys) (n : Nat) : List Clamp :=
  match memberOf s n with
  | some m => wants s (laneIx n) 1 0 0 15 (laneIx m, 1)
  | none => if laneType s n = 15 then wants s (laneIx n) 1 0 0 0 (laneIx (laneOwner old n), 1) else []

def laneFamily (s : Sys) (n : Nat) : Nat := obj s (laneIx (n / 8 * 8)) 0x0F

def familyFits (s : Sys) (n t : Nat) : Bool := match typeFamily t with | some f => f == laneFamily s n | none => true

/-- A type of another family: a written one keeps the old value, a stored one becomes Off (R97). -/
def familyDeps (old s : Sys) (n : Nat) : List Clamp :=
  let t := laneType s n
  let was := laneType old n
  if familyFits s n t then []
  else wants s (laneIx n) 1 0 0 (if was ≠ t ∧ familyFits s n was then was else 0 : Nat) (laneIx (n / 8 * 8), 0x0F)

/-- FEC that the type does not list (R98). -/
def fecDeps (old s : Sys) (n : Nat) : List Clamp :=
  let l := typeFec (laneType s n)
  let was := obj old (laneIx n) 2
  if l.contains (obj s (laneIx n) 2) then []
  else wants s (laneIx n) 2 0 0 (if laneType old n = laneType s n ∧ l.contains was then was else 0 : Nat) (laneIx n, 1)

/-- EEE_ENABLE and PREEMPT_ENABLE by port type. -/
def featureDeps (s : Sys) (n : Nat) : List Clamp :=
  let t := laneType s n
  (if typeEee t then [] else wants s (pix n 4) 1 0 0 0 (laneIx n, 1))
    ++ (if 1 ≤ t ∧ t ≤ 6 then [] else wants s (pix n 0x0E) 1 0 0 0 (laneIx n, 1))

/-- What a lane's objects ask of each other. A type of another family is settled first, and the rest goes by the type that stays. -/
def laneDeps (old s : Sys) (n sub : Nat) : List Clamp :=
  match sub with
  | 1 =>
    let family := familyDeps old s n
    if !family.isEmpty then family
    else (List.range 4).flatMap (fun i => memberDeps old s (n / 4 * 4 + i)) ++ fecDeps old s n ++ featureDeps s n
  | 2 => fecDeps old s n
  | 0x0F =>
    let k := kngPort s
    if k.any (fun f => f / 8 == n / 8) then wants s (laneIx n) 0x0F 0 0 2 (0x2800, 1)
    else (List.range 8).flatMap (fun i => familyDeps old s (n / 8 * 8 + i))
  | _ => []

/-- The Knaing group: its first lane and widths, its octet's family and lanes. -/
def kngDeps (old s : Sys) : List Clamp :=
  let w := obj s 0x2800 3
  let first := obj s 0x2800 2 / w * w
  let octet := first / 8 * 8
  let gov := (0x2800, 1)
  let release : List Clamp := match kngPort old with
    | some f =>
      if flag s 0x2800 1 ∧ octet = f / 8 * 8 then []
      else wants s (laneIx (f / 8 * 8)) 0x0F 0 0 1 gov ++ (List.range 8).flatMap (fun i => wants s (laneIx (f / 8 * 8 + i)) 1 0 0 0 gov)
    | none => []
  let place : List Clamp :=
    if flag s 0x2800 1 then
      wants s (laneIx octet) 0x0F 0 0 2 gov
        ++ (List.range 8).flatMap (fun i => wants s (laneIx (octet + i)) 1 0 0 (if first ≤ octet + i ∧ octet + i < first + w then 10 else 0) gov)
    else []
  wants s 0x2800 2 0 0 first (0x2800, 3) ++ atMost s 0x2800 4 0 0 w (0x2800, 3) ++ release ++ place

/-! ### Ports (R132, R135, R150) -/

def portDeps (old s : Sys) (p off sub : Nat) : List Clamp :=
  match off, sub with
  | 0, 2 => if isKng s p then wants s (pix p 0) 2 0 0 (objI old (pix p 0) 2) (0x2800, 1) else []
  | 4, 1 => featureDeps s p
  | 0x0E, 1 => featureDeps s p
  | 0x0D, k => if k = 4 ∨ k = 5 then atMost s (glIx p) 5 0 0 (obj s (glIx p) 4) (glIx p, 4) else []
  | o, 1 =>
    if (o = 3 ∨ o = 6) ∧ 64 ≤ p ∧ p ≤ 71 then
      (if obj s (pix p 3) 1 = 0 ∧ obj s (pix p 6) 1 ≠ 1 then wants s (pix p 3) 1 0 0 4 (pix p 6, 1) else [])
        ++ (if obj s (pix p 3) 1 ≠ 1 then wants s (pix p 3) 4 0 0 0 (pix p 3, 1) else [])
    else []
  | 3, 4 => if obj s (pix p 3) 1 ≠ 1 then wants s (pix p 3) 4 0 0 0 (pix p 3, 1) else []
  | _, _ => []

/-! ### Rule sets and indirection (R157, R175, R177, Table PAR-10) -/

/-- The greatest value that row `r` of IND_ENTRIES may hold. -/
def indLimit (s : Sys) (r : Nat) : Nat :=
  let tables := (s.dict.filterMap (fun e => if keyIx e.1 = 0x3800 ∧ keySub e.1 = 2 then some (keyRow e.1) else none)).dedup
  let covers (t : Nat) : Bool := decide (cell s 0x3800 2 t 0 ≤ r ∧ r < cell s 0x3800 2 t 0 + cell s 0x3800 2 t 1)
  let lim (u : Nat) : Nat := if u = 1 then 15 else if u = 2 then 255 else 8191
  ((tables.filter covers).map (fun t => lim (cell s 0x3800 2 t 2))).foldl min 8191

def indDeps (s : Sys) (sub row : Nat) : List Clamp :=
  match sub with
  | 2 =>
    let base := cell s 0x3800 2 row 0
    let stored := s.dict.filterMap (fun e => if keyIx e.1 = 0x3800 ∧ keySub e.1 = 3 then some (keyRow e.1) else none)
    let here := stored.filter (fun r => decide (base ≤ r ∧ r < base + cell s 0x3800 2 row 1))
    atMost s 0x3800 2 row 1 (65536 - base) (0x3800, 2) ++ here.flatMap (fun r => atMost s 0x3800 3 r 0 (indLimit s r) (0x3800, 2))
  | 3 => atMost s 0x3800 3 row 0 (indLimit s row) (0x3800, 2)
  | _ => []

/-! ### Tables of chapter 07 (R195, R211 to R215) -/

/-- Enabled rows of a table that show the same key as an enabled row below them are stored with enable false. -/
def duplicateDeps {κ : Type} [DecidableEq κ] (s : Sys) (ix sub row : Nat) (key : Nat → κ) : List Clamp :=
  if !cellB s ix sub row 0 then []
  else
    let same := (enabledRows s.dict ix sub).filter (fun r => key r == key row)
    let low := same.foldl min row
    (same.filter (fun r => decide (low < r))).flatMap (fun r => wants s ix sub r 0 0 (ix, sub))

def emmStaticDeps (s : Sys) (row : Nat) : List Clamp :=
  let c := cell s 0x4001 1
  let lim := match c row 4 with | 0 => 75 | 1 => 31 | 2 => 8191 | _ => 0
  duplicateDeps s 0x4001 1 row (fun r => (c r 1, c r 2, c r 3)) ++ atMost s 0x4001 1 row 6 lim (0x4001, 1)

def prefixDeps (s : Sys) (sub row : Nat) : List Clamp :=
  let c := cell s 0x4400 sub
  duplicateDeps s 0x4400 sub row (fun r => (c r 1, c r 2, c r 3)) ++ atMost s 0x4400 sub row 5 (if c row 4 = 0 then 16383 else 1023) (0x4400, sub)

def nextHopDeps (s : Sys) (row : Nat) : List Clamp :=
  let c := cell s 0x4900 1 row
  let lim := match c 0 with | 1 => if c 3 = 1 then 31 else 75 | 3 => 1023 | 4 => 8191 | _ => 65535
  atMost s 0x4900 1 row 5 lim (0x4900, 1)

/-- A member column of a LAG that names a port another row holds (R215). -/
def lagDeps (s : Sys) (row : Nat) : List Clamp :=
  let held (r p : Nat) : Bool := (List.range (cell s 0x4B00 1 r 0)).any (fun i => cell s 0x4B00 1 r (2 + i) == p)
  (List.range (cell s 0x4B00 1 row 0)).flatMap (fun i =>
    let p := cell s 0x4B00 1 row (2 + i)
    if p ≠ 0xFF ∧ (List.range 32).any (fun r => r != row && held r p) then wants s 0x4B00 1 row (2 + i) 0xFF (0x4B00, 1) else [])

/-! ### Egress, FRER, pools (R282, R322, R350, R352, Tables EGR-4, FRE-5, FAB-8) -/

/-- red_pct, and stream queues beyond a port's 1,024th. -/
def queueDeps (s : Sys) (row col : Nat) : List Clamp :=
  let over_ : List Clamp :=
    let p := cell s 0x5400 1 row 0
    if col ≠ 0 ∨ row < 608 ∨ p = 0xFF then []
    else
      let mine := (s.dict.filterMap (fun e =>
        if keyIx e.1 = 0x5400 ∧ keySub e.1 = 1 ∧ keyCol e.1 = 0 ∧ 608 ≤ keyRow e.1 ∧ e.2 = .num p then some (keyRow e.1) else none))
      (mine.drop 1024).flatMap (fun r => wants s 0x5400 1 r 0 0xFF (0x5400, 1))
  atMost s 0x5400 1 row 4 (cell s 0x5400 1 row 3) (0x5400, 1) ++ over_

/-- Pool thresholds in order, and buffer counts that fit DEEP_UNITS. -/
def poolDeps (s : Sys) (row : Nat) : List Clamp :=
  let c := cell s 0x0680 1 row
  let bp := max (c 2) (c 3)
  let n (k : Nat) : Nat := cell s 0x0680 1 k 0
  let most : Nat → Nat := fun k => if k = 0 then 16777216 else if k = 1 then 4194304 else 838860
  let (a, b, d) := (min (n 0) (most 0), min (n 1) (most 1), min (n 2) (most 2))
  let d' := min d ((Config.deepUnits - a - 4 * b) / 20)
  let b' := min b ((Config.deepUnits - a) / 4)
  wants s 0x0680 1 row 3 bp (0x0680, 1) ++ wants s 0x0680 1 row 4 (max bp (c 4) : Nat) (0x0680, 1)
    ++ wants s 0x0680 1 2 0 d' (0x0680, 1) ++ wants s 0x0680 1 1 0 b' (0x0680, 1) ++ wants s 0x0680 1 0 0 a (0x0680, 1)

/-! ### Time (R293, R297, R310, R311, R315, Tables TIM-2, TIM-12) -/

/-- Clock types of a profile (Table TIM-6). -/
def ptpTypes (profile : Nat) : List Nat := if profile = 1 then [0, 1, 2] else [0, 1]

def ptpDeps (s : Sys) (row : Nat) : List Clamp :=
  let c (r k : Nat) : Nat := cell s 0x0900 1 r k
  let gov := (0x0900, 1)
  let same (r : Nat) : Bool := c r 0 != 0 && c r 0 == c row 0 && c r 2 == c row 2 && c r 3 == c row 3
  if c row 0 = 0 then []
  else
    (if 3 ≤ c row 0 then wants s 0x0900 1 row 3 0 gov else [])
      ++ (if (ptpTypes (c row 0)).contains (c row 1) then [] else wants s 0x0900 1 row 1 0 gov)
      ++ (let l := (List.range 4).filter same
          (l.drop 1).flatMap (fun r => wants s 0x0900 1 r 0 0 gov))

def baseDeps (s : Sys) (b sub : Nat) : List Clamp :=
  if sub = 9 ∨ sub = 0x0A then
    let lim := ((obj s (tbIx b) 0x0A : Int) * 2 ^ 40) / 1000000
    wants s (tbIx b) 9 0 0 (max (-lim) (min lim (objI s (tbIx b) 9))) (tbIx b, 0x0A)
  else []

def pinDeps (s : Sys) (row : Nat) : List Clamp :=
  let c := cell s 0x0841 1 row
  (if c 0 = 4 ∧ c 1 = 4 then wants s 0x0841 1 row 1 0 (0x0841, 1) else [])
    ++ (if c 2 ≤ c 4 then wants s 0x0841 1 row 4 (c 2 - 1 : Nat) (0x0841, 1) else [])

/-- A scheduled action's time at most 86,400 s ahead, with code 2. -/
def actionDeps (s : Sys) (row : Nat) : List Clamp :=
  let c := cell s 0x0842 1 row
  let lim := clock s (c 1) + 86400 * secUnits
  if c 0 = 1 ∧ lim < timeUnits (c 2) then wants s 0x0842 1 row 2 (timeVal lim) (0, 0) 2 else []

/-! ### Monitors, memory, energy, recorder, mirrors -/

def warnDeps (s : Sys) (row : Nat) : List Clamp := atMost s 0x0480 2 row 0 (cell s 0x0480 3 row 0 - 5) (0x0480, 3)

def chiselDeps (s : Sys) : List Clamp := atMost s 0x0630 4 0 0 (Config.memBlocks - obj s 0x0630 3) (0x0630, 3)

def allowanceDeps (s : Sys) : List Clamp :=
  if obj s 0x0400 1 < s.nrg.plan.floor then wants s 0x0400 1 0 0 (floorStep s) (0x0400, 2) else []

def recSizeDeps (s : Sys) : List Clamp :=
  if obj s 0x7810 2 < recSizeMin s then wants s 0x7810 2 0 0 (recSizeMin s) (0x7820, 1) else []

def mirrorDeps (s : Sys) (row : Nat) : List Clamp :=
  let c := cell s 0x7800 1 row
  if c 10 = 2 ∧ 5 ≤ cell s 0x4C00 1 (c 12) 0 then wants s 0x7800 1 row 10 0 (0x7800, 1) else []

/-- What the touch of a field asks for. -/
def depsOf (old s : Sys) (ix sub row col : Nat) : List Clamp :=
  if 0x1000 ≤ ix ∧ ix < 0x1980 then portDeps old s ((ix - 0x1000) / 32) (ix % 32) sub
  else if 0x2000 ≤ ix ∧ ix < 0x2400 then laneDeps old s ((ix - 0x2000) / 16) sub
  else if 0x0800 ≤ ix ∧ ix < 0x0840 then baseDeps s ((ix - 0x0800) / 16) sub
  else match ix with
    | 0x0400 => if sub = 1 then allowanceDeps s else []
    | 0x0480 => if sub = 2 ∨ sub = 3 then warnDeps s row else []
    | 0x0630 => if sub = 3 ∨ sub = 4 then chiselDeps s else []
    | 0x0680 => if sub = 1 then poolDeps s row else []
    | 0x0841 => if sub = 1 then pinDeps s row else []
    | 0x0842 => if sub = 1 then actionDeps s row else []
    | 0x0900 => ptpDeps s row
    | 0x2800 => kngDeps old s
    | 0x3000 => if sub = 1 then atMost s 0x3000 1 row 13 (1024 - cell s 0x3000 1 row 12) (0x3000, 1) else []
    | 0x3400 => if sub = 1 then
        let m := cell s 0x3400 1 row 7
        atMost s 0x3400 1 row 8 (if m = 1 then 8191 else if m = 2 then 511 else 65535) (0x3400, 1) else []
    | 0x3800 => indDeps s sub row
    | 0x4001 => emmStaticDeps s row
    | 0x4400 => prefixDeps s sub row
    | 0x4900 => nextHopDeps s row
    | 0x4A00 => atMost s 0x4A00 1 row 2 (16384 - cell s 0x4A00 1 row 1) (0x4A00, 1)
    | 0x4B00 => lagDeps s row
    | 0x4C00 => (List.range 16).flatMap (mirrorDeps s)
    | 0x5400 => if sub = 1 then queueDeps s row col else []
    | 0x6100 => if sub = 1 then atMost s 0x6100 1 row 5 (16384 - cell s 0x6100 1 row 4) (0x6100, 1) else []
    | 0x6200 => if sub = 1 ∧ cell s 0x6200 1 row 0 = 1 ∧ cell s 0x6200 1 row 3 < cell s 0x6200 1 row 1 then
        wants s 0x6200 1 row 3 (cell s 0x6200 1 row 1) (0x6200, 1) else []
    | 0x6400 => if sub = 5 ∧ cell s 0x6400 5 row 15 < cell s 0x6400 5 row 14 then
        wants s 0x6400 5 row 15 (cell s 0x6400 5 row 14) (0x6400, 5) else []
    | 0x7800 => mirrorDeps s row
    | 0x7810 => if sub = 2 then recSizeDeps s else []
    | _ => []

/-- Apply clamps and what follows from them, `n` rounds deep: the state, and all clamps in order. -/
def clampRounds (old : Sys) : Nat → List (Nat × Nat × Nat × Nat) → Sys → Sys × List Clamp
  | 0, _, s => (s, [])
  | n + 1, touched, s =>
    let (s, now) := touched.foldl (fun (a : Sys × List Clamp) k =>
      let cs := depsOf old a.1 k.1 k.2.1 k.2.2.1 k.2.2.2
      (cs.foldl (fun s c => putCell s c.ix c.sub c.row c.col c.v) a.1, a.2 ++ cs)) (s, [])
    if now.isEmpty then (s, [])
    else
      let (s, later) := clampRounds old n (now.map (fun c => (c.ix, c.sub, c.row, c.col))) s
      (s, now ++ later)

end Sys2Proof.Machine
end

