-- ==== Sys2Proof/Machine/Flash.lean ====
section
/-! DEFINITION. The external flash: slots, headers, payload records, and the choice of what loads (R479 to R484, R488). -/

namespace Sys2Proof.Machine

def updFlash (f : Flash → Flash) (s : Sys) : Sys := { s with flash := f s.flash }

/-- Slots in the order FA, FB, CA, CB. -/
def slotNo : FlashSlot → Nat | .fa => 0 | .fb => 1 | .ca => 2 | .cb => 3
def slot (s : Sys) (i : Nat) : Slot := s.flash.slots.getD i {}
def setSlot (i : Nat) (v : Slot) (s : Sys) : Sys := updFlash (fun f => { f with slots := setAt f.slots i v }) s

/-- Magic and greatest payload of a slot (Table RST-7). -/
def slotMagic (i : Nat) : Nat := if i < 2 then 0x594C4657 else 0x594C4346
def slotRoom (i : Nat) : Nat := if i < 2 then 4194048 else 1048320

def Slot.sequence (v : Slot) : Nat := field v.header 8 4
def Slot.length (v : Slot) : Nat := field v.header 12 4
def Slot.version (v : Slot) : Nat := field v.header 20 4
def Slot.blank (v : Slot) : Bool := v.header.all (· == 0xFF)
def Slot.erased (v : Slot) : Bool := v.blank && v.payload.all (· == 0xFF)
def Slot.revoked (v : Slot) : Bool := decide (68 ≤ v.header.length) && field v.header 64 4 != 0xFFFFFFFF
def Slot.body (v : Slot) : List Byte := v.payload.take v.length

/-- Everything of R481 but the revocation. -/
def Slot.sound (v : Slot) (i : Nat) : Bool :=
  decide (68 ≤ v.header.length) && field v.header 0 4 == slotMagic i && field v.header 4 2 == 0x6416 && field v.header 6 2 == 1
    && crc32 (v.header.take 60) == field v.header 60 4 && decide (v.length ≤ slotRoom i) && decide (v.length ≤ v.payload.length)
    && crc32 v.body == field v.header 16 4

def Slot.valid (v : Slot) (i : Nat) : Bool := v.sound i && !v.revoked

/-- SLOT_STATUS: 0 blank, 1 valid, 2 invalid, 3 revoked. -/
def Slot.state (v : Slot) (i : Nat) : Nat := if v.blank then 0 else if v.valid i then 1 else if v.sound i then 3 else 2

/-- Of slots `i` and `i + 1` the valid one with the higher sequence (R483). -/
def newestOf (s : Sys) (i : Nat) : Option Nat :=
  match (slot s i).valid i, (slot s (i + 1)).valid (i + 1) with
  | true, true => some (if (slot s i).sequence < (slot s (i + 1)).sequence then i + 1 else i)
  | true, false => some i
  | false, true => some (i + 1)
  | false, false => none

/-- The sequence that follows the higher valid one of a pair. -/
def nextSequence (s : Sys) (i : Nat) : Nat := ((newestOf s i).map (fun k => (slot s k).sequence)).getD 0 + 1

/-- A header (Table RST-7): the fields in order, the checksum, and an erased revoke word. -/
def slotHeader (i seq : Nat) (payload : List Byte) (version records : Nat) (time base : Nat) : List Byte :=
  let h := u32b (slotMagic i) ++ u16b 0x6416 ++ u16b 1 ++ u32b seq ++ u32b payload.length ++ u32b (crc32 payload) ++ u32b version ++ u32b records
    ++ timeb time ++ u8b base ++ [0, 0, 0] ++ Config.serial
  h ++ u32b (crc32 h) ++ u32b 0xFFFFFFFF

/-- Program revoke to 0 (R486, R488). -/
def revokeSlot (i : Nat) (s : Sys) : Sys :=
  let v := slot s i
  setSlot i { v with header := if v.header.isEmpty then [] else v.header.take 64 ++ u32b 0 } s

/-! ### Payload records (R482) -/

/-- A record: index, subindex, type code, body. -/
structure FlashRec where
  ix : Nat
  sub : Nat
  ty : Nat
  body : List Byte

/-- The records of a payload, as far as they are whole. -/
def flashRecs : Nat → List Byte → List FlashRec
  | 0, _ => []
  | n + 1, b =>
    if b.length < 8 then []
    else
      let len := field b 4 4
      if b.length < 8 + len then []
      else { ix := field b 0 2, sub := byteAt b 2, ty := byteAt b 3, body := slice b 8 len } :: flashRecs n (b.drop (8 + (len + 3) / 4 * 4))

/-- The records of the configuration slot that loaded. -/
def loadedRecs (s : Sys) : List FlashRec :=
  if s.flash.loadedCfg = 0 then []
  else
    let b := (slot s (1 + s.flash.loadedCfg)).body
    flashRecs (b.length / 8 + 1) b

/-- One record as it goes into a payload. -/
def recBytes (ix sub ty : Nat) (body : List Byte) : List Byte :=
  u16b ix ++ u8b sub ++ u8b ty ++ u32b body.length ++ padRight ((body.length + 3) / 4 * 4) body

/-- REMAP_TABLE from the image (R395): rows of state, block and time. -/
def remapReload (s : Sys) : Sys :=
  let rows := (loadedRecs s).filter (fun r => r.ix == 0x0610 && r.sub == 1 && r.ty == 16)
  let put (m : SMap Spare) (r : FlashRec) : SMap Spare :=
    (List.range (field r.body 4 4)).foldl (fun m i =>
      let b := slice r.body (8 + 17 * i) 17
      let row := field r.body 0 4 + i
      if row < Config.memSpares ∧ b.length = 17 ∧ byteAt b 0 ≤ 2 then
        SMap.set {} m row { st := byteAt b 0, block := field b 1 4, since := timeUnits (field b 5 12) } else m) m
  updMem (fun m => { m with spares := rows.foldl put [] }) s

/-- The tables that hold flash-backed data in use: FLASH_STATUS's erase_busy (R484). -/
def eraseBusy (s : Sys) : Bool := !s.flash.erasing.isEmpty || decide (s.now < s.flash.readEnd)

/-- The interface has been used at the present instant (R411). -/
def useFlash (s : Sys) : Sys := updFlash (fun f => { f with used := s.now, stopped := false }) s

/-- Whether the interface is idle. -/
def flashIdle (s : Sys) : Bool := s.flash.store.isNone && s.flash.stage.isNone && !eraseBusy s

/-- FLASH_IDLE_STOP (R411): after 1 ms idle the clock stops. -/
def flashIdleEffect (s : Sys) : Sys :=
  if flashIdle s ∧ s.flash.present ∧ s.flash.used + Config.ticksPerMs ≤ s.now then updFlash (fun f => { f with stopped := true }) s else s

end Sys2Proof.Machine
end

