-- ==== Sys2Proof/Machine/Monitors.lean ====
section
/-! DEFINITION. Monitors and diagnostics: clocks, rails, temperature, margin, configuration, pins, stewards and the SRAM sweep
(R396, R423 to R446, R506). -/

namespace Sys2Proof.Machine

def updPlinth (f : Plinth → Plinth) (s : Sys) : Sys := { s with plinth := f s.plinth }

/-! ### Clocks (R434, R435, Table SAF-4) -/

/-- The frequency in kHz that a domain should have: its nominal one over its divider; none where it is not monitored. -/
def planKhz (s : Sys) (d : Nat) : Option Nat :=
  let c := s.nrg.form.clocks
  let t (k : Nat) : Nat := 2 ^ min 2 (bits s.nrg.form.tiles (2 * k + 1) (2 * k))
  match d with
  | 0 => some 33
  | 1 => some 100000
  | 2 => some 156250
  | 3 => some (if s.devState = 3 then 250000 else 1000000 / 2 ^ min 2 (c % 4))
  | 4 => some (1250000 / decDiv s)
  | 5 => some (1250000 / decDiv s)
  | 6 => some (1250000 / 2 ^ bits c 4 4)
  | 7 => some (625000 / t 0) -- DESIGN CHOICE (log entry 79): T0's divider stands for the domain
  | 8 => some (800000 / 2 ^ min 2 (bits c 3 2))
  | 9 => some (if bits s.nrg.form.hbm 7 6 = 0 then 800000 else 400000)
  | 10 => some (if bits s.nrg.form.hbm 5 4 = 0 then 800000 else 400000)
  | 19 => some 50000
  | 20 => some 125000
  | 21 => some 1250000
  | 22 => some 25000
  | 23 => some 104000
  | 24 => none
  | _ => if d ≤ 18 then some (Config.lanePllKhz ((List.range 8).map (fun i => laneType s (8 * (d - 11) + i)))) else none

/-- Domains whose stop is planned: what DORMANT stops (Table JNY-5), the clock of a deposed decider (R250), tiles' lanes that are
off, and an idle flash. -/
def plannedStop (s : Sys) (d : Nat) : Bool :=
  (d == 4 && s.decA.st == .deposed) || (d == 5 && s.decB.st == .deposed) || (s.devState == 3 && decide (4 ≤ d ∧ d ≤ 19)) || (d == 23 && (s.flash.stopped || s.devState == 3))
    || (decide (11 ≤ d ∧ d ≤ 18) && (List.range 8).all (fun i => (lane s (8 * (d - 11) + i)).power == .off))

/-- The reaction to a faulty domain. -/
def clockReaction (d : Nat) (s : Sys) : Sys :=
  match d with
  | 1 => plinthFault s
  | 2 => timeFallback (setCause 3 d allPorts s)
  | 3 => setCause 10 d 0 s
  | 4 => depose .a 5 s
  | 5 => depose .b 5 s
  | 19 => setCause 3 d (portRange 64 71) s
  | 20 => setCause 3 d (2 ^ 72) s
  | 21 => timeFallback (setCause 3 d allPorts s)
  | _ => if d = 0 ∨ d = 22 ∨ d = 23 then setCause 10 d 0 s
    else if 11 ≤ d then setCause 3 d (octetPorts (d - 11)) s
    else setCause 3 d allPorts s

/-- A domain is reported faulty: CLOCK_FAULT and its reaction. -/
def clockFault (d : Nat) (s : Sys) : Sys :=
  let v : ClockMon := SMap.get {} s.plinth.clocks d
  let s := updPlinth (fun p => { p with clocks := SMap.set {} p.clocks d { v with faulty := true } }) s
  if v.faulty then s else clockReaction d (raise 0x0308 3 (u8b d) s)

/-! ### The stewards (R445) -/

/-- All sessions end: their transactions and segmented writes with them. -/
def endSessions (s : Sys) : Sys :=
  let s := s.sessions.foldl (fun s v => abortTxn v.sid 5 s) s
  { s with sessions := [], orphans := [], rsWait := none }

/-- The Plinth halts and restarts all four stewards; the plan they had loaded is not used (R445, R404). -/
def restartStewards (s : Sys) : Sys :=
  if s.plinth.restart.isSome then s
  else basesHoldover (endSessions (updPlinth (fun p => { p with restart := some s.now })
    { s with sq := [], outbox := [], discovers := [], announce := none, nrg := { s.nrg with next := none } }))

/-- STEWARD_HEARTBEAT_MISS: before step 12 the firmware that loaded has failed (R476). -/
def stewardMissEffect (s : Sys) : Sys :=
  if s.devState = 0 then { s with boot := { s.boot with fwFailed := s.boot.fwFailed || decide (5 < s.devStep) } } else restartStewards s

/-- STEWARD_RESTART_DONE. -/
def stewardDoneEffect (s : Sys) : Sys :=
  match s.plinth.restart with
  | none => s
  | some _ => setCause 14 0 0 (bump Ctr.safStewardRestart (updPlinth (fun p => { p with restart := none }) s))

/-- A domain's count over a window, and the PLL's lock. AON, WATCH and REF have no PLL: the vote judges them (R434). -/
def clockWindowEffect (d khz : Nat) (locked : Bool) (s : Sys) : Sys :=
  match planKhz s d with
  | none => s
  | some want =>
    let v : ClockMon := SMap.get {} s.plinth.clocks d
    if d ≤ 2 then updPlinth (fun p => { p with clocks := SMap.upd {} p.clocks d (fun v => { v with khz := khz }) }) s
    else if plannedStop s d then updPlinth (fun p => { p with clocks := SMap.set {} p.clocks d { khz := khz, stopped := true } }) s
    else
      let off := !(decide (want * 95 ≤ khz * 100) && decide (khz * 100 ≤ want * 105))
      let bad := if off then v.bad + 1 else 0
      let s := updPlinth (fun p => { p with clocks := SMap.set {} p.clocks d { khz := khz, bad := bad, faulty := v.faulty && (off || !locked), stopped := false } }) s
      if 2 ≤ bad ∨ !locked then
        let s := clockFault d s
        if d = 3 then restartStewards s else s
      else s

/-- CLOCK_VOTE: readings of WATCH, REF and AON, each as a share of its planned frequency; the one that disagrees by more than
5 % with both others is faulty. -/
def clockVoteEffect (watch ref aon : Nat) (s : Sys) : Sys :=
  let far (a b : Nat) : Bool := decide (a * 105 < b * 100) || decide (b * 105 < a * 100)
  let odd (a b c : Nat) : Bool := far a b && far a c
  let calm (d : Nat) (bad : Bool) (s : Sys) : Sys :=
    if bad then clockFault d s
    else updPlinth (fun p => { p with clocks := SMap.upd {} p.clocks d (fun v => { v with faulty := v.faulty && decide (2 ≤ v.bad) }) }) s
  calm 0 (odd aon watch ref) (calm 2 (odd ref watch aon) (calm 1 (odd watch ref aon) s))

/-- REF_RECOVERY: REF has been within tolerance for 10 ms and TIME returns to it (R290). -/
def refRecoveryEffect (s : Sys) : Sys :=
  if s.fallback then updPlinth (fun p => { p with clocks := SMap.upd {} p.clocks 2 (fun v => { v with faulty := false, bad := 0 }) }) { s with fallback := false }
  else s

/-- AON_CRYSTAL_TIMEOUT: 2 s after the trigger AON is still on WATCH (R506), and stays faulty, since its vote starts with the switch
(Table RST-2). -/
def aonTimeoutEffect (s : Sys) : Sys :=
  if s.boot.trigger + 2 * Config.ticksPerS ≤ s.now ∧ 2 ≤ s.devStep + 12 * boolNat (s.devState != 0) then
    updPlinth (fun p => { p with clocks := SMap.upd {} p.clocks 0 (fun v => { v with bad := 2 }) }) (clockFault 0 s)
  else s

/-! ### Rails (R436, R437, Table SAF-5) -/

/-- Whether the voltage and temperature monitors have their clock, which a fault of MON takes from them (R435). -/
def monClocked (s : Sys) : Bool := !(SMap.get {} s.plinth.clocks 22 : ClockMon).faulty
def onMonClock (f : Sys → Sys) (s : Sys) : Sys := if monClocked s then f s else s

/-- Limits and silenced ports of a rail. -/
def railWindow (r : Nat) : Nat × Nat × Nat :=
  match r with
  | 0 => (752, 848, allPorts)
  | 1 => (705, 795, allPorts)
  | 2 => (799, 901, allPorts)
  | 3 => (846, 954, portRange 0 63 + 2 ^ 72)
  | 4 => (1128, 1272, portRange 0 63 + 2 ^ 72)
  | 5 => (1034, 1166, allPorts)
  | 6 => (376, 424, allPorts)
  | 7 => (1692, 1908, allPorts)
  | 8 => (3102, 3498, portRange 64 71)
  | _ => (1692, 1908, allPorts)

/-- A reading moves a monitor's present value and its extremes. -/
def Mon.read (v : Mon) (x : Int) : Mon :=
  { v with val := x, low := if v.seen then min v.low x else x, high := if v.seen then max v.high x else x, seen := true }

/-- VOLTAGE_EXCURSION: a reading that lasted. Between 0.5 µs and 1.5 µs the report is left open: a free value decides. -/
def voltageEffect (r mv ns : Nat) (s : Sys) : Sys :=
  let (lo, hi, ports) := railWindow r
  let out := decide (mv < lo ∨ hi < mv)
  let v := (SMap.get {} s.plinth.rails r : Mon).read mv
  let (x, s) := if out ∧ 500 ≤ ns ∧ ns < 1500 then free s else (0, s)
  let reported := out && (decide (1500 ≤ ns) || (decide (500 ≤ ns) && x % 2 == 1))
  let s := updPlinth (fun p => { p with rails := SMap.set {} p.rails r { v with faulty := reported || (out && v.faulty) } }) s
  if reported then setCause 4 r ports (raise 0x0309 3 (u8b r ++ u16b mv) s) else s

/-! ### Temperature and margin (R438, R439) -/

/-- Thresholds of a sensor in tenths of a degree: warning, fault. -/
def tempLimits (s : Sys) (i : Nat) : Int × Int :=
  let row := if i < 16 then 0 else 1
  (cellI s 0x0480 2 row 0 * 10, cellI s 0x0480 3 row 0 * 10)

/-- One sensor's sample. -/
def tempTurn (i : Nat) (x : Int) (s : Sys) : Sys :=
  let (warn, fault) := tempLimits s i
  let v := (SMap.get {} s.plinth.temps i : Mon).read x
  let v := { v with bad := if fault ≤ x then v.bad + 1 else 0, warn := if warn ≤ x then v.warn + 1 else 0, cool := if x + 50 ≤ warn then v.cool + 1 else 0,
                    faulty := decide (fault ≤ x + 50) }
  let s := updPlinth (fun p => { p with temps := SMap.set {} p.temps i v }) s
  let s := if v.bad = 2 then setCause 5 i allPorts (raise 0x030B 3 (u8b i ++ toBEInt 4 x) s) else s
  if v.warn = 2 then holdCause 16 i true (raise 0x030A 2 (u8b i ++ toBEInt 4 x) s) else s

/-- TEMP_SAMPLE: readings of sensors 0 to 17 in tenths of a degree. -/
def tempEffect (l : List Int) (s : Sys) : Sys :=
  let s := loop (fun i s => if i < l.length then tempTurn i (l.getD i 0) s else s) 0 18 s
  let calm := (List.range 18).all (fun i => decide (2 ≤ (SMap.get {} s.plinth.temps i : Mon).cool))
  if calm then holdCause 16 0 false s else s

/-- MARGIN_READ: readings of the six margin sensors in ps. -/
def marginTurn (i : Nat) (x : Nat) (s : Sys) : Sys :=
  let low := decide (x < obj s 0x0480 8)
  let v := (SMap.get {} s.plinth.margins i : Mon).read x
  let v := { v with bad := if low then v.bad + 1 else 0, faulty := low }
  let s := updPlinth (fun p => { p with margins := SMap.set {} p.margins i v }) s
  if v.bad = 2 then setCause 13 i 0 (bump Ctr.safMarginLow s) else s
def marginEffect (l : List Nat) (s : Sys) : Sys := loop (fun i s => if i < l.length then marginTurn i (l.getD i 0) s else s) 0 6 s

/-! ### The configuration check (R441 to R444) -/

/-- A mismatch: cause 12, its counter, and CONFIG_CRC_FAULT with the area. -/
def mismatch (area : Nat) (s : Sys) : Sys :=
  let s := updPlinth (fun p => { p with mismatches := p.mismatches + 1, lastArea := area }) s
  setCause 12 area 0 (raise 0x030C 3 (u16b area) (bump Ctr.safCrcMismatch s))

/-- What one finding starts: a reload, with the protected drop of R443 where nothing else compares. -/
def finding (m : Mismatch) (s : Sys) : Sys :=
  let solo := committing s.decA != committing s.decB
  let reload (i c : Nat) (prot : Bool) (s : Sys) : Sys := { s with reloads := s.reloads ++ [{ index := i, chunk := c, prot := prot }] }
  match m with
  | .rws _ => mismatch 0x0200 s
  | .tile i c => reload i c true (mismatch i s)
  | .chunk i c inA inB same =>
    let inA := inA && s.decA.running
    let inB := inB && s.decB.running
    if inA ∧ inB ∧ same then mismatch i s
    else if inA ∧ inB then reload i c true (mismatch i s)
    else if inA ∨ inB then
      let own := if inA then committing s.decA else committing s.decB
      reload i c (solo && own) (mismatch i s)
    else s

/-- CONFIG_CHECK_PASS; in DORMANT it covers only the RWS values (R415). -/
def configCheckEffect (l : List Mismatch) (s : Sys) : Sys :=
  let l := if s.devState = 3 then l.filter (fun m => match m with | .rws _ => true | _ => false) else l
  let s := l.foldl (fun s m => finding m s) (updMem (fun m => { m with checkWanted := false }) s)
  updPlinth (fun p => { p with passes := p.passes + 1, lastPass := dc s }) s

/-- CHUNK_RELOAD_DONE: the oldest reload ends. -/
def chunkReloadEffect (s : Sys) : Sys := { s with reloads := s.reloads.drop 1 }

/-! ### Pins and keep signals (R423 to R427) -/

/-- FAULT_PIN_READBACK: four mismatched reads of a pin in a row set cause 6. -/
def readbackEffect (aHigh bHigh : Bool) (s : Sys) : Sys :=
  let a := if aHigh = pinADriven s then s.plinth.aBad + 1 else 0
  let b := if bHigh = pinBDriven s then s.plinth.bBad + 1 else 0
  let s := updPlinth (fun p => { p with aBad := a, bBad := b, aRead := !aHigh, bRead := !bHigh }) s
  if (a = 4 ∨ b = 4) then setCause 6 0 0 s else s

/-- PLINTH_MISCOMPARE and PLINTH_ROM_CHECK. -/
def romCheckEffect (good : Bool) (s : Sys) : Sys := if good then s else plinthFault s

/-- KEEP_SIGNAL_TIMEOUT: tile 0 to 8, or 9 for the pin drivers. -/
def keepTimeoutEffect (u : Nat) (s : Sys) : Sys := silenceAll { s with keepLost := setBit s.keepLost u true }

/-- SAF_PIN_TEST: refused while a test runs; and its start. -/
def pinTestRefused (s : Sys) : Bool := match s.plinth.pinTest with | some (_, t) => decide (s.now < t) | none => false
def pinTest (onA : Bool) (s : Sys) : Sys := updPlinth (fun p => { p with pinTest := some (onA, s.now + 10 * Config.ticksPerMs) }) s

/-- PIN_TEST_END. -/
def pinTestEndEffect (s : Sys) : Sys :=
  match s.plinth.pinTest with
  | some (_, t) => if t ≤ s.now then updPlinth (fun p => { p with pinTest := none }) s else s
  | none => s

/-! ### Clearing causes (R430) -/

/-- Whether the condition of a cause still holds, so that a clear is refused. -/
def clearRefused (s : Sys) (n : Nat) : Bool :=
  let clocks (main : Bool) : Bool := s.plinth.clocks.any (fun e => e.2.faulty && !decide (e.1 = 1 ∨ e.1 = 4 ∨ e.1 = 5)
    && (main == decide (e.1 ≠ 0 ∧ e.1 ≠ 3 ∧ e.1 ≠ 22 ∧ e.1 ≠ 23)))
  match n with
  | 0 => true
  | 1 => committer s == 2
  | 3 => clocks true
  | 4 => s.plinth.rails.any (fun e => e.2.faulty)
  | 5 => s.plinth.temps.any (fun e => e.2.faulty)
  | 6 => decide (0 < s.plinth.aBad ∨ 0 < s.plinth.bBad)
  | 8 => decMode s != 0
  | 10 => clocks false
  | 12 => false
  | 13 => s.plinth.margins.any (fun e => e.2.faulty)
  | 14 => false
  | _ => true

/-- SAF_CLEAR at its commit point: the state, and whether a named bit is kept. -/
def safClear (mask : Nat) (s : Sys) : Sys × Bool :=
  let named := (List.range 32).filter (fun n => bit mask n && bit s.faults n)
  named.foldl (fun a n => if clearRefused a.1 n then (a.1, true) else (clearCause n a.1, a.2)) (s, false)

/-! ### The SRAM sweep (R396, Table MEM-6) -/

/-- A merge entry whose word is lost is flushed poisoned (R383). -/
def poisonEntry (e : MergeEntry) (x : SysMem) : SysMem :=
  let s := updMem (fun m => { m with merge := m.merge.filter (fun o => o.lba != e.lba) }) x.1
  let base := if touched s e.lba then (decodeAt e.lba [] (s, x.2)).data else List.replicate 512 0
  let x := storeBlock e.lba true (overlay e base) (bump Ctr.memMergePoison (bump Ctr.memMergeFlush s), x.2)
  candidate e.lba 1 (uncorrectable e.lba (ownerOf x.1 e.lba) 2 x.1, x.2)

/-- What an uncorrectable word of memory `k` causes. Where the manual does not say which record a word holds, a free value or
the word's number picks it (log entry 12). -/
def sramLost (k w : Nat) (x : SysMem) : SysMem :=
  match k with
  | 0 => onSys (fun s =>
      let ids := (s.xings.filterMap (·.2)).filterMap (fun y => if y.cells = 0 then none else some y.frame)
      let (v, s) := free s
      match ids[v % ids.length]? with
      | some id =>
        let s := bump Ctr.expCellErr (markBad id s)
        if (frame s id).ended then reap id (tailCopies id s) else s
      | none => s) x
  | 1 => onSys (fun s => loop (fun u s =>
      match bufferOfUnit s u with
      | some (p, b) => quarantine p b s
      | none => s) (8 * w) 8 s) x
  | 2 => onSys (fun s =>
      let ids := (allFrames s).filter (fun f => f.2.stage == .numbered || f.2.stage == .parsed)
      let (v, s) := free s
      match ids[v % ids.length]? with
      | some (id, _) => markBad id s
      | none => s) x
  | 3 => onSys (fun s =>
      let d : DecId := if w / 131072 % 2 = 0 then .a else .b
      syncStatic d (setDecider d ((decider s d).put (w % 131072) none) s)) x
  | 5 => onSys (fun s =>
      let n := w % Config.counterCount
      bump Ctr.cntLost (updMem (fun m => { m with lostLog := (match m.lostLog with | [] => 0 | l :: _ => (l.1 + 1) % 16, n, dc s) :: m.lostLog.take 15 }) { s with ctr := SMap.set 0 s.ctr n 0 })) x
  | 6 => if w < 16640 then
      (match x.1.mem.merge[w / 65]? with
      | some e => poisonEntry e x
      | none => x)
    else onSys (fun s =>
      let (v, s) := free s
      let n := s.frags.length + s.decA.learn.length + s.decB.learn.length
      let i := v % n
      let cut (d : DecId) (i : Nat) (s : Sys) : Sys :=
        setDecider d { decider s d with learn := (decider s d).learn.take i ++ (decider s d).learn.drop (i + 1) } s
      if n = 0 then s
      else if i < s.frags.length then { s with frags := s.frags.take i ++ s.frags.drop (i + 1) }
      else if i < s.frags.length + s.decA.learn.length then cut .a (i - s.frags.length) s
      else cut .b (i - s.frags.length - s.decA.learn.length) s) x
  | 7 => onSys restartStewards x
  | 8 => if w < 12288 then rebuildTouched w x
    else onSys (fun s =>
      let (v, s) := free s
      if v % 65 = 64 then remapReload s else updLane (v % 65) (fun l => { l with kept := [] }) s) x
  | 9 => onSys plinthFault x
  | _ => x

/-- SRAM_SWEEP: each word found is corrected or lost, and counted. The EMM has parity, which corrects nothing. -/
def sramSweepEffect (k : Nat) (hits : List SramHit) (x : SysMem) : SysMem :=
  hits.foldl (fun x h =>
    if h.correctable && k != 3 then onSys (bump (Ctr.memSramCorr k)) x
    else sramLost k h.word (onSys (bump (Ctr.memSramUncorr k)) x)) x

end Sys2Proof.Machine
end

