-- ==== Sys2Proof/Machine/Ptp.lean ====
section
/-! DEFINITION. The stewards' PTP engine and the draining of the time-stamp queues (R303 to R310). Message layouts are those of
IEEE 1588-2019 (log entry 30); what that standard decides and the manual does not reproduce is a free value (log entry 31). -/

namespace Sys2Proof.Machine

/-! ### Messages -/

/-- Where a PTP message starts in a frame, and its transport: layer 2, UDP/IPv4 or UDP/IPv6 (R308). -/
def ptpMessage (s : Sys) (p : Nat) (b : List Byte) : Nat × List Byte :=
  let off := 14 + 4 * (tagsOf s p b).length
  match etherOf s p b with
  | 0x0800 => (1, b.drop (off + 28))
  | 0x86DD => (2, b.drop (off + 48))
  | _ => (0, b.drop off)

/-- The instance that a steered message belongs to (R308). -/
def ptpInstanceOf (s : Sys) (p tr : Nat) (m : List Byte) : Option Nat :=
  findBelow 4 (fun i => ptpRow s i p && decide (cell s 0x0900 1 i 1 ≤ 1) && cell s 0x0900 1 i 3 == tr
    && cell s 0x0900 1 i 2 == byteAt m 4 && (cell s 0x0900 1 i 0 != 3 || byteAt m 0 / 16 == 1))

/-- The fixed length of a message type, behind which its TLVs stand. -/
def ptpFixed (t : Nat) : Nat := match t with | 2 => 54 | 3 => 54 | 9 => 54 | 0xA => 54 | 0xB => 64 | _ => 44

/-- How many TLVs of a message the device does not know (R307): it knows path trace, and under profile 3 the organization
extension of IEEE 802.1AS. -/
def unknownTlvs (profile : Nat) : Nat → List Byte → Nat
  | 0, _ => 0
  | n + 1, m =>
    if m.length < 4 then 0
    else
      let t := field m 0 2
      let known := t == 0x0008 || (t == 0x0003 && profile == 3)
      (if known then 0 else 1) + unknownTlvs profile n (m.drop (4 + field m 2 2))

/-- The path trace TLV of an Announce message: the clock identities in it (R307). -/
def pathTrace : Nat → List Byte → List Byte
  | 0, _ => []
  | n + 1, m =>
    if m.length < 4 then []
    else if field m 0 2 = 0x0008 then (m.drop 4).take (field m 2 2)
    else pathTrace n (m.drop (4 + field m 2 2))

/-- clockIdentity and portNumber of port `p` (R307). -/
def portIdentity (s : Sys) (p : Nat) : List Byte :=
  let m := toBE 6 (obj s 0x0300 2)
  m.take 3 ++ [0xFF, 0xFE] ++ m.drop 3 ++ u16b (p + 1)

/-- A PTP time-stamp of 10 bytes from a clock value. -/
def ptpTime (u : Nat) : List Byte := toBE 6 (u / secUnits) ++ toBE 4 (u % secUnits / nsUnits)

/-- A message of type `t` on port `p` for instance `i`. -/
def ptpBytes (s : Sys) (i p t seq logIvl : Nat) (body : List Byte) : List Byte :=
  let prof := cell s 0x0900 1 i 0
  let two := cellB s 0x0900 1 i 4 && (t == 0 || t == 3)
  u8b ((if prof = 3 then 16 else 0) + t) ++ u8b 0x12 ++ u16b (34 + body.length) ++ u8b (cell s 0x0900 1 i 2) ++ u8b 0
    ++ u16b (if two then 0x0200 else 0) ++ List.replicate 12 0 ++ portIdentity s p ++ u16b seq ++ u8b 0 ++ u8b logIvl ++ body

/-- The frame that carries a message: addresses, tag, and for UDP its headers. -/
def ptpFrame (s : Sys) (i t : Nat) (m : List Byte) : List Byte × Sys :=
  let peer := t == 2 || t == 3 || t == 0xA
  let event := decide (t ≤ 3)
  let src := toBE 6 (obj s 0x0300 2)
  let vid := cell s 0x0900 1 i 0x0A
  let (x, s') := free s
  let tag : List Byte := if vid = 0 then [] else u16b 0x8100 ++ u16b (x % 8 * 8192 + vid)
  let s := if vid = 0 then s else s'
  let dport := u16b (if event then 319 else 320)
  let ip := cell s 0x0900 1 i 9
  let udp := dport ++ dport ++ u16b (8 + m.length) ++ u16b 0
  let b := match cell s 0x0900 1 i 3 with
    | 1 =>
      let h (c : Nat) : List Byte := [0x45, 0] ++ u16b (28 + m.length) ++ [0, 0, 0, 0, 1, 17] ++ u16b c ++ toBE 4 ip
        ++ toBE 4 (if peer then 0xE000006B else 0xE0000181)
      toBE 6 (if peer then 0x01005E00006B else 0x01005E000181) ++ src ++ tag ++ u16b 0x0800 ++ h (ipChecksum (h 0)) ++ udp ++ m
    | 2 =>
      toBE 6 (if peer then 0x33330000006B else 0x333300000181) ++ src ++ tag ++ u16b 0x86DD ++ [0x60, 0, 0, 0] ++ u16b (8 + m.length)
        ++ [17, 1] ++ toBE 16 ip ++ toBE 16 (if peer then 0xFF02000000000000000000000000006B else 0xFF0E0000000000000000000000000181)
        ++ udp ++ m
    | _ => toBE 6 (if peer || cell s 0x0900 1 i 0 == 3 then 0x0180C200000E else 0x011B19000000) ++ src ++ tag ++ u16b 0x88F7 ++ m
  (b, s)

/-- Hand a message to the injection path, on the class queue of tx_tc (R308). -/
def ptpSend (i p t seq logIvl : Nat) (body : List Byte) (s : Sys) : Sys :=
  let (b, s) := ptpFrame s i t (ptpBytes s i p t seq logIvl body)
  sendSteward p (cell s 0x0910 1 (73 * i + p) 6) b s

/-! ### Port states -/

/-- The states a port may take: without TB_SOURCE 1 only those of R306, and with master_only (Table TIM-9) never UNCALIBRATED or SLAVE. -/
def ptpStates (s : Sys) (i p : Nat) : List Nat :=
  if obj s (tbIx i) 2 ≠ 1 then [2, 3, 4, 5, 6, 7]
  else if cellB s 0x0910 1 (73 * i + p) 7 then [1, 2, 3, 4, 5, 6, 7] else [1, 2, 3, 4, 5, 6, 7, 8, 9]

/-- The state that the best master clock algorithm of IEEE 1588 gives a port, and what follows from it. -/
def ptpDecide (i p : Nat) (announce : Option (List Byte)) (s : Sys) : Sys :=
  let (x, s) := free s
  let l := ptpStates s i p
  let st := l.getD (x % l.length) 4
  let s := updPtpPort i p (fun q => { q with state := st }) s
  let s := match announce with
    | some m =>
      if st = 8 ∨ st = 9 then
        let gm := slice m 53 8
        let moved := decide ((ptpInst s i).gm ≠ gm)
        let s := updPtpInst i (fun v => { v with gm := gm, steps := field m 61 2 + 1, slave := p, parent := padRight 17 (slice m 47 17),
                                                 path := pathTrace 64 (m.drop 64) }) s
        if moved then raise 0x0704 0 (u8b i ++ padRight 8 gm) s else s
      else s
    | none => s
  let s := if (8 ≤ st) = false ∧ (ptpInst s i).slave = p then updPtpInst i (fun v => { v with slave := 0xFF }) s else s
  inputWatch i s

/-! ### Reception -/

/-- One message of instance `i` from port `p`. -/
def ptpReceive (i p : Nat) (m : List Byte) (rx : Nat) (s : Sys) : Sys :=
  let t := byteAt m 0 % 16
  let s := if t = 0xD then s else bumpBy (Ctr.ptpUnsupportedMsg i) (unknownTlvs (cell s 0x0900 1 i 0) 64 (m.drop (ptpFixed t))) s
  let c := cell s 0x0910 1 (73 * i + p)
  match t with
  | 0xD => bump (Ctr.ptpUnsupportedMsg i) s
  | 0xB => ptpDecide i p (some m) (updPtpPort i p (fun q => { q with announceAt := s.now }) s)
  | 1 =>
    if cell s 0x0900 1 i 0 = 1 ∧ (ptpPort s i p).state = 6 then
      ptpSend i p 9 (field m 30 2) (c 3) (ptpTime rx ++ slice m 20 10) s
    else s
  | 2 =>
    if cell s 0x0900 1 i 0 = 1 then s
    else
      let s := updPtpPort i p (fun q => { q with req := slice m 20 12 }) s
      ptpSend i p 3 (field m 30 2) 0x7F (ptpTime rx ++ slice m 20 10) s
  | 8 => let (x, s) := free s; updPtpInst i (fun v => { v with ratio := sInt 64 x }) s
  | 9 => let (x, s) := free s; updPtpInst i (fun v => { v with delay := sInt 64 x }) s
  | 3 | 0xA =>
    let (x, s) := free s
    let (y, s) := free s
    let (z, s) := free s
    updPtpPort i p (fun q => { q with delay := sInt 64 x, ratio := sInt 64 y, capable := z % 2 == 1 }) s
  | _ => s

/-- The messages of the second of DC under way (R307, log entry 87). -/
def PtpRate.turn (w : PtpRate) (s : Sys) : PtpRate := if w.sec = dc s / secUnits then w else { sec := dc s / secUnits, count := 0 }

/-- PTP_MESSAGE_RX: the front of SQ1, at most 30,000 a second (R307, R308). -/
def ptpRxEffect (s : Sys) : Sys :=
  let w := s.ptpIn.turn s
  match if w.count < 30000 then takeSq 1 s else none with
  | none => s
  | some (f, s) =>
    let s := { s with ptpIn := { w with count := w.count + 1 } }
    let (tr, m) := ptpMessage s f.port f.bytes
    match ptpInstanceOf s f.port tr m with
    | none => bump Ctr.ptpNoInstance s
    | some i =>
      let t := s.dcZero + (rxStamp s f) * 5 / 262144
      ptpReceive i f.port m (clockAt s i t) s

/-! ### Sending -/

/-- The interval of a message type in ticks: 2^log s. -/
def logTicks (k : Int) : Nat := if k < 0 then Config.ticksPerS / 2 ^ k.natAbs else Config.ticksPerS * 2 ^ k.natAbs

/-- Whether a port of an instance sends messages of a type: Sync and Announce from a master, delay requests by profile (R307). -/
def ptpMaySend (s : Sys) (i p t : Nat) : Bool :=
  let prof := cell s 0x0900 1 i 0
  let st := (ptpPort s i p).state
  let may : Bool := match t with
    | 0 => st == 6
    | 0xB => st == 6
    | 1 => prof == 1 && (st == 8 || st == 9)
    | 2 => prof != 1
    | _ => false
  ptpRow s i p && decide (cell s 0x0900 1 i 1 ≤ 1) && may && s.devState == 1

/-- The body of an Announce message: the instance's own data set, or that of the grandmaster that a slave port follows, one step further;
profile 3 adds the path trace TLV (R307). -/
def announceBody (s : Sys) (i p : Nat) : List Byte :=
  let r := cell s 0x0900 1 i
  let v := ptpInst s i
  let own := (portIdentity s p).take 8
  let slaved := (List.range 73).any (fun q => 8 ≤ (ptpPort s i q).state)
  let fields : List Byte := if slaved then v.parent.take 14 ++ u16b v.steps ++ v.parent.drop 16
    else u8b (r 5) ++ u8b (r 7) ++ u8b (r 8) ++ u16b 0xFFFF ++ u8b (r 6) ++ own ++ u16b 0 ++ u8b 0xA0
  let path := (if slaved then v.path else []) ++ own
  ptpTime (clock s i) ++ [0, 0, 0] ++ fields ++ (if r 0 = 3 then u16b 0x0008 ++ u16b path.length ++ path else [])

/-- Send the next message of a type; one that is late counts (R307). -/
def ptpSendNext (i p t : Nat) (s : Sys) : Sys :=
  let col := match t with | 0xB => 1 | 0 => 2 | _ => 3
  let k := cellI s 0x0910 1 (73 * i + p) col
  let ivl := logTicks k
  let q := ptpPort s i p
  let seq := SMap.get 0 q.seq t
  let last := SMap.get 0 q.sentAt t
  let s := bumpIf (decide (last ≠ 0) && decide (last + ivl + ivl / 4 < s.now)) (Ctr.ptpTxLate i) s
  let s := updPtpPort i p (fun q => { q with seq := SMap.set 0 q.seq t ((seq + 1) % 65536), sentAt := SMap.set 0 q.sentAt t s.now }) s
  let body : List Byte := match t with
    | 0xB => announceBody s i p
    | 2 => ptpTime (clock s i) ++ List.replicate 10 0
    | _ => ptpTime (clock s i)
  ptpSend i p t seq (k % 256).toNat body s

/-- PTP_MESSAGE_TX (R307): at most 30,000 messages a second leave. -/
def ptpTxEffect (i p t : Nat) (s : Sys) : Sys :=
  let w := s.ptpOut.turn s
  if ptpMaySend s i p t ∧ w.count < 30000 then ptpSendNext i p t { s with ptpOut := { w with count := w.count + 1 } } else s

/-- ANNOUNCE_RECEIPT_TIMEOUT (R306). -/
def announceTimeoutEffect (i p : Nat) (s : Sys) : Sys :=
  let c := cell s 0x0910 1 (73 * i + p)
  let q := ptpPort s i p
  if ptpRow s i p ∧ (q.state = 4 ∨ q.state = 7 ∨ q.state = 8 ∨ q.state = 9)
      ∧ q.announceAt + c 4 * logTicks (cellI s 0x0910 1 (73 * i + p) 1) ≤ s.now then ptpDecide i p none s
  else s

/-! ### The time-stamp queue -/

/-- A steward's own stamp reaches the engine: the follow-up of a two-step Sync or Pdelay_Resp is sent. -/
def ptpStamp (p : Nat) (e : TsEntry) (s : Sys) : Sys :=
  if e.gap then s
  else
    let at_ (i : Nat) : Nat := clockAt s i (s.dcZero + e.time * 5 / 262144)
    if e.msg = 0 then
      match findBelow 4 (fun i => ptpRow s i p && cellB s 0x0900 1 i 4 && SMap.get 0 (ptpPort s i p).seq 0 == (e.seq + 1) % 65536) with
      | some i => ptpSend i p 8 e.seq (cellI s 0x0910 1 (73 * i + p) 2 % 256).toNat (ptpTime (at_ i)) s
      | none => s
    else if e.msg = 3 then
      match findBelow 4 (fun i => ptpRow s i p && cellB s 0x0900 1 i 4 && field (ptpPort s i p).req 10 2 == e.seq) with
      | some i => ptpSend i p 0xA e.seq 0x7F (ptpTime (at_ i) ++ (ptpPort s i p).req.take 10) s
      | none => s
    else s

/-- One entry to TS_LOG, a ring of 1,024 (R305). -/
def tsLogEntry (p : Nat) (e : TsEntry) (s : Sys) : Sys :=
  let n := s.tsLogSeq + 1
  let s := bumpIf (decide (1024 < n) && decide (obj s 0x0920 3 < n - 1024)) Ctr.tsLogLost s
  { s with tsLogSeq := n, tsLog := (n, p, e) :: s.tsLog.take 1023 }

/-- TS_QUEUE_DRAIN (R305): entries go to their owners in order. -/
def tsDrainEffect (p : Nat) (s : Sys) : Sys :=
  let l := (port s p).tsq
  l.foldl (fun s e => if e.log then tsLogEntry p e s else ptpStamp p e s) (updPort p (fun q => { q with tsq := [] }) s)

end Sys2Proof.Machine
end

