-- ==== Sys2Proof/Machine/Qzd.lean ====
section
/-! DEFINITION. The Quizer description file that the device serves at 0x0100:09 (R62, R63): the objects' names, as the object tables
give them, and the file. -/

namespace Sys2Proof.Machine

/-! ### Names -/

/-- Names of the objects of a port block, by offset (subindexes from 1). -/
def portNames (off : Nat) : List String :=
  match off with
  | 0x00 => ["ADMIN", "MAX_FRAME", "TPID_S", "TPID_X", "PORT_STATUS", "LINK_SPEED"]
  | 0x02 => ["FC_RX", "FC_RX_CLASSES", "FC_TX", "FC_QUANTA", "FC_REFRESH"]
  | 0x03 => ["SVC_MODE", "ATTEMPT_LIMIT", "IPG", "PLCA_ENABLE", "PLCA_NODE_ID", "PLCA_NODE_COUNT", "PLCA_TO_TIMER", 
      "PLCA_BURST_COUNT", "PLCA_BURST_TIMER", "PLCA_STATUS"]
  | 0x04 => ["EEE_ENABLE", "EEE_IDLE", "EEE_TW"]
  | 0x05 => ["HOLD_TIME", "LINK_STATE", "LAST_CHANGE", "HELD_FRAMES"]
  | 0x06 => ["PHY_MODE", "PHY_ADDR", "PHY_POLL", "MDIO_CMD", "MDIO_RESULT"]
  | 0x08 => ["CLS_TRUST", "CLS_DEFAULT_TC", "CLS_PCP_MAP", "CLS_DSCP_MAP", "CLS_DEI_YELLOW"]
  | 0x09 => ["PVID", "ACCEPT", "INGRESS_FILTER", "LEARN"]
  | 0x0A => ["CUT_THROUGH", "FAB_BP_STATE"]
  | 0x0B => ["TS_RX_COMP", "TS_TX_COMP", "TS_TX_LOG"]
  | 0x0C => ["SCHED_CLASSES", "CBS_STATUS"]
  | 0x0D => ["GL_ENABLE", "GL_BASE", "GL_BASE_TIME", "GL_CYCLE", "GL_CYCLE_EXT", "GL_FALLBACK", "GL_ADMIN_LEN", 
      "GL_ADMIN", "GL_OPER_LEN", "GL_OPER", "GL_STATUS"]
  | 0x0E => ["PREEMPT_ENABLE", "PREEMPT_CLASSES", "PREEMPT_VERIFY", "PREEMPT_VERIFY_TIME", "PREEMPT_ADD_FRAG", 
      "PREEMPT_HOLD_ADVANCE", "PREEMPT_STATUS"]
  | _ => []

/-- Names of the objects of a lane. -/
def laneNames : List String :=
  ["PORT_TYPE", "FEC", "TX_EQ", "TX_EQ_ACTIVE", "TRAINING", "POLARITY", "RX_ADAPT", "RX_EYE", "LOOPBACK", "PRBS_TX", 
   "PRBS_RX", "PRBS_LOCK", "STATE_LIMIT", "LANE_STATUS", "OCTET_FAMILY"]

/-- Names of the objects of a time base. -/
def baseNames : List String :=
  ["TB_ENABLE", "TB_SOURCE", "TB_TIME", "TB_STATE", "TB_SOURCE_ACTIVE", "TB_RATE", "TB_OFFSET", "TB_STEP_TO", 
   "TB_RATE_SET", "TB_RATE_LIMIT", "TB_LOCK_THRESH", "TB_INPUT_TIMEOUT", "TB_SERVO", "TB_RESTEP", "TB_STEPS"]

/-- Names of the objects of the control areas, below 0x1000. -/
def controlNames (ix : Nat) : List String :=
  match ix with
  | 0x0100 => ["VENDOR", "PRODUCT_CODE", "PART", "STEPPING", "SERIAL", "FW_VERSION", "DICT_VERSION", "QZD_CRC", 
      "QZD_FILE"]
  | 0x0110 => ["DEV_STATE", "DEV_STEP", "DEV_RESET", "FW_STAGE", "FW_STAGE_STATE"]
  | 0x0120 => ["BOOT_REPORT", "BOOT_STEPS"]
  | 0x0121 => ["FLASH_STATUS", "SLOT_STATUS"]
  | 0x0200 => ["DIC_VERSION", "GENERATION", "TXN_OPEN", "TXN_ID", "TXN_STATE", "TXN_ARM", "TXN_COMMIT", 
      "TXN_COMMIT_TIME", "TXN_COMMIT_BASE", "TXN_RESULT_GEN", "TXN_LATENESS", "TXN_FLAGS", "TXN_TIMEOUT", 
      "SAFETY_CRC", "STORE", "STORE_STATE", "PENDING_COMMITS"]
  | 0x0210 => ["CLAMP_COUNT", "CLAMP_LATEST", "CLAMP_ENTRIES", "CLAMP_ACK"]
  | 0x0220 => ["SNAP_SLOTS", "SNAP_REQ", "SNAP_TIME", "SNAP_BASE", "SNAP_SLOT", "SNAP_STATUS"]
  | 0x0300 => ["GMP_ETHERTYPE", "GMP_MAC", "GMP_PORTS", "GMP_VID", "SESSION_IDLE", "SESSIONS_OPEN", 
      "DISCOVER_SPREAD", "EVENT_RETRY", "KEYS", "AUTH_ACTIVE", "SESSIONS", "EVENT_LOG", "BOOT_COUNT"]
  | 0x0400 => ["NRG_ALLOWANCE", "NRG_FLOOR", "NRG_FLOOR_PARTS", "NRG_EFFECTIVE", "NRG_BALANCE", "NRG_BURST", 
      "NRG_CAL", "NRG_AUTO", "NRG_TRADE_LIMIT", "NRG_HEADROOM", "NRG_RESTORE_MARGIN", "NRG_GUARD", "NRG_LOOKAHEAD"]
  | 0x0410 => ["MQ_PLAN", "MQ_NEXT", "MQ_WAKES", "NRG_HISTORY"]
  | 0x0420 => ["NRG_POWER_CMD", "NRG_DORMANT_PERMIT", "NRG_DRAIN", "NRG_WAKE_SOURCES", "NRG_WAKE_TIME", 
      "NRG_WAKE_BASE", "NRG_WAKE_PINS", "NRG_LAST_WAKE"]
  | 0x0480 => ["MON_TEMP", "TEMP_WARN", "TEMP_FAULT", "MON_RAILS", "RAIL_LIMITS", "MON_CLOCKS", "MON_MARGIN", 
      "MARGIN_THRESH", "PROCESS_CODE"]
  | 0x0500 => ["DEC_CLAIM_CFG_A", "DEC_CLAIM_CFG_B", "DEC_PREFER", "DEC_PROT_SOLO", "DEC_SHADOW_PROTECT", 
      "DEC_UNRESOLVED_LIMIT", "DEC_SHADOW_CLEAN", "DEC_READMIT", "DEC_RAISE", "DEC_CLAIM_A", "DEC_CLAIM_B", 
      "DEC_STATE", "DEC_COMMITTER", "DEC_MODE", "DEC_UNRESOLVED_CLEAR"]
  | 0x0510 => ["DEC_FAULT_LOG", "DEC_FAULT_LATEST"]
  | 0x0520 => ["DEC_GOLDEN_SET", "DEC_GOLDEN_STATUS"]
  | 0x0530 => ["DEC_SKEW_SWEEP", "DEC_SKEW_THRESHOLD", "DEC_SKEW_SUMMARY", "DEC_SKEW_SAMPLES"]
  | 0x0540 => ["SAF_PROTECTED", "SAF_MGMT_EXEMPT", "SAF_FAULTS", "SAF_CLEAR", "SAF_SILENT_PROT", "SAF_SILENT_FULL", 
      "SAF_FAULT_LOG", "SAF_FAULT_LATEST", "SAF_PINS", "SAF_PIN_TEST", "SAF_CHECK_STATUS"]
  | 0x0600 => ["MEM_BLOCKS", "MEM_WINDOWS", "MEM_DIE_STATE", "MEM_DIE_FAIL_THRESH", "MEM_DIE_CMD", "MEM_POISON_LOG", 
      "MEM_POISON_LATEST"]
  | 0x0610 => ["REMAP_TABLE", "REMAP_AUTO", "REMAP_CMD", "REMAP_CANDIDATES"]
  | 0x0620 => ["MERGE_WINDOW", "MERGE_USED"]
  | 0x0630 => ["CHISEL_PERIOD", "CHISEL_RATE", "CHISEL_FIRST", "CHISEL_COUNT", "CHISEL_CMD", "CHISEL_STATE", 
      "CHISEL_SUMMARY", "CHISEL_LATEST"]
  | 0x0640 => ["RTB_TOUCHED", "RTB_BITS"]
  | 0x0680 => ["POOL_CFG", "POOL_STATUS", "FAB_BP_MIN", "POOL_REBUILD", "DEEP_UNITS"]
  | 0x0840 => ["DC_TIME"]
  | 0x0841 => ["TIO_CFG", "TIO_EVENTS", "TIO_EVENT_ACK"]
  | 0x0842 => ["ACTIONS", "ACTION_STATUS"]
  | 0x0900 => ["PTP_INSTANCES"]
  | 0x0901 => ["PTP_INSTANCE_STATUS"]
  | 0x0910 => ["PTP_PORTS"]
  | 0x0911 => ["PTP_PORT_STATUS"]
  | 0x0920 => ["TS_LOG", "TS_LOG_LATEST", "TS_LOG_ACK"]
  | _ => []

/-- Names of the objects of the tables and the areas behind them. -/
def tableNames (ix : Nat) : List String :=
  match ix with
  | 0x2800 => ["KNG_ENABLE", "KNG_FIRST_LANE", "KNG_WIDTH_MAX", "KNG_WIDTH_MIN", "KNG_AUTO_WIDTH", "KNG_TX_WIDTH", 
      "KNG_RX_WIDTH", "KNG_STATE", "KNG_PEER_SERIAL", "KNG_REDUCE_LOAD", "KNG_RAISE_LOAD", "KNG_TB_FOLLOW", 
      "KNG_TB_PHASE"]
  | 0x3000 => ["NODES", "TRANSITIONS", "PARSE_DEPTH", "PARSE_BYTES"]
  | 0x3100 => ["FRAG_ENABLE", "FRAG_TIMEOUT", "FRAG_ACTIVE"]
  | 0x3400 => ["RULES", "RS_INNER", "RS_GEN", "RS_OLDEST", "RS_PINNED", "RS_LAST_DELAY"]
  | 0x3800 => ["HASH_PROFILES", "IND_DIR", "IND_ENTRIES"]
  | 0x4000 => ["SETTLE_WINDOW", "AGE_TIME", "FLAP_HOLD", "EMM_USED", "PFX_EXP_USED"]
  | 0x4001 => ["EMM_STATIC"]
  | 0x4002 => ["EMM_A", "EMM_B", "EMM_COMMITTED", "EMM_FIND"]
  | 0x4003 => ["EMM_FLUSH"]
  | 0x4010 => ["VLANS"]
  | 0x4020 => ["ROUTER_MAC"]
  | 0x4400 => ["PFX4", "PFX6"]
  | 0x4800 => ["MC_GROUPS"]
  | 0x4900 => ["NEXT_HOPS"]
  | 0x4A00 => ["ECMP_GROUPS"]
  | 0x4B00 => ["LAGS"]
  | 0x4C00 => ["TUNNELS"]
  | 0x5000 => ["FAB_CLASS_PATH", "FAB_EXP_QLIMIT", "FAB_EXP_SHARED_PCT", "FAB_EXP_RESERVE", "FAB_CT_START", 
      "FAB_EXP_USED"]
  | 0x5010 => ["FAB_QUEUE_PATH"]
  | 0x5400 => ["QUEUES", "QUEUE_STATUS"]
  | 0x5800 => ["CREDIT_TICK"]
  | 0x5C00 => ["GL_RUNNING"]
  | 0x6000 => ["STREAM_FILTERS", "SF_STATUS", "SF_UNBLOCK"]
  | 0x6100 => ["STREAM_GATES", "SG_ENTRIES", "SG_STATUS", "SG_CLEAR"]
  | 0x6200 => ["METERS", "METER_STATUS", "METER_CLEAR_RED"]
  | 0x6400 => ["FRER_STREAMS", "FRER_GEN", "FRER_GEN_STATUS", "FRER_GEN_RESET", "FRER_RCVY", "FRER_RCVY_STATUS", 
      "FRER_RCVY_RESET"]
  | 0x7000 => ["COUNTERS", "COUNTER_COUNT", "COUNTER_GROUPS", "COUNTER_LOST_LOG"]
  | 0x7010 => ["SNAP_VALUES", "SNAP_VALUES", "SNAP_VALUES", "SNAP_VALUES"]
  | 0x7400 => ["SAMPLE_SEL", "SAMPLES", "SAMPLE_LATEST", "SAMPLE_ACK", "SAMPLE_SEL_STATUS"]
  | 0x7800 => ["MIRRORS"]
  | 0x7810 => ["REC_ENABLE", "REC_SIZE", "REC_RX_PORTS", "REC_TX_PORTS", "REC_CLASSES", "REC_DROPS", "REC_SNAPLEN", 
      "REC_BASE", "REC_PRE", "REC_POST", "REC_TRIGGER_SRC", "REC_FAULT_MASK", "REC_TRIGGER_PINS", "REC_TRIGGER", 
      "REC_TRIGGER_TIME", "REC_SNAP_ON_TRIGGER", "REC_STATUS"]
  | 0x7820 => ["CAST_STATUS", "CAST_CMD", "CAST_REPLAY_CFG", "CAST_EXPORT_SEL", "CAST_EXPORT", "CAST_EXPORT_STATE"]
  | _ => []

/-- Names of the objects of the ports 72, 73 and 75 alone. -/
def ownNames (ix : Nat) : List String :=
  match ix with
  | 0x1907 => ["MGMT_MODE", "MGMT_AN"]
  | 0x1927 => ["HOST_EXIT", "HOST_ETHERTYPE", "HOST_RATE", "HOST_MAC"]
  | 0x1967 => ["RECIRC_LIMIT"]
  | _ => []

/-- The name of an object; empty where the tables give none. -/
def objName (ix sub : Nat) : String :=
  let l := if 0x0800 ≤ ix ∧ ix < 0x0840 then baseNames
    else if ix < 0x1000 then controlNames ix
    else if ix < 0x1980 then (if (ownNames ix).isEmpty then portNames (ix % 32) else ownNames ix)
    else if ix < 0x2400 then laneNames
    else tableNames ix
  if sub = 0 then "" else l.getD (sub - 1) ""

/-! ### The file (R62) -/

/-- A line of words. -/
def qzdLine (words : List (List Byte)) : List Byte :=
  (match words with | [] => [] | w :: l => w ++ (l.map (fun x => [32] ++ x)).flatten) ++ [10]

/-- The last `n` upper-case hex digits of a number. -/
def hexDigits (n v : Nat) : List Byte :=
  ((List.range n).map (fun i => v / 16 ^ (n - 1 - i) % 16)).map (fun d => BitVec.ofNat 8 (if d < 10 then 48 + d else 55 + d))

def hexNum (n v : Nat) : List Byte := ascii "0x" ++ hexDigits n v
def decNum (v : Nat) : List Byte := ascii (toString v)

/-- The names of the types, the access rights and the classes (Tables DIC-1 and DIC-2, R34). -/
def typeName (o : Obj) : String :=
  if o.rows.isSome then "TABLE"
  else ([ "BOOL", "U8", "U16", "U32", "U64", "I32", "I64", "TIME", "MAC", "IPV4", "IPV6", "STRING", "OCTETS", "PORTSET", "ENUM8"] : List String).getD
    (((o.cols.head?.map (fun f => f.ty.code)).getD 1) - 1) "OCTETS"
def accessName : Access → String
  | .ro => "RO" | .rw => "RW" | .wo => "WO" | .rws => "RWS" | .const => "CONST"
def className : Cls → String
  | .p => "P" | .k => "K" | .v => "V" | .s => "S"

/-- The record of one object. Its identity, type, access, class, whether sessions hold it (`held`), its rows and the numbers of its
columns are the dictionary's; the lines between, which the release words, are open (log entry 4). -/
def qzdRecord (fw : Nat) (held : Bool) (ix sub : Nat) (o : Obj) : List Byte :=
  qzdLine [ascii "object", hexNum 4 ix ++ ascii ":" ++ hexDigits 2 sub]
    ++ qzdLine [ascii "name", ascii (objName ix sub)]
    ++ qzdLine [ascii "type", ascii (typeName o)]
    ++ qzdLine [ascii "access", ascii (accessName o.acc)]
    ++ qzdLine [ascii "class", ascii (className o.cls)]
    ++ Config.qzdLines fw ix sub
    ++ (if held then qzdLine [ascii "session"] else [])
    ++ (match o.rows with
      | none => []
      | some n => qzdLine [ascii "rows", decNum n]
          ++ ((List.range o.cols.length).map (fun c => qzdLine [ascii "column", decNum c, Config.qzdColumn fw ix sub c])).flatten)
    ++ qzdLine [ascii "end"]

/-- The records of the objects that the tables name, in ascending order. -/
def qzdRecords (fw : Nat) (held : Nat → Nat → Bool) : List Byte :=
  ((List.range 0xF000).flatMap (fun ix => (List.range 18).flatMap (fun sub =>
    match objAt ix sub with
    | some o => if (objName ix sub).isEmpty then [] else qzdRecord fw (held ix sub) ix sub o
    | none => [])))

/-- Every line but the last: the first line, the header lines and the records. -/
def qzdBody (fw : Nat) (held : Nat → Nat → Bool) : List Byte :=
  qzdLine [ascii "qzd", ascii "1"]
    ++ qzdLine [ascii "product", ascii "0x6416"]
    ++ qzdLine [ascii "stepping", ascii "B1"]
    ++ qzdLine [ascii "dictionary", hexNum 4 0x0102]
    ++ qzdLine [ascii "firmware", hexNum 8 fw]
    ++ qzdRecords fw held

/-- QZD_CRC, and the file: its last line is "crc" and that value over all that precedes it (R62, R63). -/
def qzdCrc (fw : Nat) (held : Nat → Nat → Bool) : Nat := crc32 (qzdBody fw held)
def qzdFile (fw : Nat) (held : Nat → Nat → Bool) : List Byte := qzdBody fw held ++ qzdLine [ascii "crc", hexDigits 8 (qzdCrc fw held)]

end Sys2Proof.Machine
end

