-- ==== Sys2Proof/Machine/Status.lean ====
section
/-! DEFINITION. What status objects read as (class S and K of the object tables): computed from the state when a read is served. -/

namespace Sys2Proof.Machine

/-- The entry of a ring at row `r`; `l` is newest first and its newest stands in row `latest`. -/
def ringAt {α : Type} (l : List α) (latest size r : Nat) : Option α := l[(latest + size - r) % size]?

/-- Column `col` of a row of numbers; 0 beyond its end. -/
def colOf (l : List Int) (col : Nat) : Value := .num (l.getD col 0)

def tv (u : Nat) : Int := (timeVal u : Nat)
def bv (b : Bool) : Int := (boolNat b : Nat)

/-! ### Control area -/

/-- The bytes that SAFETY_CRC covers (R440): every RWS object in ascending order, its index, subindex and value as a read
returns it; key bytes read as zeros. -/
def rwsBytes (m : SMap Value) : List Byte :=
  rwsObjects.flatMap (fun o =>
    match objAt o.1 o.2 with
    | none => []
    | some ob =>
      let field (r c : Nat) : List Byte :=
        if o = (0x0300, 9) ∧ c = 1 then encodeValue .octets (.octets (List.replicate 32 0))
        else encodeValue ((ob.cols.getD c { ty := .u8 }).ty) (dictVal m o.1 o.2 r c)
      u16b o.1 ++ u8b o.2 ++ (List.range (ob.rows.getD 1)).flatMap (fun r => (List.range ob.cols.length).flatMap (field r)))

def safetyCrc (s : Sys) : Nat := crc32 (rwsBytes s.dict)

/-- AUTH_ACTIVE: a key row has a role and a key (Table GMP-1). -/
def keyed (s : Sys) (r : Nat) : Bool := cell s 0x0300 9 r 0 != 0 && !(val s 0x0300 9 r 1).bytes.isEmpty
def authActive (s : Sys) : Bool := (List.range 4).any (keyed s)

/-- The version of the firmware that runs. -/
def fwVersion (s : Sys) : Nat := if s.flash.fw = 0 then Config.fwVersion else (slot s (s.flash.fw - 1)).version

/-- The boot report (Table RST-4). -/
def bootRow (s : Sys) : List Int :=
  let cfg := s.flash.loadedCfg
  [s.boot.kind, s.boot.cause, s.bootCount, s.flash.fw, fwVersion s, cfg, if cfg = 0 then 0 else (slot s (1 + cfg)).sequence,
   s.boot.records, s.boot.skipped, s.boot.clamped, s.boot.flags, tv s.boot.readyDc, s.boot.startupUs,
   (s.boot.input.map (·.tempStart)).getD 0]

def flashRow (s : Sys) : List Int :=
  [bv s.flash.present, s.flash.jedec, s.flash.sizeMib, bv (eraseBusy s), s.flash.loadedCfg]

/-- A row of SLOT_STATUS; the device reads the flash only while it is present. -/
def slotRow (s : Sys) (i : Nat) : List Int :=
  let v := slot s i
  if !s.flash.present ∨ v.blank then [] else [v.state i, v.sequence, v.length, v.version, field v.header 28 12]

/-- The wire form of an event record (Table GMP-9). -/
def Event.bytes (e : Event) : List Byte :=
  u32b e.seq ++ u16b e.code ++ u8b e.sev ++ u8b e.count ++ timeb e.time ++ padRight 28 e.params

def sessionRow (s : Sys) (r : Nat) : List Int :=
  match s.sessions.find? (fun v => v.row == r) with
  | some v => [v.sid, v.role, v.keyRow, v.port, v.mac, (s.now - v.last) / Config.ticksPerMs]
  | none => []

def snapRow (s : Sys) (i : Nat) : List Int :=
  let v : Snap := SMap.get {} s.snaps i
  [v.st, v.gen, tv v.baseTime, tv v.dcTime, v.lateness, bv v.swept]

/-- Objects held separately for each session (R33, Table OBS-12's export selection). -/
def sessionHeld (ix sub : Nat) : Bool :=
  (ix == 0x0200 && decide (3 ≤ sub ∧ sub ≤ 0x0C)) || (ix == 0x0220 && decide (2 ≤ sub ∧ sub ≤ 5)) || (ix == 0x7820 && sub == 4)

/-- 0x0200:11: every PENDING transaction, also one that waits for the next commit point or for a bank; no direct write (log entry 82). -/
def pendingCommits (s : Sys) : Nat := ((holders s).filter (fun v => v.txn.st == .pending && v.txn.num != 0)).length

/-- Session copies (R33) that follow the transaction. -/
def txnVal (x : Txn) (sub : Nat) : Option Int :=
  match sub with
  | 4 => some (if x.st = .idle then 0 else x.num)
  | 5 => some (match x.st with | .idle => 0 | .open_ => 1 | .armed => 2 | .pending => 3 | .committed => 4 | .aborted => 5)
  | 0x0A => some x.resultGen
  | 0x0B => some x.lateness
  | 0x0C => some x.flags
  | _ => none

def statusControl (s : Sys) (sid ix sub row col : Nat) : Option Value :=
  let n (x : Int) : Option Value := some (.num x)
  let r (l : List Int) : Option Value := some (colOf l col)
  match ix, sub with
  | 0x0100, 6 => n (fwVersion s)
  | 0x0100, 8 => n (qzdCrc (fwVersion s) sessionHeld)
  | 0x0100, 9 => some (.octets (qzdFile (fwVersion s) sessionHeld))
  | 0x0110, 1 => n s.devState
  | 0x0110, 2 => n s.devStep
  | 0x0110, 5 => n s.flash.stageState
  | 0x0120, 1 => r (bootRow s)
  | 0x0120, 2 => n (SMap.get 0 s.boot.done row : Nat)
  | 0x0121, 1 => r (flashRow s)
  | 0x0121, 2 => r (slotRow s row)
  | 0x0200, 2 => n s.gen
  | 0x0200, 0x0E => n (safetyCrc s)
  | 0x0200, 0x10 => n s.flash.storeState
  | 0x0200, 0x11 => n (pendingCommits s)
  | 0x0200, k => (txnVal (txnOf s sid) k).map .num
  | 0x0210, 1 => n s.clampSeq
  | 0x0210, 2 => n s.clampSeq
  | 0x0210, 3 => (ringAt s.clamps (s.clampSeq % 256) 256 row).map .octets
  | 0x0220, 6 => r (snapRow s row)
  | 0x0300, 6 => n s.sessions.length
  | 0x0300, 9 => if col = 1 then some (.octets (List.replicate 32 0)) else none
  | 0x0300, 0x0A => n (bv (authActive s))
  | 0x0300, 0x0B => r (sessionRow s row)
  | 0x0300, 0x0C => (ringAt s.events (s.evSeq % 1024) 1024 row).map (fun e => .octets e.bytes)
  | 0x0300, 0x0D => n s.bootCount
  | 0x0400, 2 => n s.nrg.plan.floor
  | 0x0400, 3 => n (s.nrg.plan.parts.getD row 0)
  | 0x0400, 4 => n (effective s)
  | 0x0400, 5 => n (s.nrg.bal / 1000)
  | 0x0410, 1 => some (.octets (planBytes s s.nrg.plan))
  | 0x0410, 2 => some (.octets (match s.nrg.next with | some p => planBytes s p | none => List.replicate 64 0))
  | 0x0410, 3 => match s.nrg.plan.wakes[row]? with
    | some w => r [w.1, w.2.1, w.2.2.1, w.2.2.2]
    | none => none
  | 0x0410, 4 => let h := SMap.get (0, 0, 0, 0) s.nrg.history row; r [h.1, h.2.1, h.2.2.1, h.2.2.2]
  | 0x0420, 8 => n s.nrg.lastWake
  | _, _ => none

/-! ### Monitors, deciders, safety, memory and pools -/

def monOf (m : SMap Mon) (i : Nat) : Mon := SMap.get {} m i

def clockRow (s : Sys) (d : Nat) : List Int :=
  let v : ClockMon := SMap.get {} s.plinth.clocks d
  [v.khz, if d = 24 then 3 else if v.faulty then 1 else if v.stopped ∨ plannedStop s d then 2 else 0]

def decRow (s : Sys) (d : DecId) : List Int :=
  let v := decider s d
  let shadow := v.st == .shadow
  [v.st.nat, v.cause, tv v.since, bv v.eligible, if shadow then (s.now - v.clean) / Config.ticksPerMs else 0]

def goldenRow (v : Decider) (lane : Nat) : List Int :=
  if lane = 0 then [v.runs0, v.fails0, if v.runs0 = 0 then 0 else tv v.lastRun, v.firstFail0]
  else [v.runs1, v.fails1, if v.runs1 = 0 then 0 else tv v.lastRun, v.firstFail1]

/-- SAF_PINS (Table SAF-7). -/
def safPins (s : Sys) : Nat :=
  boolNat (pinADriven s) * 128 + boolNat (pinBDriven s) * 64 + boolNat s.plinth.aRead * 32 + boolNat s.plinth.bRead * 16
    + boolNat (pinTestRefused s) * 8

def dieRow (s : Sys) (d : Nat) : List Int := let v := die s d; [bv v.failed, v.corrected, v.odecc, tv v.since]

/-- Regions touched: how many, and as bytes (Table MEM-7). -/
def touchedBytes (s : Sys) : List Byte :=
  let l := s.mem.touched.map (·.1)
  (List.range 98304).map (fun k =>
    let here := l.filter (fun r => r / 8 == k)
    BitVec.ofNat 8 (orAll (here.map (fun r => 2 ^ (r % 8)))))

def chiselRow (s : Sys) : List Int :=
  let req := match s.mem.req with | some p => [(p.cmd : Int), p.pos] | none => [0, 0]
  let auto := match s.mem.auto with | some p => [(p.pos : Int), tv p.start] | none => [0, 0]
  req ++ auto

def poolRow (s : Sys) (k : Nat) : List Int :=
  let p := pool s k
  let used := p.owner.length
  [p.buffers, p.buffers - used, p.shared, p.reserve, p.level, bv p.rebuild.isSome, (p.owner.filter (fun e => e.2 == 0xC)).length]

def statusCore (s : Sys) (ix sub row col : Nat) : Option Value :=
  let n (x : Int) : Option Value := some (.num x)
  let r (l : List Int) : Option Value := some (colOf l col)
  match ix, sub with
  | 0x0480, 1 => let v := monOf s.plinth.temps row; r [v.val, v.high]
  | 0x0480, 4 => let v := monOf s.plinth.rails row; r [v.val, v.low, v.high]
  | 0x0480, 6 => r (clockRow s row)
  | 0x0480, 7 => let v := monOf s.plinth.margins row; r [v.val, v.low]
  | 0x0500, 0x0A => n s.decA.claim
  | 0x0500, 0x0B => n s.decB.claim
  | 0x0500, 0x0C => r (decRow s (if row = 0 then .a else .b))
  | 0x0500, 0x0D => n (committer s)
  | 0x0500, 0x0E => n (decMode s)
  | 0x0510, 1 => (ringAt s.faultLog s.faultRow 64 row).map (fun f =>
      match col with
      | 4 => .octets (padRight 48 f.a)
      | 5 => .octets (padRight 48 f.b)
      | _ => colOf [f.seq, tv f.time, f.category, f.diff] col)
  | 0x0510, 2 => n s.faultRow
  | 0x0520, 2 => r (goldenRow (if row < 2 then s.decA else s.decB) (row % 2))
  | 0x0540, 3 => n s.faults
  | 0x0540, 5 => n ((protSilent s &&& allPorts) - (protSilent s &&& allPorts &&& fullSilent s) : Nat)
  | 0x0540, 6 => n (fullSilent s)
  | 0x0540, 7 => (ringAt s.safLog s.safRow 32 row).map (fun l => colOf [tv l.1, l.2.1, l.2.2.1, l.2.2.2.1, l.2.2.2.2] col)
  | 0x0540, 8 => n s.safRow
  | 0x0540, 9 => n (safPins s)
  | 0x0540, 0x0B => r [s.plinth.passes, tv s.plinth.lastPass, s.plinth.mismatches, s.plinth.lastArea]
  | 0x0600, 3 => r (dieRow s row)
  | 0x0600, 6 => match s.mem.poisonLog.find? (fun e => e.1 == row) with
    | some e => r [e.2.1, e.2.2.1, e.2.2.2.1, tv e.2.2.2.2]
    | none => none
  | 0x0600, 7 => n s.mem.poisonRow
  | 0x0610, 1 => let v := spare s row; r [v.st, v.block, tv v.since]
  | 0x0610, 4 => match s.mem.cands[row]? with
    | some c => r [c.1, c.2.1, tv c.2.2]
    | none => none
  | 0x0620, 2 => n s.mem.merge.length
  | 0x0630, 6 => r (chiselRow s)
  | 0x0630, 7 => (s.mem.summaries.find? (fun e => e.1 % 8 == row)).map (fun e => .octets e.2)
  | 0x0630, 8 => n s.mem.passSeq
  | 0x0640, 1 => n s.mem.touched.length
  | 0x0640, 2 => some (.octets (touchedBytes s))
  | 0x0680, 2 => r (poolRow s row)
  | _, _ => none

/-! ### Time -/

def statusTime (s : Sys) (ix sub row col : Nat) : Option Value :=
  let n (x : Int) : Option Value := some (.num x)
  let r (l : List Int) : Option Value := some (colOf l col)
  if ix < 0x0840 then
    let b := (ix - 0x0800) / 16
    let v := base s b
    match sub with
    | 3 => n (tv (clock s b))
    | 4 => n v.st
    | 5 => n (activeSource s b)
    | 6 => n v.rate
    | 7 => n v.offset
    | 0x0F => n v.steps
    | _ => none
  else
    match ix, sub with
    | 0x0840, 1 => n (tv (dc s))
    | 0x0841, 2 => match (pin s (row / 16)).events.find? (fun e => (e.1 - 1) % 16 == row % 16) with
      | some e => r [e.1, e.2.1, tv e.2.2]
      | none => none
    | 0x0842, 2 => let v := action s row; r [v.state, v.runs, tv v.last, v.lateness]
    | 0x0901, 1 => let v := ptpInst s row
      match col with
      | 0 => some (.octets v.gm)
      | _ => r [0, v.steps, v.offset, v.delay, v.slave]
    | 0x0911, 1 => let v := ptpPort s (row / 73) (row % 73); r [v.state, v.delay, v.ratio, bv v.capable]
    | 0x0920, 1 => match ringAt s.tsLog (s.tsLogSeq % 1024) 1024 row with
      | some (k, p, e) => r [k, p, e.seq, boolNat e.gap * 64 + boolNat e.log * 32 + e.msg, e.info, tv e.time]
      | none => none
    | 0x0920, 2 => n s.tsLogSeq
    | _, _ => none

/-! ### Ports, lanes, the Knaing link, tables and queues -/

def glRow (s : Sys) (p : Nat) : List Int :=
  let g := (port s p).gate
  if g.state = 0 then []
  else [g.state, g.gates, g.entry, if g.state = 3 then tv g.cycleStart else 0, match g.pend with | some c => tv c.start | none => 0]

def sgRow (s : Sys) (k : Nat) : List Int :=
  let g := streamGate s k
  let change : Int := match g.pend with | some c => tv c.start | none => 0
  if g.state = 0 then [0, 0, 0, bv g.latched]
  else [g.state, bv (g.gates != 0 && !g.latched), g.op, bv g.latched, g.entry, change]

def queueRow (s : Sys) (q : Nat) : List Int :=
  let l := queue s q
  let p := queuePort s q
  if p = 0xFF then []
  else
    let age := match l with | id :: _ => (s.now - (copy s id).enq) / Config.ticksPerUs | [] => 0
    let win := match windowOf s (txPort s p) (queueTc s q) with | some w => w / nsUnits | none => 2 ^ 64 - 1
    [l.length, occupancy s q, age, win]

def pathRow (s : Sys) (q : Nat) : List Int :=
  let deep := ((queue s q).map (copy s)).filter (fun c => c.path == .deep)
  [bv (SMap.get false s.qdeep q), queueCells s q, deep.length,
   ((deep.map (fun c => match c.buffer with | some (k, _) => unitsPer k | none => 0)).foldl (· + ·) 0 : Nat)]

def statusPort (s : Sys) (p off sub row col : Nat) : Option Value :=
  let n (x : Int) : Option Value := some (.num x)
  match off, sub with
  | 0, 2 => if isKng s p then n 10240 else none
  | 0, 5 => n (portStatus s p)
  | 0, 6 => n (linkSpeed s p)
  | 3, 0x0A => n (if !flag s (pix p 3) 4 then 0 else if plcaOn s p then max 1 (port s p).plca else 1)
  | 5, 2 => n (linkState s p)
  | 5, 3 => n (tv (port s p).lastChange)
  | 5, 4 => n (if (port s p).held then (queuedFor s p).length else 0)
  | 6, 5 => n (mdioResult s p)
  | 0x0A, 2 => n (port s p).bp
  | 0x0C, 2 => some (colOf [SMap.get 0 (port s p).published row, SMap.get 0 (port s p).slope row] col)
  | 0x0D, 9 => n (match (port s p).gate.oper with | some c => c.entries.length | none => 0)
  | 0x0D, 0x0A => n (match (port s p).gate.oper with | some c => (glOf c).getD row 0 | none => 0)
  | 0x0D, 0x0B => some (colOf (glRow s p) col)
  | 0x0E, 7 => n (preemptStatus s p)
  | _, _ => none

def statusLane (s : Sys) (k sub : Nat) : Option Value :=
  let n (x : Int) : Option Value := some (.num x)
  match sub with
  | 4 => n (eqActive s k)
  | 8 => n (lane s k).eye
  | 0x0C => n (bv (lane s k).prbs)
  | 0x0E => n (laneStatus s k)
  | _ => none

def statusKng (s : Sys) (sub row col : Nat) : Option Value :=
  let n (x : Int) : Option Value := some (.num x)
  match sub with
  | 6 => n s.kng.txWidth
  | 7 => n s.kng.rxWidth
  | 8 => n s.kng.st
  | 9 => some (.octets s.kng.peer)
  | 0x0D => some (colOf [s.kng.offsets.getD row 0, s.kng.delays.getD row 0] col)
  | _ => none

def emmUsedRow (s : Sys) (v : Decider) : List Int :=
  let l := v.entries
  let st := (l.filter (fun e => e.2.isStatic)).length
  [l.length - st, st, 131072 - l.length - (pendingRows s v).length]

/-- A slot of a decider's EMM; a row still in its pending state reads as not present (R221). -/
def emmSlotRow (s : Sys) (v : Decider) (k : Nat) : List Int :=
  match SMap.get none v.emm k with
  | some e => [e.key, e.result s.now]
  | none => []

/-- RS_OLDEST: the oldest live generation. -/
def rsOldest (s : Sys) : Nat := match s.rsBank with | e :: _ => e.1 | [] => s.rsGen

def statusTables (s : Sys) (ix sub row col : Nat) : Option Value :=
  let n (x : Int) : Option Value := some (.num x)
  let r (l : List Int) : Option Value := some (colOf l col)
  match ix, sub with
  | 0x3100, 3 => n (fragEntries s).length
  | 0x3400, 3 => n s.rsGen
  | 0x3400, 4 => n (rsOldest s)
  | 0x3400, 5 => n (if s.rsBank.isEmpty then 0 else pinnedFrames s (rsOldest s))
  | 0x3400, 6 => n s.rsDelay
  | 0x4000, 4 => r (emmUsedRow s (if row = 0 then s.decA else s.decB))
  | 0x4000, 5 => n (expUsed s (row == 1))
  | 0x4002, 1 => r (emmSlotRow s s.decA row)
  | 0x4002, 2 => r (emmSlotRow s s.decB row)
  | 0x4002, 3 => r (emmSlotRow s (decider s (findDecider s 0)) row)
  | 0x4002, 4 => match s.sessions.find? (fun v => v.row == row) with
    | some v => some (dictVal v.own 0x4002 4 row col)
    | none => n 0
  | 0x5000, 6 => r [s.expShared, s.expReserve]
  | 0x5010, 1 => r (pathRow s row)
  | 0x5400, 2 => r (queueRow s row)
  | 0x5C00, 1 => n (orAll ((List.range 73).map (fun p => if (port s p).gate.state = 3 then 2 ^ p else 0)))
  | 0x6000, 2 => n (bv (SMap.get false s.blocked row))
  | 0x6100, 3 => r (sgRow s row)
  | 0x6200, 2 => let v := (meter s row).fill s row; r [v.tc / 10000000, v.te / 10000000, bv v.red]
  | 0x6400, 3 => n (SMap.get 0 s.genSeq row : Nat)
  | 0x6400, 6 => let v := rcvy s row; r [v.recov, bv v.takeAny, v.hist, bv v.latent, tv v.lastReset]
  | _, _ => none

def recRow (s : Sys) : List Int :=
  let l := ringFilled s
  let first := match l with | k :: _ => tv (seg s k).first | [] => 0
  let last := match l.getLast? with | some k => tv (seg s k).last | none => 0
  [recState s, (ringSegs s).length, first, last, (l.map (fun k => (seg s k).records)).sum]

def castRow (s : Sys) (i : Nat) : List Int :=
  let c := cast s i
  [c.st, c.code, c.triggers, tv c.at_, tv c.first, tv c.last, c.records, c.segs.length, bv c.part, c.poisoned, c.snap, c.snapGen]

def statusObserve (s : Sys) (sid ix sub row col : Nat) : Option Value :=
  let n (x : Int) : Option Value := some (.num x)
  let r (l : List Int) : Option Value := some (colOf l col)
  match ix, sub with
  | 0x7000, 1 => n (count s row)
  | 0x7000, 4 => match s.mem.lostLog.find? (fun e => e.1 == row) with
    | some e => r [e.2.1, tv e.2.2]
    | none => none
  | 0x7010, k => let v : Snap := SMap.get {} s.snaps (k - 1); n (if 2 ≤ v.st then SMap.get 0 v.ctr row else 0 : Nat)
  | 0x7400, 2 => match SMap.get [] s.samples row with
    | [] => none
    | b => some (.octets b)
  | 0x7400, 3 => n s.sampleSeq
  | 0x7400, 5 => r [(SMap.get 0 s.selMatched row : Nat), (SMap.get 0 s.selChosen row : Nat)]
  | 0x7810, 0x11 => r (recRow s)
  | 0x7820, 1 => r (castRow s row)
  | 0x7820, 4 => some (dictVal ((session? s sid).getD {}).own 0x7820 4 0 0)
  | 0x7820, 6 => match s.sessions.find? (fun v => v.row == row) with
    | some v => r [v.exp.st, v.exp.parts, v.exp.length]
    | none => none
  | _, _ => none

/-- The value of a status field; none where the dictionary's own value is read. -/
def statusVal (s : Sys) (sid ix sub row col : Nat) : Option Value :=
  if ix < 0x0480 then statusControl s sid ix sub row col
  else if ix < 0x0800 then statusCore s ix sub row col
  else if ix < 0x1000 then statusTime s ix sub row col
  else if ix < 0x1980 then statusPort s ((ix - 0x1000) / 32) (ix % 32) sub row col
  else if ix < 0x2400 then statusLane s ((ix - 0x2000) / 16) sub
  else if ix < 0x2900 then statusKng s sub row col
  else if ix < 0x7000 then statusTables s ix sub row col
  else statusObserve s sid ix sub row col

/-- What a field reads as for session `sid`: the session's copy, a status, a staged value of the session's own, or the committed
value (R33, R46). The second part says that it is a staged value. -/
def readField (s : Sys) (sid ix sub row col : Nat) : Value × Bool :=
  match statusVal s sid ix sub row col with
  | some v => (v, false)
  | none =>
    if sessionHeld ix sub then (dictVal ((session? s sid).getD {}).own ix sub row col, false)
    else
      let x := txnOf s sid
      let mine (y : Staged) : Bool := y.ix == ix && y.sub == sub
      if x.live ∧ x.staged.any mine then
        match x.staged.reverse.find? (fun y => mine y && y.row == row && y.col == col) with
        | some y => (y.val, true)
        | none => (val s ix sub row col, true)
      else (val s ix sub row col, false)

/-- The bytes of an object that is no TABLE, and of a row of a TABLE. -/
def objectBytes (s : Sys) (sid ix sub : Nat) : List Byte × Bool :=
  match fieldAt ix sub 0 with
  | some f => let (v, st) := readField s sid ix sub 0 0; (encodeValue f.ty v, st)
  | none => ([], false)

def rowBytes (s : Sys) (sid ix sub row : Nat) : List Byte :=
  match objAt ix sub with
  | some o => ((List.range o.cols.length).map (fun c =>
      encodeValue ((o.cols.getD c { ty := .u8 }).ty) (readField s sid ix sub row c).1)).flatten
  | none => []

end Sys2Proof.Machine
end

