-- ==== Sys2Proof/Machine/Check.lean ====
section
/-! DEFINITION. What becomes of one written field before it is staged or committed: access, locks, the refusals that an
object's chapter states, and the range check (R31, R32, R36 to R41, R46, R512). -/

namespace Sys2Proof.Machine

/-- The first code that is not 0. -/
def firstCode (l : List Nat) : Nat := (l.find? (· != 0)).getD 0

/-! ### Access -/

/-- The one code that answers a field with parts: the first clamp or refusal, else that of its first part (R70, log entry 14). -/
def oneCode (l : List Nat) : Nat := (l.find? (fun c => c != 0 && c != 7)).getD (l.headD 0)

def openTxn (x : Txn) : Bool := x.st == .open_ || x.st == .armed

/-- Whether a session's writes are staged: its transaction is OPEN or ARMED. In DORMANT they are applied directly (R87). -/
def inTxn (s : Sys) (sid : Nat) : Bool := openTxn (txnOf s sid) && s.devState != 3

/-- The code with which access rights and locks refuse a write; 0 where they admit it (R31, R46, R47, R79). -/
def accessCode (s : Sys) (sid ix sub : Nat) (o : Obj) : Nat :=
  let x := txnOf s sid
  let locked := if lockedFor s sid (inTxn s sid) ix sub then 6 else 0
  match o.acc with
  | .ro => 5
  | .const => 5
  | .rws => if x.st ≠ .armed ∨ !inTxn s sid ∨ (x.by79 ∧ (ix, sub) ≠ (0x0300, 9)) then 6 else locked
  | _ => locked

/-- Objects whose write is a command: it acts at its commit point and stores nothing. -/
def isCommand (ix sub : Nat) : Bool :=
  match objAt ix sub with
  | some o => !sessionHeld ix sub && (o.acc == .wo || (o.acc == .rws && o.cls == .v))
  | none => false

/-- Whether a flush, a store or a staged image keeps a command waiting out (R206, R474, R484, R487). -/
def storing (s : Sys) : Bool := s.flash.store.isSome || eraseBusy s

/-- The codes with which a command's own chapter refuses it when it is written, with the governing object of code 8. -/
def commandRefused (s : Sys) (staged : Bool) (ix sub v : Nat) : Nat × (Nat × Nat) :=
  let busy (b : Bool) : Nat × (Nat × Nat) := (if b then 6 else 0, (0, 0))
  if 0x1000 ≤ ix ∧ ix < 0x1980 then
    busy (ix % 32 == 6 && ((port s ((ix - 0x1000) / 32)).mdioBusy || decide (16 ≤ s.mdio.length)))
  else if 0x0800 ≤ ix ∧ ix < 0x0840 then busy (sub == 8 && stepToRefused s ((ix - 0x0800) / 16))
  else match ix, sub with
    | 0x0110, 3 => busy (staged || s.flash.storeState == 1 || s.flash.stageState == 1)
    | 0x0110, 4 => busy (storing s || s.flash.stage.isSome)
    | 0x0200, _ => busy (decide (v ≠ 2) && storing s)
    | 0x0420, _ =>
      if v = 1 then match dormantRefusal s with | some (c, g) => (c, g) | none => (0, (0, 0))
      else busy (dormantExitRefused s)
    | 0x0500, 8 => busy ((decider s (if v = 1 then .a else .b)).st != .deposed)
    | 0x0540, 0x0A => busy (pinTestRefused s)
    | 0x0600, _ => busy (v / 256 == 1 && dieFailRefused s (v % 256))
    | 0x0630, _ => busy (chiselRefused s v)
    | 0x4003, _ => busy s.flush.isSome
    | 0x7810, _ => busy (v == 2 && !baseRuns s (obj s 0x7810 8))
    | 0x7820, 2 => busy (castRefused s (v / 256) (v % 256))
    | _, _ => (0, (0, 0))

/-! ### The check of a value -/

/-- A gate list entry: its op and its interval are checked apart, each with its code (R333). -/
def checkEntry (old req : Nat) : Nat × List Nat :=
  let op := bits req 43 40
  let iv := req % 2 ^ 32
  ((if 2 < op then bits old 43 40 else op) * 2 ^ 40 + bits req 39 32 * 2 ^ 32 + min iv 1000000000,
   [if 2 < op then 4 else 0, if 1000000000 < iv then 2 else 0])

/-- Values that the chapters check beyond the range of the object table: the value stored and the codes of its parts; none where the
table decides (R96, R100, R143, R206, R333, R378, R467, R469). -/
def checkSpecial (ix sub : Nat) (old req : Nat) : Option (Nat × List Nat) :=
  let listed (b : Bool) : Option (Nat × List Nat) := some (if b then (req, [0]) else (old, [4]))
  if 0x1000 ≤ ix ∧ ix < 0x1980 then
    if ix % 32 = 0x0D ∧ sub = 8 then some (checkEntry old req)
    else if ix % 32 = 6 ∧ sub = 4 then listed (decide (bits req 63 60 ≤ 5))
    else none
  else if 0x2000 ≤ ix ∧ ix < 0x2400 then
    let n := (ix - 0x2000) / 16
    if sub = 3 then some (eqCheck req)
    else if sub = 1 ∧ n % typeLanes req ≠ 0 then some (old, [4])
    else none
  else match ix, sub with
    | 0x4003, 1 => listed (decide (1 ≤ bits req 31 28 ∧ bits req 31 28 ≤ 5))
    | 0x0600, 5 => listed ((req / 256 == 1 || req / 256 == 2) && decide (req % 256 < Config.dies))
    | 0x7820, 2 => listed (decide (1 ≤ req / 256 ∧ req / 256 ≤ 3 ∧ req % 256 ≤ 7))
    | 0x7820, 4 => listed (decide (req / 2 ^ 24 ≤ 7))
    | _, _ => none

/-- Keys, masks and hash selections hold 64 bytes; a shorter one is stored with zeros behind it, and the reserved byte 63 of Table
PAR-7 reads 0 (R7). -/
def padded (ix sub col : Nat) (v : Value) : Value :=
  if (ix = 0x3400 ∧ sub = 1 ∧ (col = 1 ∨ col = 2)) ∨ (ix = 0x3800 ∧ sub = 1 ∧ col = 0) then .octets (padRight 63 v.bytes ++ [0]) else v

/-- The check of one field: what is stored, and the codes of its parts. A TIME in a column of a TABLE is one field. -/
def checkValue (s : Sys) (ix sub row col : Nat) (f : Field) (req : Value) : Value × List Nat :=
  let old := val s ix sub row col
  match checkSpecial ix sub old.toNat req.toNat with
  | some (v, c) => (.num v, c)
  | none =>
    let f : Field := if ix = 0x0680 ∧ sub = 1 ∧ col = 0 then { f with rng := .step 0 (([16777216, 4194304, 838860] : List Int).getD row 0) 1 } else f
    let (v, l) := checkField f row old req
    let table := match objAt ix sub with | some o => o.rows.isSome | none => false
    (padded ix sub col v, if table then [firstCode l] else l)

/-- A whole row: prefixes lose their host bits, with code 3 (R211). -/
def checkRow (s : Sys) (ix sub row : Nat) (reqs : List Value) : List (Value × List Nat) :=
  let l := reqs.zipIdx.map (fun e => match fieldAt ix sub e.2 with
    | some f => checkValue s ix sub row e.2 f e.1
    | none => (e.1, [5]))
  if ix ≠ 0x4400 then l
  else
    let width := if sub = 1 then 32 else 128
    let len := ((l[3]?).map (·.1.toNat)).getD 0
    l.zipIdx.map (fun e =>
      if e.2 ≠ 2 then e.1
      else
        let kept := maskTop width len e.1.1.toNat
        (.num kept, [if kept = e.1.1.toNat then firstCode e.1.2 else 3]))

/-! ### Entering codes (R42) -/

/-- The number of a session's transaction in a clamp entry: 0 for a direct write. -/
def txnNo (s : Sys) (sid : Nat) : Nat := if inTxn s sid then (txnOf s sid).num else 0

/-- The value in force for a clamp entry (R43): what a read returns of an object that is not writable or that the session holds, and the
committed value of any other. -/
def inForce (s : Sys) (sid ix sub row col : Nat) : Value :=
  let computed : Bool := match objAt ix sub with | some o => o.acc == .ro || o.acc == .const | none => false
  if computed ∨ sessionHeld ix sub ∨ (ix, sub) = (0x4002, 4) then (readField s sid ix sub row col).1 else val s ix sub row col

/-- Enter the codes of a field, one for each of its parts: the three fields of a TIME, which byte 23 numbers, the taps of R100, or
the fields of a gate entry (R333). Each entry shows the whole value, as requested and as stored (log entry 82). Codes 0 and 7 are
not entered. -/
def enterCodes (sid txn ix sub row col : Nat) (gov : Nat × Nat) (codes : List Nat) (req stored : Value) (s : Sys) : Sys :=
  let table := match objAt ix sub with | some o => o.rows.isSome | none => false
  let timed : Bool := match fieldAt ix sub col with | some f => decide (f.ty = .time) | none => false
  codes.zipIdx.foldl (fun s e =>
    if e.1 = 0 ∨ e.1 = 7 then s
    else clampEntry sid txn ix sub (if table then some row else none) (if table then col else if timed then e.2 else 0) e.1 gov
      (clampOf ix sub col req) (clampOf ix sub col stored) s) s

end Sys2Proof.Machine
end

