-- ==== Sys2Proof/Machine/Store.lean ====
section
/-! DEFINITION. Stores of the configuration, erasure of the stored image, and staged firmware (R35, R482 to R488). -/

namespace Sys2Proof.Machine

/-! ### The payload (R482) -/

/-- Runs of consecutive numbers in an ascending list: first and count. -/
def runsOf : List Nat → List (Nat × Nat)
  | [] => []
  | a :: l => match runsOf l with
    | [] => [(a, 1)]
    | (b, n) :: r => if b = a + 1 then (a, n + 1) :: r else (a, 1) :: (b, n) :: r

/-- The committed row of a TABLE in its encoding. -/
def storedRow (s : Sys) (ix sub row : Nat) (cols : List Field) : List Byte :=
  (cols.zipIdx.map (fun e => encodeValue e.1.ty (val s ix sub row e.2))).flatten

/-- The records of one object of class P: the value, or one record for each run of rows that differ from the default. -/
def objectRecs (s : Sys) (o : Nat) : List (List Byte) :=
  let ix := o / 256
  let sub := o % 256
  match objAt ix sub with
  | none => []
  | some ob =>
    if ob.cls ≠ .p then []
    else match ob.rows with
      | none => ob.cols.map (fun f => recBytes ix sub f.ty.code (encodeValue f.ty (val s ix sub 0 0)))
      | some _ =>
        let rows := ((s.dict.filter (fun e => e.1 / 2 ^ 40 == o)).map (fun e => keyRow e.1)).eraseDups
        (runsOf rows).map (fun r => recBytes ix sub 16
          (u32b r.1 ++ u32b r.2 ++ ((List.range r.2).map (fun i => storedRow s ix sub (r.1 + i) ob.cols)).flatten))

/-- The records of REMAP_TABLE, which is kept beside the dictionary. -/
def remapRecs (s : Sys) : List (List Byte) :=
  (runsOf (s.mem.spares.map (·.1))).map (fun r => recBytes 0x0610 1 16
    (u32b r.1 ++ u32b r.2 ++ ((List.range r.2).map (fun i =>
      let v := spare s (r.1 + i)
      u8b v.st ++ u32b v.block ++ timeb v.since)).flatten))

/-- Every record, in ascending order of index and subindex. -/
def payloadRecs (s : Sys) : List (List Byte) :=
  let objects := (s.dict.map (fun e => e.1 / 2 ^ 40)).eraseDups
  ((sortBy id (objects ++ [0x0610 * 256 + 1])).map (fun o => if o = 0x0610 * 256 + 1 then remapRecs s else objectRecs s o)).flatten

/-- The base that a header's time names: the lowest in LOCKED, else DC (Table RST-7). -/
def storeBase (s : Sys) : Nat := (findBelow 4 (fun b => (base s b).st == 3)).getD 4

/-! ### Stores (R35, R484) -/

/-- The slot that a store writes: the one that would not load at the next boot. -/
def storeTarget (s : Sys) : Nat := if newestOf s 2 = some 2 then 3 else 2

/-- STORE 1 at its commit point: the image is captured. -/
def storeStart (s : Sys) : Sys :=
  let recs := payloadRecs s
  let payload := recs.flatten
  let b := storeBase s
  let image : Slot := { header := slotHeader 2 (nextSequence s 2) payload 0x0102 recs.length (clock s b) b, payload := payload }
  useFlash (updFlash (fun f => { f with store := some (storeTarget s, if payload.length ≤ slotRoom 2 then some image else none), storeState := 1 }) s)

/-- Start to erase slots that are not erased. -/
def eraseSlots (l : List Nat) (s : Sys) : Sys :=
  let l := l.filter (fun i => !(slot s i).erased && !s.flash.erasing.contains i)
  useFlash (updFlash (fun f => { f with erasing := f.erasing ++ l }) s)

/-- STORE 3 at its commit point (R486): revoke both configuration slots, then erase them. -/
def eraseImage (s : Sys) : Sys := if s.flash.present then eraseSlots [2, 3] (revokeSlot 3 (revokeSlot 2 s)) else s

/-- STORE_DONE: the image is programmed and verified, or the store has failed. -/
def storeDoneEffect (flashError : Bool) (s : Sys) : Sys :=
  match s.flash.store with
  | none => s
  | some (t, image) =>
    let s := useFlash (updFlash (fun f => { f with store := none }) s)
    let fail (cause : Nat) (s : Sys) : Sys := raise 0x0104 2 (u8b t ++ u8b cause) (updFlash (fun f => { f with storeState := 3 }) s)
    if !s.flash.present then fail 4 s
    else match image with
      | none => fail 2 s
      | some v =>
        if flashError then fail 1 (setSlot t { v with header := [] } s)
        else
          let s := raise 0x0103 0 (u8b t) (updFlash (fun f => { f with storeState := 2 }) (setSlot t v s))
          eraseSlots [5 - t] s

/-- SLOT_ERASE_DONE. -/
def slotEraseEffect (i : Nat) (s : Sys) : Sys :=
  if s.flash.erasing.contains i then useFlash (updFlash (fun f => { f with erasing := f.erasing.filter (· != i) }) (setSlot i {} s)) else s

/-! ### Firmware (R487) -/

/-- The slot that staged firmware goes to. -/
def stageTarget (s : Sys) : Nat :=
  match s.flash.fw with
  | 1 => 1
  | 2 => 0
  | _ =>
    if !(slot s 0).valid 0 then 0
    else if !(slot s 1).valid 1 then 1
    else if (slot s 0).sequence ≤ (slot s 1).sequence then 0 else 1

/-- A staged image is whole: it is checked, and programming starts or it is rejected. -/
def stageStart (image : List Byte) (s : Sys) : Sys :=
  let v : Slot := { header := image.take 256, payload := image.drop 256 }
  if !v.valid 0 then updFlash (fun f => { f with stageState := 3 }) s
  else
    let h := v.header.take 8 ++ u32b (nextSequence s 0) ++ (v.header.take 60).drop 12
    let v := { v with header := h ++ u32b (crc32 h) ++ v.header.drop 64 }
    useFlash (updFlash (fun f => { f with stage := some (stageTarget s, v), stageState := 1 }) s)

/-- FW_STAGE_PROGRAM_DONE. -/
def stageDoneEffect (flashError : Bool) (s : Sys) : Sys :=
  match s.flash.stage with
  | none => s
  | some (t, v) =>
    let s := useFlash (updFlash (fun f => { f with stage := none }) s)
    if flashError ∨ !s.flash.present then updFlash (fun f => { f with stageState := 4 }) (if s.flash.present then setSlot t { v with header := [] } s else s)
    else updFlash (fun f => { f with stageState := 2 }) (setSlot t v s)

end Sys2Proof.Machine
end

