-- ==== Sys2Proof/Machine/Hooks.lean ====
section
/-! DEFINITION. What a commit makes the device do beside storing values: the reactions of the chapters to changed objects, and
the commands, which act at their commit point. -/

namespace Sys2Proof.Machine

/-! ### Reactions to changed objects -/

/-- A lane's port goes down and starts again (R99, R103, R104). -/
def restartLane (old : Sys) (n : Nat) (s : Sys) : Sys :=
  let a := laneOwner old n
  let b := laneOwner s n
  let s := linkDownEffect b (linkDownEffect a (linkDownEffect n s))
  (portLanes old a ++ portLanes s b ++ [n]).eraseDups.foldl (fun s m => restartBring m s) s

/-- EEE_ENABLE false ends low-power idle after the wake time (R137). -/
def eeeOff (p : Nat) (s : Sys) : Sys :=
  if !flag s (pix p 4) 1 ∧ (port s p).lpiTx ∧ (port s p).lpiWake.isNone then updPort p (fun q => { q with lpiWake := some s.now }) s else s

/-- Preemption verifies anew (R342). -/
def verifyAgain (p : Nat) (s : Sys) : Sys :=
  let on := (port s p).linkUp && flag s (pix p 0x0E) 1 && flag s (pix p 0x0E) 3
  updPort p (fun q => { q with verify := if on then 1 else 0, verifies := 0, verifyAt := s.now }) s

/-- A changed object of a port's block. -/
def portHook (old : Sys) (p off sub : Nat) (s : Sys) : Sys :=
  match off, sub with
  | 0, 1 => if admin s p then (portLanes s p).foldl (fun s n => restartBring n s) s else adminOff p s
  | 3, k => svcCommit old p k s
  | 4, 1 => eeeOff p s
  | 5, 1 => holdExpiryEffect p s
  | 0x0D, k => if k ≤ 8 ∧ (flag s (glIx p) 1 ∨ flag old (glIx p) 1) then dropTooLong p (gateHold p (glCommit p s)) else s
  | 0x0E, k => if k = 1 ∨ k = 3 then verifyAgain p s else s
  | _, _ => s

/-- A stream queue that moves to another port or class drops what it holds (R322). -/
def queueHook (old : Sys) (q : Nat) (s : Sys) : Sys :=
  if cell old 0x5400 1 q 0 = cell s 0x5400 1 q 0 ∧ cell old 0x5400 1 q 1 = cell s 0x5400 1 q 1 then s
  else (queue s q).foldl (fun s id => if (copy s id).st = .sending then s else dropAs false (Ctr.queueReassignDrop q) id s) s

/-- A key row that changes ends the sessions opened with it (R78). -/
def keyHook (row : Nat) (s : Sys) : Sys :=
  let hit := (s.sessions.filter (fun v => v.keyRow == row)).map (·.sid)
  raise 0x0208 1 (u8b row) { s with ending := s.ending ++ hit }

/-- A recovery row that a commit enables, or whose function it changes while in use, starts anew (R368). -/
def rcvyHook (old : Sys) (fn : Nat) (s : Sys) : Sys :=
  if cellB s 0x6400 5 fn 0 ∧ [0, 1, 2, 6, 7, 8, 9, 10].any (fun c => cell old 0x6400 5 fn c != cell s 0x6400 5 fn c) then rcvyReset fn s else s

/-- Stream gates whose list covers row `row` of SG_ENTRIES. -/
def sgRowHook (row : Nat) (s : Sys) : Sys :=
  let first (g : Nat) : Nat := cell s 0x6100 1 g 4
  let covers (g : Nat) : Bool := cellB s 0x6100 1 g 0 && decide (first g ≤ row ∧ row < first g + cell s 0x6100 1 g 5)
  ((enabledRows s.dict 0x6100 1).filter covers).foldl (fun s g => sgCommit g s) s

/-- One changed object, or row of a TABLE. -/
def rowHook (old : Sys) (ix sub row : Nat) (s : Sys) : Sys :=
  if 0x1000 ≤ ix ∧ ix < 0x1980 then portHook old ((ix - 0x1000) / 32) (ix % 32) sub s
  else if 0x2000 ≤ ix ∧ ix < 0x2400 then
    let n := (ix - 0x2000) / 16
    let s := if sub = 0x0B then updLane n (fun l => { l with prbs := false }) s else s
    (if [1, 2, 5, 6, 9, 0x0A, 0x0B].contains sub then restartLane old n s else s)
  else if 0x0800 ≤ ix ∧ ix < 0x0840 then
    let b := (ix - 0x0800) / 16
    if sub = 1 then tbEnable b (flag s ix 1) s else if sub = 9 then rateSetCommit b s else s
  else match ix, sub with
    | 0x0300, 9 => keyHook row s
    | 0x0500, 1 => takeClaim .a s
    | 0x0500, 2 => takeClaim .b s
    | 0x0680, 1 => relevel row s
    | 0x0841, 1 => pinCommit row s
    | 0x0842, 1 => armAction row s
    | 0x0900, 1 => loop (ptpPortCommit row) 0 73 s
    | 0x0910, 1 => ptpPortCommit (row / 73) (row % 73) s
    | 0x2800, 1 => kngEnable (flag s 0x2800 1) s
    | 0x2800, 2 => if flag s 0x2800 1 ∧ flag old 0x2800 1 then kngEnable true (kngDown s) else s
    | 0x2800, 3 => if flag s 0x2800 1 ∧ flag old 0x2800 1 then kngEnable true (kngDown s) else s
    | 0x3100, 1 => if flag s 0x3100 1 then s else { s with frags := [] }
    | 0x4001, 1 => syncStatics s
    | 0x5400, 1 => queueHook old row s
    | 0x6100, 1 => sgCommit row s
    | 0x6100, 2 => sgRowHook row s
    | 0x0540, 2 => silencePort 72 (unsilence (darkPorts old) s)
    | 0x6200, 1 => meterCommit row s
    | 0x6400, 2 => if cell old 0x6400 2 row 0 = cell s 0x6400 2 row 0 then s else { s with genSeq := SMap.set 0 s.genSeq row 0 }
    | 0x6400, 5 => rcvyHook old row s
    | 0x7400, 1 => { s with selSince := SMap.set 0 s.selSince row 0, selRng := SMap.set 0 s.selRng row 0 }
    | _, _ => s

/-- Objects whose rows react as one. -/
def hookKey (ix sub row : Nat) : Nat × Nat × Nat :=
  if 0x1000 ≤ ix ∧ ix < 0x1980 ∧ ix % 32 = 0x0D ∧ sub ≤ 8 then (ix, 1, 0) else if ix = 0x4001 then (ix, sub, 0) else (ix, sub, row)

/-- A base whose active source changed. -/
def sourceHook (old : Sys) (b : Nat) (s : Sys) : Sys :=
  if activeSource old b = activeSource s b then s else sourceChanged b (activeSource old b) s

/-- Every reaction to a commit that changed the fields `changed`. -/
def commitHooks (old : Sys) (changed : List (Nat × Nat × Nat × Nat)) (s : Sys) : Sys :=
  let rows := (changed.map (fun k => hookKey k.1 k.2.1 k.2.2.1)).eraseDups
  let s := rows.foldl (fun s r => rowHook old r.1 r.2.1 r.2.2 s) s
  let s := loop (sourceHook old) 0 4 s
  let s := if authActive s ∧ !authActive old then
      { s with ending := s.ending ++ (s.sessions.filter (fun v => v.keyRow == 0xFF)).map (·.sid) } else s
  recSizeCommit s

/-! ### Commands -/

/-- The key that stands in a session's EMM_FIND row. -/
def findKey (s : Sys) (sid : Nat) : Nat := match session? s sid with
  | some v => (dictVal v.own 0x4002 4 v.row 0).toNat
  | none => 0

/-- A command at its commit point: where its object can no longer take it, nothing happens; the answer is the governing object
of a code 8 that the chapter then has entered. -/
def commandEffect (sid txn ix sub : Nat) (v : Value) (x : SysMem) : SysMem × Option (Nat × Nat) :=
  let n := v.toNat
  let s := x.1
  let ok (f : Sys → Sys) : SysMem × Option (Nat × Nat) := ((f s, x.2), none)
  let held (b : Bool) (g : Nat × Nat) (f : Sys → Sys) : SysMem × Option (Nat × Nat) := if b then (x, some g) else ok f
  if 0x1000 ≤ ix ∧ ix < 0x1980 then
    ok (fun s => (mdioCommand { port := (ix - 0x1000) / 32, op := bits n 63 60, prtad := bits n 52 48, devad := bits n 44 40, data := n % 65536 } s).getD s)
  else if 0x0800 ≤ ix ∧ ix < 0x0840 then
    let b := (ix - 0x0800) / 16
    if sub = 8 then held (stepToRefused s b) (ix, 4) (stepToEffect b (timeUnits n))
    else held ((base s b).st == 0) (ix, 1) (fun s => if n = 1 then restepEffect b sid txn s else s)
  else match ix, sub with
    | 0x0110, 3 => ok (fun s =>
        if s.boot.delay.isSome then s else { s with boot := { s.boot with delay := some (s.now + 2 * Config.ticksPerMs, n == 0xA502) } })
    | 0x0110, 4 => ok (fun s => if storing s ∨ s.flash.stage.isSome then s else stageStart v.bytes s)
    | 0x0200, 0x0F => ok (fun s => if storing s then s else if n = 1 then storeStart s else if n = 3 then eraseImage s else s)
    | 0x0420, 1 => ok (fun s => if n = 1 then (if (dormantRefusal s).isNone then dormantEnter s else s) else dormantExit s)
    | 0x0500, 8 =>
      let d : DecId := if n = 1 then .a else .b
      held ((decider s d).st != .deposed) (0x0500, 0x0C) (readmit d)
    | 0x0500, 9 =>
      if n = 0 then (x, none)
      else let (s, good) := raiseDecider (if n = 1 then .a else .b) s; ((s, x.2), if good then none else some (0x0500, 0x0C))
    | 0x0500, 0x0F => ok unresolvedClear
    | 0x0540, 4 => let (s, kept) := safClear n s; ((s, x.2), if kept then some (0x0540, 3) else none)
    | 0x0540, 0x0A => ok (fun s => if pinTestRefused s then s else pinTest (n == 2) s)
    | 0x0600, 5 => ok (fun s => if n / 256 = 1 then dieFailEffect (n % 256) s else dieRestoreEffect (n % 256) s)
    | 0x0610, 3 => (candidate n 3 x, none)
    | 0x0630, 5 => ok (fun s => if chiselRefused s n then s else chiselCmdEffect n s)
    | 0x0680, 4 => ok (startRebuild (n - 1))
    | 0x4003, 1 => ok (fun s => if s.flush.isSome then s else startFlush n (findKey s sid) s)
    | 0x6000, 3 => ok (fun s => { s with blocked := SMap.set false s.blocked n false })
    | 0x6100, 4 => ok (fun s => setStreamGate n { streamGate s n with latched := false } s)
    | 0x6200, 3 => ok (fun s => setMeter n { meter s n with red := false } s)
    | 0x6400, 4 => ok (fun s => { s with genSeq := SMap.set 0 s.genSeq n 0 })
    | 0x6400, 7 => ok (rcvyReset n)
    | 0x7810, 0x0E => ok (fun s => trigger 1 (if n = 1 then clock s (recClock s) else timeUnits (obj s 0x7810 0x0F)) s)
    | 0x7820, 2 => (castCommand (n / 256) (n % 256) x, none)
    | _, _ => (x, none)

end Sys2Proof.Machine
end

