-- ==== Sys2Proof/Machine/Dict.lean ====
section
/-! DEFINITION. The dictionary: commits of transactions and direct writes, commit points, snapshots, and the serving of written
items and rows (R40 to R60, R71 to R73). -/

namespace Sys2Proof.Machine

/-! ### One commit (R40, R49) -/

/-- What acts at the commit and stores nothing: commands, and the release of a snapshot slot. -/
def actsOnly (y : Staged) : Bool := isCommand y.ix y.sub || (y.ix == 0x0220 && y.sub == 2) || (y.ix == 0x4002 && y.sub == 4)

/-- Where a field stands. -/
abbrev FieldAt := Nat × Nat × Nat × Nat
def Staged.at_ (y : Staged) : FieldAt := (y.ix, y.sub, y.row, y.col)
def keyAt (k : Nat) : FieldAt := (keyIx k, keySub k, keyRow k, keyCol k)
def Clamp.at_ (c : Clamp) : FieldAt := (c.ix, c.sub, c.row, c.col)

/-- A restore: every writable object returns to its default, those that the sessions hold among them (R33, R56). -/
def restoreAll (rws : Bool) (s : Sys) : Sys :=
  let keep (m : SMap Value) : SMap Value := m.filter (fun e => !restorable rws e.1)
  { s with dict := keep s.dict, sessions := s.sessions.map (fun v => { v with own := keep v.own }) }

/-- Put the values of a commit in order, and note the fields touched. -/
def putStaged (l : List Staged) (s : Sys) : Sys × List FieldAt :=
  l.foldl (fun (a : Sys × List FieldAt) y =>
    if isRestore y then
      let gone := (a.1.dict.filter (fun e => restorable (y.row == 1) e.1)).map (fun e => keyAt e.1)
      (restoreAll (y.row == 1) a.1, a.2 ++ gone)
    else if actsOnly y then a
    else (putVal a.1 y.ix y.sub y.row y.col y.val, a.2 ++ [y.at_])) (s, [])

def snap (s : Sys) (i : Nat) : Snap := SMap.get {} s.snaps i
def setSnap (i : Nat) (v : Snap) (s : Sys) : Sys := { s with snaps := SMap.set {} s.snaps i v }

/-- The commands of a commit in order, each with the governing object of a code 8. -/
def runStaged (sid txn : Nat) : List Staged → SysMem → SysMem × List (Staged × (Nat × Nat))
  | [], x => (x, [])
  | y :: l, x =>
    if !actsOnly y then runStaged sid txn l x
    else if y.ix = 0x0220 then runStaged sid txn l (setSnap y.row {} x.1, x.2)
    else
      let (x, g) := commandEffect sid txn y.ix y.sub y.val x
      let (x, r) := runStaged sid txn l x
      (x, match g with | some g => (y, g) :: r | none => r)

/-- The final codes of a staged field, and the governing object: a dependency replaces what its check gave. -/
def finalCodes (clamps : List Clamp) (held : List (Staged × (Nat × Nat))) (y : Staged) : Option (Nat × (Nat × Nat)) :=
  match clamps.reverse.find? (fun c => c.at_ == y.at_ && !actsOnly y) with
  | some c => some (c.code, c.gov)
  | none => (held.find? (fun e => e.1 == y)).map (fun e => (8, e.2))

/-- A write of MAX_FRAME of the Knaing port is refused even where it changes nothing (R150). -/
def kngFixed (s : Sys) (y : Staged) : Option Clamp :=
  if y.sub = 2 ∧ y.ix < 0x1980 ∧ (kngPort s).any (fun p => pix p 0 == y.ix) then
    some { ix := y.ix, sub := 2, v := cellI s y.ix 2 0 0, gov := (0x2800, 1) }
  else none

/-- One commit of session `sid`: a new generation, the values and their dependency clamps, the reactions and commands, and the
clamp report. The fields are answered with their final codes; the last part says that dependency clamps were applied. -/
def commitStaged (sid txn : Nat) (l : List Staged) (x : SysMem) : SysMem × List (Staged × List Nat) × Bool :=
  let old := nextGen x.1
  let old := if changesRules old l then newGeneration old else old
  let (s, touched) := putStaged l old
  let (s, clamps) := clampRounds old 8 touched s
  let clamps := clamps ++ l.filterMap (kngFixed s)
  let changed := ((touched ++ clamps.map (·.at_)).eraseDups).filter (fun k => val old k.1 k.2.1 k.2.2.1 k.2.2.2 != val s k.1 k.2.1 k.2.2.1 k.2.2.2)
  let s := commitHooks old changed s
  let (x, held) := runStaged sid txn l (s, x.2)
  let final (y : Staged) : List Nat := match finalCodes clamps held y with | some (c, _) => [c] | none => y.codes
  let enter (s : Sys) (y : Staged) : Sys :=
    let gov := ((finalCodes clamps held y).map (·.2)).getD (0, 0)
    let stored : Value := if actsOnly y then .num 0 else val s y.ix y.sub y.row y.col
    enterCodes sid txn y.ix y.sub y.row y.col gov (final y) y.req stored s
  let others := (clamps.filter (fun c => !l.any (fun y => y.at_ == c.at_))).reverse
  let last := ((others.map (·.at_)).eraseDups).reverse
  let enterOther (s : Sys) (k : FieldAt) : Sys :=
    match others.find? (fun c => c.at_ == k) with
    | some c => enterCodes sid txn c.ix c.sub c.row c.col c.gov [c.code] (val old c.ix c.sub c.row c.col) (val s c.ix c.sub c.row c.col) s
    | none => s
  let s := last.foldl enterOther (l.foldl enter x.1)
  let s := match l.find? (fun y => y.ix == 0x0400 && y.sub == 1) with
    | some y =>
      let s := updNrg (fun n => { n with asked := y.req.toNat }) s
      if clamps.any (fun c => c.ix == 0x0400) then allowanceClamped y.req.toNat s.nrg.plan.floor s else s
    | none => s
  ((s, x.2), l.map (fun y => (y, final y)), !clamps.isEmpty)

/-! ### Transactions at their commit point -/

/-- Fields of an item: three for a TIME (R70). -/
def fieldCount (f : Field) : Nat := if f.ty = .time then 3 else 1

/-- The codes with which an item answers: one for each of its fields (R70). -/
def itemCodes (ix sub : Nat) (codes : List Nat) : List Nat :=
  match fieldAt ix sub 0 with
  | some f => if fieldCount f = 3 then codes else [oneCode codes]
  | none => codes

/-- Codes of a response that waited for its commit. -/
def heldCodes (l : List (Staged × List Nat)) : HeldKind → HeldKind
  | .items its => .items (its.map (fun i => match l.find? (fun e => e.1.ix == i.1 && e.1.sub == i.2.1 && itemCodes e.1.ix e.1.sub e.1.codes == i.2.2) with
      | some e => (i.1, i.2.1, itemCodes i.1 i.2.1 e.2)
      | none => i))
  | .rows ix sub st first count cols codes => .rows ix sub st first count cols (codes.zipIdx.map (fun c =>
      match l.find? (fun e => e.1.row == first + c.2 / cols && e.1.col == c.2 % cols) with
      | some e => oneCode e.2
      | none => c.1))
  | .segment ix sub code next => .segment ix sub ((l.head?.map (fun e => oneCode e.2)).getD code) next
  | .commit code => .commit code

/-- Ticks as nanoseconds, rounded down. -/
def ticksNs (t : Nat) : Nat := t * 4 / 5

/-- What a rule-set commit reports when its bank is in force (R182, R54); `delay` is its delay in ticks. -/
def rulesDone (num delay : Nat) (s : Sys) : Sys :=
  let ns := ticksNs delay
  let s := { s with rsWait := none, rsDelay := if delay = 0 then s.rsDelay else ns }
  if delay = 0 then s
  else
    let s := raise 0x0504 1 (u32b s.rsGen ++ u64b ns) (bump Ctr.rsCommitDelayed s)
    if num = 0 then s else raise 0x0204 1 (u16b num ++ u64b ns) s

/-- The commit point of one pending transaction, or of a direct write that waited for a bank (number 0). Only a transaction shows the
generation and the lateness of its commit point; that of a direct write stands in its response (log entry 82). -/
def commitTxn (v : Session) (orphan : Bool) (x : SysMem) : SysMem :=
  let t := v.txn
  let late := t.late
  let lateness := match t.stated with
    | some (b, u) => if late then (clock x.1 b - u) / nsUnits else 0
    | none => 0
  let rules := changesRules x.1 t.staged
  let delay := if rules then rsDelayOf x.1 t else 0
  let x := if orphan then onSys (fun s => { s with orphans := s.orphans.filter (fun w => !(w.sid == v.sid && w.txn.num == t.num)) }) x else x
  let (x, codes, deps) := commitStaged v.sid t.num t.staged x
  onSys (fun s =>
    let s := if rules then rulesDone t.num delay s else s
    let s := bumpIf late Ctr.dicCommitLate s
    if t.num = 0 then updSession v.sid (fun w => { w with held := w.held.map (fun h => { h with kind := heldCodes codes h.kind }) }) s
    else
      let s := if orphan then s
        else updTxn v.sid (fun y => { y with st := .committed, staged := [], stated := none, resultGen := s.gen, lateness := lateness, by79 := false,
                                             flags := boolNat late + 2 * boolNat (decide (delay ≠ 0)) + 4 * boolNat deps }) s
      raise 0x0202 0 (u16b t.num ++ u32b s.gen ++ u64b lateness) s) x

/-- Whether the bank that a rule-set commit asked for is loaded (R181). -/
def bankReady (s : Sys) (v : Session) : Bool :=
  s.rsWait.any (fun w => w.sid == v.sid && w.direct == (v.txn.num == 0) && w.loadEnd.any (fun t => decide (t ≤ s.now)))

/-- Whether a pending transaction's commit point falls now: at the next commit point, or when its base reaches the stated
time (R49, R51, R52). -/
def txnDue (s : Sys) (timed : Bool) (v : Session) : Bool :=
  let x := v.txn
  x.st == .pending && (!changesRules s x.staged || bankReady s v) && (match x.stated with
    | none => !timed
    | some (b, u) => if x.late then !timed else timed && baseCounts s b && decide (u ≤ clock s b))

/-- The pending transactions that commit now, oldest acceptance first, with whether their session has ended. -/
def dueTxns (s : Sys) (timed : Bool) : List (Session × Bool) :=
  sortBy (fun e => e.1.txn.acceptedAt) (((s.orphans.filter (txnDue s timed)).map (fun v => (v, true))) ++ ((s.sessions.filter (txnDue s timed)).map (fun v => (v, false))))

/-! ### Snapshots (R58 to R60) -/

/-- Whether a SCHEDULED slot flips now. One whose base is DISABLED stays SCHEDULED (log entry 82). -/
def snapDue (s : Sys) (timed : Bool) (v : Snap) : Bool :=
  v.st == 1 && s.claimTick != some s.now
    && (if v.stated ∧ !v.late then timed && baseCounts s v.base && decide (v.time ≤ clock s v.base) else !timed)

/-- The flip of a slot at a commit point. -/
def flipSnap (s : Sys) (i : Nat) : Sys :=
  let v := snap s i
  let c := clock s v.base
  let w : Snap := { v with st := 2, flipTick := some s.now, gen := s.gen, baseTime := c, dcTime := dc s, lateness := if v.late then (c - v.time) / nsUnits else 0,
                           swept := false, ctr := s.ctr }
  let named (c : Cast) : Cast := if c.snap = i ∧ c.snapGen = 0 ∧ c.st ≠ 0 then { c with snapGen := s.gen } else c
  let s := updRecd (fun r => { r with casts := r.casts.map (fun e => (e.1, named e.2)) }) (setSnap i w s)
  bumpIf v.late Ctr.snapLate s

/-- SNAPSHOT_SWEEP_DONE. -/
def sweepEffect (i : Nat) (s : Sys) : Sys :=
  let v := snap s i
  if v.st = 2 then raise 0x0209 0 (u8b i ++ u32b v.gen) (setSnap i { v with st := 3, swept := true } s) else s

/-! ### Commit points -/

/-- One commit point: what the Plinth has due comes first, and the claims that `g` leaves take effect together (R228, R254). -/
def atPoint (g : SysMem → SysMem) (x : SysMem) : SysMem :=
  let x := onSys plinthFirst x
  onSys (settleClaims x.1) (g x)

/-- Everything that is due at a commit point, but the flips of the slots that it releases: one generation for all of it. A flip that
would fall at a claim point comes later (R256). -/
def commitAll (released : List Nat) (timed : Bool) (x : SysMem) : SysMem :=
  let txns := dueTxns x.1 timed
  let slots := (List.range 4).filter (fun i => snapDue x.1 timed (snap x.1 i) && !released.contains i)
  if txns.isEmpty ∧ slots.isEmpty then x
  else txns.foldl (fun x e => commitTxn e.1 e.2 x) (onSys (fun s => slots.foldl flipSnap (nextGen s)) x)

def commitDueBut (released : List Nat) (timed : Bool) (x : SysMem) : SysMem := atPoint (commitAll released timed) x

def commitDue (timed : Bool) (x : SysMem) : SysMem := commitDueBut [] timed x

/-- The snapshot slots that a direct write releases (R60). -/
def releases (l : List Staged) : List Nat := (l.filter (fun y => y.ix == 0x0220 && y.sub == 2)).map (·.row)

/-- COMMIT_POINT. -/
def commitPointEffect (x : SysMem) : SysMem := commitDue false x

/-- STATED_COMMIT_TIME: where session `sid` has a pending transaction whose base has reached its time, or a snapshot has, the
commit point of all that are due falls. -/
def statedCommitEffect (sid : Nat) (x : SysMem) : SysMem :=
  let named := (dueTxns x.1 true).any (fun e => e.1.sid == sid) || (List.range 4).any (fun i => snapDue x.1 true (snap x.1 i))
  if named then commitDue true x else x

/-- RULESET_LOAD_DONE: the commit point of the commit that asked for the bank, unless its stated time is still to come. -/
def rulesetLoadEffect (x : SysMem) : SysMem :=
  match ((dueTxns x.1 false) ++ (dueTxns x.1 true)).find? (fun e => changesRules x.1 e.1.txn.staged) with
  | some e => atPoint (commitTxn e.1 e.2) x
  | none => x

/-- A direct write takes effect at the next commit point as a transaction of its own, with all that is pending for that point;
one that changes the rules waits for its bank (R49, R54, R72). The last part says that it waits. -/
def directCommit (sid : Nat) (l : List Staged) (x : SysMem) : SysMem × List (Staged × List Nat) × Bool :=
  if l.isEmpty then (x, [], false)
  else if changesRules x.1 l then
    let waiting : Session := { sid := sid, txn := { st := .pending, staged := l, acceptedAt := x.1.now } }
    (onSys (fun s => rsAccept sid true { s with orphans := s.orphans ++ [waiting] }) x, [], true)
  else
    let x := onSys plinthFirst x
    let (y, codes, _) := commitStaged sid 0 l (commitAll (releases l) false x)
    (onSys (settleClaims x.1) y, codes, false)

/-! ### Serving written fields -/

/-- Bytes that a value takes in a transaction (R45). -/
def valueBytes (y : Staged) : Nat :=
  match fieldAt y.ix y.sub y.col with
  | some f => (encodeValue f.ty y.val).length
  | none => 0

/-- Fields that a value counts for in a transaction: three for a TIME that is no column (R36, R45). -/
def stagedFields (y : Staged) : Nat :=
  match objAt y.ix y.sub with
  | some o => if o.rows.isSome then 1 else (o.cols.head?.map fieldCount).getD 1
  | none => 1

/-- Stage one field in the session's transaction, or refuse it beyond the limits of R45. -/
def stageField (sid : Nat) (y : Staged) (s : Sys) : Sys × List Nat :=
  let x := txnOf s sid
  let rest := x.staged.filter (fun z => z.at_ != y.at_)
  let fields : Nat := ((y :: rest).map stagedFields).foldl (· + ·) 0
  let bytes : Nat := ((y :: rest).map valueBytes).foldl (· + ·) 0
  if 1024 < fields ∨ 65536 < bytes then (s, y.codes.map (fun _ => 6))
  else (updTxn sid (fun x => { x with staged := rest ++ [{ y with codes := [] }] }) s, y.codes.map (fun c => if c = 0 then 7 else c))

/-- Whether nothing of a checked field is stored. -/
def rejected (s : Sys) (y : Staged) : Bool :=
  y.codes.any (fun c => c == 5 || c == 6 || c == 8) || (y.codes.contains 4 && (actsOnly y || y.val == val s y.ix y.sub y.row y.col))

/-- A checked field: refused, staged, or kept for the direct commit of its request; with its codes so far. -/
def placeField (sid : Nat) (gov : Nat × Nat) (y : Staged) (a : Sys × List Staged) : (Sys × List Staged) × List Nat :=
  let (s, direct) := a
  let enter (codes : List Nat) (stored : Value) (s : Sys) : Sys := enterCodes sid (txnNo s sid) y.ix y.sub y.row y.col gov codes y.req stored s
  let old := inForce s sid y.ix y.sub y.row y.col
  if rejected s y then ((enter y.codes old s, direct), y.codes)
  else if inTxn s sid then
    let (s, codes) := stageField sid y s
    ((enter codes (if codes.contains 6 then old else y.val) s, direct), codes)
  else if changesRules s [y] ∧ s.rsWait.isSome then
    let codes := y.codes.map (fun _ => 6)
    ((enter codes old s, direct), codes)
  else ((s, direct ++ [y]), y.codes)

/-! ### Objects held for each session (R33) -/

def ownVal (s : Sys) (sid ix sub : Nat) : Nat := (dictVal ((session? s sid).getD {}).own ix sub 0 0).toNat
def putOwn (sid ix sub row col : Nat) (v : Value) (s : Sys) : Sys :=
  updSession sid (fun w => { w with own := SMap.set (dfltVal ix sub row col) w.own (dkey ix sub row col) v }) s

/-- A snapshot asked for at a stated time of base `b`, `q` being the instant in units and whether it was drawn in from too far ahead
(R51, R58). -/
def snapStated (sid i b : Nat) (q : Nat × Bool) (s : Sys) : Sys × Nat × List Staged :=
  let y := if q.2 then clampEntry sid 0 0x0220 3 none 0 2 (0, 0) (clampOf 0x0220 3 0 (.num (timeVal (timeUnits (ownVal s sid 0x0220 3)))))
      (clampOf 0x0220 3 0 (.num (timeVal q.1))) s else s
  (setSnap i { st := 1, base := b, time := q.1, stated := true, late := decide (q.1 < clock y b) } y, if q.2 then 2 else 0, [])

/-- SNAP_REQ: a code, and the release that awaits its commit point (R58 to R60). -/
def snapRequest (sid v : Nat) (s : Sys) : Sys × Nat × List Staged :=
  let i := ownVal s sid 0x0220 5
  if v = 3 then (s, 0, [{ ix := 0x0220, sub := 2, row := i, col := 0, req := .num 3, val := .num 3, codes := [0] }])
  else if (snap s i).st ≠ 0 then (s, 6, [])
  else if v = 1 then (setSnap i { st := 1, base := ownVal s sid 0x0220 4 } s, 0, [])
  else snapStated sid i (ownVal s sid 0x0220 4) (statedTime s (ownVal s sid 0x0220 4) (timeUnits (ownVal s sid 0x0220 3))) s

/-- A write of 0x0200:07 (R44, R51). -/
def commitWrite (sid v : Nat) (s : Sys) : Nat × Sys :=
  if v = 3 then txnAbort sid s
  else txnCommit sid v (ownVal s sid 0x0200 9) (timeUnits (ownVal s sid 0x0200 8)) s

/-- The role of a session (Table GMP-2). -/
def roleOf (s : Sys) (sid : Nat) : Nat := ((session? s sid).map (·.role)).getD 0

/-- A write of an object that a session holds: its codes, and what awaits a commit point. -/
def writeOwn (sid ix sub : Nat) (f : Field) (v : Value) (s : Sys) : Sys × List Nat × List Staged :=
  let (stored, codes) := checkField f 0 (dictVal ((session? s sid).getD {}).own ix sub 0 0) v
  let special := checkSpecial ix sub (ownVal s sid ix sub) v.toNat
  let bad := codes.contains 4 || special.any (fun e => e.2.contains 4)
  let n := v.toNat
  let num := txnNo s sid
  let held := inForce s sid ix sub 0 0
  let enter (c : Nat) (s : Sys) : Sys := enterCodes sid num ix sub 0 0 (0, 0) [c] v held s
  let done (r : Nat × Sys) : Sys × List Nat × List Staged := (if r.1 = 6 then enter 6 r.2 else r.2, [r.1], [])
  if bad then (enter 4 s, [4], [])
  else match ix, sub with
    | 0x0200, 3 => done (txnOpen sid s)
    | 0x0200, 6 => if roleOf s sid ≠ 3 then (enter 6 s, [6], []) else done (txnArm sid n (safetyCrc s) true false s)
    | 0x0200, 7 => done (commitWrite sid n s)
    | 0x0220, 2 => let (s, c, l) := snapRequest sid n s; (if c = 6 then enter 6 s else s, [c], l)
    | 0x7820, 4 =>
      if (cast s (n / 2 ^ 24)).st ≠ 2 then (enter 6 s, [6], [])
      else (exportSel sid (n / 2 ^ 24) (n % 2 ^ 24) (putOwn sid ix sub 0 0 v s), [0], [])
    | _, _ => (enterCodes sid num ix sub 0 0 (0, 0) codes v stored (putOwn sid ix sub 0 0 stored s), codes, [])

/-! ### Items and rows -/

/-- A value of an object that is no TABLE, written by session `sid`: its codes, or the item status of Table GMP-8 with which it
is not served. -/
def writeValue (sid ix sub : Nat) (f : Field) (o : Obj) (v : Value) (a : Sys × List Staged) : (Sys × List Staged) × List Nat :=
  let (s, direct) := a
  let c := accessCode s sid ix sub o
  let refuse (c : Nat) (gov : Nat × Nat) : (Sys × List Staged) × List Nat :=
    let codes := List.replicate (fieldCount f) c
    ((enterCodes sid (txnNo s sid) ix sub 0 0 gov codes v (inForce s sid ix sub 0 0) s, direct), codes)
  let answered (r : (Sys × List Staged) × List Nat) : (Sys × List Staged) × List Nat := (r.1, itemCodes ix sub r.2)
  if c ≠ 0 then refuse c (0, 0)
  else if 0x0800 ≤ ix ∧ ix < 0x0840 ∧ sub = 9 ∧ activeSource s ((ix - 0x0800) / 16) ≠ 0 then refuse 6 (0, 0)
  else if sessionHeld ix sub then let (s, codes, l) := writeOwn sid ix sub f v s; ((s, direct ++ l), codes)
  else
    let (stored, codes) := checkValue s ix sub 0 0 f v
    let y : Staged := { ix := ix, sub := sub, row := 0, col := 0, req := v, val := stored, codes := codes }
    if isCommand ix sub ∧ firstCode codes ≠ 4 then
      let (c, gov) := commandRefused s (inTxn s sid) ix sub stored.toNat
      if c ≠ 0 then refuse c gov
      else
        let x := txnOf s sid
        answered (placeField sid (0, 0) (if isRestore y ∧ x.st = .armed ∧ !x.by79 ∧ inTxn s sid then { y with row := 1 } else y) (s, direct))
    else answered (placeField sid (0, 0) y (s, direct))

/-- What the factory area answers a write of: code 6, entered in the clamp report (R32, R42). -/
def factoryEntry (sid ix sub : Nat) (raw : List Byte) (s : Sys) : Sys :=
  clampEntry sid (txnNo s sid) ix sub none 0 6 (0, 0) (padLeft 16 raw) (List.replicate 16 0) s

/-- One item of a WRITE (R70, R72, R513). -/
def writeItem (sid ix sub : Nat) (raw : List Byte) (a : Sys × List Staged) : (Sys × List Staged) × List Nat :=
  if 0xF000 ≤ ix then ((factoryEntry sid ix sub raw a.1, a.2), [6])
  else match objAt ix sub with
    | none => (a, [0x10])
    | some o =>
      match o.rows, o.cols with
      | none, f :: _ => match decodeValue f.ty raw with
        | some (v, []) => writeValue sid ix sub f o v a
        | _ => (a, [0x11])
      | _, _ => (a, [0x11])

/-- The columns of one row, from its encoding; none where it is cut short. -/
def decodeRow : List Field → List Byte → Option (List Value × List Byte)
  | [], b => some ([], b)
  | f :: l, b => match decodeValue f.ty b with
    | none => none
    | some (v, b) => (decodeRow l b).map (fun r => (v :: r.1, r.2))

def decodeRows (cols : List Field) : Nat → List Byte → Option (List (List Value))
  | 0, b => if b.isEmpty then some [] else none
  | n + 1, b => match decodeRow cols b with
    | none => none
    | some (r, b) => (decodeRows cols n b).map (r :: ·)

/-- The clamp entries of a write of row `row` of EMM_FIND with the given codes. -/
def findEntries (sid row : Nat) (vs : List Value) (codes : List Nat) (s : Sys) : Sys :=
  codes.zipIdx.foldl (fun s e => enterCodes sid (txnNo s sid) 0x4002 4 row e.2 (0, 0) [e.1] ((vs[e.2]?).getD (Value.num 0))
    (inForce s sid 0x4002 4 row e.2) s) s

/-- Search a decider for a key and fill the session's row with what is found (R222). -/
def findFill (sid row key which : Nat) (s : Sys) : Sys :=
  let r := emmFindResult s key which
  let put (c : Nat) (v : Nat) (s : Sys) : Sys := putOwn sid 0x4002 4 row c (.num v) s
  put 4 r.2.2 (put 3 r.2.1 (put 2 (boolNat r.1) (put 1 which (put 0 key s))))

/-- A row of EMM_FIND: the owner's key and decider are searched at once (R222). Outside a transaction the write has a commit
point all the same (R72). -/
def writeFind (sid row : Nat) (vs : List Value) (s : Sys) : (Sys × List Staged) × List Nat :=
  let mine := (session? s sid).any (fun v => v.row == row)
  let key := ((vs[0]?).getD (Value.num 0)).toNat
  let which := ((vs[1]?).getD (Value.num 0)).toNat
  let old := (dictVal ((session? s sid).getD {}).own 0x4002 4 row 1).toNat
  let kept := (dictVal ((session? s sid).getD {}).own 0x4002 4 row 0).toNat
  let wrong := decide (3 < key / 2 ^ 60)
  let codes := if mine then [if wrong then 4 else 0, if 2 < which then 4 else 0, 5, 5, 5] else [5, 5, 5, 5, 5]
  let direct : List Staged :=
    if mine ∧ !inTxn s sid then [{ ix := 0x4002, sub := 4, row := row, col := 0, req := .num key, val := .num key, codes := [0] }] else []
  let s := if mine then findFill sid row (if wrong then kept else key) (if 2 < which then old else which) s else s
  ((findEntries sid row vs codes s, direct), codes)

/-- The dictionary as the commit of what the session has staged, of `direct` and of `l` would leave it. -/
def foreseen (s : Sys) (sid : Nat) (direct l : List Staged) : Sys :=
  (putStaged ((if inTxn s sid then (txnOf s sid).staged else []) ++ direct ++ l) s).1

/-- Whether a row cannot be placed: a prefix row whose expansions exceed the reserve of its family (R209), or a row of EMM_STATIC
while every slot holds a static entry or one in pending state (R196). -/
def noRoom (s : Sys) (sid : Nat) (direct : List Staged) (ix sub row : Nat) (l : List Staged) : Bool :=
  if ix = 0x4400 then
    let v6 := sub == 2
    let used := expUsed (foreseen s sid direct l) v6
    decide ((if v6 then 4096 else 16384) < used ∧ expUsed (foreseen s sid direct []) v6 < used)
  else if ix = 0x4001 then
    let view := foreseen s sid direct l
    cell view 0x4001 1 row 0 == 1 && (s.decA.noPlace s row (staticEntry view row) || s.decB.noPlace s row (staticEntry view row))
  else false

/-- A row of EMM_STATIC that session `sid` has staged, in pending state in both deciders (R196). -/
def pendRow (sid row : Nat) (s : Sys) : Sys :=
  if inTxn s sid then
    let put (v : Decider) : Decider := v.placePending s (foreseen s sid [] []) (txnOf s sid).num row
    { s with decA := put s.decA, decB := put s.decB }
  else s

/-- One row of a WRITE_ROWS: its codes, one for each column. -/
def writeRow (sid ix sub row : Nat) (o : Obj) (vs : List Value) (a : Sys × List Staged) : (Sys × List Staged) × List Nat :=
  if ix = 0x4002 ∧ sub = 4 then let ((s, l), codes) := writeFind sid row vs a.1; ((s, a.2 ++ l), codes)
  else
    let c := accessCode a.1 sid ix sub o
    let checked := if c ≠ 0 then vs.map (fun v => (v, [c])) else checkRow a.1 ix sub row vs
    let fields : List Staged := (vs.zip checked).zipIdx.map (fun e =>
      { ix := ix, sub := sub, row := row, col := e.2, req := e.1.1, val := e.1.2.1, codes := e.1.2.2 })
    let full : Bool := decide (c = 0) && noRoom a.1 sid a.2 ix sub row fields
    let s := bumpIf (full && ix == 0x4400) Ctr.pfxNoSpace a.1
    let ((s, l), codes) := fields.foldl (fun (r : (Sys × List Staged) × List Nat) y =>
      let (a, codes) := placeField sid (0, 0) (if full then { y with codes := [6] } else y) r.1
      (a, r.2 ++ [oneCode codes])) ((s, a.2), [])
    ((if ix = 0x4001 ∧ sub = 1 then pendRow sid row s else s, l), codes)

/-- A write by a session counts against the time-out of its transaction (R48). -/
def touchTxn (sid : Nat) (s : Sys) : Sys := updTxn sid (fun x => if openTxn x then { x with last := s.now } else x) s

/-- A write of `ix`:`sub` counts against the time-out; an arm does not, which renews by itself what it arms (R47). -/
def touchFor (sid ix sub : Nat) (s : Sys) : Sys := if (ix, sub) = (0x0200, 6) then s else touchTxn sid s

end Sys2Proof.Machine
end

