-- ==== Sys2Proof/Machine/Sha.lean ====
section
/-! DEFINITION. SHA-256 and HMAC-SHA-256, which R80 names: FIPS 180-4 and RFC 2104 give them (PRESUMED, log entry 33). -/

namespace Sys2Proof.Machine

def w32 (n : Nat) : Nat := n % 2 ^ 32

/-- The primes below 312, of which there are 64. -/
def smallPrimes : List Nat := (List.range 312).filter (fun n => decide (2 ≤ n) && (List.range 18).all (fun d => decide (d < 2 ∨ n ≤ d) || n % d != 0))

/-- The greatest number below 2^36 whose `k`th power is at most `n`, from its highest bit down. -/
def rootOf (k n : Nat) : Nat := (List.range 36).foldl (fun r i => if (r + 2 ^ (35 - i)) ^ k ≤ n then r + 2 ^ (35 - i) else r) 0

/-- The first 32 bits of the fraction of a prime's `k`th root. -/
def rootBits (k p : Nat) : Nat := w32 (rootOf k (p * 2 ^ (32 * k)))

/-- The constants of the 64 rounds come from cube roots, the initial chaining value from square roots. -/
def shaK : List Nat := smallPrimes.map (rootBits 3)
def shaInit : List Nat := (smallPrimes.take 8).map (rootBits 2)

/-- The sum modulo 2 of a word's rotations. -/
def rotations (l : List Nat) (x : Nat) : Nat := l.foldl (fun y n => y ^^^ (x / 2 ^ n + x % 2 ^ n * 2 ^ (32 - n))) 0

/-- The message schedule, newest word first. -/
def shaSchedule : Nat → List Nat → List Nat
  | 0, w => w
  | n + 1, w =>
    let late := w.getD 1 0
    let early := w.getD 14 0
    let low := rotations [7, 18] early ^^^ early / 8
    let high := rotations [17, 19] late ^^^ late / 1024
    shaSchedule n (w32 (low + high + w.getD 6 0 + w.getD 15 0) :: w)

/-- One round: the eight words move on by one, the fifth and the first take new values. -/
def shaRound (v : List Nat) (kw : Nat) : List Nat :=
  let word (i : Nat) : Nat := v.getD i 0
  let choice := word 6 ^^^ (word 4 &&& (word 5 ^^^ word 6))
  let majority := (word 0 &&& word 1) ||| (word 2 &&& (word 0 ||| word 1))
  let add := word 7 + rotations [6, 11, 25] (word 4) + choice + kw
  w32 (add + rotations [2, 13, 22] (word 0) + majority) :: v.take 3 ++ w32 (word 3 + add) :: (v.drop 4).take 3

/-- One block of 64 bytes. -/
def shaBlock (v : List Nat) (block : List Byte) : List Nat :=
  let w := (List.range 16).map (fun i => field block (4 * i) 4)
  let ws := (shaSchedule 48 w.reverse).reverse
  let r := (List.zipWith (· + ·) shaK ws).foldl shaRound v
  List.zipWith (fun a b => w32 (a + b)) v r

/-- The blocks of a padded message. -/
def shaBlocks : Nat → List Nat → List Byte → List Nat
  | 0, v, _ => v
  | n + 1, v, b => shaBlocks n (shaBlock v (b.take 64)) (b.drop 64)

/-- SHA-256: 32 bytes. -/
def sha256 (m : List Byte) : List Byte :=
  let z := (119 - m.length % 64) % 64
  let p := m ++ [0x80] ++ List.replicate z 0 ++ toBE 8 (8 * m.length)
  (shaBlocks (p.length / 64) shaInit p).flatMap (toBE 4)

/-- HMAC-SHA-256. -/
def hmac (key m : List Byte) : List Byte :=
  let k := padRight 64 (if 64 < key.length then sha256 key else key)
  sha256 (k.map (· ^^^ 0x5C) ++ sha256 (k.map (· ^^^ 0x36) ++ m))

end Sys2Proof.Machine
end

