-- ==== Sys2Proof/Machine/GmpFrame.lean ====
section
/-! DEFINITION. Gramus frames: reading one, its tag, answering, sessions, and the tests that a frame must pass before it is
served (R64 to R69, R75 to R83). -/

namespace Sys2Proof.Machine

/-! ### Frames (R66, R67) -/

/-- The Gramus frame in the bytes of a received frame; none where it holds no whole header. -/
def parseGramus (port : Nat) (b : List Byte) : Option GFrame :=
  let tagged := field b 12 2 == 0x8100
  let h := b.drop (if tagged then 18 else 14)
  if h.length < 24 then none
  else some
    { port := ⟨port % 76, Nat.mod_lt _ (by decide)⟩, dst := field b 0 6, src := field b 6 6, vlan := if tagged then some (field b 14 2) else none,
      version := byteAt h 0, opcode := byteAt h 1, product := field h 2 2, session := field h 4 2, flags := field h 6 2, requestId := field h 8 4,
      counter := field h 12 8, length := field h 20 2, status := byteAt h 22, reserved := byteAt h 23, body := h.drop 24 }

def gmpHeader (opcode sid flags rid ctr len status : Nat) : List Byte :=
  u8b 1 ++ u8b opcode ++ u16b 0x6416 ++ u16b sid ++ u16b flags ++ u32b rid ++ u64b ctr ++ u16b len ++ u8b status ++ u8b 0

/-- The header as it was received. -/
def gfHeader (f : GFrame) : List Byte :=
  u8b f.version ++ u8b f.opcode ++ u16b f.product ++ u16b f.session ++ u16b f.flags ++ u32b f.requestId ++ u64b f.counter ++ u16b f.length
    ++ u8b f.status ++ u8b f.reserved

def gfPayload (f : GFrame) : List Byte := f.body.take f.length
def gfTagged (f : GFrame) : Bool := f.flags % 2 == 1

/-- The tag of a frame (R80): the first 16 bytes of the HMAC over addresses, header and payload. -/
def gmpTag (key : List Byte) (dst src : Nat) (header payload : List Byte) : List Byte :=
  (hmac key (toBE 6 dst ++ toBE 6 src ++ header ++ payload)).take 16

def gfTagGood (f : GFrame) (key : List Byte) : Bool :=
  (gfTagged f) && slice f.body f.length 16 == gmpTag key f.dst f.src (gfHeader f) (gfPayload f)

/-- A frame that a steward sends: addresses, the VLAN tag of its manager, EtherType, header, payload, tag, padding. -/
def gmpFrame (dst src ether : Nat) (vlan : Option Nat) (header payload tag : List Byte) : List Byte :=
  let b := toBE 6 dst ++ toBE 6 src ++ (match vlan with | some t => u16b 0x8100 ++ u16b t | none => []) ++ u16b ether ++ header ++ payload ++ tag
  b ++ List.replicate (60 - b.length) 0

/-! ### Answers (R69, R82, R83) -/

/-- How the answer to a frame finds its way; `s` has the management objects under which the frame was accepted (R65). -/
def replyTo (s : Sys) (f : GFrame) (auth : Bool) (sid : Nat) : Reply :=
  { port := f.port.val, dst := f.src, src := obj s 0x0300 2, ether := obj s 0x0300 1, vlan := f.vlan, auth := auth, sid := sid, opcode := f.opcode,
    rid := f.requestId }

/-- Hand a session's frame to the injection path, on the session's one counter. -/
def sendGmp (r : Reply) (opcode flags rid ctr status : Nat) (key payload : List Byte) (s : Sys) : Sys :=
  let h := gmpHeader opcode r.sid (flags + boolNat r.auth) rid ctr payload.length status
  let tag := if r.auth then gmpTag key r.dst r.src h payload else []
  sendSteward r.port 7 (gmpFrame r.dst r.src r.ether r.vlan h payload tag) s

/-- A response. On a session it takes the session's next counter value. -/
def respond (r : Reply) (status : Nat) (more : Bool) (payload : List Byte) (s : Sys) : Sys :=
  let flags := boolNat more * 4
  match session? s r.sid with
  | none => sendGmp { r with auth := false } (r.opcode % 128 + 128) flags r.rid 0 status [] payload s
  | some v =>
    sendGmp r (r.opcode % 128 + 128) flags r.rid (v.txCtr + 1) status v.key payload (updSession r.sid (fun w => { w with txCtr := w.txCtr + 1 }) s)

/-- A response outside any session's counter and without a tag: the statuses that Table GMP-8 marks so. -/
def respondBare (v : Sys) (f : GFrame) (status : Nat) (s : Sys) : Sys :=
  sendGmp (replyTo v f false f.session) (f.opcode % 128 + 128) 0 f.requestId 0 status [] [] s

/-- Keep what a request_id was answered, or that it was refused as busy; the cache holds 16 (R83). -/
def cachePut (sid rid : Nat) (c : Option Cached) (s : Sys) : Sys :=
  updSession sid (fun v =>
    if v.cache.any (fun e => e.1 == rid) then { v with cache := v.cache.map (fun e => if e.1 = rid then (rid, c) else e) }
    else { v with cache := (rid, c) :: v.cache.take 15 }) s

/-- Answer a session's request, and keep the response. -/
def answer (r : Reply) (status : Nat) (more : Bool) (payload : List Byte) (s : Sys) : Sys :=
  respond r status more payload (cachePut r.sid r.rid (some { opcode := r.opcode, status := status, more := more, payload := payload }) s)

/-- BUSY: the request is not executed, and its request_id is marked refused (R83 to R85). -/
def answerBusy (r : Reply) (s : Sys) : Sys := respond r 0x41 false [] (cachePut r.sid r.rid none (bump Ctr.gmpBusy s))

/-- The header status of a response whose items or fields carry these codes (R94). -/
def partialStatus (codes : List Nat) : Nat := if codes.all (fun c => c == 0 || c == 7) then 0 else 1

/-! ### Sessions (R75) -/

/-- What a session's end does to its transaction: OPEN and ARMED abort, PENDING still commits. -/
def endSession (sid : Nat) (s : Sys) : Sys :=
  match session? s sid with
  | none => s
  | some v =>
    let s := if v.txn.st = .pending then { s with orphans := s.orphans ++ [{ sid := v.sid, txn := v.txn }] } else abortTxn sid 5 s
    { s with sessions := s.sessions.filter (fun w => w.sid != sid), ending := s.ending.filter (· != sid) }

/-- The next free session number. -/
def nextSid (s : Sys) : Nat :=
  let used (n : Nat) : Bool := (holders s).any (fun v => v.sid == n)
  ((findBelow 65535 (fun i => !used ((s.sidSeq + i) % 65535 + 1))).map (fun i => (s.sidSeq + i) % 65535 + 1)).getD 0

/-- SESSION_IDLE_TIMEOUT. -/
def idleEffect (sid : Nat) (s : Sys) : Sys :=
  match session? s sid with
  | some v =>
    if v.last + obj s 0x0300 5 * Config.ticksPerS ≤ s.now then raise 0x0206 0 (u16b sid) (endSession sid (bump Ctr.gmpSessionTimeout s)) else s
  | none => s

/-- SEGMENT_WRITE_TIMEOUT (R73). -/
def segTimeoutEffect (sid : Nat) (s : Sys) : Sys :=
  updSession sid (fun v => match v.seg with
    | some g => if g.at_ + obj s 0x0200 0x0D * Config.ticksPerS ≤ s.now then { v with seg := none } else v
    | none => v) s

/-! ### Tests before service (R64, R68, R85) -/

/-- Whether the device takes a frame as Gramus (R64); the EtherType has been seen. -/
def gmpListens (s : Sys) (f : GFrame) : Bool :=
  let vid := obj s 0x0300 4
  bit (obj s 0x0300 3) f.port.val && (f.dst == obj s 0x0300 2 || f.dst == Config.gmpGroup)
    && (match f.vlan with | none => true | some t => vid != 0 && t % 4096 == vid)

/-- Whether a frame is dropped as malformed (R64, R68). -/
def badFrame (f : GFrame) : Bool :=
  decide (1408 < f.length ∨ f.body.length < f.length) || (f.product != 0x6416 && !(f.opcode == 1 && f.product == 0)) || (f.dst == Config.gmpGroup && f.opcode != 1)

/-- A tag that does not verify: 16 on one port within a second raise AUTH_STORM. -/
def tagFail (p : Nat) (s : Sys) : Sys :=
  let l := ((SMap.get [] s.tagFails p).filter (fun t => decide (s.now < t + Config.ticksPerS))) ++ [s.now]
  let s := bump Ctr.gmpAuthFail s
  if 16 ≤ l.length then raise 0x0207 2 (u8b p ++ u32b l.length) { s with tagFails := SMap.set [] s.tagFails p [] }
  else { s with tagFails := SMap.set [] s.tagFails p l }

/-- Serial-number order of request_ids (R83). -/
def newer (a b : Nat) : Bool := let d := (a + 2 ^ 32 - b) % 2 ^ 32; decide (1 ≤ d ∧ d ≤ 2147483647)

/-! ### Discovery (R86, R88) -/

/-- The identity block (Table GMP-6). -/
def identityBlock (s : Sys) : List Byte :=
  let text (sub : Nat) : List Byte := encodeValue .str (val s 0x0100 sub 0 0)
  u16b (obj s 0x0100 2) ++ text 3 ++ text 4 ++ text 5 ++ u32b (fwVersion s) ++ u16b (obj s 0x0100 7) ++ u32b (qzdCrc (fwVersion s) sessionHeld) ++ toBE 6 (obj s 0x0300 2)
    ++ u8b s.devState ++ u8b (boolNat (authActive s)) ++ u32b s.bootCount

/-- DISCOVER: an accepted request waits for its answer. -/
def discoverEffect (v : Sys) (f : GFrame) (delay : Nat) (s : Sys) : Sys :=
  let p := gfPayload f
  let r := replyTo v f false 0
  if p.isEmpty ∨ p.length ≠ 1 + byteAt p 0 then respond r 0x22 false [] s
  else if byteAt p 0 ≠ 0 ∧ p.drop 1 ≠ Config.serial then s
  else { s with discovers := s.discovers ++ [(s.now + min delay (obj s 0x0300 7 * Config.ticksPerMs), r)] }

/-- DISCOVER_REPLY_DELAY: the answers whose delay has ended. -/
def discoverReplyEffect (s : Sys) : Sys :=
  if !stewardsRun s then s
  else
    let due := s.discovers.filter (fun e => decide (e.1 ≤ s.now))
    due.foldl (fun s e => respond e.2 0 false (identityBlock s) s) { s with discovers := s.discovers.filter (fun e => decide (s.now < e.1)) }

/-- An unsolicited DISCOVER response on every Gramus port whose link is up, to the group address; the next follows after 1 s. -/
def announceNow (left due : Nat) (s : Sys) : Sys :=
  let vid := obj s 0x0300 4
  let ports := (List.range 73).filter (fun p => bit (obj s 0x0300 3) p && (port s p).linkUp)
  let send (s : Sys) (p : Nat) : Sys :=
    respond { port := p, dst := Config.gmpGroup, src := obj s 0x0300 2, ether := obj s 0x0300 1, vlan := if vid = 0 then none else some vid,
              auth := false, sid := 0, opcode := 1, rid := 0 } 0 false (identityBlock s) s
  ports.foldl send { s with announce := if left ≤ 1 then none else some (left - 1, due + Config.ticksPerS) }

/-- DISCOVER_ANNOUNCE: an unsolicited response on every Gramus port whose link is up. -/
def announceEffect (s : Sys) : Sys :=
  match s.announce with
  | some (left, due) => if s.now < due ∨ !stewardsRun s then s else announceNow left due s
  | none => s

/-! ### Opening a session (R77, R80) -/

/-- Whether the key table is not yet loaded (R86): start-up step 7 has not completed. -/
def keysPending (s : Sys) : Bool := s.devState == 0 && decide (s.devStep < 8)

/-- A session with a role starts under key row `key`, 0xFF in open mode, unless all sixteen are taken: its number, its row, its
key, and the response (R75, R80). -/
def openStart (view : Sys) (f : GFrame) (nonceD : List Byte) (role key : Nat) (secret : List Byte) (s : Sys) : Sys :=
  let p := gfPayload f
  let r := replyTo view f false 0
  let nonceM := slice p 6 16
  let nonceD := padRight 16 nonceD
  if 16 ≤ s.sessions.length then respond r 0x32 false [] s
  else
    let n := nextSid s
    let row := (findBelow 16 (fun i => !s.sessions.any (fun v => v.row == i))).getD 0
    let sk := if key = 0xFF then [] else hmac secret (ascii "GRMS" ++ Config.serial ++ nonceM ++ nonceD ++ u16b n)
    let v : Session := { sid := n, row := row, role := role, keyRow := key, port := f.port.val, mac := f.src, vlan := f.vlan, last := s.now, key := sk,
                         mask := field p 2 4, acked := s.evSeq }
    let s := { s with sessions := s.sessions ++ [v], sidSeq := n, nonces := (nonceM :: s.nonces).take 64 }
    sendGmp { r with sid := n, auth := key != 0xFF } 0x82 0 f.requestId 0 0 sk (nonceD ++ u8b role ++ u8b 0 ++ u16b (obj s 0x0300 5)) s

/-- SESSION_OPEN; `nonceD` is the nonce that the device draws. -/
def openEffect (view : Sys) (f : GFrame) (nonceD : List Byte) (s : Sys) : Sys :=
  let p := gfPayload f
  let r := replyTo view f false 0
  let k := byteAt p 0
  let nonceM := slice p 6 16
  let refuse (status : Nat) : Sys := respond r status false [] s
  if keysPending s then refuse 0x42
  else if p.length ≠ 22 then refuse 0x22
  else if !(gfTagged f) then
    if k = 0xFF ∧ !authActive s ∧ f.port.val = 72 then
      (if s.nonces.contains nonceM then bump Ctr.gmpReplayDrop s else openStart view f nonceD 2 0xFF [] s)
    else refuse 0x30
  else if 3 < k ∨ !keyed s k then refuse 0x33
  else
    let secret := (val s 0x0300 9 k 1).bytes
    if !gfTagGood f secret then tagFail f.port.val s
    else if s.nonces.contains nonceM then bump Ctr.gmpReplayDrop s
    else openStart view f nonceD (cell s 0x0300 9 k 0) k secret s

/-! ### Events (R91) -/

/-- The records that a session has still to be sent, oldest first. -/
def eventsFor (s : Sys) (v : Session) : List Event :=
  (s.events.filter (fun e => v.wants e.code && decide (v.acked < e.seq) && (e.only.isEmpty || e.only.contains v.sid))).reverse

/-- How a session's EVENT frames find their way. -/
def eventReply (s : Sys) (v : Session) : Reply :=
  { port := v.port, dst := v.mac, src := obj s 0x0300 2, ether := obj s 0x0300 1, vlan := v.vlan, auth := v.keyRow != 0xFF, sid := v.sid, opcode := 0x40,
    rid := v.evRid }

/-- Send the EVENT frame with payload `b`. -/
def sendEvents (v : Session) (retry : Bool) (rid : Nat) (b : List Byte) (s : Sys) : Sys :=
  sendGmp (eventReply s v) 0x40 (boolNat retry * 2) rid (v.txCtr + 1) 0 v.key b (updSession v.sid (fun w => { w with txCtr := w.txCtr + 1 }) s)

/-- Each session without an EVENT frame outstanding is sent the next one. -/
def eventPump (s : Sys) : Sys :=
  if !stewardsRun s then s
  else s.sessions.foldl (fun s w =>
    match session? s w.sid with
    | none => s
    | some v =>
      match (eventsFor s v).take 29 with
      | [] => s
      | e :: l =>
        if v.evFrame.isSome then s
        else
          let hi := ((e :: l).getLast?.map (·.seq)).getD e.seq
          let ivl := obj s 0x0300 8 * Config.ticksPerMs
          let rid := (v.evRid + 1) % 2 ^ 32
          let b := ((e :: l).map Event.bytes).flatten
          sendEvents v false rid b
            (updSession v.sid (fun w => { w with evFrame := some (e.seq, hi), evRid := rid, evBytes := b, evIvl := ivl, evAt := s.now + ivl }) s)) s

/-- EVENT_RETRY_EXPIRY: the same frame again, at a doubled interval up to eight times EVENT_RETRY. -/
def eventRetryEffect (sid : Nat) (s : Sys) : Sys :=
  match session? s sid with
  | none => s
  | some v =>
    if v.evFrame.isNone ∨ s.now < v.evAt ∨ !stewardsRun s then s
    else
      let ivl := min (2 * v.evIvl) (8 * obj s 0x0300 8 * Config.ticksPerMs)
      sendEvents v true v.evRid v.evBytes (bump Ctr.gmpEventRetx (updSession sid (fun w => { w with evIvl := ivl, evAt := s.now + ivl }) s))

/-- EVENT_ACK on a session whose frame passed the tests: every record up to the number given is acknowledged. One that names
no record of the outstanding frame does not end its repeats. -/
def ackEffect (sid : Nat) (f : GFrame) (s : Sys) : Sys :=
  match session? s sid with
  | none => s
  | some v =>
    match v.evFrame with
    | none => s
    | some (first, _) =>
      let highest := field (gfPayload f) 0 4
      if (gfPayload f).length ≠ 4 ∨ highest < first then s
      else reportLoss sid (updSession sid (fun w => { w with evFrame := none, last := s.now, acked := max w.acked (min highest s.evSeq) }) s)

end Sys2Proof.Machine
end

