-- ==== Sys2Proof/Machine/Gramus.lean ====
section
/-! DEFINITION. Gramus: serving the requests of sessions (R70 to R74, R76, R79, R83 to R87, R513), and the waiting responses. -/

namespace Sys2Proof.Machine

/-! ### Payloads (Table GMP-5) -/

/-- READ items: index, subindex, reserved. -/
def readItems : Nat → List Byte → Option (List (Nat × Nat))
  | 0, _ => none
  | n + 1, b => if b.isEmpty then some [] else if b.length < 4 then none
    else (readItems n (b.drop 4)).map ((field b 0 2, byteAt b 2) :: ·)

/-- WRITE items: index, subindex, value. -/
def writeItems : Nat → List Byte → Option (List (Nat × Nat × List Byte))
  | 0, _ => none
  | n + 1, b =>
    if b.isEmpty then some []
    else
      let len := field b 4 2
      if b.length < 6 + len then none else (writeItems n (b.drop (6 + len))).map ((field b 0 2, byteAt b 2, slice b 6 len) :: ·)

/-- A response that reports COMMITTED or ABORTED returns the transaction to IDLE (Table DIC-6, R74), and what it reported, the
generation, the lateness and the flags, to 0 (log entry 82). -/
def txnSeen (sid : Nat) (s : Sys) : Sys := updTxn sid (fun x => if x.st = .committed ∨ x.st = .aborted then {} else x) s

/-! ### Reading (R46, R57, R70, R71, R513) -/

/-- An item of a READ: status, type code, value. -/
def readItem (x : SysMem) (sid ix sub : Nat) : Nat × Nat × List Byte :=
  let s := x.1
  if 0xF000 ≤ ix then (6, 0, [])
  else match objAt ix sub with
    | none => (0x10, 0, [])
    | some o =>
      let ty := (o.cols.head?.map (fun f => f.ty.code)).getD 0
      if o.rows.isSome then (0x11, 16, [])
      else if o.acc = .wo then (5, ty, [])
      else if ix = 0x7820 ∧ sub = 5 then
        let e := ((session? s sid).map (·.exp)).getD {}
        if e.st = 1 then (6, ty, []) else (0, ty, encodeValue .octets (.octets (exportBytes x e)))
      else let (b, staged) := objectBytes s sid ix sub; (if staged then 7 else 0, ty, b)

/-- Items as far as the payload holds them: bytes, statuses, and whether it was full. -/
def readAll (x : SysMem) (sid : Nat) : Nat → List (Nat × Nat) → List Byte × List Nat × Bool
  | _, [] => ([], [], false)
  | room, (ix, sub) :: l =>
    let (st, ty, v) := readItem x sid ix sub
    let b := u16b ix ++ u8b sub ++ u8b st ++ u16b ty ++ u16b v.length ++ v
    if room < b.length then ([], [], true)
    else let (r, cs, more) := readAll x sid (room - b.length) l; (b ++ r, st :: cs, more)

def serveRead (r : Reply) (items : List (Nat × Nat)) (x : SysMem) : SysMem :=
  let (b, codes, more) := readAll x r.sid 1404 items
  let shown := (items.take codes.length).contains (0x0200, 5)
  onSys (fun s =>
    let s := answer r (partialStatus codes) more (u32b s.gen ++ b) s
    if shown then txnSeen r.sid s else s) x

/-- READ_ROWS. -/
def serveReadRows (r : Reply) (ix sub first n : Nat) (s : Sys) : Sys :=
  let out (st cnt size : Nat) (more : Bool) (b : List Byte) : Sys :=
    answer r (partialStatus [st]) more (u32b s.gen ++ u16b ix ++ u8b sub ++ u8b st ++ u32b first ++ u16b cnt ++ u16b size ++ b) s
  if 0xF000 ≤ ix then out 6 0 0 false []
  else match objAt ix sub with
    | none => out 0x10 0 0 false []
    | some o => match o.rows with
      | none => out 0x11 0 0 false []
      | some limit =>
        let size := (rowBytes s r.sid ix sub 0).length
        let gone := ix == 0x7010 && decide (1 ≤ sub) && (let st := (snap s (sub - 1)).st; st == 0 || st == 1)
        if gone then out 6 0 size false []
        else
          let have_ := min n (limit - first)
          let cnt := min have_ (1392 / max 1 size)
          let staged := decide (0 < cnt) && (readField s r.sid ix sub first 0).2
          out (if first + n > limit then 0x10 else if staged then 7 else 0) cnt size (decide (cnt < have_))
            (((List.range cnt).map (fun i => rowBytes s r.sid ix sub (first + i))).flatten)

/-- READ_SEGMENT: part of an OCTETS value. -/
def serveReadSegment (r : Reply) (ix sub off len : Nat) (x : SysMem) : SysMem :=
  let out (st : Nat) (v : List Byte) : SysMem :=
    let part := slice v off (min len 1393)
    onSys (answer r (partialStatus [st]) false (u16b ix ++ u8b sub ++ u8b st ++ u8b 0 ++ u32b v.length ++ u32b off ++ u16b part.length ++ part)) x
  let (st, ty, b) := readItem x r.sid ix sub
  if st ≠ 0 ∧ st ≠ 7 then out st []
  else if ty ≠ 13 then out 0x11 []
  else out st (b.drop 4)

/-! ### Writing (R41, R72, R73) -/

/-- Write a response, or hold it until the bank that its write waits for is loaded. -/
def holdOr (waits : Bool) (r : Reply) (k : HeldKind) (send : Sys → Sys) (s : Sys) : Sys :=
  if waits then updSession r.sid (fun v => { v with held := some { reply := r, kind := k } }) s else send s

/-- The response of a write that has taken effect: kept codes, and the generation. -/
def writeResponse (r : Reply) (gen : Nat) (k : HeldKind) (s : Sys) : Sys :=
  match k with
  | .items l =>
    answer r (partialStatus (l.flatMap (·.2.2))) false
      (u32b gen ++ l.flatMap (fun i => u16b i.1 ++ u8b i.2.1 ++ u8b i.2.2.length ++ i.2.2.flatMap u8b)) s
  | .rows ix sub st first cnt cols codes =>
    answer r (partialStatus (st :: codes)) false
      (u32b gen ++ u16b ix ++ u8b sub ++ u8b st ++ u32b first ++ u16b cnt ++ u8b cols ++ codes.flatMap u8b) s
  | .segment ix sub code next =>
    let st := if 0x10 ≤ code then code else 0
    answer r (partialStatus [code]) false (u32b gen ++ u16b ix ++ u8b sub ++ u8b st ++ u8b code ++ u8b 0 ++ u32b next) s
  | .commit code =>
    let x := txnOf s r.sid
    let n (sub : Nat) : Nat := ((txnVal x sub).getD 0).toNat
    txnSeen r.sid (answer r (partialStatus [code]) false (u16b (n 4) ++ u8b (n 5) ++ u8b code ++ u32b x.resultGen ++ u64b x.lateness) s)

/-- Commit what a request wrote directly, and answer: with the generation of its commit point, or 0 inside a transaction. -/
def finishWrite (r : Reply) (within : Bool) (k : HeldKind) (a : Sys × List Staged) (m : List Host.Cell) : SysMem :=
  let (x, codes, waits) := directCommit r.sid a.2 (a.1, m)
  let k := heldCodes codes k
  onSys (holdOr waits r k (fun s => writeResponse r (if within then 0 else s.gen) k s)) x

def serveWrite (r : Reply) (items : List (Nat × Nat × List Byte)) (x : SysMem) : SysMem :=
  let within := inTxn x.1 r.sid
  let (a, out) := items.foldl (fun (w : (Sys × List Staged) × List (Nat × Nat × List Nat)) i =>
    let (a, codes) := writeItem r.sid i.1 i.2.1 i.2.2 w.1
    ((touchFor r.sid i.1 i.2.1 a.1, a.2), w.2 ++ [(i.1, i.2.1, codes)])) ((x.1, []), [])
  finishWrite r within (.items out) a x.2

/-- WRITE_ROWS: none where its rows are malformed. -/
def serveWriteRows (r : Reply) (ix sub first n : Nat) (b : List Byte) (x : SysMem) : SysMem :=
  let s := x.1
  let out (st : Nat) : SysMem := onSys (writeResponse r s.gen (.rows ix sub st first 0 0 [])) x
  if 0xF000 ≤ ix then onSys (fun s => writeResponse r s.gen (.rows ix sub 6 first 0 0 []) (factoryEntry r.sid ix sub (b.take 16) s)) x
  else match objAt ix sub with
    | none => out 0x10
    | some o => match o.rows with
      | none => out 0x11
      | some limit =>
        match decodeRows o.cols n b with
        | none => onSys (answer r 0x22 false []) x
        | some rows =>
          let cnt := min n (limit - first)
          let within := inTxn s r.sid
          let (a, codes) := (rows.take cnt).zipIdx.foldl (fun (w : (Sys × List Staged) × List Nat) e =>
            let (a, c) := writeRow r.sid ix sub (first + e.2) o e.1 w.1
            (a, w.2 ++ c)) ((s, []), [])
          finishWrite r within (.rows ix sub (if cnt < n then 0x10 else 0) first cnt o.cols.length codes) (touchTxn r.sid a.1, a.2) x.2

/-- WRITE_SEGMENT (R73): the order tests, and on the last segment the write of the whole value. -/
def serveSegment (r : Reply) (ix sub last total off : Nat) (data : List Byte) (x : SysMem) : SysMem :=
  let s := x.1
  let end_ := off + data.length
  let refuse (code : Nat) : SysMem := onSys (writeResponse r s.gen (.segment ix sub code 0)) x
  let disorder : SysMem := onSys (fun s => answer r 0x43 false [] (updSession r.sid (fun v => { v with seg := none }) s)) x
  let take (bytes : List Byte) : SysMem :=
    if last = 1 then
      if end_ ≠ total then disorder
      else
        let s := updSession r.sid (fun v => { v with seg := none }) s
        let within := inTxn s r.sid
        let (a, codes) := writeItem r.sid ix sub (encodeValue .octets (.octets bytes)) (s, [])
        finishWrite r within (.segment ix sub (oneCode codes) end_) (touchTxn r.sid a.1, a.2) x.2
    else
      let g : SegWrite := { ix := ix, sub := sub, total := total, bytes := bytes, at_ := s.now }
      onSys (fun s => writeResponse r (if inTxn s r.sid then 0 else s.gen) (.segment ix sub 0 end_)
        (touchTxn r.sid (updSession r.sid (fun v => { v with seg := some g }) s))) x
  match (session? s r.sid).bind (·.seg) with
  | some g =>
    if (g.ix, g.sub) ≠ (ix, sub) then onSys (answer r 0x44 false []) x
    else if off ≠ g.bytes.length ∨ total ≠ g.total ∨ total < end_ then disorder
    else take (g.bytes ++ data)
  | none =>
    if 0xF000 ≤ ix then
      onSys (fun s => writeResponse r s.gen (.segment ix sub 6 0) (factoryEntry r.sid ix sub (data.take 16) s)) x
    else match objAt ix sub with
      | none => refuse 0x10
      | some o =>
        if o.rows.isSome ∨ (o.cols.head?.map (fun f => f.ty.code)) ≠ some 13 then refuse 0x11
        else if off ≠ 0 ∨ total < end_ then disorder
        else
          let c := accessCode s r.sid ix sub o
          let c := if c = 0 ∧ isCommand ix sub then (commandRefused s (inTxn s r.sid) ix sub 0).1 else c
          if c ≠ 0 then onSys (fun s => writeResponse r s.gen (.segment ix sub c 0)
            (enterCodes r.sid (txnNo s r.sid) ix sub 0 0 (0, 0) [c] (.octets data) (inForce s r.sid ix sub 0 0) s)) x
          else take data

/-! ### Transactions over Gramus (R74, R76, R79) -/

/-- The response of a transaction opcode that is answered at once. -/
def txnAnswer (r : Reply) (code : Nat) (long : Bool) (s : Sys) : Sys :=
  let x := txnOf s r.sid
  let n (sub : Nat) : Nat := ((txnVal x sub).getD 0).toNat
  txnSeen r.sid (answer r (partialStatus [code]) false (u16b (n 4) ++ u8b (n 5) ++ u8b code ++ (if long then u32b 0 ++ u64b 0 else [])) s)

/-- A write of one of the transaction objects, with its refusal entered. -/
def txnWrite (sid sub v : Nat) (s : Sys) : Sys × Nat :=
  match fieldAt 0x0200 sub 0 with
  | none => (s, 0)
  | some f => let (s, codes, _) := writeOwn sid 0x0200 sub f (.num v) s; (s, firstCode codes)

def serveTxnOpen (r : Reply) (s : Sys) : Sys := let (s, c) := txnWrite r.sid 3 1 s; txnAnswer r c false s

/-- TXN_ARM: a safety session's, or under R79 that of an open-mode session which provisions keys. -/
def serveTxnArm (r : Reply) (crc : Nat) (s : Sys) : Sys :=
  let first := ((session? s r.sid).any (fun v => v.keyRow == 0xFF)) && !authActive s && crc == safetyCrc s
  if roleOf s r.sid = 3 then let (s, c) := txnWrite r.sid 6 crc s; txnAnswer r c false s
  else if first then
    let (c, s) := txnArm r.sid crc (safetyCrc s) true true s
    let s := if c = 6 then enterCodes r.sid (txnNo s r.sid) 0x0200 6 0 0 (0, 0) [6] (.num crc) (.num 0) s else s
    txnAnswer r c false s
  else answer r 0x34 false [] s

def serveTxnAbort (r : Reply) (s : Sys) : Sys := let (s, c) := txnWrite r.sid 7 3 s; txnAnswer r c false s

/-- TXN_COMMIT writes the stated time, its base and the commit (R74): mode 1 is answered after its commit point, mode 2 on
acceptance. -/
def serveTxnCommit (r : Reply) (mode base time : Nat) (s : Sys) : Sys :=
  if mode = 1 ∨ mode = 2 then
    let (s, a) := txnWrite r.sid 8 time s
    let (s, b) := txnWrite r.sid 9 base s
    let (s, c) := txnWrite r.sid 7 mode s
    let code := firstCode [c, a, b]
    if mode = 1 ∧ c = 0 then updSession r.sid (fun v => { v with held := some { reply := r, kind := .commit code } }) s
    else txnAnswer r code true s
  else txnAnswer r 4 true (enterCodes r.sid (txnNo s r.sid) 0x0200 7 0 0 (0, 0) [4] (.num mode) (.num 0) s)

/-! ### What a session may ask (R70, R76, R86, R87) -/

/-- The opcodes of sessions. -/
def listed (op : Nat) : Bool := [3, 4, 0x10, 0x11, 0x12, 0x13, 0x14, 0x15, 0x20, 0x21, 0x22, 0x23].contains op

/-- The indexes that the items of a READ, READ_SEGMENT or WRITE name. -/
def indexesOf (f : GFrame) : List Nat :=
  let p := gfPayload f
  match f.opcode with
  | 0x10 => ((readItems 1409 p).getD []).map (·.1)
  | 0x11 => ((writeItems 1409 p).getD []).map (·.1)
  | _ => [field p 0 2]

/-- What may be written in DORMANT (R87). -/
def dormantMayWrite (i : Nat) : Bool := decide ((0x0110 ≤ i ∧ i ≤ 0x011F) ∨ (0x0400 ≤ i ∧ i ≤ 0x047F))

/-- The header status with which start-up or DORMANT turns a request away; none where it is served. -/
def turnedAway (s : Sys) (f : GFrame) : Option Nat :=
  let op := f.opcode
  let within (lo hi : Nat) : Bool := (indexesOf f).all (fun i => decide (lo ≤ i ∧ i ≤ hi))
  let early := op == 3 || op == 4 || ((op == 0x10 || op == 0x14) && within 0x0100 0x012F)
  if s.devState = 0 then (if early then none else some 0x42)
  else if s.devState = 3 then
    (if early || (op == 0x11 && (indexesOf f).all dormantMayWrite) then none else some 0x45)
  else none

/-- Execute a request in its turn. -/
def execute (r : Reply) (f : GFrame) (x : SysMem) : SysMem :=
  let p := gfPayload f
  let say (status : Nat) : SysMem := onSys (answer r status false []) x
  let ask (good : Bool) (g : SysMem → SysMem) : SysMem := if good then g x else say 0x22
  let monitor := roleOf x.1 r.sid == 1
  if !listed f.opcode then say 0x21
  else match turnedAway x.1 f with
    | some st => say st
    | none =>
      if monitor ∧ !([3, 4, 0x10, 0x12, 0x14].contains f.opcode) then say 0x34
      else match f.opcode with
        | 3 => ask p.isEmpty (onSys (fun s => endSession r.sid (answer r 0 false [] s)))
        | 4 => ask p.isEmpty (onSys (fun s => answer r 0 false (u8b s.devState) s))
        | 0x10 => match readItems 1409 p with | some l => serveRead r l x | none => say 0x22
        | 0x11 => match writeItems 1409 p with | some l => serveWrite r l x | none => say 0x22
        | 0x12 => ask (p.length == 10) (onSys (serveReadRows r (field p 0 2) (byteAt p 2) (field p 4 4) (field p 8 2)))
        | 0x13 => ask (decide (10 ≤ p.length)) (serveWriteRows r (field p 0 2) (byteAt p 2) (field p 4 4) (field p 8 2) (p.drop 10))
        | 0x14 => ask (p.length == 10 && field p 8 2 != 0) (serveReadSegment r (field p 0 2) (byteAt p 2) (field p 4 4) (field p 8 2))
        | 0x15 =>
          let len := field p 12 2
          ask (p.length == 14 + len && decide (1 ≤ len ∧ len ≤ 1394 ∧ byteAt p 3 ≤ 1))
            (serveSegment r (field p 0 2) (byteAt p 2) (byteAt p 3) (field p 4 4) (field p 8 4) (p.drop 14))
        | 0x20 => ask p.isEmpty (onSys (serveTxnOpen r))
        | 0x21 => ask (p.length == 4) (onSys (serveTxnArm r (field p 0 4)))
        | 0x22 => ask (p.length == 14) (onSys (serveTxnCommit r (byteAt p 0) (byteAt p 1) (field p 2 12)))
        | _ => ask p.isEmpty (onSys (serveTxnAbort r))

/-! ### Responses and requests that wait (R74, R84) -/

/-- Whether a held response can be sent: its transaction or its direct write has passed its commit point. -/
def heldReady (s : Sys) (v : Session) (h : Held) : Bool :=
  match h.kind with
  | .commit _ => v.txn.st != .pending
  | _ => !s.orphans.any (fun w => w.sid == v.sid && w.txn.num == 0)

/-- Serve what a session can now be served, up to `n` steps. One that ends at a commit point is sent the response it waits for, and
executes nothing more (R77, R78). -/
def pumpSession (sid : Nat) : Nat → SysMem → SysMem
  | 0, x => x
  | n + 1, x =>
    match session? x.1 sid with
    | none => x
    | some v => match v.held with
      | some h =>
        if heldReady x.1 v h then
          let s := updSession sid (fun w => { w with held := none }) x.1
          pumpSession sid n (writeResponse h.reply s.gen h.kind s, x.2)
        else x
      | none => match v.waitq with
        | [] => x
        | (_, r, f) :: l => if x.1.ending.contains sid then x else pumpSession sid n (execute r f (updSession sid (fun w => { w with waitq := l }) x.1, x.2))

/-- Serve every session as far as it can be. -/
def pump (x : SysMem) : SysMem := if stewardsRun x.1 then (x.1.sessions.map (·.sid)).foldl (fun x sid => pumpSession sid 16 x) x else x

/-- A session's request that passed the tests of R68: caches, order and the limit of outstanding requests (R83, R84). An accepted
request, also one that the cache answers, restarts the idle time (R75). -/
def admitRequest (view : Sys) (v : Session) (late : Bool) (arrived : Nat) (f : GFrame) (x : SysMem) : SysMem :=
  let r := replyTo view f (v.keyRow != 0xFF) v.sid
  let rid := f.requestId
  let outstanding := v.waitq.length + boolNat v.held.isSome
  let alive (s : Sys) : Sys := updSession v.sid (fun w => { w with last := s.now }) s
  let fresh (x : SysMem) : SysMem :=
    let s := updSession v.sid (fun w => { w with highest := some (match w.highest with | some h => if newer rid h then rid else h | none => rid) }) x.1
    if late ∨ 8 ≤ outstanding then (answerBusy r s, x.2)
    else (updSession v.sid (fun w => { w with waitq := w.waitq ++ [(arrived, r, f)] }) (alive s), x.2)
  if v.waitq.any (fun e => e.2.1.rid == rid) ∨ v.held.any (fun h => h.reply.rid == rid) then onSys (bump Ctr.gmpRetryDup) x
  else match v.cache.find? (fun e => e.1 == rid) with
  | some (_, some c) => onSys (fun s => respond { r with opcode := c.opcode } c.status c.more c.payload (bump Ctr.gmpRetryCached (alive s))) x
  | some (_, none) => fresh x
  | none =>
    if v.highest.any (fun h => !newer rid h) then onSys (fun s => respond r 0x40 false [] s) x
    else fresh x

/-- Every opcode of Table GMP-5 that a manager sends. -/
def knownOpcode (op : Nat) : Bool := op == 1 || op == 2 || op == 0xC0 || listed op

/-- A frame that reaches a steward: the tests of R64 and R68, then its service. `delay` and `nonceD` are what DISCOVER and
SESSION_OPEN draw; `late` says that it was not started in time (R85). `view` has the management objects in force when it was accepted,
at tick `arrived` (R65). A session is looked up before the device state and the role are, and an acknowledgement that names none is
answered as a request would be (log entry 83). -/
def receive (view : Sys) (arrived : Nat) (f : GFrame) (delay : Nat) (nonceD : List Byte) (late : Bool) (x : SysMem) : SysMem :=
  let s := x.1
  let on (g : Sys → Sys) : SysMem := onSys g x
  if !stewardsRun s ∨ !gmpListens view f then x
  else if badFrame f then on (bump Ctr.gmpBadFrame)
  else if f.version ≠ 1 then on (respondBare view f 0x20)
  else if f.opcode = 1 then on (discoverEffect view f delay)
  else if f.opcode = 2 then on (if late then fun s => respondBare view f 0x41 (bump Ctr.gmpBusy s) else openEffect view f nonceD)
  else match session? s f.session with
    | none => on (respondBare view f (if knownOpcode f.opcode then 0x31 else 0x21))
    | some v =>
      if v.keyRow ≠ 0xFF ∧ !(gfTagged f) then on (respondBare view f 0x30)
      else if (gfTagged f) ∧ (v.keyRow = 0xFF ∨ !gfTagGood f v.key) then on (tagFail f.port.val)
      else if f.counter ≤ v.rxCtr then on (bump Ctr.gmpReplayDrop)
      else
        let s := updSession v.sid (fun w => { w with rxCtr := f.counter }) s
        if f.opcode = 0xC0 then (ackEffect v.sid f s, x.2)
        else pump (admitRequest view { v with rxCtr := f.counter } late arrived f (s, x.2))

/-! ### The rows of the table that carry a frame -/

/-- The tick at which a received frame's last bit arrived. -/
def arrivedAt (s : Sys) (f : Frame) : Nat := f.sfd + bitTicks (8 * (f.bytes.length + 4)) (port s f.port).speed

/-- A frame for a steward, with the configuration and the tick at which it was accepted. -/
structure Taken where
  f : GFrame
  view : Sys
  at_ : Nat
  deriving DecidableEq, Repr

/-- The frame of a command: as given, arriving now, or the front of SQ0, which is then taken. -/
def takeFrame (f : Option GFrame) (want : GFrame → Bool) (x : SysMem) : Option (Taken × SysMem) :=
  match f with
  | some f => if want f then some ({ f := f, view := x.1, at_ := x.1.now }, x) else none
  | none => match SMap.get [] x.1.sq 0 with
    | [] => none
    | id :: _ =>
      let fr := frame x.1 id
      match parseGramus fr.port fr.bytes with
      | none => none
      | some f => if want f then (takeSq 0 x.1).map (fun e => ({ f := f, view := asOf x.1 fr.gen, at_ := arrivedAt x.1 fr }, (e.2, x.2))) else none

/-- A taken frame reaches a steward. -/
def serve (g : Taken) (delay : Nat) (nonceD : List Byte) (late : Bool) (x : SysMem) : SysMem :=
  receive g.view g.at_ g.f delay nonceD late x

/-- A command that brings a frame with opcode `op`; one with another opcode waits for the command of its own. -/
def gmpEffect (op : Nat) (f : Option GFrame) (delay : Nat) (nonceD : List Byte) (x : SysMem) : SysMem :=
  match takeFrame f (fun g => g.opcode == op) x with
  | some (g, x) => serve g delay nonceD false x
  | none => x

/-- UNKNOWN_OPCODE: a frame with an opcode not listed; one without a whole header is malformed and dropped. -/
def unknownEffect (f : Option GFrame) (x : SysMem) : SysMem :=
  match takeFrame f (fun g => !knownOpcode g.opcode) x with
  | some (g, x) => serve g 0 [] false x
  | none => match f, takeSq 0 x.1 with
    | none, some (fr, s) => if (parseGramus fr.port fr.bytes).isNone then (bumpIf (stewardsRun s) Ctr.gmpBadFrame s, x.2) else x
    | _, _ => x

/-- 1.5 ms in ticks (R85). -/
def startTicks : Nat := 1875000

/-- Requests that were not started within 1.5 ms are answered BUSY (R85). -/
def busyLate (s : Sys) : Sys :=
  let late (e : Nat × Reply × GFrame) : Bool := decide (e.1 + startTicks ≤ s.now)
  let turn (s : Sys) (v : Session) : Sys :=
    (v.waitq.filter late).foldl (fun s e => answerBusy e.2.1 s) (updSession v.sid (fun w => { w with waitq := w.waitq.filter (fun e => !late e) }) s)
  if stewardsRun s then s.sessions.foldl turn s else s

/-- The tick at which the frame at the front of SQ0 arrived. -/
def sq0Since (s : Sys) : Nat := ((SMap.get [] s.sq 0).head?.map (fun id => arrivedAt s (frame s id))).getD s.now

/-- REQUEST_START_TIMEOUT: requests not started in time are answered BUSY; so is one that still waits in SQ0. -/
def startTimeoutEffect (x : SysMem) : SysMem :=
  let since := sq0Since x.1
  let x := onSys busyLate x
  match takeFrame none (fun g => g.opcode != 1 && g.opcode != 0xC0) x with
  | some (g, y) => if since + startTicks ≤ x.1.now then serve g 0 [] true y else x
  | none => x

/-- Whether a session may write object index `ix` now: its role, the device state, and a steward that serves it (R76, R86, R87). -/
def mayWrite (s : Sys) (sid ix : Nat) : Bool :=
  (session? s sid).any (fun w => w.role != 1) && s.devState != 0 && (s.devState != 3 || dormantMayWrite ix) && stewardsRun s

/-- A write of one object by a session outside any frame. -/
def sessionWrite (sid ix sub : Nat) (v : Value) (x : SysMem) : SysMem :=
  if !mayWrite x.1 sid ix then x
  else match objAt ix sub with
    | some o => match o.rows, o.cols with
      | none, f :: _ =>
        let ((s, l), _) := writeValue sid ix sub f o v (x.1, [])
        (directCommit sid l (touchFor sid ix sub s, x.2)).1
      | _, _ => x
    | none => x

/-- EMM_FIND: a session writes a row of it (R222). -/
def findEffect (sid row key which : Nat) (x : SysMem) : SysMem :=
  if !mayWrite x.1 sid 0x4002 then x
  else
    let ((s, l), _) := writeFind sid row [.num (key : Nat), .num (which : Nat), .num 0, .num 0, .num 0] x.1
    (directCommit sid l (touchTxn sid s, x.2)).1

/-- A transaction command: a write of its object, or the opcode of a frame. -/
def txnEffect (via : Via) (op : Nat) (want : GFrame → Bool) (write : Nat → SysMem → SysMem) (x : SysMem) : SysMem :=
  match via with
  | .obj sid => write sid x
  | .gmp f => match takeFrame f (fun g => g.opcode == op && want g) x with
    | some (g, x) => serve g 0 [] false x
    | none => x

end Sys2Proof.Machine
end

