-- ==== Sys2Proof/Machine/Reset.lean ====
section
/-! DEFINITION. Resets and start-up (R471 to R478, R483, R485, R488 to R491, R498, R509). -/

namespace Sys2Proof.Machine

def updBoot (f : Boot → Boot) (s : Sys) : Sys := { s with boot := f s.boot }

/-- Whether a pin, the detector or the TAP holds the device in reset. -/
def inHold (s : Sys) : Bool := s.boot.porst || s.boot.detector || s.boot.wrst || s.boot.scan

/-- Whether start-up step `k` of Table RST-2 has completed. -/
def stepDone (s : Sys) (k : Nat) : Bool := s.devState != 0 || decide (k < s.devStep) || SMap.get 0 s.boot.done (k - 1) != 0

/-! ### What a reset leaves (Tables RST-8, RST-9) -/

/-- Programming that a reset cuts short leaves its slot without a header. -/
def cutStores (s : Sys) : Sys :=
  let cut (o : Option (Nat × Slot)) (s : Sys) : Sys := match o with | some (t, v) => setSlot t { v with header := [] } s | none => s
  cut s.flash.stage (cut (s.flash.store.bind (fun e => e.2.map (fun v => (e.1, v)))) s)

/-- The state that a power-on reset leaves: only the flash, the levels of the pins and the count of free values stay. -/
def freshSys (kind cause : Nat) (s : Sys) : Sys :=
  let b := s.boot
  { now := s.now, dcZero := s.now, freeCtr := s.freeCtr, slotAt := s.now, flash := { slots := (cutStores s).flash.slots },
    boot := { porst := b.porst, detector := b.detector, wrst := b.wrst, scan := b.scan, kind := kind, cause := cause, dcStands := true } }

/-- Values of class K. -/
def keptValues (m : SMap Value) : SMap Value :=
  m.filter (fun e => match objAt (keyIx e.1) (keySub e.1) with | some o => o.cls == .k | none => false)

/-- What a warm reset keeps of `old` beside what a power-on reset leaves. -/
def keepWarm (old new : Sys) : Sys :=
  let ring := (old.recd.segs.filter (fun e => e.2.owner == 0xFF)).map (·.1)
  let old := ring.foldl (fun s k => clearSeg k s) old
  let m := old.mem
  let frozen (c : Cast) : Cast := if c.st = 2 ∨ c.st = 3 then { c with st := 2 } else {}
  let casts := (old.recd.casts.map (fun e => (e.1, frozen e.2))).filter (fun e => e.2.st == 2)
  { new with
    dcZero := old.dcZero, bases := old.bases, fallback := old.fallback, dict := keptValues old.dict, bootCount := old.bootCount, blocked := old.blocked,
    snaps := old.snaps,
    nrg := { lastWake := old.nrg.lastWake },
    recd := { size := old.recd.size, segs := old.recd.segs.filter (fun e => e.2.owner != 0xFF), order := old.recd.order, recNo := old.recd.recNo,
              serial := old.recd.serial, casts := casts },
    mem := { touched := m.touched.filter (fun e => areaOf (128 * e.1) != 0), dies := m.dies, spares := m.spares, cands := m.cands,
             summaries := m.summaries, passSeq := m.passSeq, prevCorr := m.prevCorr },
    poison := old.poison.filter (fun lba => areaOf lba != 0),
    boot := { new.boot with wasReady := old.boot.wasReady, dcStands := old.boot.dcStands } }

/-- A reset begins. Before a warm one a collecting Cast freezes, the merge buffer is flushed, and locked bases go to HOLDOVER. -/
def beginReset (warm : Bool) (kind cause : Nat) (x : SysMem) : SysMem :=
  if !warm then onSys (freshSys kind cause) x
  else
    let x := flushWrites (flushMerge (flushWrites (onSys (fun s => freezeNow (closeSeg s)) x)))
    onSys (fun s => let s := basesHoldover s; keepWarm s (freshSys kind cause s)) x

/-- A warm reset; before the device has first been ready it becomes a power-on reset (R472), except under R476. -/
def warmReset (cause : Nat) (x : SysMem) : SysMem :=
  if cause ≠ 5 ∧ !x.1.boot.wasReady then beginReset false 1 6 x else beginReset true 2 cause x

/-! ### Start-up -/

/-- The ticks at which the steps complete: in order, and after a warm reset step 8 alongside steps 4 to 7 (R475, R477). -/
def stepTicks (warm : Bool) (now : Nat) (us : List Nat) : List (Nat × Nat) :=
  let at_ (k : Nat) : Nat := now + us.getD (k - 1) 0 * Config.ticksPerUs
  let chain (first : Nat) (l : List Nat) : List (Nat × Nat) × Nat :=
    l.foldl (fun a k => let m := max a.2 (at_ k); (a.1 ++ [(k, m)], m)) ([], first)
  let (a, t3) := chain now [1, 2, 3]
  let (b, t7) := chain t3 [4, 5, 6, 7]
  let t8 := max (if warm then t3 else t7) (at_ 8)
  a ++ b ++ [(8, t8)] ++ (chain (max t7 t8) [9, 10, 11, 12]).1

/-- Start-up begins, where nothing holds the device in reset. With TEST_EN high at the rise of PORST_N it never passes step 1 (R498). DC counts from step
3 of a start-up after power-on (R289). -/
def startUp (b : BootInput) (x : SysMem) : SysMem :=
  onSys (fun s =>
    if inHold s then s
    else
      let warm := s.boot.kind == 2
      let left := if s.boot.testEn && !warm then [] else stepTicks warm s.now b.stepsUs
      let t3 := ((left.find? (fun e => e.1 == 3)).map (·.2)).getD s.now
      let s := { updBoot (fun v => { v with input := some b, trigger := s.now, left := left, done := [] }) s with devStep := 1 }
      if warm then s else setBase 0 { baseReset 0 with at_ := t3 } { s with dcZero := t3, slotAt := t3 }) x

/-! ### The reload (R485) -/

/-- The fields that a record of the image gives, checked; none where the record is skipped. -/
def reloadRec (s : Sys) (r : FlashRec) : Option (List Staged) :=
  match objAt r.ix r.sub with
  | none => none
  | some o =>
    if o.cls != .p then none
    else match o.rows, o.cols with
      | none, f :: _ =>
        if r.ty ≠ f.ty.code then none
        else match decodeValue f.ty r.body with
          | some (v, []) =>
            let (stored, codes) := checkValue s r.ix r.sub 0 0 f v
            some [{ ix := r.ix, sub := r.sub, row := 0, col := 0, req := v, val := stored, codes := codes }]
          | _ => none
      | some limit, cols =>
        let first := field r.body 0 4
        let count := field r.body 4 4
        if r.ty ≠ 16 ∨ r.body.length < 8 ∨ limit < first + count then none
        else (decodeRows cols count (r.body.drop 8)).map (fun rows => rows.zipIdx.flatMap (fun e =>
          (e.1.zip (checkRow s r.ix r.sub (first + e.2) e.1)).zipIdx.map (fun c =>
            { ix := r.ix, sub := r.sub, row := first + e.2, col := c.2, req := c.1.1, val := c.1.2.1, codes := c.1.2.2 : Staged })))
      | none, [] => none

def isRemap (r : FlashRec) : Bool := r.ix == 0x0610 && r.sub == 1

/-- Step 7: the key rows are in force ahead of the other records. -/
def keyReload (s : Sys) : Sys :=
  let rows := ((loadedRecs s).filter (fun r => r.ix == 0x0300 && r.sub == 9)).filterMap (reloadRec s)
  rows.flatten.foldl (fun s y => if rejected s y then s else putVal s y.ix y.sub y.row y.col y.val) s

/-- The deep store is empty: every buffer is free. -/
def emptyPools (s : Sys) : Sys := loop (fun k s => setPool k (freshPool (cell s 0x0680 1 k 0)) s) 0 3 s

/-- After a warm reset the bases that stay enabled go on as they stood (R300). -/
def basesReload (kept s : Sys) : Sys :=
  loop (fun b s =>
    if flag s (tbIx b) 1 then (if (base kept b).st ≠ 0 then setBase b (base kept b) s else s)
    else if (base s b).st ≠ 0 then tbEnable b false s else s) 0 4 s

/-- Step 9: every record at one commit point, after which GENERATION reads 1. -/
def applyImage (x : SysMem) : SysMem :=
  let s := x.1
  let recs := loadedRecs s
  let out := recs.map (fun r => if isRemap r then some [] else reloadRec s r)
  let all := (out.filterMap id).flatten
  let refused := all.filter (rejected s)
  let enter (s : Sys) (y : Staged) : Sys := enterCodes 0 0 y.ix y.sub y.row y.col (0, 0) y.codes y.req (val s y.ix y.sub y.row y.col) s
  let (x, _, _) := commitStaged 0 0 (all.filter (fun y => !rejected s y)) (refused.foldl enter s, x.2)
  onSys (fun t =>
    let t := if t.boot.kind = 2 then basesReload s t else t
    let t := emptyPools { t with rsGen := 1, rsBank := [], rsRetired := [] }
    let t := updRecd (fun r => { r with size := 16 * obj t 0x7810 2 }) (updNrg (fun n => { n with asked := obj t 0x0400 1 }) t)
    updBoot (fun b => { b with records := (out.filter (·.isSome)).length, skipped := (out.filter (·.isNone)).length, clamped := t.clampSeq }) t) x

/-! ### The steps of Table RST-2 -/

/-- Step 2: the self-test, without which start-up does not go on. -/
def selfTest (s : Sys) : Sys :=
  if (s.boot.input.map (·.selfTestGood)).getD true then { s with plinth := { s.plinth with tested := true } }
  else plinthFault (updBoot (fun b => { b with left := [] }) s)

/-- Step 4: the flash and its slots, the choice of R483, and the flags of Table RST-5. -/
def findFlash (s : Sys) : Sys :=
  let present := (s.boot.input.map (·.flashPresent)).getD false
  let pick (i off : Nat) : Nat := if present then ((newestOf s i).map (fun k => k - off)).getD 0 else 0
  let fw := ((if present then newestOf s 0 else none).map (· + 1)).getD 0
  let cfg := pick 2 1
  let flags :=
    if !present then 1
    else
      let bad (i : Nat) : Bool := let st := (slot s i).state i; decide (2 ≤ st)
      2 * boolNat ((List.range 4).all (fun i => (slot s i).blank)) + 4 * boolNat (bad 0) + 8 * boolNat (bad 1) + 16 * boolNat (bad 2) + 32 * boolNat (bad 3)
  let foreign := decide (cfg ≠ 0) && slice (slot s (1 + cfg)).header 44 16 != Config.serial
  let flags := flags + 64 * boolNat (cfg == 0) + 128 * boolNat (s.boot.cause == 5) + 256 * boolNat foreign
  useFlash (updFlash (fun f => { f with present := present, jedec := if present then (s.boot.input.map (·.jedecId)).getD 0 else 0,
                                        sizeMib := if present then (s.boot.input.map (·.sizeMib)).getD 0 else 0, fw := fw, loadedCfg := cfg })
    (updBoot (fun b => { b with flags := flags }) s))

/-- The run of the start: 96 numbers of the head sequence and 48 slots of each lane, whose verdict follows at once. -/
def wholeRun (s : Sys) : Sys :=
  let slots (s : Sys) (x : DecId × Nat) : Sys :=
    { bumpBy (Ctr.slotService (dnat x.1) x.2) 48 s with
        slotMarks := SMap.upd 0 s.slotMarks (dnat x.1 * 2 + x.2) (· + 48) }
  let s := ((runningDecs s).flatMap (fun d => [(d, 0), (d, 1)])).foldl slots s
  { s with runAt := s.now :: recentRuns s, headSeq := s.headSeq + 96 }

/-- Step 10: each decider makes its golden-vector run and takes the state that its configured claim gives; this is no change of a
claim, and no claim point (log entry 35). One that fails, or whose configured claim is 0, is deposed. -/
def startDeciders (s : Sys) : Sys :=
  let begin_ (d : DecId) (s : Sys) : Sys :=
    syncStatic d (setDecider d { (decider s d).begin s.now with st := .following, since := dc s, claim := cfgClaim s d } s)
  let s := wholeRun (elect (begin_ .b (begin_ .a s)))
  let (s, okA) := loadRun .a ((s.boot.input.map (·.failA)).getD false) s
  let (s, okB) := loadRun .b ((s.boot.input.map (·.failB)).getD false) s
  let turn (d : DecId) (ok : Bool) (s : Sys) : Sys := if !ok then depose d 3 s else if cfgClaim s d = 0 then depose d 4 s else s
  let s := turn .b okB (turn .a okA s)
  if claimsEqual s ∧ !bit s.faults 9 then holdCause 9 0 true (raise 0x0306 3 (u8b s.decA.claim) (bump Ctr.decClaimsEqual s)) else s

/-- Step 11: the lanes start bring-up. -/
def startLanes (s : Sys) : Sys :=
  loop (fun n s => if laneType s (laneOwner s n) = 0 then s else aimLane n .active s) 0 64 s

/-- Step 12: the device is ready. The slots that did not load are read through, and erased where a byte is programmed (R484). -/
def becomeReady (s : Sys) : Sys :=
  let us := (s.now - s.boot.trigger) / Config.ticksPerUs
  let s := { updBoot (fun b => { b with wasReady := true, readyDc := dc s, startupUs := us }) s with devState := 1, announce := some (3, s.now) }
  let s := { s with bootSilent := (s.faults &&& pinACauses) != 0 }
  let s := raise 0x0101 0 (u32b s.bootCount ++ u32b us) s
  let s := if s.boot.clamped = 0 then s else raise 0x0105 1 (u32b s.boot.clamped) s
  let s := updMem (fun m => { m with autoBase := some s.now }) s
  if !s.flash.present then s
  else
    let others := [2, 3].filter (fun i => i != 1 + s.flash.loadedCfg)
    eraseSlots others (updFlash (fun f => { f with readEnd := s.now + 25 * Config.ticksPerMs }) s)

/-- What step `k` does. -/
def bootStep (k : Nat) (x : SysMem) : SysMem :=
  match k with
  | 2 => onSys selfTest x
  | 3 => onSys (updBoot (fun v => { v with dcStands := false })) x
  | 4 => onSys findFlash x
  | 5 => onSys (fun s => { s with bootCount := (s.bootCount + 1) % 2 ^ 32 }) x
  | 7 => onSys keyReload x
  | 8 => onSys (fun s => if s.boot.kind = 2 then s else remapReload s) x
  | 9 => applyImage x
  | 10 => onSys startDeciders x
  | 11 => onSys startLanes x
  | 12 => onSys becomeReady x
  | _ => x

/-- The next step that is due by tick `t`. -/
def bootDue (t : Nat) (s : Sys) : Option (Nat × Nat) :=
  (sortBy (fun e => e.2) s.boot.left).head?.bind (fun e => if e.2 ≤ t then some e else none)

/-- Complete step `k`: DEV_STEP shows the lowest step still in progress, BOOT_STEPS the instants. -/
def bootTurn (k : Nat) (x : SysMem) : SysMem :=
  let stopped := k = 2 ∧ (x.1.boot.input.map (·.selfTestGood)).getD true = false
  let x := bootStep k x
  if stopped then x
  else onSys (fun s =>
    let left := s.boot.left.filter (fun e => e.1 != k)
    let step := if left.isEmpty then 0 else (left.map (·.1)).foldl min 12
    { updBoot (fun b => { b with left := left, done := SMap.set 0 b.done (k - 1) ((s.now - b.trigger) / Config.ticksPerUs % 2 ^ 32) }) s with devStep := step }) x

/-! ### The commands -/

/-- PORST_N_ASSERT, POWER_ON_DETECTOR_ASSERT: a power-on reset of cause 1 or 2. -/
def porstAssert (x : SysMem) : SysMem := if x.1.boot.porst then x else onSys (updBoot (fun b => { b with porst := true })) (beginReset false 1 1 x)
def detectorAssert (x : SysMem) : SysMem := if x.1.boot.detector then x else onSys (updBoot (fun b => { b with detector := true })) (beginReset false 1 2 x)

/-- WRST_N_ASSERT: what holds the device in a power-on reset overrides it. -/
def wrstAssert (x : SysMem) : SysMem :=
  if x.1.boot.wrst then x
  else onSys (updBoot (fun b => { b with wrst := true })) (if inHold x.1 then x else warmReset 3 x)

/-- BOUNDARY_SCAN_HOLD: the device is held as by a power-on reset, whose cause the manual does not give (log entry 36). -/
def scanHold (x : SysMem) : SysMem :=
  if x.1.boot.scan then x
  else
    let (c, s) := free x.1
    onSys (updBoot (fun b => { b with scan := true })) (beginReset false 1 c (s, x.2))

/-- The release of what holds the device: start-up begins when nothing holds it any more. -/
def release (held : Boot → Bool) (let_ : Boot → Boot) (b : BootInput) (x : SysMem) : SysMem :=
  if held x.1.boot then startUp b (onSys (updBoot let_) x) else x

/-- DEV_RESET_DELAY_EXPIRY: 2 ms after the commit point the commanded reset begins (R474). -/
def devResetEffect (b : BootInput) (x : SysMem) : SysMem :=
  match x.1.boot.delay with
  | some (t, full) => if x.1.now < t then x else startUp b (if full then beginReset false 3 4 x else warmReset 4 x)
  | none => x

/-- FIRMWARE_BOOT_TIMEOUT: a slot's firmware has not become ready within 2 s, or its stewards have failed (R476, R488). -/
def firmwareTimeout (b : BootInput) (x : SysMem) : SysMem :=
  let s := x.1
  if s.devState ≠ 0 ∨ s.devStep = 0 ∨ s.flash.fw = 0 ∨ !(s.boot.fwFailed || decide (s.boot.trigger + 2 * Config.ticksPerS ≤ s.now)) then x
  else startUp b (warmReset 5 (onSys (revokeSlot (s.flash.fw - 1)) x))

end Sys2Proof.Machine
end

