-- ==== Sys2Proof/Machine/Run.lean ====
section
/-! DEFINITION. What surrounds the effect of every command: TIME runs to the command's tick, start-up steps that have fallen due
are completed, and after the effect whatever follows from the new state at the same instant is done. -/

namespace Sys2Proof.Machine

/-! ### Time runs (R288, R332, R454, R475) -/

/-- The slot counters of one lane over the ticks from `a` to `b` (R454, Table OBS-6). -/
def slotTurn (a b : Nat) (d : DecId) (lane : Nat) (s : Sys) : Sys :=
  let v := decider s d
  let key := dnat d * 2 + lane
  let dt := b - a
  let s := bumpBy (Ctr.slotTotal (dnat d) lane) dt s
  if v.st = .deposed ∨ v.st = .loading ∨ !v.started ∨ s.devState = 3 then bumpBy (Ctr.slotOff (dnat d) lane) dt s
  else if lane = 1 ∧ lane1Napped s then bumpBy (Ctr.slotNapped (dnat d) lane) dt s
  else
    let cycles := b / decDiv s - a / decDiv s
    let marks := SMap.get 0 s.slotMarks key
    let used := min cycles marks
    let waits := v.waking.isSome && (openHeads s).any (fun f => f.2.seq % 2 == lane)
    let s := bumpBy (Ctr.slotThrottled (dnat d) lane) (dt - cycles) { s with slotMarks := SMap.set 0 s.slotMarks key (marks - used) }
    bumpBy (if waits then Ctr.slotBlocked (dnat d) lane else Ctr.slotStarved (dnat d) lane) (cycles - used) s

def slotsTo (t : Nat) (s : Sys) : Sys :=
  if t ≤ s.slotAt then s
  else
    let a := s.slotAt
    { slotTurn a t .b 1 (slotTurn a t .b 0 (slotTurn a t .a 1 (slotTurn a t .a 0 s))) with slotAt := t }

/-- TIME runs on to tick `t`; it never runs back. -/
def setNow (t : Nat) (s : Sys) : Sys := if t ≤ s.now then s else { creditsTo t (slotsTo t s) with now := t }

/-! ### What follows from a state at once -/

/-- Start-up silence ends once the device is ready and no cause with pin A is set (R425). -/
def silenceWatch (s : Sys) : Sys :=
  if s.bootSilent ∧ s.devState ≠ 0 ∧ s.faults &&& pinACauses = 0 then unsilence (darkPorts s) { s with bootSilent := false } else s

/-- A lane tile is off only while its lanes are Deep or Off (R411). -/
def tileWatch (s : Sys) : Sys :=
  let stays (k : Nat) : Bool := (List.range 8).all (fun i =>
    let l := lane s (8 * k + i)
    decide (2 ≤ powerDepth l.power) && !l.target.any (fun x => decide (powerDepth x < 2)))
  loop (fun k s =>
    if bits s.nrg.form.tiles (2 * k + 1) (2 * k) = 3 ∧ !stays k then
      updNrg (fun n => { n with form := { n.form with tiles := putBits n.form.tiles (2 * k + 1) (2 * k) 0 } }) s
    else s) 0 8 s

/-- Cause 11 is set exactly while a die is failed (Table SAF-2). -/
def dieWatch (s : Sys) : Sys := if stepDone s 8 then holdCause 11 ((failedDie s).getD 0) (failedDie s).isSome s else s

/-- Back-pressure, the Knaing width, rule-set banks, base inputs, recorder triggers, held causes, silence and wake sources follow
the state; requests that can be served are served, sessions that must end end, and events are sent. -/
def aftermath (x : SysMem) : SysMem :=
  let s := wakeWatch (tileWatch (silenceWatch (dieWatch (triggersTurn (basesWatch (rsWatch (kngWatch (fcAll (laneWatch (lpiWatch (deferAll x.1)))))))))))
  let (s, m) := pump (flushWrites (s, x.2))
  let s := s.ending.foldl (fun s sid => endSession sid s) s
  flushWrites (eventPump { s with ending := [] }, m)

/-- Up to `n` start-up steps that are due by tick `t`, each at its own tick. -/
def bootTurns : Nat → Nat → SysMem → SysMem
  | 0, _, x => x
  | n + 1, t, x =>
    match bootDue t x.1 with
    | none => x
    | some (k, u) => bootTurns n t (aftermath (flushWrites (bootTurn k (onSys (setNow u) x))))

/-- TIME runs on to the tick of a command. -/
def advance (t : Nat) (x : SysMem) : SysMem := onSys (setNow t) (bootTurns 12 t x)

/-- A command at tick `t` with effect `f`. -/
def runMem (t : Nat) (f : SysMem → SysMem) (s : State) : Host.Outcome State Fault Refusal :=
  let x := aftermath (flushWrites (f (advance t (s.sys, s.hbm))))
  .next { s with sys := x.1, hbm := x.2 }

/-- A command whose effect leaves the HBM to the blocks that the state asks to write. -/
def run (t : Nat) (f : Sys → Sys) (s : State) : Host.Outcome State Fault Refusal := runMem t (onSys f) s

/-! ### When a command has its effect -/

/-- An effect that needs start-up step `k` to have completed (R476). -/
def fromStep (k : Nat) (f : Sys → Sys) (s : Sys) : Sys := if stepDone s k then f s else s

/-- An effect that a steward brings about. -/
def bySteward (f : Sys → Sys) (s : Sys) : Sys := if stewardsRun s then f s else s

/-- An effect that needs the device out of start-up. -/
def onceReady (f : Sys → Sys) (s : Sys) : Sys := if s.devState = 0 then s else f s

/-- The same for effects on the HBM. -/
def fromStepMem (k : Nat) (f : SysMem → SysMem) (x : SysMem) : SysMem := if stepDone x.1 k then f x else x
def byStewardMem (f : SysMem → SysMem) (x : SysMem) : SysMem := if stewardsRun x.1 then f x else x

/-- A session writes number `v` to object `ix`:`sub` (R31, R41). -/
def writes (sid ix sub v : Nat) (x : SysMem) : SysMem := sessionWrite sid ix sub (.num (v : Nat)) x

/-- Objects that a session holds are set first, then the object whose write is the command (R33). -/
def preset (sid : Nat) (l : List (Nat × Nat × Nat)) (x : SysMem) : SysMem := l.foldl (fun x e => writes sid e.1 e.2.1 e.2.2 x) x

end Sys2Proof.Machine
end

