-- ==== Sys2Proof/Machine/Clocks.lean ====
section
/-! DEFINITION. Commands of the time bases, PTP, TIME_IO and the scheduled actions (R290 to R319). -/

namespace Sys2Proof.Machine

/-- REF_RECOVERY (R290): REF has been within tolerance for 10 ms and TIME returns to REF. -/
def execRefRecovery (t : Nat) (s : State) : Host.Outcome State Fault Refusal :=
  run t refRecoveryEffect s

/-- TB_OFFSET_MEASUREMENT (R294): an offset measurement of a base steps it in UNSET or runs the servo. -/
def execTbOffsetMeasurement (t : Nat) (b : Fin 4) (source : Nat) (s : State) : Host.Outcome State Fault Refusal :=
  run t (bySteward (measurementEffect b.val source)) s

/-- TB_STEP_TO (R293): a write of TB_STEP_TO steps a manual base in UNSET at the commit point. -/
def execTbStepTo (t : Nat) (sid : Nat) (b : Fin 4) (time : Nat) (s : State) : Host.Outcome State Fault Refusal :=
  runMem t (writes sid (tbIx b.val) 8 time) s

/-- TB_RESTEP (R297): an armed write returns a base to UNSET at the commit point. -/
def execTbRestep (t : Nat) (sid : Nat) (b : Fin 4) (s : State) : Host.Outcome State Fault Refusal :=
  runMem t (writes sid (tbIx b.val) 0x0E 1) s

/-- TB_INPUT_LOSS (R296): a base loses its input and enters HOLDOVER. -/
def execTbInputLoss (t : Nat) (b : Fin 4) (s : State) : Host.Outcome State Fault Refusal :=
  run t (inputLossEffect b.val) s

/-- TS_QUEUE_DRAIN (R305): a steward drains a transmit time-stamp queue to its PTP engine and TS_LOG. -/
def execTsQueueDrain (t : Nat) (port : Fin 76) (s : State) : Host.Outcome State Fault Refusal :=
  run t (bySteward (tsDrainEffect port.val)) s

/-- PTP_MESSAGE_RX (R308): a steered PTP message is processed by its instance. -/
def execPtpMessageRx (t : Nat) (s : State) : Host.Outcome State Fault Refusal :=
  run t (bySteward ptpRxEffect) s

/-- PTP_MESSAGE_TX (R307): a PTP message interval elapses and a steward sends the message. -/
def execPtpMessageTx (t : Nat) (b : Fin 4) (port : Fin 76) (msgType : Fin 16) (s : State) : Host.Outcome State Fault Refusal :=
  run t (bySteward (ptpTxEffect b.val port.val msgType.val)) s

/-- ANNOUNCE_RECEIPT_TIMEOUT (R306): announce_timeout announce intervals pass on a PTP port without an Announce message and
the port changes its PTP state. -/
def execAnnounceReceiptTimeout (t : Nat) (b : Fin 4) (port : Fin 76) (s : State) : Host.Outcome State Fault Refusal :=
  run t (bySteward (announceTimeoutEffect b.val port.val)) s

/-- TIO_EDGE (R312): an edge on a TIME_IO pin in mode 3 is stamped into its event queue. -/
def execTioEdge (t : Nat) (pin : Fin 4) (rising : Bool) (s : State) : Host.Outcome State Fault Refusal :=
  run t (fromStep 11 (tioEdgeEffect pin.val rising)) s

/-- PPS_EDGE (R314): a rising edge on a PPS input gives a measurement for its base. -/
def execPpsEdge (t : Nat) (pin : Fin 4) (s : State) : Host.Outcome State Fault Refusal :=
  run t (bySteward (ppsEffect pin.val)) s

/-- ACTION_EXECUTE (R315): a scheduled action's base reaches its time and the action drives a pin or triggers the recorder. -/
def execActionExecute (t : Nat) (row : Fin 64) (s : State) : Host.Outcome State Fault Refusal :=
  run t (actionEffect row.val) s

/-- ACTION_PULSE_END (R317): the width of a pulse action ends and the pin returns inactive. -/
def execActionPulseEnd (t : Nat) (row : Fin 64) (s : State) : Host.Outcome State Fault Refusal :=
  run t (pulseEndEffect row.val) s

end Sys2Proof.Machine
end

