-- ==== Sys2Proof/Machine/Control.lean ====
section
/-! DEFINITION. Commands of transactions, commit points, stores and snapshots (R35, R44 to R60, R484, R486). -/

namespace Sys2Proof.Machine

/-- TXN_OPEN (R45): a write of 1 to 0x0200:03 opens a transaction for the session. -/
def execTxnOpen (t : Nat) (via : Via) (s : State) : Host.Outcome State Fault Refusal :=
  runMem t (txnEffect via 0x20 (fun _ => true) (fun sid => writes sid 0x0200 3 1)) s

/-- TXN_ARM (R47): a write of 0x0200:06 arms an open transaction or aborts it on a wrong CRC. -/
def execTxnArm (t : Nat) (via : Via) (crc : Nat) (s : State) : Host.Outcome State Fault Refusal :=
  runMem t (txnEffect via 0x21 (fun _ => true) (fun sid => writes sid 0x0200 6 crc)) s

/-- TXN_COMMIT_NEXT (R49): a commit with value 1 moves the transaction to PENDING for the next commit point. -/
def execTxnCommitNext (t : Nat) (via : Via) (s : State) : Host.Outcome State Fault Refusal :=
  runMem t (txnEffect via 0x22 (fun g => byteAt (gfPayload g) 0 != 2) (fun sid => writes sid 0x0200 7 1)) s

/-- TXN_COMMIT_STATED (R51): a commit with value 2 moves the transaction to PENDING for a stated time on a base. -/
def execTxnCommitStated (t : Nat) (via : Via) (base : Fin 5) (time : Nat) (s : State) : Host.Outcome State Fault Refusal :=
  runMem t (txnEffect via 0x22 (fun g => byteAt (gfPayload g) 0 == 2)
    (fun sid x => writes sid 0x0200 7 2 (preset sid [(0x0200, 8, time), (0x0200, 9, base.val)] x))) s

/-- TXN_ABORT (R44): a commit with value 3 aborts the session's transaction. -/
def execTxnAbort (t : Nat) (via : Via) (s : State) : Host.Outcome State Fault Refusal :=
  runMem t (txnEffect via 0x23 (fun _ => true) (fun sid => writes sid 0x0200 7 3)) s

/-- TXN_TIMEOUT_EXPIRY (R48): an open or armed transaction receives no write for TXN_TIMEOUT and is aborted. -/
def execTxnTimeoutExpiry (t : Nat) (sid : Nat) (s : State) : Host.Outcome State Fault Refusal :=
  run t (bySteward (txnTimeoutEffect sid)) s

/-- COMMIT_POINT (R49): at a boundary in the head sequence, pending objects and dependency clamps take effect together and the
generation advances. -/
def execCommitPoint (t : Nat) (s : State) : Host.Outcome State Fault Refusal :=
  runMem t (byStewardMem commitPointEffect) s

/-- STATED_COMMIT_TIME (R51): the chosen base reaches a pending transaction's stated time and its commit point falls. -/
def execStatedCommitTime (t : Nat) (sid : Nat) (s : State) : Host.Outcome State Fault Refusal :=
  runMem t (byStewardMem (statedCommitEffect sid)) s

/-- STORE (R35): a write of 1 to STORE starts storing the committed class P values to flash. -/
def execStore (t : Nat) (sid : Nat) (s : State) : Host.Outcome State Fault Refusal :=
  runMem t (writes sid 0x0200 0x0F 1) s

/-- RESTORE_DEFAULTS (R56): a write of 2 to STORE returns writable objects to their defaults at one commit point. -/
def execRestoreDefaults (t : Nat) (sid : Nat) (s : State) : Host.Outcome State Fault Refusal :=
  runMem t (writes sid 0x0200 0x0F 2) s

/-- ERASE_STORED_IMAGE (R486): a write of 3 to STORE revokes and erases both configuration slots. -/
def execEraseStoredImage (t : Nat) (sid : Nat) (s : State) : Host.Outcome State Fault Refusal :=
  runMem t (writes sid 0x0200 0x0F 3) s

/-- STORE_DONE (R484): a store's payload and header are programmed and verified, or it fails, and the outcome is raised. -/
def execStoreDone (t : Nat) (flashError : Bool) (s : State) : Host.Outcome State Fault Refusal :=
  run t (bySteward (storeDoneEffect flashError)) s

/-- SLOT_ERASE_DONE (R484): the erase of an older or partly written configuration slot completes. -/
def execSlotEraseDone (t : Nat) (slot : FlashSlot) (s : State) : Host.Outcome State Fault Refusal :=
  run t (slotEraseEffect (slotNo slot)) s

/-- SNAP_REQ_NEXT (R58): a snapshot request with value 1 schedules a counter flip at the next commit point. -/
def execSnapReqNext (t : Nat) (sid : Nat) (slot : Fin 4) (s : State) : Host.Outcome State Fault Refusal :=
  runMem t (fun x => writes sid 0x0220 2 1 (preset sid [(0x0220, 5, slot.val)] x)) s

/-- SNAP_REQ_STATED (R58): a snapshot request with value 2 schedules a counter flip at a stated time. -/
def execSnapReqStated (t : Nat) (sid : Nat) (slot : Fin 4) (base : Fin 5) (time : Nat) (s : State) : Host.Outcome State Fault Refusal :=
  runMem t (fun x => writes sid 0x0220 2 2 (preset sid [(0x0220, 5, slot.val), (0x0220, 4, base.val), (0x0220, 3, time)] x)) s

/-- SNAP_RELEASE (R60): a snapshot request with value 3 returns a slot to FREE. -/
def execSnapRelease (t : Nat) (sid : Nat) (slot : Fin 4) (s : State) : Host.Outcome State Fault Refusal :=
  runMem t (fun x => writes sid 0x0220 2 3 (preset sid [(0x0220, 5, slot.val)] x)) s

/-- SNAPSHOT_SWEEP_DONE (R60): the background sweep has copied every counter and the slot becomes READY. -/
def execSnapshotSweepDone (t : Nat) (slot : Fin 4) (s : State) : Host.Outcome State Fault Refusal :=
  run t (sweepEffect slot.val) s

end Sys2Proof.Machine
end

