-- ==== Sys2Proof/Machine/Crossing.lean ====
section
/-! DEFINITION. Commands of the crossbar, the deep store and the queues (R259 to R287, R325 to R330, R11, R12, R450). -/

namespace Sys2Proof.Machine

/-- MATCHER_CYCLE (R262): once per cell time the matcher pairs crossbar inputs with outputs and moves one cell per matched
pair. -/
def execMatcherCycle (t : Nat) (s : State) : Host.Outcome State Fault Refusal :=
  run t matcherEffect s

/-- CELL_ARRIVAL (R261): a cell reaches its egress tile, is checked for hcrc and cseq, and is reassembled. -/
def execCellArrival (t : Nat) (src dst : Fin 9) (tc : Fin 8) (altered : Option (List Byte))
    (s : State) : Host.Outcome State Fault Refusal :=
  run t (cellArrivalEffect src.val dst.val tc.val altered) s

/-- COPY_ENQUEUE (R325): a copy of a frame meets the enqueue tests of its egress queue and joins it. -/
def execCopyEnqueue (t : Nat) (copy : Nat) (s : State) : Host.Outcome State Fault Refusal :=
  run t (enqueueEffect copy) s

/-- DEEP_WRITE_DONE (R274): every block of a deep copy is written and tag-checked and the copy becomes eligible for dequeue.
-/
def execDeepWriteDone (t : Nat) (copy : Nat) (s : State) : Host.Outcome State Fault Refusal :=
  run t (deepWriteEffect copy) s

/-- BUFFER_FREE (R277): an agent frees a buffer; the BPM checks the owner map and threads or rejects it. -/
def execBufferFree (t : Nat) (pool : Fin 3) (buffer : Nat) (agent : Fin 16) (s : State) : Host.Outcome State Fault Refusal :=
  run t (bufferFreeEffect pool.val buffer agent.val) s

/-- POOL_REBUILD_CMD (R280): a write to POOL_REBUILD starts a rebuild of the named pool. -/
def execPoolRebuildCmd (t : Nat) (sid : Nat) (pool : Fin 3) (s : State) : Host.Outcome State Fault Refusal :=
  runMem t (writes sid 0x0680 4 (pool.val + 1)) s

/-- POOL_REBUILD_DONE (R280): the owner-map scan of a pool rebuild ends and POOL_REBUILT is raised. -/
def execPoolRebuildDone (t : Nat) (pool : Fin 3) (s : State) : Host.Outcome State Fault Refusal :=
  run t (rebuildDoneEffect pool.val) s

/-- SCHEDULER_SELECT (R328): at a transmission opportunity the port scheduler selects the next eligible copy and starts its
transmission. -/
def execSchedulerSelect (t : Nat) (port : Fin 76) (s : State) : Host.Outcome State Fault Refusal :=
  run t (schedulerEffect port.val) s

/-- CUT_THROUGH_UNDERRUN (R266): a cut-through copy in transmission needs a byte not yet in the egress tile and is ended with
the stomp pattern. -/
def execCutThroughUnderrun (t : Nat) (port : Fin 76) (s : State) : Host.Outcome State Fault Refusal :=
  run t (underrunEffect port.val) s

/-- FRAME_TX_END (R450): the last byte of a frame leaves the transmit balls and its transmit counters and stamp are recorded.
-/
def execFrameTxEnd (t : Nat) (port : Fin 76) (s : State) : Host.Outcome State Fault Refusal :=
  run t (frameTxEndEffect port.val) s

/-- EXPRESS_LATENCY_FLOOR (R11): a held express frame reaches 380 ns after its reference point and may be transmitted. -/
def execExpressLatencyFloor (t : Nat) (copy : Nat) (s : State) : Host.Outcome State Fault Refusal :=
  run t (floorEffect false copy) s

/-- DEEP_LATENCY_FLOOR (R12): a held deep-store frame reaches 1.5 us after its reference point and may be transmitted. -/
def execDeepLatencyFloor (t : Nat) (copy : Nat) (s : State) : Host.Outcome State Fault Refusal :=
  run t (floorEffect true copy) s

/-- CREDIT_TICK (R332): every 102.4 ns credit changes take effect and CBS_STATUS is published. -/
def execCreditTick (t : Nat) (s : State) : Host.Outcome State Fault Refusal :=
  run t creditTickEffect s

/-- GATE_CHANGE_TIME (R335): a pending gate list configuration becomes operating at its change time. -/
def execGateChangeTime (t : Nat) (port : Fin 76) (s : State) : Host.Outcome State Fault Refusal :=
  run t (gateChangeEffect port.val) s

/-- GATE_EVENT (R338): a gate list entry or cycle boundary changes the port's gate states. -/
def execGateEvent (t : Nat) (port : Fin 76) (s : State) : Host.Outcome State Fault Refusal :=
  run t (gateEventEffect port.val) s

/-- PREEMPT_HOLD_ASSERT (R345): PREEMPT_HOLD_ADVANCE before an op 1 entry, hold is asserted. -/
def execPreemptHoldAssert (t : Nat) (port : Fin 76) (s : State) : Host.Outcome State Fault Refusal :=
  run t (holdAssertEffect port.val) s

/-- PREEMPT_VERIFY_TX (R342): PREEMPT_VERIFY_TIME passes without response and a verify mPacket is sent, or verification fails
after three. -/
def execPreemptVerifyTx (t : Nat) (port : Fin 76) (s : State) : Host.Outcome State Fault Refusal :=
  run t (verifyTxEffect port.val) s

/-- PREEMPT_VERIFY_RESPONSE (R342): a verify response arrives and preemption becomes active. -/
def execPreemptVerifyResponse (t : Nat) (port : Fin 76) (s : State) : Host.Outcome State Fault Refusal :=
  run t (verifyResponseEffect port.val) s

/-- FC_REFRESH_EXPIRY (R131): FC_REFRESH passes while back-pressure lasts and the PAUSE or PFC frame is repeated. -/
def execFcRefreshExpiry (t : Nat) (port : Fin 76) (s : State) : Host.Outcome State Fault Refusal :=
  run t (fcRefreshEffect port.val) s

end Sys2Proof.Machine
end

