-- ==== Sys2Proof/Machine/Decisions.lean ====
section
/-! DEFINITION. Commands of the deciders, the commit stage and the tables (R185 to R258). -/

namespace Sys2Proof.Machine

/-- DECIDE (R185): a head takes a free decision slot and a decider forms its forwarding decision and stream look-ups. -/
def execDecide (t : Nat) (d : DecId) (lane : Fin 2) (s : State) : Host.Outcome State Fault Refusal :=
  run t (decideEffect d lane.val) s

/-- DECISION_RECORD_ARRIVAL (R233): a decision, null or golden-vector record from a decider reaches the commit stage. -/
def execDecisionRecordArrival (t : Nat) (d : DecId) (lane : Fin 2) (skip : Nat) (altered : Option (List Byte))
    (s : State) : Host.Outcome State Fault Refusal :=
  run t (recordArrivalEffect d lane.val skip altered) s

/-- COMPARISON_WINDOW_EXPIRY (R233): the 392 ns window for a head's missing record ends and the pair is classified. -/
def execComparisonWindowExpiry (t : Nat) (seq : Nat) (s : State) : Host.Outcome State Fault Refusal :=
  run t (windowExpiryEffect seq) s

/-- LEARN_REQUEST (R200): the learn engine takes a ready learn request and creates, refreshes, contests or moves an entry. -/
def execLearnRequest (t : Nat) (d : DecId) (s : State) : Host.Outcome State Fault Refusal :=
  run t (learnTake d) s

/-- FLAP_HOLD_EXPIRY (R201): FLAP_HOLD after a freeze ends and flapping and the move history are cleared. -/
def execFlapHoldExpiry (t : Nat) (d : DecId) (slot : Nat) (s : State) : Host.Outcome State Fault Refusal :=
  run t (flapHoldEffect d slot) s

/-- AGEING_SWEEP (R205): every AGE_TIME/2 both deciders remove unhit learned entries and clear hit bits. -/
def execAgeingSweep (t : Nat) (s : State) : Host.Outcome State Fault Refusal :=
  run t ageingEffect s

/-- EMM_BANK_WAKE_DONE (R194): a gated EMM bank group finishes waking and waiting learn requests proceed. -/
def execEmmBankWakeDone (t : Nat) (d : DecId) (group : Fin 8) (s : State) : Host.Outcome State Fault Refusal :=
  run t (bankWakeEffect d group.val) s

/-- EMM_FLUSH_SOURCE (R206): EMM_FLUSH mode 1 removes the learned entries on a source. -/
def execEmmFlushSource (t : Nat) (sid : Nat) (lag peer : Bool) (target : Nat) (s : State) : Host.Outcome State Fault Refusal :=
  runMem t (writes sid 0x4003 1 (flushWord 1 lag peer target 0)) s

/-- EMM_FLUSH_VID (R206): EMM_FLUSH mode 2 removes the learned entries in a VID. -/
def execEmmFlushVid (t : Nat) (sid : Nat) (vid : Nat) (s : State) : Host.Outcome State Fault Refusal :=
  runMem t (writes sid 0x4003 1 (flushWord 2 false false 0 vid)) s

/-- EMM_FLUSH_SOURCE_VID (R206): EMM_FLUSH mode 3 removes the learned entries on a source in a VID. -/
def execEmmFlushSourceVid (t : Nat) (sid : Nat) (lag peer : Bool) (target vid : Nat) (s : State) : Host.Outcome State Fault Refusal :=
  runMem t (writes sid 0x4003 1 (flushWord 3 lag peer target vid)) s

/-- EMM_FLUSH_ALL (R206): EMM_FLUSH mode 4 removes all learned entries. -/
def execEmmFlushAll (t : Nat) (sid : Nat) (s : State) : Host.Outcome State Fault Refusal :=
  runMem t (writes sid 0x4003 1 (flushWord 4 false false 0 0)) s

/-- EMM_FLUSH_ENTRY (R206): EMM_FLUSH mode 5 removes the entry whose key stands in the session's EMM_FIND row. -/
def execEmmFlushEntry (t : Nat) (sid : Nat) (s : State) : Host.Outcome State Fault Refusal :=
  runMem t (writes sid 0x4003 1 (flushWord 5 false false 0 0)) s

/-- EMM_FLUSH_DONE (R206): a running flush finishes removing its entries. -/
def execEmmFlushDone (t : Nat) (s : State) : Host.Outcome State Fault Refusal :=
  run t flushDoneEffect s

/-- EMM_FIND (R222): a write of a session's EMM_FIND row searches the named decider and fills found, slot and result. -/
def execEmmFind (t : Nat) (sid : Nat) (row : Fin 16) (key : Nat) (which : Fin 3) (s : State) : Host.Outcome State Fault Refusal :=
  runMem t (findEffect sid row.val key which.val) s

/-- NULL_RECORD_EMIT (R241): every 1.024 us each running decider emits a null heartbeat record on alternate lanes. -/
def execNullRecordEmit (t : Nat) (d : DecId) (s : State) : Host.Outcome State Fault Refusal :=
  run t (nullEmitEffect d) s

/-- ARMATURE_WORD (R242): the Plinth receives and checks a decider's Armature word. -/
def execArmatureWord (t : Nat) (d : DecId) (altered : Option (BitVec 16)) (s : State) : Host.Outcome State Fault Refusal :=
  run t (armatureEffect d (altered.map (·.toNat))) s

/-- HEARTBEAT_TIMEOUT (R243): a heartbeat path timer of a decider reaches 4.496 us and the decider is deposed. -/
def execHeartbeatTimeout (t : Nat) (d : DecId) (path : HbPath) (s : State) : Host.Outcome State Fault Refusal :=
  run t (heartbeatTimeoutEffect d path) s

/-- GOLDEN_RUN (R245): every 1 ms a golden-vector run is injected on each lookup lane of each running decider. -/
def execGoldenRun (t : Nat) (s : State) : Host.Outcome State Fault Refusal :=
  run t goldenRunEffect s

/-- TRIGGERED_GOLDEN_RUN (R247): the third decision fault within 1 ms starts, or a deferred trigger later starts, a run on
both lanes of both deciders. -/
def execTriggeredGoldenRun (t : Nat) (s : State) : Host.Outcome State Fault Refusal :=
  run t triggeredRunEffect s

/-- GOLDEN_VERDICT (R246): the Plinth judges a completed golden-vector run and deposes failing deciders or enters the
unresolved state. -/
def execGoldenVerdict (t : Nat) (s : State) : Host.Outcome State Fault Refusal :=
  run t goldenVerdictEffect s

/-- UNRESOLVED_END (R248): the unresolved state ends after 1 s without a decision fault. -/
def execUnresolvedEnd (t : Nat) (s : State) : Host.Outcome State Fault Refusal :=
  run t unresolvedEndEffect s

/-- UNRESOLVED_LATCH (R249): the unresolved state lasts DEC_UNRESOLVED_LIMIT and the Plinth latches it and silences protected
classes. -/
def execUnresolvedLatch (t : Nat) (s : State) : Host.Outcome State Fault Refusal :=
  run t unresolvedLatchEffect s

/-- DEC_UNRESOLVED_CLEAR (R249): an armed write clears the unresolved latch and cause 2. -/
def execDecUnresolvedClear (t : Nat) (sid : Nat) (s : State) : Host.Outcome State Fault Refusal :=
  runMem t (writes sid 0x0500 0x0F 1) s

/-- DEC_READMIT (R251): a write names a DEPOSED decider, which enters LOADING at the commit point. -/
def execDecReadmit (t : Nat) (sid : Nat) (d : DecId) (s : State) : Host.Outcome State Fault Refusal :=
  runMem t (writes sid 0x0500 8 (dnat d + 1)) s

/-- READMIT_LOAD_DONE (R251): the loading decider's tables are copied and its golden-vector run decides SHADOW or DEPOSED. -/
def execReadmitLoadDone (t : Nat) (d : DecId) (shown : List (Fin 96 × List Byte)) (s : State) : Host.Outcome State Fault Refusal :=
  run t (readmitDoneEffect d (shown.map (fun e => (e.1.val, e.2)))) s

/-- SHADOW_CLEAN_EXPIRY (R252): a shadow decider's clean time reaches DEC_SHADOW_CLEAN and it becomes eligible. -/
def execShadowCleanExpiry (t : Nat) (d : DecId) (s : State) : Host.Outcome State Fault Refusal :=
  run t (shadowCleanEffect d) s

/-- DEC_RAISE (R253): an armed write raises an eligible shadow decider to its configured claim. -/
def execDecRaise (t : Nat) (sid : Nat) (d : DecId) (s : State) : Host.Outcome State Fault Refusal :=
  runMem t (writes sid 0x0500 9 (dnat d + 1)) s

/-- SKEW_SWEEP (R257): every DEC_SKEW_SWEEP the stewards compare the learned entries of both deciders, group by group. -/
def execSkewSweep (t : Nat) (group : Fin 64) (s : State) : Host.Outcome State Fault Refusal :=
  run t (bySteward (onceReady (skewSweepEffect group.val))) s

end Sys2Proof.Machine
end

