-- ==== Sys2Proof/Machine/Filters.lean ====
section
/-! DEFINITION. Commands of stream filters, stream gates, meters and FRER (R347 to R370). -/

namespace Sys2Proof.Machine

/-- STREAM_GATE_EVENT (R350): a stream gate entry or change time changes the gate state. -/
def execStreamGateEvent (t : Nat) (gate : Fin 1024) (s : State) : Host.Outcome State Fault Refusal :=
  run t (streamGateEffect gate.val) s

/-- SF_UNBLOCK (R348): a write of SF_UNBLOCK clears the blocked state of a stream filter. -/
def execSfUnblock (t : Nat) (sid : Nat) (h : Fin 4096) (s : State) : Host.Outcome State Fault Refusal :=
  runMem t (writes sid 0x6000 3 h.val) s

/-- SG_CLEAR (R349): a write of SG_CLEAR releases a latched-closed stream gate. -/
def execSgClear (t : Nat) (sid : Nat) (gate : Fin 1024) (s : State) : Host.Outcome State Fault Refusal :=
  runMem t (writes sid 0x6100 4 gate.val) s

/-- METER_CLEAR_RED (R351): a write of METER_CLEAR_RED releases a red-latched meter. -/
def execMeterClearRed (t : Nat) (sid : Nat) (meter : Fin 4096) (s : State) : Host.Outcome State Fault Refusal :=
  runMem t (writes sid 0x6200 3 meter.val) s

/-- FRER_RECOVERY_TIMEOUT (R368): a recovery function passes no frame for reset_ms and resets. -/
def execFrerRecoveryTimeout (t : Nat) (fn : Fin 2048) (s : State) : Host.Outcome State Fault Refusal :=
  run t (recoveryTimeoutEffect fn.val) s

/-- FRER_LATENT_TEST (R369): every latent_period a steward tests a recovery function for latent error. -/
def execFrerLatentTest (t : Nat) (fn : Fin 2048) (s : State) : Host.Outcome State Fault Refusal :=
  run t (bySteward (latentTestEffect fn.val)) s

/-- FRER_LATENT_PERIOD_RESET (R369): every latent_reset the steward restarts the latent counts. -/
def execFrerLatentPeriodReset (t : Nat) (fn : Fin 2048) (s : State) : Host.Outcome State Fault Refusal :=
  run t (bySteward (latentPeriodEffect fn.val)) s

/-- FRER_GEN_RESET (R360): a write of FRER_GEN_RESET returns a generation function's next_seq to 0. -/
def execFrerGenReset (t : Nat) (sid : Nat) (fn : Fin 2048) (s : State) : Host.Outcome State Fault Refusal :=
  runMem t (writes sid 0x6400 4 fn.val) s

/-- FRER_RCVY_RESET (R368): a write of FRER_RCVY_RESET resets a recovery function. -/
def execFrerRcvyReset (t : Nat) (sid : Nat) (fn : Fin 2048) (s : State) : Host.Outcome State Fault Refusal :=
  runMem t (writes sid 0x6400 7 fn.val) s

end Sys2Proof.Machine
end

