-- ==== Sys2Proof/Machine/Frames.lean ====
section
/-! DEFINITION. Commands of received frames, heads and parsing (R13 to R18, R119 to R130, R153 to R184). -/

namespace Sys2Proof.Machine

/-- HEAD_COMPLETE (R13): the first 128 bytes of a received frame, or the whole shorter frame, are in ingress staging and the
tile passes the head on. -/
def execHeadComplete (t : Nat) (port : Fin 76) (sfd : Nat) (bytes : List Byte) (ended : Bool) (cw : Nat × Nat)
    (s : State) : Host.Outcome State Fault Refusal :=
  run t (headCompleteEffect port.val sfd bytes ended cw) s

/-- FRAME_TAIL (R119): the last byte and FCS of a received frame arrive; the MAC gives the frame its length fate and counter
and settles a bad tail under R268. -/
def execFrameTail (t : Nat) (port : Fin 76) (rest : List Byte) (partialOctet : Bool) (cw : Nat × Nat) (s : State) :
    Host.Outcome State Fault Refusal :=
  run t (frameTailEffect port.val rest partialOctet cw) s

/-- PAUSE_RX (R129): a received PAUSE frame is consumed, counted and, when honoured, stops the port's classes for its quanta.
-/
def execPauseRx (t : Nat) (port : Fin 76) (dst : Nat) (quanta : Nat) (s : State) : Host.Outcome State Fault Refusal :=
  run t (pauseRxEffect port.val dst quanta) s

/-- PFC_RX (R129): a received PFC frame is consumed, counted and, when honoured, stops the named classes for their quanta. -/
def execPfcRx (t : Nat) (port : Fin 76) (dst : Nat) (enables : Nat) (times : List Nat) (s : State) : Host.Outcome State Fault Refusal :=
  run t (pfcRxEffect port.val dst enables times) s

/-- PAUSE_TIMER_EXPIRY (R129): a received pause time runs out and the stopped class is released. -/
def execPauseTimerExpiry (t : Nat) (port : Fin 76) (tc : Fin 8) (s : State) : Host.Outcome State Fault Refusal :=
  run t (pauseExpiryEffect port.val tc.val) s

/-- PARSE_CLASSIFY (R153): once the bytes the parse needs are in staging, the stage walks the Syntax table, consults the
fragment table, classifies and hashes the head. -/
def execParseClassify (t : Nat) (more : List Byte) (ended : Bool) (s : State) : Host.Outcome State Fault Refusal :=
  run t (parseClassifyEffect more ended) s

/-- FRAG_ENTRY_EXPIRY (R167): a fragment table entry reaches FRAG_TIMEOUT since its insertion or last hit and expires. -/
def execFragEntryExpiry (t : Nat) (slot : Fin 1024) (s : State) : Host.Outcome State Fault Refusal :=
  run t (fragExpiryEffect slot.val) s

/-- MM_FRAGMENT_RX (R346): a preemption fragment is received and reassembled. -/
def execMmFragmentRx (t : Nat) (port : Fin 76) (kind : MmKind) (bytes : List Byte) (s : State) : Host.Outcome State Fault Refusal :=
  run t (mmFragmentEffect port.val kind bytes) s

/-- STEWARD_INJECT (R18): a steward injects a frame it sends into a named port queue without a decision. -/
def execStewardInject (t : Nat) (s : State) : Host.Outcome State Fault Refusal :=
  run t (bySteward stewardInjectEffect) s

/-- RECIRC_DRAW (R149): T8 draws a frame from port 75's queues within its rate caps and re-enters it as a new head. -/
def execRecircDraw (t : Nat) (s : State) : Host.Outcome State Fault Refusal :=
  run t recircDrawEffect s

/-- RULESET_LOAD_DONE (R181): the load of a rule-set bank completes and the commit point of the new generation falls. -/
def execRulesetLoadDone (t : Nat) (s : State) : Host.Outcome State Fault Refusal :=
  runMem t rulesetLoadEffect s

/-- RULESET_FORCED_RETIRE (R183): an older generation has not retired 1 ms after a waiting commit and is retired by force. -/
def execRulesetForcedRetire (t : Nat) (s : State) : Host.Outcome State Fault Refusal :=
  run t forcedRetireEffect s

/-- SLOW_PROTOCOL_RX (R123): a steward serves a frame from steward queue SQ2 as an LACP or marker frame under IEEE 802.1AX, or
discards another slow-protocol frame and increments STEW_SLOW_OTHER. -/
def execSlowProtocolRx (t : Nat) (s : State) : Host.Outcome State Fault Refusal :=
  run t (bySteward slowRxEffect) s

/-- LACPDU_TX (R18): a steward sends a periodic LACP frame into a port queue without a decision. -/
def execLacpduTx (t : Nat) (port : Fin 76) (body : List Byte) (s : State) : Host.Outcome State Fault Refusal :=
  run t (bySteward (lacpduTxEffect port.val body)) s

end Sys2Proof.Machine
end

