-- ==== Sys2Proof/Machine/Linking.lean ====
section
/-! DEFINITION. Commands of the ports, their media and their PHYs (R131 to R151, R498). -/

namespace Sys2Proof.Machine

/-- COLLISION (R134): a collision is seen on a half-duplex service port during transmission. -/
def execCollision (t : Nat) (port : Fin 76) (bitTimes : Nat) (draw : Nat) (s : State) : Host.Outcome State Fault Refusal :=
  run t (collisionEffect port.val bitTimes draw) s

/-- BACKOFF_EXPIRY (R133): the back-off after a collision ends and the frame is retried. -/
def execBackoffExpiry (t : Nat) (port : Fin 76) (s : State) : Host.Outcome State Fault Refusal :=
  run t (backoffEffect port.val) s

/-- PLCA_BEACON_RX (R135): a PLCA BEACON is received and the follower returns to PLCA. -/
def execPlcaBeaconRx (t : Nat) (port : Fin 76) (s : State) : Host.Outcome State Fault Refusal :=
  run t (beaconEffect port.val) s

/-- PLCA_BEACON_LOSS (R135): a PLCA follower receives no BEACON for 4,000 bit times and falls back to CSMA/CD. -/
def execPlcaBeaconLoss (t : Nat) (port : Fin 76) (s : State) : Host.Outcome State Fault Refusal :=
  run t (beaconLossEffect port.val) s

/-- PLCA_TO_TIMER_EXPIRY (R135): the PLCA TO timer or burst timer runs out, moving the transmit opportunity on, and the
coordinator sends the BEACON at the start of each cycle. -/
def execPlcaToTimerExpiry (t : Nat) (port : Fin 76) (s : State) : Host.Outcome State Fault Refusal :=
  run t (plcaTimerEffect port.val) s

/-- EEE_IDLE_EXPIRY (R137): no queue of an EEE port has held a frame for EEE_IDLE and LPI is asserted. -/
def execEeeIdleExpiry (t : Nat) (port : Fin 76) (s : State) : Host.Outcome State Fault Refusal :=
  run t (eeeIdleEffect port.val) s

/-- LPI_WAKE_DONE (R137): the wake time after LPI deassertion ends and waiting frames may be sent. -/
def execLpiWakeDone (t : Nat) (port : Fin 76) (s : State) : Host.Outcome State Fault Refusal :=
  run t (lpiWakeEffect port.val) s

/-- PARTNER_LPI (R137): the partner signals or ends low-power idle. -/
def execPartnerLpi (t : Nat) (port : Fin 76) (on : Bool) (s : State) : Host.Outcome State Fault Refusal :=
  run t (partnerLpiEffect port.val on) s

/-- LINK_UP (R138): a port's link comes up and held frames are sent. -/
def execLinkUp (t : Nat) (port : Fin 76) (mbps : Nat) (s : State) : Host.Outcome State Fault Refusal :=
  run t (fromStep (if port.val = 72 then 6 else 11) (linkUpEffect port.val mbps)) s

/-- LINK_DOWN (R139): a port's link goes down; the frame in transmission is lost and queued frames are held or dropped. -/
def execLinkDown (t : Nat) (port : Fin 76) (s : State) : Host.Outcome State Fault Refusal :=
  run t (linkDownEffect port.val) s

/-- HOLD_EXPIRY (R141): a link-down hold ends and every frame still queued is dropped. -/
def execHoldExpiry (t : Nat) (port : Fin 76) (s : State) : Host.Outcome State Fault Refusal :=
  run t (holdExpiryEffect port.val) s

/-- MDIO_C22_READ (R143): MDIO_CMD op 0 queues a clause 22 read. -/
def execMdioC22Read (t : Nat) (sid : Nat) (port : Fin 76) (prtad devad : Fin 32) (s : State) : Host.Outcome State Fault Refusal :=
  runMem t (writes sid (pix port.val 6) 4 (0 * 2 ^ 60 + prtad.val * 2 ^ 48 + devad.val * 2 ^ 40)) s

/-- MDIO_C22_WRITE (R143): MDIO_CMD op 1 queues a clause 22 write. -/
def execMdioC22Write (t : Nat) (sid : Nat) (port : Fin 76) (prtad devad : Fin 32) (data : BitVec 16)
    (s : State) : Host.Outcome State Fault Refusal :=
  runMem t (writes sid (pix port.val 6) 4 (1 * 2 ^ 60 + prtad.val * 2 ^ 48 + devad.val * 2 ^ 40 + data.toNat)) s

/-- MDIO_C45_ADDRESS (R143): MDIO_CMD op 2 queues a clause 45 address frame. -/
def execMdioC45Address (t : Nat) (sid : Nat) (port : Fin 76) (prtad devad : Fin 32) (data : BitVec 16)
    (s : State) : Host.Outcome State Fault Refusal :=
  runMem t (writes sid (pix port.val 6) 4 (2 * 2 ^ 60 + prtad.val * 2 ^ 48 + devad.val * 2 ^ 40 + data.toNat)) s

/-- MDIO_C45_WRITE (R143): MDIO_CMD op 3 queues a clause 45 write. -/
def execMdioC45Write (t : Nat) (sid : Nat) (port : Fin 76) (prtad devad : Fin 32) (data : BitVec 16)
    (s : State) : Host.Outcome State Fault Refusal :=
  runMem t (writes sid (pix port.val 6) 4 (3 * 2 ^ 60 + prtad.val * 2 ^ 48 + devad.val * 2 ^ 40 + data.toNat)) s

/-- MDIO_C45_READ (R143): MDIO_CMD op 4 queues a clause 45 read. -/
def execMdioC45Read (t : Nat) (sid : Nat) (port : Fin 76) (prtad devad : Fin 32) (s : State) : Host.Outcome State Fault Refusal :=
  runMem t (writes sid (pix port.val 6) 4 (4 * 2 ^ 60 + prtad.val * 2 ^ 48 + devad.val * 2 ^ 40)) s

/-- MDIO_C45_READ_INC (R143): MDIO_CMD op 5 queues a clause 45 read with post-increment. -/
def execMdioC45ReadInc (t : Nat) (sid : Nat) (port : Fin 76) (prtad devad : Fin 32) (s : State) : Host.Outcome State Fault Refusal :=
  runMem t (writes sid (pix port.val 6) 4 (5 * 2 ^ 60 + prtad.val * 2 ^ 48 + devad.val * 2 ^ 40)) s

/-- MDIO_FRAME_DONE (R143): an MDIO management frame completes and MDIO_RESULT is updated. -/
def execMdioFrameDone (t : Nat) (line : BitVec 16) (s : State) : Host.Outcome State Fault Refusal :=
  run t (mdioDoneEffect line.toNat) s

/-- PHY_POLL (R144): every PHY_POLL the device reads the PHY's link status, and at a link-up its advertisement and partner-ability
registers (R132). -/
def execPhyPoll (t : Nat) (port : Fin 76) (line adv lpa : BitVec 16) (clk : Bool) (s : State) : Host.Outcome State Fault Refusal :=
  run t (bySteward (onceReady (phyPollEffect port.val line.toNat adv.toNat lpa.toNat clk))) s

/-- SVC_REFCLK_LOSS (R498): a service port's reference clock shows no edge for 1 us. -/
def execSvcRefclkLoss (t : Nat) (port : Fin 76) (s : State) : Host.Outcome State Fault Refusal :=
  run t (refclkLossEffect port.val) s

end Sys2Proof.Machine
end

