-- ==== Sys2Proof/Machine/Management.lean ====
section
/-! DEFINITION. Commands of Gramus (R64 to R94). -/

namespace Sys2Proof.Machine

/-- DISCOVER (R88): a DISCOVER request is accepted and scheduled for an answer after a random delay. -/
def execDiscover (t : Nat) (f : Option GFrame) (delay : Nat) (s : State) : Host.Outcome State Fault Refusal :=
  runMem t (gmpEffect 1 f delay []) s

/-- DISCOVER_REPLY_DELAY (R88): the random delay of a DISCOVER answer ends and the identity block is sent. -/
def execDiscoverReplyDelay (t : Nat) (s : State) : Host.Outcome State Fault Refusal :=
  run t discoverReplyEffect s

/-- DISCOVER_ANNOUNCE (R88): after first ready, an unsolicited DISCOVER response is sent at each 1 s interval, three times. -/
def execDiscoverAnnounce (t : Nat) (s : State) : Host.Outcome State Fault Refusal :=
  run t announceEffect s

/-- SESSION_OPEN (R80): a SESSION_OPEN opens an authenticated or open-mode session and derives its session key. -/
def execSessionOpen (t : Nat) (f : Option GFrame) (nonceD : List Byte) (s : State) : Host.Outcome State Fault Refusal :=
  runMem t (gmpEffect 2 f 0 nonceD) s

/-- SESSION_CLOSE (R75): a SESSION_CLOSE ends the session, aborting its open or armed transaction. -/
def execSessionClose (t : Nat) (f : Option GFrame) (s : State) : Host.Outcome State Fault Refusal :=
  runMem t (gmpEffect 3 f 0 []) s

/-- KEEPALIVE (R70): a KEEPALIVE request is answered with the device state. -/
def execKeepalive (t : Nat) (f : Option GFrame) (s : State) : Host.Outcome State Fault Refusal :=
  runMem t (gmpEffect 4 f 0 []) s

/-- READ (R71): a READ request is answered item by item from one generation. -/
def execRead (t : Nat) (f : Option GFrame) (s : State) : Host.Outcome State Fault Refusal :=
  runMem t (gmpEffect 0x10 f 0 []) s

/-- WRITE (R72): a WRITE request writes objects that have no row of their own, clamped and applied at one commit point or
staged. -/
def execWrite (t : Nat) (f : Option GFrame) (s : State) : Host.Outcome State Fault Refusal :=
  runMem t (gmpEffect 0x11 f 0 []) s

/-- READ_ROWS (R71): a READ_ROWS request returns a range of TABLE rows from one generation. -/
def execReadRows (t : Nat) (f : Option GFrame) (s : State) : Host.Outcome State Fault Refusal :=
  runMem t (gmpEffect 0x12 f 0 []) s

/-- WRITE_ROWS (R196): a WRITE_ROWS request places or stages a range of TABLE rows. -/
def execWriteRows (t : Nat) (f : Option GFrame) (s : State) : Host.Outcome State Fault Refusal :=
  runMem t (gmpEffect 0x13 f 0 []) s

/-- READ_SEGMENT (R70): a READ_SEGMENT request returns part of an OCTETS value by offset. -/
def execReadSegment (t : Nat) (f : Option GFrame) (s : State) : Host.Outcome State Fault Refusal :=
  runMem t (gmpEffect 0x14 f 0 []) s

/-- WRITE_SEGMENT (R73): a WRITE_SEGMENT request adds a segment to a segmented write, applying it on the last segment. -/
def execWriteSegment (t : Nat) (f : Option GFrame) (s : State) : Host.Outcome State Fault Refusal :=
  runMem t (gmpEffect 0x15 f 0 []) s

/-- SEGMENT_WRITE_TIMEOUT (R73): an open segmented write receives no segment for 0x0200:0D and is discarded. -/
def execSegmentWriteTimeout (t : Nat) (sid : Nat) (s : State) : Host.Outcome State Fault Refusal :=
  run t (bySteward (segTimeoutEffect sid)) s

/-- UNKNOWN_OPCODE (R70): a request with an unlisted opcode is answered BAD_OPCODE. -/
def execUnknownOpcode (t : Nat) (f : Option GFrame) (s : State) : Host.Outcome State Fault Refusal :=
  runMem t (unknownEffect f) s

/-- REQUEST_START_TIMEOUT (R85): a request not started 1.5 ms after arrival is answered BUSY and not executed. -/
def execRequestStartTimeout (t : Nat) (s : State) : Host.Outcome State Fault Refusal :=
  runMem t startTimeoutEffect s

/-- SESSION_IDLE_TIMEOUT (R75): a session has no accepted request for SESSION_IDLE and ends. -/
def execSessionIdleTimeout (t : Nat) (sid : Nat) (s : State) : Host.Outcome State Fault Refusal :=
  run t (bySteward (idleEffect sid)) s

/-- EVENT_ACK (R91): a manager's 0xC0 response acknowledges event records, and the next EVENT frame may be sent. -/
def execEventAck (t : Nat) (f : Option GFrame) (s : State) : Host.Outcome State Fault Refusal :=
  runMem t (gmpEffect 0xC0 f 0 []) s

/-- EVENT_RETRY_EXPIRY (R91): an EVENT frame is unacknowledged for its retry interval and is sent again with a doubled
interval. -/
def execEventRetryExpiry (t : Nat) (sid : Nat) (s : State) : Host.Outcome State Fault Refusal :=
  run t (eventRetryEffect sid) s

end Sys2Proof.Machine
end

