-- ==== Sys2Proof/Machine/Power.lean ====
section
/-! DEFINITION. Commands of the energy ledger, the Maquette and DORMANT (R397 to R416). -/

namespace Sys2Proof.Machine

/-- MAQUETTE_PERIOD (R397): a 1.024 ms period boundary updates the ledger and puts the loaded plan in force. -/
def execMaquettePeriod (t : Nat) (spentUj : Nat) (s : State) : Host.Outcome State Fault Refusal :=
  run t (onceReady (periodEffect spentUj)) s

/-- MAQUETTE_PLAN_LOAD (R404): the stewards load the plan for the next period into the hardware. -/
def execMaquettePlanLoad (t : Nat) (offer : PlanOffer) (s : State) : Host.Outcome State Fault Refusal :=
  run t (bySteward (onceReady (planLoadEffect offer))) s

/-- WAKE_LIST_ENTRY (R405): the TIME domain reaches a wake list tick and raises a resource. -/
def execWakeListEntry (t : Nat) (s : State) : Host.Outcome State Fault Refusal :=
  run t (onceReady wakeEntryEffect) s

/-- SURGE (R412): staging or waiting heads exceed the surge limits and the hardware raises capacity at once. -/
def execSurge (t : Nat) (s : State) : Host.Outcome State Fault Refusal :=
  run t (onceReady surgeEffect) s

/-- DORMANT_ENTER_CMD (R413): NRG_POWER_CMD 1 starts entry to DORMANT and the drain. -/
def execDormantEnterCmd (t : Nat) (sid : Nat) (s : State) : Host.Outcome State Fault Refusal :=
  runMem t (writes sid 0x0420 1 1) s

/-- DORMANT_DRAIN_END (R413): NRG_DRAIN ends; remaining frames are dropped and the device completes entry to DORMANT. -/
def execDormantDrainEnd (t : Nat) (s : State) : Host.Outcome State Fault Refusal :=
  runMem t drainEndEffect s

/-- DORMANT_EXIT_CMD (R416): NRG_POWER_CMD 2 starts exit from DORMANT. -/
def execDormantExitCmd (t : Nat) (sid : Nat) (s : State) : Host.Outcome State Fault Refusal :=
  runMem t (writes sid 0x0420 1 2) s

/-- DORMANT_WAKE_TIME (R416): NRG_WAKE_BASE reaches NRG_WAKE_TIME and exit from DORMANT starts. -/
def execDormantWakeTime (t : Nat) (s : State) : Host.Outcome State Fault Refusal :=
  run t wakeTimeEffect s

/-- DORMANT_EXIT_READY (R416): the deciders have reloaded and passed their runs and the device becomes ACTIVE. -/
def execDormantExitReady (t : Nat) (failA failB : Bool) (s : State) : Host.Outcome State Fault Refusal :=
  run t (exitReadyEffect failA failB) s

end Sys2Proof.Machine
end

