-- ==== Sys2Proof/Machine/Recorder.lean ====
section
/-! DEFINITION. Commands of the recorder, Casts and exports (R460 to R470). -/

namespace Sys2Proof.Machine

/-- RECORDER_DRAW (R461): the recorder draws a copy from Q592 to Q599 and writes its capture record. -/
def execRecorderDraw (t : Nat) (s : State) : Host.Outcome State Fault Refusal :=
  run t recorderDrawEffect s

/-- REC_OVERRUN_REPORT (R463): recorder overrun drops are reported once per second. -/
def execRecOverrunReport (t : Nat) (s : State) : Host.Outcome State Fault Refusal :=
  run t overrunReportEffect s

/-- REC_TRIGGER_NOW (R464): REC_TRIGGER 1 triggers a Cast at the present instant. -/
def execRecTriggerNow (t : Nat) (sid : Nat) (s : State) : Host.Outcome State Fault Refusal :=
  runMem t (writes sid 0x7810 0x0E 1) s

/-- REC_TRIGGER_AT_TIME (R464): REC_TRIGGER 2 triggers a Cast at REC_TRIGGER_TIME. -/
def execRecTriggerAtTime (t : Nat) (sid : Nat) (s : State) : Host.Outcome State Fault Refusal :=
  runMem t (writes sid 0x7810 0x0E 2) s

/-- CAST_FREEZE (R465): REC_BASE reaches t + REC_POST and the Cast freezes its segments. -/
def execCastFreeze (t : Nat) (s : State) : Host.Outcome State Fault Refusal :=
  run t castFreezeEffect s

/-- CAST_RELEASE (R467): CAST_CMD 1 releases a FROZEN Cast to the ring. -/
def execCastRelease (t : Nat) (sid : Nat) (cast : Fin 8) (s : State) : Host.Outcome State Fault Refusal :=
  runMem t (writes sid 0x7820 2 (256 + cast.val)) s

/-- CAST_REPLAY (R470): CAST_CMD 2 starts replaying a FROZEN Cast. -/
def execCastReplay (t : Nat) (sid : Nat) (cast : Fin 8) (s : State) : Host.Outcome State Fault Refusal :=
  runMem t (writes sid 0x7820 2 (512 + cast.val)) s

/-- CAST_STOP_REPLAY (R470): CAST_CMD 3 stops a replay. -/
def execCastStopReplay (t : Nat) (sid : Nat) (cast : Fin 8) (s : State) : Host.Outcome State Fault Refusal :=
  runMem t (writes sid 0x7820 2 (768 + cast.val)) s

/-- CAST_REPLAY_FRAME (R470): a replayed record reaches its departure instant and is sent. -/
def execCastReplayFrame (t : Nat) (s : State) : Host.Outcome State Fault Refusal :=
  runMem t replayEffect s

/-- CAST_EXPORT_SEL (R469): a write of CAST_EXPORT_SEL starts the scan of an export part. -/
def execCastExportSel (t : Nat) (sid : Nat) (cast : Fin 8) (part : Nat) (s : State) : Host.Outcome State Fault Refusal :=
  runMem t (writes sid 0x7820 4 (cast.val * 2 ^ 24 + part % 2 ^ 24)) s

/-- EXPORT_SCAN_DONE (R469): the export scan ends and the part becomes readable. -/
def execExportScanDone (t : Nat) (sid : Nat) (s : State) : Host.Outcome State Fault Refusal :=
  runMem t (exportScanEffect sid) s

/-- CAST_DIRECTORY_REBUILT (R467): the stewards finish rebuilding CAST_STATUS from segment headers. -/
def execCastDirectoryRebuilt (t : Nat) (s : State) : Host.Outcome State Fault Refusal :=
  run t (bySteward directoryRebuiltEffect) s

end Sys2Proof.Machine
end

