-- ==== Sys2Proof/Machine/Restart.lean ====
section
/-! DEFINITION. Commands of resets, start-up and the flash (R471 to R488, R509, R411). -/

namespace Sys2Proof.Machine

/-- PORST_N_ASSERT (R471): PORST_N falls and a power-on reset begins. -/
def execPorstNAssert (t : Nat) (s : State) : Host.Outcome State Fault Refusal :=
  runMem t porstAssert s

/-- PORST_N_RELEASE (R475): PORST_N rises and start-up after power-on reset runs. -/
def execPorstNRelease (t : Nat) (boot : BootInput) (s : State) : Host.Outcome State Fault Refusal :=
  runMem t (release (·.porst) (fun v => { v with porst := false, testEn := boot.testEn }) boot) s

/-- POWER_ON_DETECTOR_ASSERT (R502): VDD_AON falls to the detector threshold and a power-on reset begins. -/
def execPowerOnDetectorAssert (t : Nat) (s : State) : Host.Outcome State Fault Refusal :=
  runMem t detectorAssert s

/-- POWER_ON_DETECTOR_RELEASE (R502): the power-on detector releases 50 us after VDD_AON rises above 0.70 V. -/
def execPowerOnDetectorRelease (t : Nat) (boot : BootInput) (s : State) : Host.Outcome State Fault Refusal :=
  runMem t (release (·.detector) (fun v => { v with detector := false }) boot) s

/-- WRST_N_ASSERT (R477): WRST_N falls and a warm reset begins. -/
def execWrstNAssert (t : Nat) (s : State) : Host.Outcome State Fault Refusal :=
  runMem t wrstAssert s

/-- WRST_N_RELEASE (R477): WRST_N rises and warm-reset start-up runs. -/
def execWrstNRelease (t : Nat) (boot : BootInput) (s : State) : Host.Outcome State Fault Refusal :=
  runMem t (release (·.wrst) (fun v => { v with wrst := false }) boot) s

/-- DEV_RESET_WARM (R474): a direct write of 0xA501 to DEV_RESET schedules a warm reset. -/
def execDevResetWarm (t : Nat) (sid : Nat) (s : State) : Host.Outcome State Fault Refusal :=
  runMem t (writes sid 0x0110 3 0xA501) s

/-- DEV_RESET_FULL (R474): a direct write of 0xA502 to DEV_RESET schedules a full reset. -/
def execDevResetFull (t : Nat) (sid : Nat) (s : State) : Host.Outcome State Fault Refusal :=
  runMem t (writes sid 0x0110 3 0xA502) s

/-- DEV_RESET_DELAY_EXPIRY (R474): 2 ms after the DEV_RESET commit point the commanded reset begins. -/
def execDevResetDelayExpiry (t : Nat) (boot : BootInput) (s : State) : Host.Outcome State Fault Refusal :=
  runMem t (devResetEffect boot) s

/-- FIRMWARE_BOOT_TIMEOUT (R476): a flash firmware slot fails to reach ready within 2 s and is revoked with a warm reset. -/
def execFirmwareBootTimeout (t : Nat) (boot : BootInput) (s : State) : Host.Outcome State Fault Refusal :=
  runMem t (firmwareTimeout boot) s

/-- FW_STAGE (R487): the last segment of a staged firmware image arrives and is checked. -/
def execFwStage (t : Nat) (sid : Nat) (image : List Byte) (s : State) : Host.Outcome State Fault Refusal :=
  runMem t (sessionWrite sid 0x0110 4 (.octets image)) s

/-- FW_STAGE_PROGRAM_DONE (R487): programming of a staged firmware image completes or fails. -/
def execFwStageProgramDone (t : Nat) (flashError : Bool) (s : State) : Host.Outcome State Fault Refusal :=
  run t (stageDoneEffect flashError) s

/-- FLASH_IDLE_STOP (R411): the FLASH clock domain stops after 1 ms with the SPI interface idle and is marked planned stop. -/
def execFlashIdleStop (t : Nat) (s : State) : Host.Outcome State Fault Refusal :=
  run t (fromStep 4 flashIdleEffect) s

/-- BOUNDARY_SCAN_HOLD (R509): a boundary-scan instruction takes effect in the TAP and holds the device in reset with its
outputs as R473 gives. -/
def execBoundaryScanHold (t : Nat) (s : State) : Host.Outcome State Fault Refusal :=
  runMem t scanHold s

/-- BOUNDARY_SCAN_RELEASE (R509): TRST_N falls or the TAP leaves its boundary-scan instructions, and the device leaves the
reset hold. -/
def execBoundaryScanRelease (t : Nat) (boot : BootInput) (s : State) : Host.Outcome State Fault Refusal :=
  runMem t (release (·.scan) (fun v => { v with scan := false }) boot) s

end Sys2Proof.Machine
end

