-- ==== Sys2Proof/Machine/Safety.lean ====
section
/-! DEFINITION. Commands of the monitors and the Plinth (R421 to R447, R506). -/

namespace Sys2Proof.Machine

/-- The start-up step from which a clock domain of Table SAF-4 is monitored (R476, Table RST-2). -/
def clockStep (d : Nat) : Nat :=
  if d ≤ 2 ∨ d = 22 then 1 else if d = 3 ∨ (19 ≤ d ∧ d ≤ 21) ∨ d = 23 then 3 else if d = 9 ∨ d = 10 then 8 else if d = 4 ∨ d = 5 then 10 else 11

/-- CLOCK_MONITOR_WINDOW (R434): a 4 us window count or lock loss finds a domain faulty and applies its reaction. -/
def execClockMonitorWindow (t : Nat) (domain : Fin 25) (khz : Nat) (locked : Bool) (s : State) : Host.Outcome State Fault Refusal :=
  run t (fromStep (clockStep domain.val) (clockWindowEffect domain.val khz locked)) s

/-- CLOCK_VOTE (R434): every 1 ms the Plinth compares WATCH, REF and AON two by two. -/
def execClockVote (t : Nat) (watch ref aon : Nat) (s : State) : Host.Outcome State Fault Refusal :=
  run t (fromStep 2 (clockVoteEffect watch ref aon)) s

/-- VOLTAGE_EXCURSION (R437): a rail excursion lasts long enough to be reported and sets cause 4. -/
def execVoltageExcursion (t : Nat) (rail : Fin 10) (mv : Nat) (lastedNs : Nat) (s : State) : Host.Outcome State Fault Refusal :=
  run t (fromStep 3 (onMonClock (voltageEffect rail.val mv lastedNs))) s

/-- TEMP_SAMPLE (R438): every 100 us each sensor is sampled against its warning and fault thresholds. -/
def execTempSample (t : Nat) (readings : List Int) (s : State) : Host.Outcome State Fault Refusal :=
  run t (fromStep 3 (onMonClock (tempEffect readings))) s

/-- MARGIN_READ (R439): every 1 ms each margin sensor is read against MARGIN_THRESH. -/
def execMarginRead (t : Nat) (readings : List Nat) (s : State) : Host.Outcome State Fault Refusal :=
  run t (fromStep 3 (marginEffect readings)) s

/-- CONFIG_CHECK_PASS (R441): every 10 ms the Plinth checks RWS values and table copies against their references. -/
def execConfigCheckPass (t : Nat) (found : List Mismatch) (s : State) : Host.Outcome State Fault Refusal :=
  run t (fromStep 9 (configCheckEffect found)) s

/-- CHUNK_RELOAD_DONE (R442): a mismatched table chunk finishes reloading from the shadow. -/
def execChunkReloadDone (t : Nat) (s : State) : Host.Outcome State Fault Refusal :=
  run t chunkReloadEffect s

/-- FAULT_PIN_READBACK (R426): every 1 us the Plinth reads back each FAULT pin. -/
def execFaultPinReadback (t : Nat) (aHigh bHigh : Bool) (s : State) : Host.Outcome State Fault Refusal :=
  run t (fromStep 2 (readbackEffect aHigh bHigh)) s

/-- PLINTH_MISCOMPARE (R432): the lockstep controllers miscompare or the Plinth SRAM fails and cause 0 is set. -/
def execPlinthMiscompare (t : Nat) (s : State) : Host.Outcome State Fault Refusal :=
  run t (fromStep 1 plinthFault) s

/-- PLINTH_ROM_CHECK (R432): every 100 ms the Plinth checks its ROM CRC. -/
def execPlinthRomCheck (t : Nat) (good : Bool) (s : State) : Host.Outcome State Fault Refusal :=
  run t (fromStep 2 (romCheckEffect good)) s

/-- KEEP_SIGNAL_TIMEOUT (R423): a tile or pin driver receives no keep refresh for 4 us and goes silent. -/
def execKeepSignalTimeout (t : Nat) (unit : Fin 10) (s : State) : Host.Outcome State Fault Refusal :=
  run t (fromStep 2 (keepTimeoutEffect unit.val)) s

/-- STEWARD_HEARTBEAT_MISS (R445): a steward heartbeat is missing for 4 ms and the Plinth restarts all stewards. -/
def execStewardHeartbeatMiss (t : Nat) (_steward : Fin 4) (s : State) : Host.Outcome State Fault Refusal :=
  run t stewardMissEffect s

/-- STEWARD_RESTART_DONE (R445): the stewards have reloaded firmware and state and cause 14 is set. -/
def execStewardRestartDone (t : Nat) (s : State) : Host.Outcome State Fault Refusal :=
  run t stewardDoneEffect s

/-- SAF_CLEAR (R430): an armed write clears the named latched fault causes whose conditions have ended. -/
def execSafClear (t : Nat) (sid : Nat) (mask : BitVec 32) (s : State) : Host.Outcome State Fault Refusal :=
  runMem t (writes sid 0x0540 4 mask.toNat) s

/-- SAF_PIN_TEST_B (R427): SAF_PIN_TEST 1 drives FAULT_B_N low for 10 ms. -/
def execSafPinTestB (t : Nat) (sid : Nat) (s : State) : Host.Outcome State Fault Refusal :=
  runMem t (writes sid 0x0540 0x0A 1) s

/-- SAF_PIN_TEST_A (R427): SAF_PIN_TEST 2 drives FAULT_A_N low for 10 ms. -/
def execSafPinTestA (t : Nat) (sid : Nat) (s : State) : Host.Outcome State Fault Refusal :=
  runMem t (writes sid 0x0540 0x0A 2) s

/-- PIN_TEST_END (R427): the 10 ms pin test ends and the pin returns to its normal level. -/
def execPinTestEnd (t : Nat) (s : State) : Host.Outcome State Fault Refusal :=
  run t pinTestEndEffect s

/-- AON_CRYSTAL_TIMEOUT (R506): AON has not switched to the crystal 2 s after the trigger and is reported faulty. -/
def execAonCrystalTimeout (t : Nat) (s : State) : Host.Outcome State Fault Refusal :=
  run t aonTimeoutEffect s

end Sys2Proof.Machine
end

