-- ==== Sys2Proof/Machine/Serial.lean ====
section
/-! DEFINITION. Commands of the serial lanes and the Knaing link (R15, R95 to R115). -/

namespace Sys2Proof.Machine

/-- LANE_TRAINING_REQUEST (R101): a partner's training increment or decrement request moves a tap by one step or is answered
at a limit. -/
def execLaneTrainingRequest (t : Nat) (lane : Fin 64) (tap : Tap) (up : Bool) (s : State) : Host.Outcome State Fault Refusal :=
  run t (trainingRequestEffect lane.val tap up) s

/-- LANE_TRAINING_DONE (R101): link training of a lane finishes and bring-up continues. -/
def execLaneTrainingDone (t : Nat) (lane : Fin 64) (s : State) : Host.Outcome State Fault Refusal :=
  run t (trainingDoneEffect lane.val) s

/-- LANE_TRAINING_TIMEOUT (R101): training has not finished 500 ms after it started and the lane goes on untrained. -/
def execLaneTrainingTimeout (t : Nat) (lane : Fin 64) (s : State) : Host.Outcome State Fault Refusal :=
  run t (trainingTimeoutEffect lane.val) s

/-- RX_EYE_MEASURE (R102): every 1.024 ms the eye of an Active lane is measured; a locked PRBS checker reports its bit errors (R103). -/
def execRxEyeMeasure (t : Nat) (lane : Fin 64) (height width : BitVec 16) (errors : Nat) (s : State) : Host.Outcome State Fault Refusal :=
  run t (eyeEffect lane.val height.toNat width.toNat errors) s

/-- PRBS_LOCK_ACQUIRED (R103): the PRBS checker sees 64 consecutive error-free bits and locks. -/
def execPrbsLockAcquired (t : Nat) (lane : Fin 64) (s : State) : Host.Outcome State Fault Refusal :=
  run t (prbsLockEffect lane.val) s

/-- PRBS_LOCK_LOSS (R103): the PRBS checker sees 16 errors within 64 bits and loses lock. -/
def execPrbsLockLoss (t : Nat) (lane : Fin 64) (errors : Nat) (s : State) : Host.Outcome State Fault Refusal :=
  run t (prbsLossEffect lane.val errors) s

/-- LANE_POWER_COMMAND (R106): the Maquette or the manager commands a lane power state. -/
def execLanePowerCommand (t : Nat) (lane : Fin 64) (byManager : Bool) (target : LanePower) (s : State) : Host.Outcome State Fault Refusal :=
  run t (fromStep 11 (powerCommandEffect lane.val byManager target)) s

/-- LANE_POWER_STATE_REACHED (R105): a lane completes entry to or exit from a power state. -/
def execLanePowerStateReached (t : Nat) (lane : Fin 64) (s : State) : Host.Outcome State Fault Refusal :=
  run t (powerReachedEffect lane.val) s

/-- LANE_CDR_LOSS (R106): the partner's signal vanishes on an Active lane. -/
def execLaneCdrLoss (t : Nat) (lane : Fin 64) (s : State) : Host.Outcome State Fault Refusal :=
  run t (cdrLossEffect lane.val) s

/-- KNAING_FRAME_RX (R15): a frame arriving over the Knaing link is checked and forwarded on its carried decision. -/
def execKnaingFrameRx (t : Nat) (desc : List Byte) (bytes : List Byte) (segLost : Bool) (s : State) : Host.Outcome State Fault Refusal :=
  run t (kngFrameEffect desc bytes segLost) s

/-- KNG_BLOCK_RX (R110): a Knaing block is received, destuffed, descrambled and its segments delivered. -/
def execKngBlockRx (t : Nat) (k : Fin 8) (bits : List Bool) (s : State) : Host.Outcome State Fault Refusal :=
  run t (kngBlockEffect k.val bits) s

/-- KNG_HEADER_LOCK (R111): a Knaing receiver finds 4 consecutive good headers and locks. -/
def execKngHeaderLock (t : Nat) (k : Fin 8) (headers : List (BitVec 32)) (s : State) : Host.Outcome State Fault Refusal :=
  run t (kngLockEffect k.val (headers.map (·.toNat))) s

/-- KNG_LOCK_LOSS (R111): a Knaing receiver sees 8 bad headers among 64 and loses lock. -/
def execKngLockLoss (t : Nat) (k : Fin 8) (s : State) : Host.Outcome State Fault Refusal :=
  run t (kngLockLossEffect k.val) s

/-- KNG_CONTROL_BLOCK_TX (R113): every 1.024 us the lowest active lane sends a control block with heartbeat and time stamps.
-/
def execKngControlBlockTx (t : Nat) (s : State) : Host.Outcome State Fault Refusal :=
  run t kngControlTxEffect s

/-- KNG_CONTROL_BLOCK_RX (R114): a control block from the peer is received and the time exchange and width announcements are
applied. -/
def execKngControlBlockRx (t : Nat) (payload : List Byte) (seq : Fin 4096) (s : State) : Host.Outcome State Fault Refusal :=
  run t (kngControlRxEffect payload seq.val) s

/-- KNG_HEARTBEAT_MISS (R113): 4.096 us pass without a new control block heartbeat and the link is declared down. -/
def execKngHeartbeatMiss (t : Nat) (s : State) : Host.Outcome State Fault Refusal :=
  run t kngHeartbeatEffect s

/-- KNG_WIDTH_SWITCH (R115): the transmitter switches width at the boundary of the announced width_seq block. -/
def execKngWidthSwitch (t : Nat) (s : State) : Host.Outcome State Fault Refusal :=
  run t kngSwitchEffect s

/-- KNG_IDLE_LANE_DEEP (R115): a lane outside the width has sent idle in Quiet for 64 ms and enters Deep. -/
def execKngIdleLaneDeep (t : Nat) (k : Fin 8) (s : State) : Host.Outcome State Fault Refusal :=
  run t (kngIdleDeepEffect k.val) s

end Sys2Proof.Machine
end

