-- ==== Sys2Proof/Machine/Storage.lean ====
section
/-! DEFINITION. Commands of the HBM, the merge buffer, the Chisel and the SRAM sweep (R371 to R396). -/

namespace Sys2Proof.Machine

/-- HBM_BLOCK_READ (R375): a block is read from HBM and decoded with erasures and error location. -/
def execHbmBlockRead (t : Nat) (lba : Nat) (owner : Fin 10) (noise : List Disturbance) (s : State) : Host.Outcome State Fault Refusal :=
  if Config.memBlocks ≤ lba then .fault (.noSuchBlock lba) else runMem t (fromStepMem 8 (blockReadEffect lba owner.val noise)) s

/-- HBM_BLOCK_WRITE (R376): a full block is encoded and written as 18 shares. -/
def execHbmBlockWrite (t : Nat) (lba : Nat) (owner : Fin 10) (data : List Byte) (s : State) : Host.Outcome State Fault Refusal :=
  if Config.memBlocks ≤ lba then .fault (.noSuchBlock lba) else runMem t (fromStepMem 8 (blockWriteEffect lba owner.val (padRight 512 data))) s

/-- NARROW_WRITE (R382): a narrow write, of one or more words, updates or opens a merge buffer entry. -/
def execNarrowWrite (t : Nat) (lba : Nat) (owner : Fin 10) (words : List (Fin 64 × List Byte)) (s : State) :
    Host.Outcome State Fault Refusal :=
  if Config.memBlocks ≤ lba then .fault (.noSuchBlock lba) else runMem t (fromStepMem 8 (narrowEffect lba owner.val words)) s

/-- MERGE_WINDOW_EXPIRY (R383): a merge entry reaches MERGE_WINDOW after its first write and is flushed. -/
def execMergeWindowExpiry (t : Nat) (lba : Nat) (noise : List Disturbance) (s : State) : Host.Outcome State Fault Refusal :=
  runMem t (mergeExpiryEffect lba noise) s

/-- MEM_DIE_FAIL_CMD (R378): MEM_DIE_CMD command 1 declares a die failed. -/
def execMemDieFailCmd (t : Nat) (sid : Nat) (die : Fin 24) (s : State) : Host.Outcome State Fault Refusal :=
  runMem t (writes sid 0x0600 5 (256 + die.val)) s

/-- MEM_DIE_RESTORE_CMD (R378): MEM_DIE_CMD command 2 returns a die to good. -/
def execMemDieRestoreCmd (t : Nat) (sid : Nat) (die : Fin 24) (s : State) : Host.Outcome State Fault Refusal :=
  runMem t (writes sid 0x0600 5 (512 + die.val)) s

/-- CHISEL_PASS_START (R389): every CHISEL_PERIOD an automatic scrub pass starts. -/
def execChiselPassStart (t : Nat) (s : State) : Host.Outcome State Fault Refusal :=
  run t passStartEffect s

/-- CHISEL_BLOCK (R388): the Chisel reads, decodes and, in a scrub, writes back its next block at its rate. -/
def execChiselBlock (t : Nat) (requested : Bool) (noise : List Disturbance) (s : State) : Host.Outcome State Fault Refusal :=
  runMem t (chiselBlockEffect requested noise) s

/-- CHISEL_PASS_END (R392): a Chisel pass ends and writes its summary and CHISEL_DONE. -/
def execChiselPassEnd (t : Nat) (requested : Bool) (s : State) : Host.Outcome State Fault Refusal :=
  run t (passEndEffect requested) s

/-- CHISEL_SCRUB (R390): CHISEL_CMD 1 starts a requested scrub pass. -/
def execChiselScrub (t : Nat) (sid : Nat) (s : State) : Host.Outcome State Fault Refusal :=
  runMem t (writes sid 0x0630 5 1) s

/-- CHISEL_VERIFY (R390): CHISEL_CMD 2 starts a requested verify pass. -/
def execChiselVerify (t : Nat) (sid : Nat) (s : State) : Host.Outcome State Fault Refusal :=
  runMem t (writes sid 0x0630 5 2) s

/-- CHISEL_ABORT (R390): CHISEL_CMD 3 aborts the requested pass. -/
def execChiselAbort (t : Nat) (sid : Nat) (s : State) : Host.Outcome State Fault Refusal :=
  runMem t (writes sid 0x0630 5 3) s

/-- REMAP_CMD (R393): a write of REMAP_CMD makes a block a candidate and remaps it. -/
def execRemapCmd (t : Nat) (sid : Nat) (lba : Nat) (s : State) : Host.Outcome State Fault Refusal :=
  runMem t (writes sid 0x0610 3 lba) s

/-- SRAM_SWEEP (R396): the background sweep reads and corrects every SEC-DED memory at least every 100 ms. -/
def execSramSweep (t : Nat) (mem : Fin 10) (hits : List SramHit) (s : State) : Host.Outcome State Fault Refusal :=
  runMem t (fromStepMem 3 (sramSweepEffect mem.val hits)) s

/-- SHADOW_REBUILD_DONE (R381): a poisoned shadow object is rewritten from live copies and TABLE_REBUILT is raised. -/
def execShadowRebuildDone (t : Nat) (index : Nat) (s : State) : Host.Outcome State Fault Refusal :=
  run t (bySteward (shadowRebuildEffect index)) s

end Sys2Proof.Machine
end

