-- ==== Sys2Proof/Machine/Dispatch.lean ====
section
/-! DEFINITION. The meaning of each command: one arm for each constructor of `Instr`. -/

namespace Sys2Proof.Machine

/-- The effect of a command on everything but the queue. -/
def exec (i : Instr) (s : State) : Host.Outcome State Fault Refusal :=
  match i with
  | .headComplete t port sfd bytes ended cw => Sys2Proof.Machine.execHeadComplete t port sfd bytes ended cw s
  | .frameTail t port rest partialOctet cw => Sys2Proof.Machine.execFrameTail t port rest partialOctet cw s
  | .pauseRx t port dst quanta => Sys2Proof.Machine.execPauseRx t port dst quanta s
  | .pfcRx t port dst enables times => Sys2Proof.Machine.execPfcRx t port dst enables times s
  | .pauseTimerExpiry t port tc => Sys2Proof.Machine.execPauseTimerExpiry t port tc s
  | .parseClassify t more ended => Sys2Proof.Machine.execParseClassify t more ended s
  | .fragEntryExpiry t slot => Sys2Proof.Machine.execFragEntryExpiry t slot s
  | .decide t d lane => Sys2Proof.Machine.execDecide t d lane s
  | .decisionRecordArrival t d lane skip altered => Sys2Proof.Machine.execDecisionRecordArrival t d lane skip altered s
  | .comparisonWindowExpiry t seq => Sys2Proof.Machine.execComparisonWindowExpiry t seq s
  | .matcherCycle t => Sys2Proof.Machine.execMatcherCycle t s
  | .cellArrival t src dst tc altered => Sys2Proof.Machine.execCellArrival t src dst tc altered s
  | .copyEnqueue t copy => Sys2Proof.Machine.execCopyEnqueue t copy s
  | .deepWriteDone t copy => Sys2Proof.Machine.execDeepWriteDone t copy s
  | .bufferFree t pool buffer agent => Sys2Proof.Machine.execBufferFree t pool buffer agent s
  | .poolRebuildCmd t sid pool => Sys2Proof.Machine.execPoolRebuildCmd t sid pool s
  | .poolRebuildDone t pool => Sys2Proof.Machine.execPoolRebuildDone t pool s
  | .schedulerSelect t port => Sys2Proof.Machine.execSchedulerSelect t port s
  | .cutThroughUnderrun t port => Sys2Proof.Machine.execCutThroughUnderrun t port s
  | .frameTxEnd t port => Sys2Proof.Machine.execFrameTxEnd t port s
  | .expressLatencyFloor t copy => Sys2Proof.Machine.execExpressLatencyFloor t copy s
  | .deepLatencyFloor t copy => Sys2Proof.Machine.execDeepLatencyFloor t copy s
  | .stewardInject t => Sys2Proof.Machine.execStewardInject t s
  | .recircDraw t => Sys2Proof.Machine.execRecircDraw t s
  | .rulesetLoadDone t => Sys2Proof.Machine.execRulesetLoadDone t s
  | .rulesetForcedRetire t => Sys2Proof.Machine.execRulesetForcedRetire t s
  | .knaingFrameRx t desc bytes segLost => Sys2Proof.Machine.execKnaingFrameRx t desc bytes segLost s
  | .learnRequest t d => Sys2Proof.Machine.execLearnRequest t d s
  | .flapHoldExpiry t d slot => Sys2Proof.Machine.execFlapHoldExpiry t d slot s
  | .ageingSweep t => Sys2Proof.Machine.execAgeingSweep t s
  | .emmBankWakeDone t d group => Sys2Proof.Machine.execEmmBankWakeDone t d group s
  | .emmFlushSource t sid lag peer target => Sys2Proof.Machine.execEmmFlushSource t sid lag peer target s
  | .emmFlushVid t sid vid => Sys2Proof.Machine.execEmmFlushVid t sid vid s
  | .emmFlushSourceVid t sid lag peer target vid => Sys2Proof.Machine.execEmmFlushSourceVid t sid lag peer target vid s
  | .emmFlushAll t sid => Sys2Proof.Machine.execEmmFlushAll t sid s
  | .emmFlushEntry t sid => Sys2Proof.Machine.execEmmFlushEntry t sid s
  | .emmFlushDone t => Sys2Proof.Machine.execEmmFlushDone t s
  | .emmFind t sid row key which => Sys2Proof.Machine.execEmmFind t sid row key which s
  | .nullRecordEmit t d => Sys2Proof.Machine.execNullRecordEmit t d s
  | .armatureWord t d altered => Sys2Proof.Machine.execArmatureWord t d altered s
  | .heartbeatTimeout t d path => Sys2Proof.Machine.execHeartbeatTimeout t d path s
  | .goldenRun t => Sys2Proof.Machine.execGoldenRun t s
  | .triggeredGoldenRun t => Sys2Proof.Machine.execTriggeredGoldenRun t s
  | .goldenVerdict t => Sys2Proof.Machine.execGoldenVerdict t s
  | .unresolvedEnd t => Sys2Proof.Machine.execUnresolvedEnd t s
  | .unresolvedLatch t => Sys2Proof.Machine.execUnresolvedLatch t s
  | .decUnresolvedClear t sid => Sys2Proof.Machine.execDecUnresolvedClear t sid s
  | .decReadmit t sid d => Sys2Proof.Machine.execDecReadmit t sid d s
  | .readmitLoadDone t d shown => Sys2Proof.Machine.execReadmitLoadDone t d shown s
  | .shadowCleanExpiry t d => Sys2Proof.Machine.execShadowCleanExpiry t d s
  | .decRaise t sid d => Sys2Proof.Machine.execDecRaise t sid d s
  | .skewSweep t group => Sys2Proof.Machine.execSkewSweep t group s
  | .discover t f delay => Sys2Proof.Machine.execDiscover t f delay s
  | .discoverReplyDelay t => Sys2Proof.Machine.execDiscoverReplyDelay t s
  | .discoverAnnounce t => Sys2Proof.Machine.execDiscoverAnnounce t s
  | .sessionOpen t f nonceD => Sys2Proof.Machine.execSessionOpen t f nonceD s
  | .sessionClose t f => Sys2Proof.Machine.execSessionClose t f s
  | .keepalive t f => Sys2Proof.Machine.execKeepalive t f s
  | .read t f => Sys2Proof.Machine.execRead t f s
  | .write t f => Sys2Proof.Machine.execWrite t f s
  | .readRows t f => Sys2Proof.Machine.execReadRows t f s
  | .writeRows t f => Sys2Proof.Machine.execWriteRows t f s
  | .readSegment t f => Sys2Proof.Machine.execReadSegment t f s
  | .writeSegment t f => Sys2Proof.Machine.execWriteSegment t f s
  | .segmentWriteTimeout t sid => Sys2Proof.Machine.execSegmentWriteTimeout t sid s
  | .unknownOpcode t f => Sys2Proof.Machine.execUnknownOpcode t f s
  | .requestStartTimeout t => Sys2Proof.Machine.execRequestStartTimeout t s
  | .sessionIdleTimeout t sid => Sys2Proof.Machine.execSessionIdleTimeout t sid s
  | .eventAck t f => Sys2Proof.Machine.execEventAck t f s
  | .eventRetryExpiry t sid => Sys2Proof.Machine.execEventRetryExpiry t sid s
  | .txnOpen t via => Sys2Proof.Machine.execTxnOpen t via s
  | .txnArm t via crc => Sys2Proof.Machine.execTxnArm t via crc s
  | .txnCommitNext t via => Sys2Proof.Machine.execTxnCommitNext t via s
  | .txnCommitStated t via base time => Sys2Proof.Machine.execTxnCommitStated t via base time s
  | .txnAbort t via => Sys2Proof.Machine.execTxnAbort t via s
  | .txnTimeoutExpiry t sid => Sys2Proof.Machine.execTxnTimeoutExpiry t sid s
  | .commitPoint t => Sys2Proof.Machine.execCommitPoint t s
  | .statedCommitTime t sid => Sys2Proof.Machine.execStatedCommitTime t sid s
  | .store t sid => Sys2Proof.Machine.execStore t sid s
  | .restoreDefaults t sid => Sys2Proof.Machine.execRestoreDefaults t sid s
  | .eraseStoredImage t sid => Sys2Proof.Machine.execEraseStoredImage t sid s
  | .storeDone t flashError => Sys2Proof.Machine.execStoreDone t flashError s
  | .slotEraseDone t slot => Sys2Proof.Machine.execSlotEraseDone t slot s
  | .snapReqNext t sid slot => Sys2Proof.Machine.execSnapReqNext t sid slot s
  | .snapReqStated t sid slot base time => Sys2Proof.Machine.execSnapReqStated t sid slot base time s
  | .snapRelease t sid slot => Sys2Proof.Machine.execSnapRelease t sid slot s
  | .snapshotSweepDone t slot => Sys2Proof.Machine.execSnapshotSweepDone t slot s
  | .laneTrainingRequest t lane tap up => Sys2Proof.Machine.execLaneTrainingRequest t lane tap up s
  | .laneTrainingDone t lane => Sys2Proof.Machine.execLaneTrainingDone t lane s
  | .laneTrainingTimeout t lane => Sys2Proof.Machine.execLaneTrainingTimeout t lane s
  | .rxEyeMeasure t lane height width errors => Sys2Proof.Machine.execRxEyeMeasure t lane height width errors s
  | .prbsLockAcquired t lane => Sys2Proof.Machine.execPrbsLockAcquired t lane s
  | .prbsLockLoss t lane errors => Sys2Proof.Machine.execPrbsLockLoss t lane errors s
  | .lanePowerCommand t lane byManager target => Sys2Proof.Machine.execLanePowerCommand t lane byManager target s
  | .lanePowerStateReached t lane => Sys2Proof.Machine.execLanePowerStateReached t lane s
  | .laneCdrLoss t lane => Sys2Proof.Machine.execLaneCdrLoss t lane s
  | .kngBlockRx t k bits => Sys2Proof.Machine.execKngBlockRx t k bits s
  | .kngHeaderLock t k headers => Sys2Proof.Machine.execKngHeaderLock t k headers s
  | .kngLockLoss t k => Sys2Proof.Machine.execKngLockLoss t k s
  | .kngControlBlockTx t => Sys2Proof.Machine.execKngControlBlockTx t s
  | .kngControlBlockRx t payload seq => Sys2Proof.Machine.execKngControlBlockRx t payload seq s
  | .kngHeartbeatMiss t => Sys2Proof.Machine.execKngHeartbeatMiss t s
  | .kngWidthSwitch t => Sys2Proof.Machine.execKngWidthSwitch t s
  | .kngIdleLaneDeep t k => Sys2Proof.Machine.execKngIdleLaneDeep t k s
  | .collision t port bitTimes draw => Sys2Proof.Machine.execCollision t port bitTimes draw s
  | .backoffExpiry t port => Sys2Proof.Machine.execBackoffExpiry t port s
  | .plcaBeaconRx t port => Sys2Proof.Machine.execPlcaBeaconRx t port s
  | .plcaBeaconLoss t port => Sys2Proof.Machine.execPlcaBeaconLoss t port s
  | .eeeIdleExpiry t port => Sys2Proof.Machine.execEeeIdleExpiry t port s
  | .lpiWakeDone t port => Sys2Proof.Machine.execLpiWakeDone t port s
  | .partnerLpi t port on => Sys2Proof.Machine.execPartnerLpi t port on s
  | .linkUp t port mbps => Sys2Proof.Machine.execLinkUp t port mbps s
  | .linkDown t port => Sys2Proof.Machine.execLinkDown t port s
  | .holdExpiry t port => Sys2Proof.Machine.execHoldExpiry t port s
  | .mdioC22Read t sid port prtad devad => Sys2Proof.Machine.execMdioC22Read t sid port prtad devad s
  | .mdioC22Write t sid port prtad devad data => Sys2Proof.Machine.execMdioC22Write t sid port prtad devad data s
  | .mdioC45Address t sid port prtad devad data => Sys2Proof.Machine.execMdioC45Address t sid port prtad devad data s
  | .mdioC45Write t sid port prtad devad data => Sys2Proof.Machine.execMdioC45Write t sid port prtad devad data s
  | .mdioC45Read t sid port prtad devad => Sys2Proof.Machine.execMdioC45Read t sid port prtad devad s
  | .mdioC45ReadInc t sid port prtad devad => Sys2Proof.Machine.execMdioC45ReadInc t sid port prtad devad s
  | .mdioFrameDone t line => Sys2Proof.Machine.execMdioFrameDone t line s
  | .phyPoll t port line adv lpa clk => Sys2Proof.Machine.execPhyPoll t port line adv lpa clk s
  | .svcRefclkLoss t port => Sys2Proof.Machine.execSvcRefclkLoss t port s
  | .fcRefreshExpiry t port => Sys2Proof.Machine.execFcRefreshExpiry t port s
  | .preemptVerifyTx t port => Sys2Proof.Machine.execPreemptVerifyTx t port s
  | .preemptVerifyResponse t port => Sys2Proof.Machine.execPreemptVerifyResponse t port s
  | .mmFragmentRx t port kind bytes => Sys2Proof.Machine.execMmFragmentRx t port kind bytes s
  | .refRecovery t => Sys2Proof.Machine.execRefRecovery t s
  | .tbOffsetMeasurement t b source => Sys2Proof.Machine.execTbOffsetMeasurement t b source s
  | .tbStepTo t sid b time => Sys2Proof.Machine.execTbStepTo t sid b time s
  | .tbRestep t sid b => Sys2Proof.Machine.execTbRestep t sid b s
  | .tbInputLoss t b => Sys2Proof.Machine.execTbInputLoss t b s
  | .tsQueueDrain t port => Sys2Proof.Machine.execTsQueueDrain t port s
  | .ptpMessageRx t => Sys2Proof.Machine.execPtpMessageRx t s
  | .ptpMessageTx t b port msgType => Sys2Proof.Machine.execPtpMessageTx t b port msgType s
  | .tioEdge t pin rising => Sys2Proof.Machine.execTioEdge t pin rising s
  | .ppsEdge t pin => Sys2Proof.Machine.execPpsEdge t pin s
  | .actionExecute t row => Sys2Proof.Machine.execActionExecute t row s
  | .actionPulseEnd t row => Sys2Proof.Machine.execActionPulseEnd t row s
  | .creditTick t => Sys2Proof.Machine.execCreditTick t s
  | .gateChangeTime t port => Sys2Proof.Machine.execGateChangeTime t port s
  | .gateEvent t port => Sys2Proof.Machine.execGateEvent t port s
  | .preemptHoldAssert t port => Sys2Proof.Machine.execPreemptHoldAssert t port s
  | .streamGateEvent t gate => Sys2Proof.Machine.execStreamGateEvent t gate s
  | .sfUnblock t sid h => Sys2Proof.Machine.execSfUnblock t sid h s
  | .sgClear t sid gate => Sys2Proof.Machine.execSgClear t sid gate s
  | .meterClearRed t sid meter => Sys2Proof.Machine.execMeterClearRed t sid meter s
  | .frerRecoveryTimeout t fn => Sys2Proof.Machine.execFrerRecoveryTimeout t fn s
  | .frerLatentTest t fn => Sys2Proof.Machine.execFrerLatentTest t fn s
  | .frerLatentPeriodReset t fn => Sys2Proof.Machine.execFrerLatentPeriodReset t fn s
  | .frerGenReset t sid fn => Sys2Proof.Machine.execFrerGenReset t sid fn s
  | .frerRcvyReset t sid fn => Sys2Proof.Machine.execFrerRcvyReset t sid fn s
  | .hbmBlockRead t lba owner noise => Sys2Proof.Machine.execHbmBlockRead t lba owner noise s
  | .hbmBlockWrite t lba owner data => Sys2Proof.Machine.execHbmBlockWrite t lba owner data s
  | .narrowWrite t lba owner words => Sys2Proof.Machine.execNarrowWrite t lba owner words s
  | .mergeWindowExpiry t lba noise => Sys2Proof.Machine.execMergeWindowExpiry t lba noise s
  | .memDieFailCmd t sid die => Sys2Proof.Machine.execMemDieFailCmd t sid die s
  | .memDieRestoreCmd t sid die => Sys2Proof.Machine.execMemDieRestoreCmd t sid die s
  | .chiselPassStart t => Sys2Proof.Machine.execChiselPassStart t s
  | .chiselBlock t requested noise => Sys2Proof.Machine.execChiselBlock t requested noise s
  | .chiselPassEnd t requested => Sys2Proof.Machine.execChiselPassEnd t requested s
  | .chiselScrub t sid => Sys2Proof.Machine.execChiselScrub t sid s
  | .chiselVerify t sid => Sys2Proof.Machine.execChiselVerify t sid s
  | .chiselAbort t sid => Sys2Proof.Machine.execChiselAbort t sid s
  | .remapCmd t sid lba => Sys2Proof.Machine.execRemapCmd t sid lba s
  | .sramSweep t mem hits => Sys2Proof.Machine.execSramSweep t mem hits s
  | .shadowRebuildDone t index => Sys2Proof.Machine.execShadowRebuildDone t index s
  | .maquettePeriod t spentUj => Sys2Proof.Machine.execMaquettePeriod t spentUj s
  | .maquettePlanLoad t offer => Sys2Proof.Machine.execMaquettePlanLoad t offer s
  | .wakeListEntry t => Sys2Proof.Machine.execWakeListEntry t s
  | .surge t => Sys2Proof.Machine.execSurge t s
  | .dormantEnterCmd t sid => Sys2Proof.Machine.execDormantEnterCmd t sid s
  | .dormantDrainEnd t => Sys2Proof.Machine.execDormantDrainEnd t s
  | .dormantExitCmd t sid => Sys2Proof.Machine.execDormantExitCmd t sid s
  | .dormantWakeTime t => Sys2Proof.Machine.execDormantWakeTime t s
  | .dormantExitReady t failA failB => Sys2Proof.Machine.execDormantExitReady t failA failB s
  | .clockMonitorWindow t domain khz locked => Sys2Proof.Machine.execClockMonitorWindow t domain khz locked s
  | .clockVote t watch ref aon => Sys2Proof.Machine.execClockVote t watch ref aon s
  | .voltageExcursion t rail mv lastedNs => Sys2Proof.Machine.execVoltageExcursion t rail mv lastedNs s
  | .tempSample t readings => Sys2Proof.Machine.execTempSample t readings s
  | .marginRead t readings => Sys2Proof.Machine.execMarginRead t readings s
  | .configCheckPass t found => Sys2Proof.Machine.execConfigCheckPass t found s
  | .chunkReloadDone t => Sys2Proof.Machine.execChunkReloadDone t s
  | .faultPinReadback t aHigh bHigh => Sys2Proof.Machine.execFaultPinReadback t aHigh bHigh s
  | .plinthMiscompare t => Sys2Proof.Machine.execPlinthMiscompare t s
  | .plinthRomCheck t good => Sys2Proof.Machine.execPlinthRomCheck t good s
  | .keepSignalTimeout t unit => Sys2Proof.Machine.execKeepSignalTimeout t unit s
  | .stewardHeartbeatMiss t steward => Sys2Proof.Machine.execStewardHeartbeatMiss t steward s
  | .stewardRestartDone t => Sys2Proof.Machine.execStewardRestartDone t s
  | .safClear t sid mask => Sys2Proof.Machine.execSafClear t sid mask s
  | .safPinTestB t sid => Sys2Proof.Machine.execSafPinTestB t sid s
  | .safPinTestA t sid => Sys2Proof.Machine.execSafPinTestA t sid s
  | .pinTestEnd t => Sys2Proof.Machine.execPinTestEnd t s
  | .recorderDraw t => Sys2Proof.Machine.execRecorderDraw t s
  | .recOverrunReport t => Sys2Proof.Machine.execRecOverrunReport t s
  | .recTriggerNow t sid => Sys2Proof.Machine.execRecTriggerNow t sid s
  | .recTriggerAtTime t sid => Sys2Proof.Machine.execRecTriggerAtTime t sid s
  | .castFreeze t => Sys2Proof.Machine.execCastFreeze t s
  | .castRelease t sid cast => Sys2Proof.Machine.execCastRelease t sid cast s
  | .castReplay t sid cast => Sys2Proof.Machine.execCastReplay t sid cast s
  | .castStopReplay t sid cast => Sys2Proof.Machine.execCastStopReplay t sid cast s
  | .castReplayFrame t => Sys2Proof.Machine.execCastReplayFrame t s
  | .castExportSel t sid cast part => Sys2Proof.Machine.execCastExportSel t sid cast part s
  | .exportScanDone t sid => Sys2Proof.Machine.execExportScanDone t sid s
  | .castDirectoryRebuilt t => Sys2Proof.Machine.execCastDirectoryRebuilt t s
  | .porstNAssert t => Sys2Proof.Machine.execPorstNAssert t s
  | .porstNRelease t boot => Sys2Proof.Machine.execPorstNRelease t boot s
  | .powerOnDetectorAssert t => Sys2Proof.Machine.execPowerOnDetectorAssert t s
  | .powerOnDetectorRelease t boot => Sys2Proof.Machine.execPowerOnDetectorRelease t boot s
  | .wrstNAssert t => Sys2Proof.Machine.execWrstNAssert t s
  | .wrstNRelease t boot => Sys2Proof.Machine.execWrstNRelease t boot s
  | .devResetWarm t sid => Sys2Proof.Machine.execDevResetWarm t sid s
  | .devResetFull t sid => Sys2Proof.Machine.execDevResetFull t sid s
  | .devResetDelayExpiry t boot => Sys2Proof.Machine.execDevResetDelayExpiry t boot s
  | .firmwareBootTimeout t boot => Sys2Proof.Machine.execFirmwareBootTimeout t boot s
  | .fwStage t sid image => Sys2Proof.Machine.execFwStage t sid image s
  | .fwStageProgramDone t flashError => Sys2Proof.Machine.execFwStageProgramDone t flashError s
  | .aonCrystalTimeout t => Sys2Proof.Machine.execAonCrystalTimeout t s
  | .slowProtocolRx t => Sys2Proof.Machine.execSlowProtocolRx t s
  | .lacpduTx t port body => Sys2Proof.Machine.execLacpduTx t port body s
  | .announceReceiptTimeout t b port => Sys2Proof.Machine.execAnnounceReceiptTimeout t b port s
  | .plcaToTimerExpiry t port => Sys2Proof.Machine.execPlcaToTimerExpiry t port s
  | .flashIdleStop t => Sys2Proof.Machine.execFlashIdleStop t s
  | .boundaryScanHold t => Sys2Proof.Machine.execBoundaryScanHold t s
  | .boundaryScanRelease t boot => Sys2Proof.Machine.execBoundaryScanRelease t boot s

end Sys2Proof.Machine
end

