-- ==== Sys2Proof/WellFormed.lean ====
section
/-! DEFINITION. Which commands are well formed: every operand lies in the range that the manual gives it, where its type does
not say so already. The meanings are total; what is ill formed has the effect its operands cut to size give. -/

namespace Sys2Proof

/-- Ranges of the fields of a Gramus header and frame (R66, Table GMP-4). -/
def GFrame.wellFormed (f : GFrame) : Bool :=
  decide (f.dst < 2 ^ 48 ∧ f.src < 2 ^ 48 ∧ f.version < 256 ∧ f.opcode < 256 ∧ f.product < 65536 ∧ f.session < 65536 ∧ f.flags < 65536
    ∧ f.requestId < 2 ^ 32 ∧ f.counter < 2 ^ 64 ∧ f.length < 65536 ∧ f.status < 256 ∧ f.reserved < 256)
    && f.vlan.all (fun t => decide (t < 65536))

def frameOk (f : Option GFrame) : Bool := f.all GFrame.wellFormed

/-- A time of the dictionary: seconds below 2^48, and a fraction below 2^48 (R9). -/
def timeOk (t : Nat) : Bool := decide (t < 2 ^ 96)

/-- The twelve instants of Table RST-2. -/
def BootInput.wellFormed (b : BootInput) : Bool := b.stepsUs.length == 12 && decide (b.jedecId < 2 ^ 32 ∧ b.sizeMib < 65536)

def viaOk : Via → Bool
  | .obj sid => decide (sid < 65536)
  | .gmp f => frameOk f

/-- The wake list and the bytes of a plan (Table NRG-4). -/
def PlanOffer.wellFormed (o : PlanOffer) : Bool := o.lanes.length == 16

/-- Operands in range. -/
def wellFormed : Instr → Bool
  | .headComplete _ _ _ bytes ended _ => decide (bytes.length ≤ 128) && (ended || bytes.length == 128)
  | .pauseRx _ _ dst quanta => decide (dst < 2 ^ 48 ∧ quanta < 65536)
  | .pfcRx _ _ dst enables times => decide (dst < 2 ^ 48 ∧ enables < 256 ∧ times.length = 8) && times.all (fun q => decide (q < 65536))
  | .readmitLoadDone _ _ shown => shown.all (fun e => e.2.length == 48)
  | .decisionRecordArrival _ _ _ _ altered => altered.all (fun b => b.length == 48)
  | .flapHoldExpiry _ _ slot => decide (slot < 131072)
  | .emmFlushSource _ _ _ _ target => decide (target < 256)
  | .emmFlushVid _ _ vid => decide (vid < 4096)
  | .emmFlushSourceVid _ _ _ _ target vid => decide (target < 256 ∧ vid < 4096)
  | .emmFind _ _ _ key _ => decide (key < 2 ^ 64)
  | .discover _ f _ => frameOk f
  | .sessionOpen _ f nonceD => frameOk f && nonceD.length == 16
  | .sessionClose _ f => frameOk f
  | .keepalive _ f => frameOk f
  | .read _ f => frameOk f
  | .write _ f => frameOk f
  | .readRows _ f => frameOk f
  | .writeRows _ f => frameOk f
  | .readSegment _ f => frameOk f
  | .writeSegment _ f => frameOk f
  | .unknownOpcode _ f => frameOk f
  | .eventAck _ f => frameOk f
  | .txnOpen _ via => viaOk via
  | .txnArm _ via crc => viaOk via && decide (crc < 2 ^ 32)
  | .txnCommitNext _ via => viaOk via
  | .txnCommitStated _ via _ time => viaOk via && timeOk time
  | .txnAbort _ via => viaOk via
  | .snapReqStated _ _ _ _ time => timeOk time
  | .tbStepTo _ _ _ time => timeOk time
  | .kngControlBlockRx _ payload _ => payload.length == 124
  | .linkUp _ _ mbps => [10, 100, 1000, 2500, 5000, 10000, 25000, 40000, 50000, 100000].contains mbps
  | .hbmBlockRead _ lba _ _ => decide (lba < Config.memBlocks)
  | .hbmBlockWrite _ lba _ data => decide (lba < Config.memBlocks) && data.length == 512
  | .narrowWrite _ lba _ words => decide (lba < Config.memBlocks) && words.all (fun w => w.2.length == 8)
  | .mergeWindowExpiry _ lba _ => decide (lba < Config.memBlocks)
  | .remapCmd _ _ lba => decide (lba < Config.memBlocks)
  | .maquettePlanLoad _ offer => offer.wellFormed
  | .tempSample _ readings => readings.length == 18
  | .marginRead _ readings => readings.length == 6
  | .castExportSel _ _ _ part => decide (part < 2 ^ 24)
  | .porstNRelease _ boot => boot.wellFormed
  | .powerOnDetectorRelease _ boot => boot.wellFormed
  | .wrstNRelease _ boot => boot.wellFormed
  | .devResetDelayExpiry _ boot => boot.wellFormed
  | .firmwareBootTimeout _ boot => boot.wellFormed
  | .boundaryScanRelease _ boot => boot.wellFormed
  | .fwStage _ _ image => decide (image.length ≤ 4194304)
  | .frameTail .. | .pauseTimerExpiry .. | .parseClassify .. | .fragEntryExpiry .. | .decide .. | .comparisonWindowExpiry ..
  | .matcherCycle .. | .cellArrival .. | .copyEnqueue .. | .deepWriteDone .. | .bufferFree .. | .poolRebuildCmd ..
  | .poolRebuildDone .. | .schedulerSelect .. | .cutThroughUnderrun .. | .frameTxEnd .. | .expressLatencyFloor ..
  | .deepLatencyFloor .. | .stewardInject .. | .recircDraw .. | .rulesetLoadDone .. | .rulesetForcedRetire .. | .knaingFrameRx ..
  | .learnRequest .. | .ageingSweep .. | .emmBankWakeDone .. | .emmFlushAll .. | .emmFlushEntry .. | .emmFlushDone ..
  | .nullRecordEmit .. | .armatureWord .. | .heartbeatTimeout .. | .goldenRun .. | .triggeredGoldenRun .. | .goldenVerdict ..
  | .unresolvedEnd .. | .unresolvedLatch .. | .decUnresolvedClear .. | .decReadmit ..
  | .shadowCleanExpiry .. | .decRaise .. | .skewSweep .. | .discoverReplyDelay .. | .discoverAnnounce ..
  | .segmentWriteTimeout .. | .requestStartTimeout .. | .sessionIdleTimeout .. | .eventRetryExpiry .. | .txnTimeoutExpiry ..
  | .commitPoint .. | .statedCommitTime .. | .store .. | .restoreDefaults .. | .eraseStoredImage .. | .storeDone ..
  | .slotEraseDone .. | .snapReqNext .. | .snapRelease .. | .snapshotSweepDone .. | .laneTrainingRequest ..
  | .laneTrainingDone .. | .laneTrainingTimeout .. | .rxEyeMeasure .. | .prbsLockAcquired .. | .prbsLockLoss ..
  | .lanePowerCommand .. | .lanePowerStateReached .. | .laneCdrLoss .. | .kngBlockRx .. | .kngHeaderLock .. | .kngLockLoss ..
  | .kngControlBlockTx .. | .kngHeartbeatMiss .. | .kngWidthSwitch .. | .kngIdleLaneDeep .. | .collision .. | .backoffExpiry ..
  | .plcaBeaconRx .. | .plcaBeaconLoss .. | .eeeIdleExpiry .. | .lpiWakeDone .. | .partnerLpi .. | .linkDown .. | .holdExpiry ..
  | .mdioC22Read .. | .mdioC22Write .. | .mdioC45Address .. | .mdioC45Write .. | .mdioC45Read .. | .mdioC45ReadInc ..
  | .mdioFrameDone .. | .phyPoll .. | .svcRefclkLoss .. | .fcRefreshExpiry .. | .preemptVerifyTx .. | .preemptVerifyResponse ..
  | .mmFragmentRx .. | .refRecovery .. | .tbOffsetMeasurement .. | .tbRestep .. | .tbInputLoss .. | .tsQueueDrain ..
  | .ptpMessageRx .. | .ptpMessageTx .. | .tioEdge .. | .ppsEdge .. | .actionExecute .. | .actionPulseEnd .. | .creditTick ..
  | .gateChangeTime .. | .gateEvent .. | .preemptHoldAssert .. | .streamGateEvent .. | .sfUnblock .. | .sgClear ..
  | .meterClearRed .. | .frerRecoveryTimeout .. | .frerLatentTest .. | .frerLatentPeriodReset .. | .frerGenReset ..
  | .frerRcvyReset .. | .memDieFailCmd .. | .memDieRestoreCmd .. | .chiselPassStart .. | .chiselBlock .. | .chiselPassEnd ..
  | .chiselScrub .. | .chiselVerify .. | .chiselAbort .. | .sramSweep .. | .shadowRebuildDone .. | .maquettePeriod ..
  | .wakeListEntry .. | .surge .. | .dormantEnterCmd .. | .dormantDrainEnd .. | .dormantExitCmd .. | .dormantWakeTime ..
  | .dormantExitReady .. | .clockMonitorWindow .. | .clockVote .. | .voltageExcursion .. | .configCheckPass ..
  | .chunkReloadDone .. | .faultPinReadback .. | .plinthMiscompare .. | .plinthRomCheck .. | .keepSignalTimeout ..
  | .stewardHeartbeatMiss .. | .stewardRestartDone .. | .safClear .. | .safPinTestB .. | .safPinTestA .. | .pinTestEnd ..
  | .recorderDraw .. | .recOverrunReport .. | .recTriggerNow .. | .recTriggerAtTime .. | .castFreeze .. | .castRelease ..
  | .castReplay .. | .castStopReplay .. | .castReplayFrame .. | .exportScanDone .. | .castDirectoryRebuilt .. | .porstNAssert ..
  | .powerOnDetectorAssert .. | .wrstNAssert .. | .devResetWarm .. | .devResetFull .. | .fwStageProgramDone ..
  | .aonCrystalTimeout .. | .slowProtocolRx .. | .lacpduTx .. | .announceReceiptTimeout .. | .plcaToTimerExpiry ..
  | .flashIdleStop .. | .boundaryScanHold .. => true

end Sys2Proof
end

