-- ==== Sys2Proof/Safety.lean ====
section
/-! DEFINITION. The words in which statements are made: the state a command finds, the state it leaves, the commit point of a
written command, and what a run may rely on. -/

namespace Sys2Proof.Safety

open Sys2Proof.Machine

/-- The block as a command of tick `t` finds it: TIME has run to `t`, and the start-up steps due by then are complete (R288, R475). -/
def atTick (t : Nat) (s : State) : SysMem := advance t (s.sys, s.hbm)

/-- The registers a command of tick `t` finds. -/
def sysAt (t : Nat) (s : State) : Sys := (atTick t s).1

/-- The state that a command leaves whose own effect gives `x`: the block writes it asked for are made, and what follows from the
new state at the same instant is done (`aftermath`). The queue stays. -/
def leaves (s : State) (x : SysMem) : State :=
  { s with sys := (aftermath (flushWrites x)).1, hbm := (aftermath (flushWrites x)).2 }

/-- The same for a command of tick `t` whose own effect gives registers `y` and leaves the HBM to the block writes of `y`. -/
def leavesSys (t : Nat) (s : State) (y : Sys) : State := leaves s (y, (atTick t s).2)

/-- A command written to object `ix`:`sub` by session `sid` is taken: the session may write, has no open or armed transaction, no
other transaction holds the object, and the object's chapter does not refuse value `v` (R31, R46, R76, R86, R87). -/
def mayCommand (x : Sys) (sid ix sub v : Nat) : Prop :=
  mayWrite x sid ix = true ∧ inTxn x sid = false ∧ lockedFor x sid false ix sub = false ∧ (commandRefused x false ix sub v).1 = 0

/-- A write by session `sid` meets its commit point: the write counts against the time-out of its transaction, and what the Plinth has
due comes first (R48, R254). -/
def pointOf (sid : Nat) (x : SysMem) : SysMem := onSys plinthFirst (onSys (touchTxn sid) x)

/-- The commit point of a write that stores nothing: what was pending for the point has taken effect, the generation has
advanced, and a REC_SIZE that waited is in force (R49, R72, R463). -/
def commandPoint (sid : Nat) (x : SysMem) : SysMem := onSys (fun s => recSizeCommit (nextGen s)) (commitAll [] false (pointOf sid x))

/-- What the commit point of a write leaves, where the write's own effect gives `y`: the claims of the point take effect together
(R228). -/
def settled (sid : Nat) (x y : SysMem) : SysMem := onSys (settleClaims (pointOf sid x).1) y

/-- A command of value `v` for object `ix`:`sub`, as a transaction stages it. -/
def stagedCommand (ix sub v : Nat) : Staged := { ix := ix, sub := sub, row := 0, col := 0, req := .num v, val := .num v }

/-- What session `sid` has staged but for object `ix`:`sub`. -/
def stagedElse (x : Sys) (sid ix sub : Nat) : List Staged := (txnOf x sid).staged.filter (fun z => z.at_ != (ix, sub, 0, 0))

/-- An RWS command is staged: the session may write, its transaction is ARMED by TXN_ARM, no other transaction holds the object,
the object's chapter does not refuse the value, and there is room (R31, R45 to R47). -/
def mayStage (x : Sys) (sid ix sub v : Nat) : Prop :=
  mayWrite x sid ix = true ∧ x.devState ≠ 3 ∧ (txnOf x sid).st = .armed ∧ (txnOf x sid).by79 = false ∧ lockedFor x sid true ix sub = false
    ∧ (commandRefused x true ix sub v).1 = 0 ∧ ((stagedCommand ix sub v :: stagedElse x sid ix sub).map stagedFields).foldl (· + ·) 0 ≤ 1024
    ∧ ((stagedCommand ix sub v :: stagedElse x sid ix sub).map valueBytes).foldl (· + ·) 0 ≤ 65536

/-- The staged command stands last in the transaction, whose time-out starts anew (R46, R48). -/
def withStaged (sid ix sub v : Nat) (x : Sys) : Sys :=
  touchTxn sid (updTxn sid (fun y => { y with staged := stagedElse x sid ix sub ++ [stagedCommand ix sub v] }) x)

/-- A session may write one of its own objects of chapter 02: no transaction holds it (R31, R46). -/
def mayOwn (x : Sys) (sid ix sub : Nat) : Prop := mayWrite x sid ix = true ∧ lockedFor x sid (inTxn x sid) ix sub = false

/-- The frame `g` of a command, given with it or at the front of SQ0 and taken from there to leave `y`, is one that a steward
serves: it came by a Gramus port to the device, is well formed, and has version 1 (R64, R68). -/
def reaches (f : Option GFrame) (want : GFrame → Bool) (x : SysMem) (g : Taken) (y : SysMem) : Prop :=
  takeFrame f want x = some (g, y) ∧ stewardsRun y.1 = true ∧ gmpListens g.view g.f = true ∧ badFrame g.f = false ∧ g.f.version = 1

/-- Frame `g` belongs to session `v`: it is tagged exactly if the session has a key, with a good tag, and its counter is new
(R68, R80 to R82). -/
def ofSession (y : Sys) (v : Session) (g : GFrame) : Prop :=
  session? y g.session = some v ∧ v.rxCtr < g.counter
    ∧ (v.keyRow = 0xFF ∧ gfTagged g = false ∨ v.keyRow ≠ 0xFF ∧ gfTagged g = true ∧ gfTagGood g v.key = true)

/-- A request is new to its session, which has fewer than eight outstanding (R83, R84). -/
def newRequest (v : Session) (g : GFrame) : Prop :=
  v.cache.find? (fun e => e.1 == g.requestId) = none ∧ v.waitq.any (fun e => e.2.1.rid == g.requestId) = false
    ∧ v.held.any (fun h => h.reply.rid == g.requestId) = false ∧ v.highest.any (fun h => !newer g.requestId h) = false
    ∧ v.waitq.length + boolNat v.held.isSome < 8

/-- The session has heard frame `g` (R81). -/
def heard (v : Session) (g : GFrame) (y : Sys) : Sys := updSession v.sid (fun w => { w with rxCtr := g.counter }) y

/-- The request stands last among those of its session, with its arrival and the reply it will have; the session is not idle (R75). -/
def withRequest (v : Session) (g : Taken) (y : Sys) : Sys :=
  let rid := g.f.requestId
  let s := updSession v.sid (fun w => { w with highest := some (match w.highest with | some h => if newer rid h then rid else h | none => rid) }) (heard v g.f y)
  updSession v.sid (fun w => { w with waitq := w.waitq ++ [(g.at_, replyTo g.view g.f (v.keyRow != 0xFF) v.sid, g.f)] })
    (updSession v.sid (fun w => { w with last := s.now }) s)

/-- Every field of a decision record lies within its field of Table DEC-1. -/
def recFits (r : Rec) : Prop :=
  (r.seq < 2 ^ 64 ∧ r.gen < 2 ^ 32 ∧ r.rsGen < 2 ^ 32 ∧ r.typ < 4 ∧ r.dec < 2 ∧ r.lane < 2 ∧ r.action < 256 ∧ r.target < 65536)
    ∧ (r.tc < 8 ∧ r.colour < 4 ∧ r.qsel < 4 ∧ r.queue < 65536 ∧ r.stream < 65536 ∧ r.nextHop < 65536 ∧ r.vidOut < 65536)
    ∧ (r.dropReason < 256 ∧ r.prov < 8 ∧ r.keyCrc < 2 ^ 32 ∧ r.member < 256 ∧ r.info < 2 ^ 32)

/-- The shares of a block as the stacks hold them after a write of `data`, without poison (R373, R374). -/
def goodShares (area lba : Nat) (data : List Byte) : List Share :=
  (encodeShares data).map (fun x => { data := x.map (·.toNat), tag := tagWord false area lba })

/-- Address `a` holds a byte of physical block `n`: of one of its eighteen shares or of a share's tag. -/
def inBlock (n a : Nat) : Prop := ∃ j, j < 18 ∧ shareAddr n j ≤ a ∧ a < shareAddr n j + 36

/-- The device is ready and idle: no start-up step, request, event, trigger or fault waits, nothing asks for a block write, no die
has failed, no time base or Knaing link runs, no rule commit waits, and no port has a half-duplex link, low-power idle or
back-pressure. -/
def quiet (x : Sys) : Prop :=
  (x.devState = 1 ∧ x.boot.left = [] ∧ x.bootSilent = false ∧ x.faults = 0 ∧ x.triggers = [])
    ∧ (x.sessions = [] ∧ x.orphans = [] ∧ x.ending = [] ∧ x.rsWait = none)
    ∧ (x.wq = [] ∧ failedDie x = none ∧ x.bases = [] ∧ x.kng.st ≠ 2 ∧ x.kng.wantWidth = 0)
    ∧ calm x = true ∧ x.ports.all (fun e => !e.2.half && !e.2.lpiTx) = true

/-- Safe memory: the HBM's bytes are listed in the one canonical form. -/
def hbmOk (s : State) : Prop := Memory.wf s.hbm = true

end Sys2Proof.Safety
end

