-- ==== Sys2Proof/Certificates/Slice0/Obligations.lean ====
section
/-! DEFINITION. The statements for the provers. In each, `x` is the block as the command of tick `t` finds it (`sysAt`, or with the
HBM `atTick`), and `leavesSys t s y` the state that its own effect `y` leaves. -/

open Sys2Proof Sys2Proof.Machine Sys2Proof.Safety

/-- O1. For every state in which the frame is taken: HEAD_COMPLETE of a longer frame gives the frame a number and passes its head on,
a shorter one is received whole, FRAME_TAIL completes the frame under way or receives a whole one, MM_FRAGMENT_RX opens,
extends or completes the frame under reassembly or restarts it with a counter, and RECIRC_DRAW draws from port 75. Each
answers a next state that holds just this effect and what follows from it at once. -/
def Obligations.Received_frames_take_effect : Prop :=
  -- HEAD_COMPLETE, a longer frame (R13)
  (∀ (t : Nat) (port : Fin 76) (sfd : Nat) (bytes : List Byte) (cw : Codewords) (s : State), let x := sysAt t s
      let y := farEnd port.val bytes (countCw port.val cw x);
      fromBalls x port.val = true →
      macAccept y port.val = .all →
      (Machine.port y port.val).rx = none →
      stagingUsed y (tileOf port.val) + bytes.length ≤ stagingBytes →
      Machine.exec (.headComplete t port sfd bytes false cw) s = .next (leavesSys t s (passHead y.nextFrame .all (updPort port.val (fun q => { q with rx := some y.nextFrame }) (addFrame { newFrame port.val sfd bytes with marred := marredBy x port.val cw } y).2)))) ∧
  -- HEAD_COMPLETE, a longer frame where staging is full (R13, R16)
  (∀ (t : Nat) (port : Fin 76) (sfd : Nat) (bytes : List Byte) (cw : Codewords) (s : State), let x := sysAt t s
      let y := farEnd port.val bytes (countCw port.val cw x);
      fromBalls x port.val = true →
      macAccept y port.val = .all →
      (Machine.port y port.val).rx = none →
      stagingBytes < stagingUsed y (tileOf port.val) + bytes.length →
      Machine.exec (.headComplete t port sfd bytes false cw) s = .next (leavesSys t s (bump (Ctr.rxStageDrop port.val) (updPort port.val (fun q => { q with rx := some y.nextFrame }) (addFrame { newFrame port.val sfd bytes with marred := marredBy x port.val cw } y).2)))) ∧
  -- HEAD_COMPLETE, a frame no longer than a head (R13, R119)
  (∀ (t : Nat) (port : Fin 76) (sfd : Nat) (bytes : List Byte) (cw : Codewords) (s : State), let x := sysAt t s
      let y := farEnd port.val bytes (countCw port.val cw x);
      fromBalls x port.val = true →
      Machine.exec (.headComplete t port sfd bytes true cw) s = .next (leavesSys t s (wholeFrame port.val sfd bytes false (marredBy x port.val cw) y))) ∧
  -- HEAD_COMPLETE at a MAC that accepts nothing (R13, R119)
  (∀ (t : Nat) (port : Fin 76) (sfd : Nat) (bytes : List Byte) (ended : Bool) (cw : Codewords) (s : State), let x := sysAt t s
      let y := farEnd port.val bytes (countCw port.val cw x);
      fromBalls x port.val = true →
      macAccept y port.val = .deaf →
      Machine.exec (.headComplete t port sfd bytes ended cw) s = .next (leavesSys t s (y))) ∧
  -- HEAD_COMPLETE in a near-end loopback (R13, R104)
  (∀ (t : Nat) (port : Fin 76) (sfd : Nat) (bytes : List Byte) (ended : Bool) (cw : Codewords) (s : State), let x := sysAt t s
      fromBalls x port.val = false →
      Machine.exec (.headComplete t port sfd bytes ended cw) s = .next (leavesSys t s (x))) ∧
  -- FRAME_TAIL of the frame under way (R119)
  (∀ (t : Nat) (port : Fin 76) (rest : List Byte) (partialOctet : Bool) (cw : Codewords) (id : Nat) (s : State), let x := sysAt t s
      let y := farEnd port.val ((Machine.port x port.val).lastTx ++ rest) (countCw port.val cw x);
      fromBalls x port.val = true →
      (Machine.port y port.val).rx = some id →
      Machine.exec (.frameTail t port rest partialOctet cw) s = .next (leavesSys t s (endFrame id rest partialOctet (marredBy x port.val cw) y))) ∧
  -- FRAME_TAIL of a frame that arrives whole (R13, R119)
  (∀ (t : Nat) (port : Fin 76) (rest : List Byte) (partialOctet : Bool) (cw : Codewords) (s : State), let x := sysAt t s
      let y := farEnd port.val ((Machine.port x port.val).lastTx ++ rest) (countCw port.val cw x);
      fromBalls x port.val = true →
      (Machine.port y port.val).rx = none →
      Machine.exec (.frameTail t port rest partialOctet cw) s = .next (leavesSys t s (wholeFrame port.val (y.now - bitTicks (8 * rest.length) (linkSpeed y port.val)) rest partialOctet (marredBy x port.val cw) y))) ∧
  -- FRAME_TAIL in a near-end loopback (R13, R104)
  (∀ (t : Nat) (port : Fin 76) (rest : List Byte) (partialOctet : Bool) (cw : Codewords) (s : State), let x := sysAt t s
      fromBalls x port.val = false →
      Machine.exec (.frameTail t port rest partialOctet cw) s = .next (leavesSys t s (x))) ∧
  -- MM_FRAGMENT_RX, a first fragment (R346)
  (∀ (t : Nat) (port : Fin 76) (bytes : List Byte) (s : State), let x := sysAt t s
      port.val < 64 →
      flag x (pix port.val 0x0E) 1 = true →
      macAccept x port.val = .all →
      fromBalls x port.val = true →
      (Machine.port x port.val).mmOpen = false →
      Machine.exec (.mmFragmentRx t port .first bytes) s = .next (leavesSys t s (updPort port.val (fun q => { q with mmOpen := true, mmBytes := bytes }) (bump (Ctr.mmRxFrag port.val) x)))) ∧
  -- MM_FRAGMENT_RX, a continuation (R346)
  (∀ (t : Nat) (port : Fin 76) (bytes : List Byte) (s : State), let x := sysAt t s
      port.val < 64 →
      flag x (pix port.val 0x0E) 1 = true →
      macAccept x port.val = .all →
      fromBalls x port.val = true →
      (Machine.port x port.val).mmOpen = true →
      Machine.exec (.mmFragmentRx t port .continuation bytes) s = .next (leavesSys t s (updPort port.val (fun q => { q with mmBytes := q.mmBytes ++ bytes }) (bump (Ctr.mmRxFrag port.val) x)))) ∧
  -- MM_FRAGMENT_RX, the last fragment (R346)
  (∀ (t : Nat) (port : Fin 76) (bytes : List Byte) (s : State), let x := sysAt t s
      port.val < 64 →
      flag x (pix port.val 0x0E) 1 = true →
      macAccept x port.val = .all →
      fromBalls x port.val = true →
      (Machine.port x port.val).mmOpen = true →
      Machine.exec (.mmFragmentRx t port .final bytes) s = .next (leavesSys t s (arrive port.val (x.now - bitTicks (8 * ((Machine.port x port.val).mmBytes ++ bytes).length) (linkSpeed x port.val)) ((Machine.port x port.val).mmBytes ++ bytes) (bump (Ctr.mmAssyOk port.val) (updPort port.val (fun q => { q with mmOpen := false, mmBytes := [] }) (bump (Ctr.mmRxFrag port.val) x)))))) ∧
  -- MM_FRAGMENT_RX, a fragment with a bad mCRC (R346)
  (∀ (t : Nat) (port : Fin 76) (bytes : List Byte) (s : State), let x := sysAt t s
      port.val < 64 →
      flag x (pix port.val 0x0E) 1 = true →
      macAccept x port.val = .all →
      fromBalls x port.val = true →
      Machine.exec (.mmFragmentRx t port .bad bytes) s = .next (leavesSys t s (bump (Ctr.mmAssyErr port.val) (updPort port.val (fun q => { q with mmOpen := false, mmBytes := [] }) (bump (Ctr.mmRxFrag port.val) x))))) ∧
  -- MM_FRAGMENT_RX, a fragment out of place (R346)
  (∀ (t : Nat) (port : Fin 76) (kind : MmKind) (bytes : List Byte) (s : State), let x := sysAt t s
      port.val < 64 →
      flag x (pix port.val 0x0E) 1 = true →
      macAccept x port.val = .all →
      fromBalls x port.val = true →
      kind = .badSmd ∨ (kind = .first ↔ (Machine.port x port.val).mmOpen = true) ∧ kind ≠ .bad ∧ kind ≠ .verify →
      Machine.exec (.mmFragmentRx t port kind bytes) s = .next (leavesSys t s (bump (Ctr.mmSmdErr port.val) (updPort port.val (fun q => { q with mmOpen := false, mmBytes := [] }) x)))) ∧
  -- MM_FRAGMENT_RX, a verify frame (R342, R346)
  (∀ (t : Nat) (port : Fin 76) (bytes : List Byte) (s : State), let x := sysAt t s
      port.val < 64 →
      flag x (pix port.val 0x0E) 1 = true →
      macAccept x port.val = .all →
      fromBalls x port.val = true →
      Machine.exec (.mmFragmentRx t port .verify bytes) s = .next (leavesSys t s (updPort port.val (fun q => { q with verifyReplies := q.verifyReplies + 1 }) x))) ∧
  -- MM_FRAGMENT_RX where preemption is off (R346)
  (∀ (t : Nat) (port : Fin 76) (kind : MmKind) (bytes : List Byte) (s : State), let x := sysAt t s
      64 ≤ port.val ∨ flag x (pix port.val 0x0E) 1 = false ∨ macAccept x port.val ≠ .all ∨ fromBalls x port.val = false →
      Machine.exec (.mmFragmentRx t port kind bytes) s = .next (leavesSys t s (x))) ∧
  -- RECIRC_DRAW (R149)
  (∀ (t : Nat) (id : Nat) (y : Sys) (s : State), let x := sysAt t s
      x.recircFree ≤ x.now →
      x.devState = 1 →
      recircNext x = (y, some id) →
      y.rsRetired.contains (frame y (copy y id).frame).rsGen = false →
      Machine.exec (.recircDraw t) s = .next (leavesSys t s (recirculate id y))) ∧
  -- RECIRC_DRAW of a frame whose rule set is retired (R149, R183)
  (∀ (t : Nat) (id : Nat) (y : Sys) (s : State), let x := sysAt t s
      x.recircFree ≤ x.now →
      x.devState = 1 →
      recircNext x = (y, some id) →
      y.rsRetired.contains (frame y (copy y id).frame).rsGen = true →
      Machine.exec (.recircDraw t) s = .next (leavesSys t s (dropAs false Ctr.rsGenDrop id y))) ∧
  -- RECIRC_DRAW with nothing to draw (R149)
  (∀ (t : Nat) (y : Sys) (s : State), let x := sysAt t s
      x.recircFree ≤ x.now →
      x.devState = 1 →
      recircNext x = (y, none) →
      Machine.exec (.recircDraw t) s = .next (leavesSys t s (x))) ∧
  -- RECIRC_DRAW before its time (R149)
  (∀ (t : Nat) (s : State), let x := sysAt t s
      x.now < x.recircFree ∨ x.devState ≠ 1 →
      Machine.exec (.recircDraw t) s = .next (leavesSys t s (x)))

/-- O2. For every port, destination, quanta, enables and times: at a MAC that accepts frames PAUSE_RX and PFC_RX count the good frame
in RX_FRAMES, then count it as PAUSE or PFC, and where FC_RX honours it stop the named classes for their quanta or release
them, or drop and count a frame to another address; at start-up port 72 only counts the frame, DORMANT drops and counts it,
and a MAC that accepts nothing does nothing. PAUSE_TIMER_EXPIRY releases a class whose time is over and no other;
FC_REFRESH_EXPIRY repeats the frame while back-pressure that was sent lasts and its refresh time is over. -/
def Obligations.Flow_control_frames_take_effect : Prop :=
  -- PAUSE_RX at a MAC that accepts frames (R119, R128, R129)
  (∀ (t : Nat) (port : Fin 76) (dst quanta : Nat) (s : State), let x := sysAt t s
      fromBalls x port.val = true →
      macAccept x port.val = .all →
      Machine.exec (.pauseRx t port dst quanta) s = .next (leavesSys t s ((let y := countGood port.val 64 x
        if (Machine.port y port.val).half = true ∨ dst ≠ 0x0180C2000001 then bump (Ctr.rxMacctlDrop port.val) y
        else if obj y (pix port.val 2) 1 = 1 then loop (fun c => stopClass port.val c quanta) 0 8 (bump (Ctr.rxPause port.val) y)
        else bump (Ctr.rxPause port.val) y)))) ∧
  -- PAUSE_RX at start-up (R145)
  (∀ (t : Nat) (port : Fin 76) (dst quanta : Nat) (s : State), let x := sysAt t s
      fromBalls x port.val = true →
      macAccept x port.val = .boot →
      Machine.exec (.pauseRx t port dst quanta) s = .next (leavesSys t s (countGood port.val 64 x))) ∧
  -- PAUSE_RX in DORMANT (R145)
  (∀ (t : Nat) (port : Fin 76) (dst quanta : Nat) (s : State), let x := sysAt t s
      fromBalls x port.val = true →
      macAccept x port.val = .dormant →
      Machine.exec (.pauseRx t port dst quanta) s = .next (leavesSys t s (bump (Ctr.dormantRxDrop port.val) x))) ∧
  -- PAUSE_RX at a MAC that accepts nothing (R119, R129)
  (∀ (t : Nat) (port : Fin 76) (dst quanta : Nat) (s : State), let x := sysAt t s
      fromBalls x port.val = false ∨ macAccept x port.val = .deaf →
      Machine.exec (.pauseRx t port dst quanta) s = .next (leavesSys t s (x))) ∧
  -- PFC_RX at a MAC that accepts frames (R119, R128, R129)
  (∀ (t : Nat) (port : Fin 76) (dst enables : Nat) (times : List Nat) (s : State), let x := sysAt t s
      fromBalls x port.val = true →
      macAccept x port.val = .all →
      Machine.exec (.pfcRx t port dst enables times) s = .next (leavesSys t s ((let y := countGood port.val 64 x
        if (Machine.port y port.val).half = true ∨ dst ≠ 0x0180C2000001 then bump (Ctr.rxMacctlDrop port.val) y
        else if obj y (pix port.val 2) 1 = 2 then
          loop (fun c s => if bit enables c ∧ bit (obj s (pix port.val 2) 2) c then stopClass port.val c (times.getD c 0) s else s) 0 8 (bump (Ctr.rxPfc port.val) y)
        else bump (Ctr.rxPfc port.val) y)))) ∧
  -- PFC_RX at start-up (R145)
  (∀ (t : Nat) (port : Fin 76) (dst enables : Nat) (times : List Nat) (s : State), let x := sysAt t s
      fromBalls x port.val = true →
      macAccept x port.val = .boot →
      Machine.exec (.pfcRx t port dst enables times) s = .next (leavesSys t s (countGood port.val 64 x))) ∧
  -- PFC_RX in DORMANT (R145)
  (∀ (t : Nat) (port : Fin 76) (dst enables : Nat) (times : List Nat) (s : State), let x := sysAt t s
      fromBalls x port.val = true →
      macAccept x port.val = .dormant →
      Machine.exec (.pfcRx t port dst enables times) s = .next (leavesSys t s (bump (Ctr.dormantRxDrop port.val) x))) ∧
  -- PFC_RX at a MAC that accepts nothing (R119, R129)
  (∀ (t : Nat) (port : Fin 76) (dst enables : Nat) (times : List Nat) (s : State), let x := sysAt t s
      fromBalls x port.val = false ∨ macAccept x port.val = .deaf →
      Machine.exec (.pfcRx t port dst enables times) s = .next (leavesSys t s (x))) ∧
  -- PAUSE_TIMER_EXPIRY (R129)
  (∀ (t : Nat) (port : Fin 76) (tc : Fin 8) (s : State), let x := sysAt t s
      SMap.get 0 (Machine.port x port.val).pause tc.val ≤ x.now →
      Machine.exec (.pauseTimerExpiry t port tc) s = .next (leavesSys t s (updPort port.val (fun q => { q with pause := SMap.set 0 q.pause tc.val 0 }) x))) ∧
  -- PAUSE_TIMER_EXPIRY of a class whose time is not over (R129)
  (∀ (t : Nat) (port : Fin 76) (tc : Fin 8) (s : State), let x := sysAt t s
      x.now < SMap.get 0 (Machine.port x port.val).pause tc.val →
      Machine.exec (.pauseTimerExpiry t port tc) s = .next (leavesSys t s (x))) ∧
  -- FC_REFRESH_EXPIRY (R131)
  (∀ (t : Nat) (port : Fin 76) (s : State), let x := sysAt t s
      fcSends x port.val = true ∧ (Machine.port x port.val).fcSent ≠ 0 ∧ (Machine.port x port.val).fcAt + fcRefresh x port.val ≤ x.now →
      Machine.exec (.fcRefreshExpiry t port) s = .next (leavesSys t s (updPort port.val (fun q => { q with macCtl := q.macCtl ++ [fcFrame x port.val q.bp 0], fcAt := x.now, fcSent := q.bp }) x))) ∧
  -- FC_REFRESH_EXPIRY with nothing to repeat (R131)
  (∀ (t : Nat) (port : Fin 76) (s : State), let x := sysAt t s
      ¬(fcSends x port.val = true ∧ (Machine.port x port.val).fcSent ≠ 0 ∧ (Machine.port x port.val).fcAt + fcRefresh x port.val ≤ x.now) →
      Machine.exec (.fcRefreshExpiry t port) s = .next (leavesSys t s (x)))

/-- O3. For every state with a head to parse, PARSE_CLASSIFY adds the bytes that came and parses the lowest-numbered head;
FRAG_ENTRY_EXPIRY removes and counts an entry idle for FRAG_TIMEOUT; RULESET_LOAD_DONE makes the due commit that stages rule
objects; RULESET_FORCED_RETIRE retires every older bank once a commit has waited 1 ms and begins the load. -/
def Obligations.Parsing_and_rule_sets_take_effect : Prop :=
  -- PARSE_CLASSIFY (R153)
  (∀ (t : Nat) (more : List Byte) (ended : Bool) (id : Nat) (f : Frame) (s : State), let x := sysAt t s
      (headsIn x .numbered).head? = some (id, f) →
      f.ended = true ∨ stagingFull x f more.length = false →
      Machine.exec (.parseClassify t more ended) s = .next (leavesSys t s (parseHead id (updFrame id (moreBytes more ended) x)))) ∧
  -- PARSE_CLASSIFY where staging is full (R16, R153)
  (∀ (t : Nat) (more : List Byte) (ended : Bool) (id : Nat) (f : Frame) (s : State), let x := sysAt t s
      (headsIn x .numbered).head? = some (id, f) →
      f.ended = false ∧ stagingFull x f more.length = true →
      Machine.exec (.parseClassify t more ended) s = .next (leavesSys t s (parseHead id (updFrame id (fun f => { f with bad := true, overrun := true }) (bumpIf (!f.overrun) (Ctr.rxStageDrop f.port) x))))) ∧
  -- PARSE_CLASSIFY with no head to parse (R153)
  (∀ (t : Nat) (more : List Byte) (ended : Bool) (s : State), let x := sysAt t s
      headsIn x .numbered = [] →
      Machine.exec (.parseClassify t more ended) s = .next (leavesSys t s (x))) ∧
  -- FRAG_ENTRY_EXPIRY (R167)
  (∀ (t : Nat) (slot : Fin 1024) (e : FragEntry) (s : State), let x := sysAt t s
      SMap.get none x.frags slot.val = some e →
      e.used + obj x 0x3100 2 * Config.ticksPerMs ≤ x.now →
      Machine.exec (.fragEntryExpiry t slot) s = .next (leavesSys t s (bump Ctr.fragExpire { x with frags := SMap.set none x.frags slot.val none }))) ∧
  -- RULESET_LOAD_DONE (R181)
  (∀ (t : Nat) (e : Session × Bool) (s : State), let x := atTick t s
      ((dueTxns x.1 false) ++ (dueTxns x.1 true)).find? (fun e => changesRules x.1 e.1.txn.staged) = some e →
      Machine.exec (.rulesetLoadDone t) s = .next (leaves s (atPoint (commitTxn e.1 e.2) x))) ∧
  -- RULESET_FORCED_RETIRE (R183)
  (∀ (t : Nat) (w : RsWait) (s : State), let x := sysAt t s
      x.rsWait = some w →
      w.loadEnd = none →
      w.accepted + Config.ticksPerMs ≤ x.now →
      Machine.exec (.rulesetForcedRetire t) s = .next (leavesSys t s ({ x with rsRetired := x.rsRetired ++ x.rsBank.map (·.1), rsBank := [], rsWait := some { w with loadEnd := some (x.now + bankTicks), forced := true, delay := Config.ticksPerMs } })))

/-- O4. While the stewards run: STEWARD_INJECT puts the first frame they send into its port queue; SLOW_PROTOCOL_RX keeps an LACPDU,
answers a marker PDU or counts another frame; LACPDU_TX queues an LACP frame for a lane port; PTP_MESSAGE_RX serves the frame
at the head of SQ1; PTP_MESSAGE_TX sends the message its port may send; ANNOUNCE_RECEIPT_TIMEOUT ends a port that heard no
Announce. -/
def Obligations.Steward_frames_take_effect : Prop :=
  -- STEWARD_INJECT (R18)
  (∀ (t : Nat) (p tc : Nat) (b : List Byte) (l : List (Nat × Nat × List Byte)) (s : State), let x := sysAt t s
      stewardsRun x = true →
      x.outbox = (p, tc, b) :: l →
      Machine.exec (.stewardInject t) s = .next (leavesSys t s (injectFrame p tc b { x with outbox := l }))) ∧
  -- SLOW_PROTOCOL_RX (R123)
  (∀ (t : Nat) (f : Frame) (y : Sys) (s : State), let x := sysAt t s
      stewardsRun x = true →
      takeSq 2 x = some (f, y) →
      Machine.exec (.slowProtocolRx t) s = .next (leavesSys t s (if byteAt f.bytes 14 = 1 then { y with lacp := SMap.set [] y.lacp f.port (f.bytes.drop 14) }
        else if byteAt f.bytes 14 = 2 then
          (if byteAt f.bytes 16 = 1 then sendSteward f.port 7 (slowHeader y ++ patch (f.bytes.drop 14) 2 [2]) y else y)
        else bump Ctr.stewSlowOther y))) ∧
  -- LACPDU_TX (R18)
  (∀ (t : Nat) (port : Fin 76) (body : List Byte) (s : State), let x := sysAt t s
      stewardsRun x = true →
      port.val < 64 →
      Machine.exec (.lacpduTx t port body) s = .next (leavesSys t s (sendSteward port.val 7 (slowHeader x ++ body) x))) ∧
  -- PTP_MESSAGE_RX (R307, R308)
  (∀ (t : Nat) (f : Frame) (y : Sys) (s : State), let x := sysAt t s
      stewardsRun x = true →
      (x.ptpIn.turn x).count < 30000 →
      takeSq 1 x = some (f, y) →
      Machine.exec (.ptpMessageRx t) s = .next (leavesSys t s (let y := { y with ptpIn := { (x.ptpIn.turn x) with count := (x.ptpIn.turn x).count + 1 } }
        match ptpInstanceOf y f.port (ptpMessage y f.port f.bytes).1 (ptpMessage y f.port f.bytes).2 with
        | none => bump Ctr.ptpNoInstance y
        | some i => ptpReceive i f.port (ptpMessage y f.port f.bytes).2 (clockAt y i (y.dcZero + rxStamp y f * 5 / 262144)) y))) ∧
  -- PTP_MESSAGE_RX with nothing to serve (R307)
  (∀ (t : Nat) (s : State), let x := sysAt t s
      stewardsRun x = false ∨ 30000 ≤ (x.ptpIn.turn x).count ∨ takeSq 1 x = none →
      Machine.exec (.ptpMessageRx t) s = .next (leavesSys t s (x))) ∧
  -- PTP_MESSAGE_TX (R307)
  (∀ (t : Nat) (b : Fin 4) (port : Fin 76) (msgType : Fin 16) (s : State), let x := sysAt t s
      stewardsRun x = true →
      ptpMaySend x b.val port.val msgType.val = true →
      (x.ptpOut.turn x).count < 30000 →
      Machine.exec (.ptpMessageTx t b port msgType) s = .next (leavesSys t s (ptpSendNext b.val port.val msgType.val { x with ptpOut := { (x.ptpOut.turn x) with count := (x.ptpOut.turn x).count + 1 } }))) ∧
  -- ANNOUNCE_RECEIPT_TIMEOUT (R306)
  (∀ (t : Nat) (b : Fin 4) (port : Fin 76) (s : State), let x := sysAt t s
      stewardsRun x = true →
      ptpRow x b.val port.val = true →
      (ptpPort x b.val port.val).state ∈ [4, 7, 8, 9] →
      (ptpPort x b.val port.val).announceAt + cell x 0x0910 1 (73 * b.val + port.val) 4 * logTicks (cellI x 0x0910 1 (73 * b.val + port.val) 1) ≤ x.now →
      Machine.exec (.announceReceiptTimeout t b port) s = .next (leavesSys t s (ptpDecide b.val port.val none x)))

/-- O5. DECIDE decides what has the lowest number in the lane, a head that is parsed or a golden vector, in a running decider whose
banks do not wake, and otherwise changes nothing; DECISION_RECORD_ARRIVAL takes the record of its place in the lane, which
joins its head's pair, beats as a heartbeat or answers a golden vector; COMPARISON_WINDOW_EXPIRY classifies a pair whose
window of 392 ns has run out. -/
def Obligations.Decisions_and_their_records_take_effect : Prop :=
  -- DECIDE, a head (R185)
  (∀ (t : Nat) (d : DecId) (lane : Fin 2) (id : Nat) (f : Frame) (s : State), let x := sysAt t s
      (decider x d).running = true →
      (decider x d).started = true →
      (decider x d).waking = none →
      (nextVector (decider x d) lane.val).all (fun e => decide (f.seq ≤ e.1)) = true →
      nextHead x (decider x d) lane.val = some (id, f) →
      f.stage = .parsed →
      Machine.exec (.decide t d lane) s = .next (leavesSys t s (decideHead d lane.val id f x))) ∧
  -- DECIDE, a golden vector (R185, R245)
  (∀ (t : Nat) (d : DecId) (lane : Fin 2) (n k : Nat) (s : State), let x := sysAt t s
      (decider x d).running = true →
      (decider x d).started = true →
      (decider x d).waking = none →
      nextVector (decider x d) lane.val = some (n, k) →
      (nextHead x (decider x d) lane.val).all (fun e => decide (n < e.2.seq)) = true →
      Machine.exec (.decide t d lane) s = .next (leavesSys t s (decideVector d lane.val n k x))) ∧
  -- DECIDE with nothing to decide yet (R185)
  (∀ (t : Nat) (d : DecId) (lane : Fin 2) (s : State), let x := sysAt t s
      nextVector (decider x d) lane.val = none →
      (nextHead x (decider x d) lane.val).all (fun e => decide (e.2.stage ≠ .parsed)) = true →
      Machine.exec (.decide t d lane) s = .next (leavesSys t s (x))) ∧
  -- DECIDE with a head before the next vector that is not parsed (R185)
  (∀ (t : Nat) (d : DecId) (lane : Fin 2) (id : Nat) (f : Frame) (s : State), let x := sysAt t s
      nextHead x (decider x d) lane.val = some (id, f) →
      f.stage ≠ .parsed →
      (nextVector (decider x d) lane.val).all (fun e => decide (f.seq ≤ e.1)) = true →
      Machine.exec (.decide t d lane) s = .next (leavesSys t s (x))) ∧
  -- DECIDE of a decider that does not run or whose banks wake (R185, R228)
  (∀ (t : Nat) (d : DecId) (lane : Fin 2) (s : State), let x := sysAt t s
      (decider x d).running = false ∨ (decider x d).started = false ∨ (decider x d).waking.isSome = true →
      Machine.exec (.decide t d lane) s = .next (leavesSys t s (x))) ∧
  -- DECISION_RECORD_ARRIVAL (R233, R241)
  (∀ (t : Nat) (d : DecId) (lane : Fin 2) (skip : Nat) (altered : Option (List Byte)) (i : InFlight) (rest : List InFlight) (s : State), let x := sysAt t s
      let v := decider x d; let w := v.delivered lane.val rest (((v.inLane lane.val).take skip).any (·.head.isSome)) i;
      ((decider x d).inLane lane.val).drop skip = i :: rest →
      (decider x d).running = true →
      Machine.exec (.decisionRecordArrival t d lane skip altered) s = .next (leavesSys t s (match i.head, i.vec with
        | none, _ => nullArrival d lane.val (padRight 48 (altered.getD i.bytes)) (setDecider d w x)
        | some seq, some k => vectorArrival d lane.val seq k (altered.map (padRight 48 ·)) (setDecider d w x)
        | some seq, none =>
          headRecord d lane.val seq (v.gapOn lane.val || ((v.inLane lane.val).take skip).any (·.head.isSome)) (padRight 48 (altered.getD i.bytes)) (setDecider d w x)))) ∧
  -- DECISION_RECORD_ARRIVAL of a decider that no longer runs (R233, R236)
  (∀ (t : Nat) (d : DecId) (lane : Fin 2) (skip : Nat) (altered : Option (List Byte)) (i : InFlight) (rest : List InFlight) (s : State), let x := sysAt t s
      let v := decider x d; let w := v.delivered lane.val rest (((v.inLane lane.val).take skip).any (·.head.isSome)) i;
      ((decider x d).inLane lane.val).drop skip = i :: rest →
      (decider x d).running = false →
      Machine.exec (.decisionRecordArrival t d lane skip altered) s = .next (leavesSys t s (setDecider d w x))) ∧
  -- DECISION_RECORD_ARRIVAL with no record there (R233)
  (∀ (t : Nat) (d : DecId) (lane : Fin 2) (skip : Nat) (altered : Option (List Byte)) (s : State), let x := sysAt t s
      ((decider x d).inLane lane.val).drop skip = [] →
      Machine.exec (.decisionRecordArrival t d lane skip altered) s = .next (leavesSys t s (x))) ∧
  -- COMPARISON_WINDOW_EXPIRY (R233)
  (∀ (t : Nat) (seq id w : Nat) (f : Frame) (s : State), let x := sysAt t s
      (openHeads x).find? (fun e => e.2.seq == seq && e.2.classified.isNone) = some (id, f) →
      f.window = some w →
      w + 490 ≤ x.now →
      Machine.exec (.comparisonWindowExpiry t seq) s = .next (leavesSys t s (settle id x))) ∧
  -- COMPARISON_WINDOW_EXPIRY of a window that has not run out (R233)
  (∀ (t : Nat) (seq id : Nat) (f : Frame) (s : State), let x := sysAt t s
      (openHeads x).find? (fun e => e.2.seq == seq && e.2.classified.isNone) = some (id, f) →
      f.window.all (fun w => decide (x.now < w + 490)) = true →
      Machine.exec (.comparisonWindowExpiry t seq) s = .next (leavesSys t s (x))) ∧
  -- COMPARISON_WINDOW_EXPIRY of a pair that is classified (R233)
  (∀ (t : Nat) (seq : Nat) (s : State), let x := sysAt t s
      (openHeads x).find? (fun e => e.2.seq == seq && e.2.classified.isNone) = none →
      Machine.exec (.comparisonWindowExpiry t seq) s = .next (leavesSys t s (x)))

/-- O6. NULL_RECORD_EMIT of a running decider puts a null record on the lane whose turn it is; a good ARMATURE_WORD restarts the timer
and a bad one counts; HEARTBEAT_TIMEOUT deposes the decider with the cause of its path; GOLDEN_RUN and TRIGGERED_GOLDEN_RUN
start a run on every running decider; GOLDEN_VERDICT judges each, deposes those that fail, and a triggered run that both pass
enters the unresolved state. -/
def Obligations.Heartbeats_and_golden_vectors_take_effect : Prop :=
  -- NULL_RECORD_EMIT (R241, R242)
  (∀ (t : Nat) (d : DecId) (s : State), let x := sysAt t s
      (decider x d).running = true →
      (decider x d).started = true →
      Machine.exec (.nullRecordEmit t d) s = .next (leavesSys t s (let v := decider x d
        let r : Rec := { seq := v.doneOn v.nullLane, gen := x.gen, rsGen := x.rsGen, typ := 1, dec := dnat d, lane := v.nullLane, info := (v.nullCount + 1) % 2 ^ 32 }
        let v1 : Decider := { v with nullCount := (v.nullCount + 1) % 2 ^ 32, nullLane := 1 - v.nullLane }
        let v2 := (v1.setLane v.nullLane (v1.inLane v.nullLane ++ [{ head := none, bytes := r.encode }])).setDone v.nullLane (v1.doneOn v.nullLane) x.now
        markSlot d v.nullLane (bump (Ctr.slotService (dnat d) v.nullLane)
          (setDecider d { v2 with wire := some (armatureWord x v2), armSent := (v2.armSent + 1) % 16 } x))))) ∧
  -- ARMATURE_WORD, good (R242, R243)
  (∀ (t : Nat) (d : DecId) (altered : Option (BitVec 16)) (w : Nat) (s : State), let x := sysAt t s
      (decider x d).running = true →
      (decider x d).started = true →
      (altered.map (·.toNat)).or (decider x d).wire = some w →
      oddParity 16 w = false ∧ bit w 11 ∧ bit w 10 ∧ bit w 8 ∧ bits w 15 12 = ((decider x d).lastArm + 1) % 16 →
      Machine.exec (.armatureWord t d altered) s = .next (leavesSys t s (bumpBy (Ctr.decHbMissArmature (dnat d)) (missedPeriods x (decider x d).hbArm) (setDecider d { decider x d with wire := none, lastArm := bits w 15 12, hbArm := x.now } x)))) ∧
  -- ARMATURE_WORD, bad (R242)
  (∀ (t : Nat) (d : DecId) (altered : Option (BitVec 16)) (w : Nat) (s : State), let x := sysAt t s
      (decider x d).running = true →
      (decider x d).started = true →
      (altered.map (·.toNat)).or (decider x d).wire = some w →
      ¬(oddParity 16 w = false ∧ bit w 11 ∧ bit w 10 ∧ bit w 8 ∧ bits w 15 12 = ((decider x d).lastArm + 1) % 16) →
      Machine.exec (.armatureWord t d altered) s = .next (leavesSys t s (bump (Ctr.decHbBad (dnat d)) (setDecider d { decider x d with wire := none } x)))) ∧
  -- ARMATURE_WORD with no word on the wire (R242)
  (∀ (t : Nat) (d : DecId) (s : State), let x := sysAt t s
      (decider x d).wire = none →
      Machine.exec (.armatureWord t d none) s = .next (leavesSys t s (x))) ∧
  -- HEARTBEAT_TIMEOUT on the in-band path (R243)
  (∀ (t : Nat) (d : DecId) (s : State), let x := sysAt t s
      (decider x d).running = true →
      (decider x d).started = true →
      (decider x d).hbIn + heartbeatTicks ≤ x.now →
      Machine.exec (.heartbeatTimeout t d .inBand) s = .next (leavesSys t s (depose d 1 (bumpBy (Ctr.decHbMissInband (dnat d)) (missedPeriods x (decider x d).hbIn) x)))) ∧
  -- HEARTBEAT_TIMEOUT on the Armature (R243)
  (∀ (t : Nat) (d : DecId) (s : State), let x := sysAt t s
      (decider x d).running = true →
      (decider x d).started = true →
      (decider x d).hbArm + heartbeatTicks ≤ x.now →
      Machine.exec (.heartbeatTimeout t d .armature) s = .next (leavesSys t s (depose d 2 (bumpBy (Ctr.decHbMissArmature (dnat d)) (missedPeriods x (decider x d).hbArm) x)))) ∧
  -- GOLDEN_RUN (R245, R247)
  (∀ (t : Nat) (s : State), let x := sysAt t s
      x.golden = none →
      x.runWanted = false →
      runningDecs x ≠ [] →
      recentRuns x = [] →
      Machine.exec (.goldenRun t) s = .next (leavesSys t s (startRun false x))) ∧
  -- GOLDEN_RUN that is skipped (R245, R247)
  (∀ (t : Nat) (s : State), let x := sysAt t s
      x.golden.isSome = true ∨ x.runWanted = true ∨ (runningDecs x).isEmpty = true ∨ (recentRuns x).isEmpty = false →
      Machine.exec (.goldenRun t) s = .next (leavesSys t s (x))) ∧
  -- TRIGGERED_GOLDEN_RUN (R247)
  (∀ (t : Nat) (s : State), let x := sysAt t s
      x.runWanted = true →
      x.golden = none →
      runningDecs x ≠ [] →
      (recentRuns x).length < 2 →
      Machine.exec (.triggeredGoldenRun t) s = .next (leavesSys t s (startRun true x))) ∧
  -- GOLDEN_VERDICT (R246, R248)
  (∀ (t : Nat) (start : Nat) (triggered : Bool) (s : State), let x := sysAt t s
      x.golden = some (start, triggered) →
      x.decA.vectorsOut = false →
      x.decB.vectorsOut = false →
      Machine.exec (.goldenVerdict t) s = .next (leavesSys t s (let a := judgeRun .a x
        let b := judgeRun .b a.1
        let y := { b.1 with golden := none }
        let y := if a.2 then y else depose .a 3 y
        let y := if b.2 then y else depose .b 3 y
        if triggered ∧ (x.decA.running && x.decA.inRun && x.decB.running && x.decB.inRun) ∧ a.2 ∧ b.2 ∧ y.unresolved.isNone then
          bump Ctr.decUnresolved { updMem (fun m => { m with checkWanted := true }) y with unresolved := some y.now }
        else y))) ∧
  -- GOLDEN_VERDICT before the last record has come (R246)
  (∀ (t : Nat) (s : State), let x := sysAt t s
      x.decA.vectorsOut = true ∨ x.decB.vectorsOut = true →
      Machine.exec (.goldenVerdict t) s = .next (leavesSys t s (x)))

/-- O7. UNRESOLVED_END leaves the state after 1 s without a decision fault; UNRESOLVED_LATCH latches it and sets cause 2 on all ports;
DEC_UNRESOLVED_CLEAR and DEC_RAISE, armed writes, are staged for their commit point; DEC_READMIT starts a deposed decider
loading at its commit point; READMIT_LOAD_DONE puts a decider that passes into SHADOW and deposes one that fails;
SHADOW_CLEAN_EXPIRY makes a clean shadow eligible; SKEW_SWEEP compares the learned entries of two running deciders. -/
def Obligations.Unresolved_state_and_readmission_take_effect : Prop :=
  -- UNRESOLVED_END (R248)
  (∀ (t : Nat) (s : State), let x := sysAt t s
      x.unresolved ≠ none →
      x.lastFault + Config.ticksPerS ≤ x.now →
      Machine.exec (.unresolvedEnd t) s = .next (leavesSys t s ({ x with unresolved := none }))) ∧
  -- UNRESOLVED_LATCH (R249)
  (∀ (t : Nat) (start : Nat) (s : State), let x := sysAt t s
      x.unresolved = some start →
      x.latch = false →
      start + obj x 0x0500 6 * Config.ticksPerMs ≤ x.now →
      Machine.exec (.unresolvedLatch t) s = .next (leavesSys t s (setCause 2 0 allPorts { x with latch := true }))) ∧
  -- DEC_UNRESOLVED_CLEAR, staged (R45, R249)
  (∀ (t : Nat) (sid : Nat) (s : State), let x := atTick t s
      mayStage x.1 sid 0x0500 0x0F (1) →
      Machine.exec (.decUnresolvedClear t sid) s = .next (leaves s (onSys (withStaged sid 0x0500 0x0F (1)) x))) ∧
  -- DEC_READMIT (R251)
  (∀ (t : Nat) (sid : Nat) (d : DecId) (s : State), let x := atTick t s
      mayCommand x.1 sid 0x0500 8 (dnat d + 1) →
      (decider (commandPoint sid x).1 d).st = .deposed →
      Machine.exec (.decReadmit t sid d) s = .next (leaves s (settled sid x (onSys (readmit d) (commandPoint sid x))))) ∧
  -- READMIT_LOAD_DONE (R251)
  (∀ (t : Nat) (d : DecId) (shown : List (Fin 96 × List Byte)) (s : State), let x := sysAt t s
      (decider x d).st = .loading →
      Machine.exec (.readmitLoadDone t d shown) s = .next (leavesSys t s (let l := shown.map (fun e => (e.1.val, e.2))
        let j := judge d (shownFail l 0) (shownFail l 1) (syncStatic d x)
        if j.2 then claimPoint (fun y => setDecider d { (decider y d).begin y.now with
          st := .shadow, since := dc y, eligible := false, lastNull := 0, nullCount := 0, lastArm := 0, armSent := 0,
          done0 := 0, done1 := 0, got0 := 0, got1 := 0 } y) j.1
        else depose d 3 j.1))) ∧
  -- SHADOW_CLEAN_EXPIRY (R252)
  (∀ (t : Nat) (d : DecId) (s : State), let x := sysAt t s
      (decider x d).st = .shadow →
      (decider x d).clean + obj x 0x0500 7 * Config.ticksPerS ≤ x.now →
      Machine.exec (.shadowCleanExpiry t d) s = .next (leavesSys t s (setDecider d { decider x d with eligible := true } x))) ∧
  -- DEC_RAISE, staged (R45, R253)
  (∀ (t : Nat) (sid : Nat) (d : DecId) (s : State), let x := atTick t s
      mayStage x.1 sid 0x0500 9 (dnat d + 1) →
      Machine.exec (.decRaise t sid d) s = .next (leaves s (onSys (withStaged sid 0x0500 9 (dnat d + 1)) x))) ∧
  -- SKEW_SWEEP of a group (R257)
  (∀ (t : Nat) (group : Fin 64) (s : State), let x := sysAt t s
      let w : Sweep := if group.val = 0 then {} else x.sweep.getD {};
      stewardsRun x = true →
      x.devState ≠ 0 →
      (decider x .a).running = true →
      (decider x .b).running = true →
      traded x < 3 →
      w.next = group.val →
      group.val ≠ 63 →
      Machine.exec (.skewSweep t group) s = .next (leavesSys t s ({ x with sweep := some (w.take x group.val) }))) ∧
  -- SKEW_SWEEP of the last group (R257)
  (∀ (t : Nat) (group : Fin 64) (s : State), let x := sysAt t s
      let w : Sweep := if group.val = 0 then {} else x.sweep.getD {};
      stewardsRun x = true →
      x.devState ≠ 0 →
      (decider x .a).running = true →
      (decider x .b).running = true →
      traded x < 3 →
      w.next = group.val →
      group.val = 63 →
      Machine.exec (.skewSweep t group) s = .next (leavesSys t s (skewEnd (w.take x group.val) { x with sweep := none }))) ∧
  -- SKEW_SWEEP out of its turn (R257)
  (∀ (t : Nat) (group : Fin 64) (s : State), let x := sysAt t s
      let w : Sweep := if group.val = 0 then {} else x.sweep.getD {};
      stewardsRun x = true →
      x.devState ≠ 0 →
      (decider x .a).running = true →
      (decider x .b).running = true →
      traded x < 3 →
      w.next ≠ group.val →
      Machine.exec (.skewSweep t group) s = .next (leavesSys t s (x))) ∧
  -- SKEW_SWEEP in a brown-out (R257, R433)
  (∀ (t : Nat) (group : Fin 64) (s : State), let x := sysAt t s
      stewardsRun x = true →
      x.devState ≠ 0 →
      (decider x .a).running = true →
      (decider x .b).running = true →
      3 ≤ traded x →
      Machine.exec (.skewSweep t group) s = .next (leavesSys t s (x))) ∧
  -- SKEW_SWEEP with one decider (R257)
  (∀ (t : Nat) (group : Fin 64) (s : State), let x := sysAt t s
      stewardsRun x = true →
      x.devState ≠ 0 →
      (decider x .a).running = false ∨ (decider x .b).running = false →
      Machine.exec (.skewSweep t group) s = .next (leavesSys t s ({ x with sweep := none })))

/-- O8. LEARN_REQUEST takes the oldest request whose verdict is known: a bad frame is discarded, a new key takes a free slot, a key
seen again on its source is refreshed, and on another source after MOVE_HOLD it moves; FLAP_HOLD_EXPIRY thaws a frozen entry;
AGEING_SWEEP ages both deciders; EMM_BANK_WAKE_DONE wakes a group of banks. -/
def Obligations.Learning_takes_effect : Prop :=
  -- LEARN_REQUEST of a bad frame (R198, R200)
  (∀ (t : Nat) (d : DecId) (r : LearnReq) (s : State), let x := sysAt t s
      let v : Decider := { decider x d with learn := (decider x d).learn.erase r }; let taken := (pendingRows x (decider x d)).map (·.2.2.2);
      nextLearn x (decider x d) = some r →
      r.verdict = some false →
      Machine.exec (.learnRequest t d) s = .next (leavesSys t s (learnBump d Ctr.learnFcsDiscard (setDecider d v x)))) ∧
  -- LEARN_REQUEST of a new key (R200)
  (∀ (t : Nat) (d : DecId) (r : LearnReq) (slot : Nat) (s : State), let x := sysAt t s
      let v : Decider := { decider x d with learn := (decider x d).learn.erase r }; let taken := (pendingRows x (decider x d)).map (·.2.2.2);
      nextLearn x (decider x d) = some r →
      r.verdict = some true →
      v.find r.key = none →
      v.freeIn taken false = some slot →
      Machine.exec (.learnRequest t d) s = .next (leavesSys t s (learnBump d Ctr.learnNew (setDecider d (v.put slot (({ key := r.key, made := x.now } : Emm).on x.now (boolNat r.lag) r.target r.peer)) x)))) ∧
  -- LEARN_REQUEST of a new key whose banks are gated (R200, R194)
  (∀ (t : Nat) (d : DecId) (r : LearnReq) (slot : Nat) (s : State), let x := sysAt t s
      let v : Decider := { decider x d with learn := (decider x d).learn.erase r }; let taken := (pendingRows x (decider x d)).map (·.2.2.2);
      nextLearn x (decider x d) = some r →
      r.verdict = some true →
      v.find r.key = none →
      v.freeIn taken false = none →
      v.freeIn taken true = some slot →
      Machine.exec (.learnRequest t d) s = .next (leavesSys t s (setDecider d { decider x d with waking := some (slot / 16384) } x))) ∧
  -- LEARN_REQUEST of a known key and source (R200)
  (∀ (t : Nat) (d : DecId) (r : LearnReq) (slot : Nat) (e : Emm) (s : State), let x := sysAt t s
      let v : Decider := { decider x d with learn := (decider x d).learn.erase r }; let taken := (pendingRows x (decider x d)).map (·.2.2.2);
      nextLearn x (decider x d) = some r →
      r.verdict = some true →
      v.find r.key = some (slot, e) →
      e.kind = boolNat r.lag ∧ e.peer = r.peer ∧ e.target = r.target →
      Machine.exec (.learnRequest t d) s = .next (leavesSys t s (setDecider d (v.put slot (some { e with hit := true, seen := x.now })) x))) ∧
  -- LEARN_REQUEST against a static entry (R200)
  (∀ (t : Nat) (d : DecId) (r : LearnReq) (slot : Nat) (e : Emm) (s : State), let x := sysAt t s
      let v : Decider := { decider x d with learn := (decider x d).learn.erase r }; let taken := (pendingRows x (decider x d)).map (·.2.2.2);
      nextLearn x (decider x d) = some r →
      r.verdict = some true →
      v.find r.key = some (slot, e) →
      ¬(e.kind = boolNat r.lag ∧ e.peer = r.peer ∧ e.target = r.target) →
      e.isStatic = true →
      Machine.exec (.learnRequest t d) s = .next (leavesSys t s (learnBump d Ctr.learnStaticConflict (setDecider d v x)))) ∧
  -- LEARN_REQUEST of a frozen entry (R201)
  (∀ (t : Nat) (d : DecId) (r : LearnReq) (slot : Nat) (e : Emm) (s : State), let x := sysAt t s
      let v : Decider := { decider x d with learn := (decider x d).learn.erase r }; let taken := (pendingRows x (decider x d)).map (·.2.2.2);
      nextLearn x (decider x d) = some r →
      r.verdict = some true →
      v.find r.key = some (slot, e) →
      ¬(e.kind = boolNat r.lag ∧ e.peer = r.peer ∧ e.target = r.target) →
      e.isStatic = false →
      e.flapping = true →
      Machine.exec (.learnRequest t d) s = .next (leavesSys t s (learnBump d Ctr.learnFlapHeld (setDecider d v x)))) ∧
  -- LEARN_REQUEST of a known key on another source (R200)
  (∀ (t : Nat) (d : DecId) (r : LearnReq) (slot : Nat) (e : Emm) (s : State), let x := sysAt t s
      let v : Decider := { decider x d with learn := (decider x d).learn.erase r }; let taken := (pendingRows x (decider x d)).map (·.2.2.2);
      nextLearn x (decider x d) = some r →
      r.verdict = some true →
      v.find r.key = some (slot, e) →
      e.isStatic = false ∧ e.flapping = false →
      ¬(e.kind = boolNat r.lag ∧ e.peer = r.peer ∧ e.target = r.target) →
      e.born + obj x 0x4000 1 * Config.ticksPerMs ≤ x.now →
      e.moves.length < 8 →
      Machine.exec (.learnRequest t d) s = .next (leavesSys t s (learnBump d Ctr.learnMove (setDecider d (v.put slot
          (some { e.on x.now (boolNat r.lag) r.target r.peer with contested := false, moves := (x.now :: e.moves).take 8 })) x)))) ∧
  -- FLAP_HOLD_EXPIRY (R201)
  (∀ (t : Nat) (d : DecId) (slot : Nat) (e : Emm) (s : State), let x := sysAt t s
      SMap.get none (decider x d).emm slot = some e →
      e.flapping = true →
      obj x 0x4000 3 ≠ 0 →
      e.frozen + obj x 0x4000 3 * Config.ticksPerS ≤ x.now →
      Machine.exec (.flapHoldExpiry t d slot) s = .next (leavesSys t s (setDecider d ((decider x d).put slot (some { e with flapping := false, moves := [] })) x))) ∧
  -- AGEING_SWEEP (R205)
  (∀ (t : Nat) (s : State), let x := sysAt t s
      obj x 0x4000 2 ≠ 0 →
      Machine.exec (.ageingSweep t) s = .next (leavesSys t s (ageOne .b (ageOne .a x)))) ∧
  -- EMM_BANK_WAKE_DONE (R194)
  (∀ (t : Nat) (d : DecId) (group : Fin 8) (s : State), let x := sysAt t s
      Machine.exec (.emmBankWakeDone t d group) s = .next (leavesSys t s (setDecider d { decider x d with gated := setBit (decider x d).gated group.val false, waking := if (decider x d).waking = some group.val then none else (decider x d).waking } x)))

/-- O9. Each mode of EMM_FLUSH, written by a session that may write it while no flush runs, starts a flush at its commit point whose
keys are those of the learned entries of either decider that match source, VID, both, anything or the key of the session's
EMM_FIND row; EMM_FLUSH_DONE removes them from both deciders; EMM_FIND of the session's own row fills found, slot and result. -/
def Obligations.Flushes_and_searches_take_effect : Prop :=
  -- EMM_FLUSH_SOURCE (R206)
  (∀ (t : Nat) (sid : Nat) (lag peer : Bool) (target : Nat) (s : State), let x := atTick t s
      mayCommand x.1 sid 0x4003 1 (flushWord 1 lag peer target 0) →
      (commandPoint sid x).1.flush = none →
      Machine.exec (.emmFlushSource t sid lag peer target) s = .next (leaves s (settled sid x (onSys (startFlush (flushWord 1 lag peer target 0) (findKey (commandPoint sid x).1 sid)) (commandPoint sid x))))) ∧
  -- EMM_FLUSH_VID (R206)
  (∀ (t : Nat) (sid vid : Nat) (s : State), let x := atTick t s
      mayCommand x.1 sid 0x4003 1 (flushWord 2 false false 0 vid) →
      (commandPoint sid x).1.flush = none →
      Machine.exec (.emmFlushVid t sid vid) s = .next (leaves s (settled sid x (onSys (startFlush (flushWord 2 false false 0 vid) (findKey (commandPoint sid x).1 sid)) (commandPoint sid x))))) ∧
  -- EMM_FLUSH_SOURCE_VID (R206)
  (∀ (t : Nat) (sid : Nat) (lag peer : Bool) (target vid : Nat) (s : State), let x := atTick t s
      mayCommand x.1 sid 0x4003 1 (flushWord 3 lag peer target vid) →
      (commandPoint sid x).1.flush = none →
      Machine.exec (.emmFlushSourceVid t sid lag peer target vid) s = .next (leaves s (settled sid x (onSys (startFlush (flushWord 3 lag peer target vid) (findKey (commandPoint sid x).1 sid)) (commandPoint sid x))))) ∧
  -- EMM_FLUSH_ALL (R206)
  (∀ (t : Nat) (sid : Nat) (s : State), let x := atTick t s
      mayCommand x.1 sid 0x4003 1 (flushWord 4 false false 0 0) →
      (commandPoint sid x).1.flush = none →
      Machine.exec (.emmFlushAll t sid) s = .next (leaves s (settled sid x (onSys (startFlush (flushWord 4 false false 0 0) (findKey (commandPoint sid x).1 sid)) (commandPoint sid x))))) ∧
  -- EMM_FLUSH_ENTRY (R206)
  (∀ (t : Nat) (sid : Nat) (s : State), let x := atTick t s
      mayCommand x.1 sid 0x4003 1 (flushWord 5 false false 0 0) →
      (commandPoint sid x).1.flush = none →
      Machine.exec (.emmFlushEntry t sid) s = .next (leaves s (settled sid x (onSys (startFlush (flushWord 5 false false 0 0) (findKey (commandPoint sid x).1 sid)) (commandPoint sid x))))) ∧
  -- EMM_FLUSH_DONE (R206)
  (∀ (t : Nat) (u : Flush) (s : State), let x := sysAt t s
      x.flush = some u →
      Machine.exec (.emmFlushDone t) s = .next (leavesSys t s ({ x with flush := none, decA := flushKeys u x.decA, decB := flushKeys u x.decB }))) ∧
  -- EMM_FIND (R222)
  (∀ (t : Nat) (sid : Nat) (row : Fin 16) (key : Nat) (which : Fin 3) (s : State), let x := atTick t s
      let p : SysMem := onSys plinthFirst (onSys (fun s => touchTxn sid (findEntries sid row.val [.num (key : Nat), .num (which.val : Nat), .num 0, .num 0, .num 0] [0, 0, 5, 5, 5] (findFill sid row.val (key) which.val s))) x);
      mayWrite x.1 sid 0x4002 = true →
      (session? x.1 sid).any (fun v => v.row == row.val) = true →
      inTxn x.1 sid = false →
      key / 2 ^ 60 ≤ 3 →
      Machine.exec (.emmFind t sid row key which) s = .next (leaves s (onSys (settleClaims p.1) (commitStaged sid 0 [{ ix := 0x4002, sub := 4, row := row.val, col := 0, req := .num (key : Nat), val := .num (key : Nat), codes := [0] }] (commitAll [] false p)).1))) ∧
  -- EMM_FIND in a transaction (R222)
  (∀ (t : Nat) (sid : Nat) (row : Fin 16) (key : Nat) (which : Fin 3) (s : State), let x := atTick t s
      mayWrite x.1 sid 0x4002 = true →
      (session? x.1 sid).any (fun v => v.row == row.val) = true →
      inTxn x.1 sid = true →
      key / 2 ^ 60 ≤ 3 →
      Machine.exec (.emmFind t sid row key which) s = .next (leaves s (onSys (fun s => touchTxn sid (findEntries sid row.val [.num (key : Nat), .num (which.val : Nat), .num 0, .num 0, .num 0] [0, 0, 5, 5, 5] (findFill sid row.val (key) which.val s))) x))) ∧
  -- EMM_FIND of a key whose type is reserved (R222, R7, R41)
  (∀ (t : Nat) (sid : Nat) (row : Fin 16) (key : Nat) (which : Fin 3) (s : State), let x := atTick t s
      mayWrite x.1 sid 0x4002 = true →
      (session? x.1 sid).any (fun v => v.row == row.val) = true →
      inTxn x.1 sid = true →
      3 < key / 2 ^ 60 →
      Machine.exec (.emmFind t sid row key which) s = .next (leaves s (onSys (fun s => touchTxn sid (findEntries sid row.val [.num (key : Nat), .num (which.val : Nat), .num 0, .num 0, .num 0] [4, 0, 5, 5, 5] (findFill sid row.val ((dictVal ((session? s sid).getD {}).own 0x4002 4 row.val 0).toNat) which.val s))) x))) ∧
  -- EMM_FIND of another session's row (R222, R33)
  (∀ (t : Nat) (sid : Nat) (row : Fin 16) (key : Nat) (which : Fin 3) (s : State), let x := atTick t s
      mayWrite x.1 sid 0x4002 = true →
      (session? x.1 sid).any (fun v => v.row == row.val) = false →
      Machine.exec (.emmFind t sid row key which) s = .next (leaves s (onSys (fun s => touchTxn sid (findEntries sid row.val [.num (key : Nat), .num (which.val : Nat), .num 0, .num 0, .num 0] [5, 5, 5, 5, 5] s)) x)))

/-- O10. MATCHER_CYCLE sends one cell for each matched pair; CELL_ARRIVAL of a good cell in sequence hands its parts over and of any
other counts it and marks its frames bad; COPY_ENQUEUE offers a copy that its port takes to its queue; DEEP_WRITE_DONE hands
the buffer to the tile, asks for its blocks and makes every copy of the buffer eligible. -/
def Obligations.Cells_and_copies_cross : Prop :=
  -- MATCHER_CYCLE (R262)
  (∀ (t : Nat) (s : State), let x := sysAt t s
      Machine.exec (.matcherCycle t) s = .next (leavesSys t s ((matching x).pairs.foldl (fun y e => sendCell e.1 e.2 y) { x with gptr := (matching x).gptr, aptr := (matching x).aptr }))) ∧
  -- CELL_ARRIVAL, a good cell in sequence (R261)
  (∀ (t : Nat) (src dst : Fin 9) (tc : Fin 8) (altered : Option (List Byte)) (cell_ : XCell) (rest : List XCell) (s : State), let x := sysAt t s
      SMap.get [] x.xcells (xkey src.val dst.val tc.val) = cell_ :: rest →
      crc8 ((padRight 16 (altered.getD cell_.header)).take 15) = byteAt (padRight 16 (altered.getD cell_.header)) 15 →
      field (padRight 16 (altered.getD cell_.header)) 4 2 = SMap.get 0 x.xrx (xkey src.val dst.val tc.val) →
      Machine.exec (.cellArrival t src dst tc altered) s = .next (leavesSys t s (takeParts cell_.parts
          { x with xcells := SMap.set [] x.xcells (xkey src.val dst.val tc.val) rest,
                   xrx := SMap.set 0 x.xrx (xkey src.val dst.val tc.val) ((SMap.get 0 x.xrx (xkey src.val dst.val tc.val) + 1) % 65536) }))) ∧
  -- CELL_ARRIVAL, a cell that fails hcrc or cseq (R261)
  (∀ (t : Nat) (src dst : Fin 9) (tc : Fin 8) (altered : Option (List Byte)) (cell_ : XCell) (rest : List XCell) (s : State), let x := sysAt t s
      SMap.get [] x.xcells (xkey src.val dst.val tc.val) = cell_ :: rest →
      ¬(crc8 ((padRight 16 (altered.getD cell_.header)).take 15) = byteAt (padRight 16 (altered.getD cell_.header)) 15 ∧ field (padRight 16 (altered.getD cell_.header)) 4 2 = SMap.get 0 x.xrx (xkey src.val dst.val tc.val)) →
      Machine.exec (.cellArrival t src dst tc altered) s = .next (leavesSys t s (let k := xkey src.val dst.val tc.val
        let h := padRight 16 (altered.getD cell_.header)
        cell_.parts.foldl (fun y e =>
          let z := xing y e.xing
          let y := loseXing e.xing y
          reap z.frame (if e.starts then bump Ctr.xbarFrameLost (setXing e.xing { z with lost := true } y) else y))
          (bump Ctr.xbarCellErr { x with xcells := SMap.set [] x.xcells k rest,
                                         xrx := SMap.set 0 x.xrx k (if crc8 (h.take 15) = byteAt h 15 then (field h 4 2 + 1) % 65536 else SMap.get 0 x.xrx k) })))) ∧
  -- CELL_ARRIVAL with no cell under way (R261)
  (∀ (t : Nat) (src dst : Fin 9) (tc : Fin 8) (altered : Option (List Byte)) (s : State), let x := sysAt t s
      SMap.get [] x.xcells (xkey src.val dst.val tc.val) = [] →
      Machine.exec (.cellArrival t src dst tc altered) s = .next (leavesSys t s (x))) ∧
  -- COPY_ENQUEUE (R325)
  (∀ (t : Nat) (copy : Nat) (s : State), let x := sysAt t s
      hasCopy x copy = true →
      (Machine.copy x copy).st = .crossing →
      silenced x (txPort x (Machine.copy x copy).port) (protects x (Machine.copy x copy).sel.tc) (match (Machine.copy x copy).kind with | .steward g => g | _ => false) = false ∨ (Machine.copy x copy).port = 74 ∨ (Machine.copy x copy).port = 75 →
      ((Machine.copy x copy).port = 74 → traded x < 2) →
      admin x (Machine.copy x copy).port = true →
      portTakes x (Machine.copy x copy).port = true →
      Machine.exec (.copyEnqueue t copy) s = .next (leavesSys t s (offerCopy copy x))) ∧
  -- COPY_ENQUEUE to a port that takes none (R325, R267)
  (∀ (t : Nat) (copy : Nat) (s : State), let x := sysAt t s
      hasCopy x copy = true →
      (Machine.copy x copy).st = .crossing →
      silenced x (txPort x (Machine.copy x copy).port) (protects x (Machine.copy x copy).sel.tc) (match (Machine.copy x copy).kind with | .steward g => g | _ => false) = false ∨ (Machine.copy x copy).port = 74 ∨ (Machine.copy x copy).port = 75 →
      ((Machine.copy x copy).port = 74 → traded x < 2) →
      admin x (Machine.copy x copy).port = false ∨ portTakes x (Machine.copy x copy).port = false →
      Machine.exec (.copyEnqueue t copy) s = .next (leavesSys t s (dropCopy (Ctr.txLinkDownDrop (Machine.copy x copy).port) copy x))) ∧
  -- COPY_ENQUEUE to a silenced port (R440, R325)
  (∀ (t : Nat) (copy : Nat) (s : State), let x := sysAt t s
      hasCopy x copy = true →
      (Machine.copy x copy).st = .crossing →
      silenced x (txPort x (Machine.copy x copy).port) (protects x (Machine.copy x copy).sel.tc) (match (Machine.copy x copy).kind with | .steward g => g | _ => false) = true →
      (Machine.copy x copy).port ≠ 74 ∧ (Machine.copy x copy).port ≠ 75 →
      Machine.exec (.copyEnqueue t copy) s = .next (leavesSys t s (dropAs false (Ctr.safSilentDrop (txPort x (Machine.copy x copy).port)) copy x))) ∧
  -- COPY_ENQUEUE to the recorder in a brown-out (R464, R433)
  (∀ (t : Nat) (copy : Nat) (s : State), let x := sysAt t s
      hasCopy x copy = true →
      (Machine.copy x copy).st = .crossing →
      (Machine.copy x copy).port = 74 →
      2 ≤ traded x →
      Machine.exec (.copyEnqueue t copy) s = .next (leavesSys t s (removeCopy copy (bump Ctr.recTradedDrop x)))) ∧
  -- COPY_ENQUEUE of a copy that does not cross (R325)
  (∀ (t : Nat) (copy : Nat) (s : State), let x := sysAt t s
      (Machine.copy x copy).st ≠ .crossing →
      Machine.exec (.copyEnqueue t copy) s = .next (leavesSys t s (x))) ∧
  -- DEEP_WRITE_DONE (R274)
  (∀ (t : Nat) (copy k b : Nat) (s : State), let x := sysAt t s
      (Machine.copy x copy).buffer = some (k, b) →
      (Machine.copy x copy).written = false →
      ¬((Machine.frame x (Machine.copy x copy).frame).bad = true ∧ (Machine.copy x copy).body.isNone = true ∧ (Machine.copy x copy).isRecorder = false) →
      Machine.exec (.deepWriteDone t copy) s = .next (leavesSys t s (let c := Machine.copy x copy
        let y := { setPool k { pool x k with owner := SMap.set 0 (pool x k).owner b (1 + c.tile) } x with wq := x.wq ++ deepBlocks (setPool k { pool x k with owner := SMap.set 0 (pool x k).owner b (1 + c.tile) } x) c }
        freeCells c.xing ((((allCopies y).filter (fun e => e.2.buffer == c.buffer)).map (·.1)).foldl (fun y i => updCopy i (fun c => { c with written := true, ready := true }) y) y)))) ∧
  -- DEEP_WRITE_DONE of a frame whose tail came bad (R274, R268)
  (∀ (t : Nat) (copy k b : Nat) (s : State), let x := sysAt t s
      (Machine.copy x copy).buffer = some (k, b) →
      (Machine.copy x copy).written = false →
      (Machine.frame x (Machine.copy x copy).frame).bad = true ∧ (Machine.copy x copy).body.isNone = true ∧ (Machine.copy x copy).isRecorder = false →
      Machine.exec (.deepWriteDone t copy) s = .next (leavesSys t s ((((allCopies x).filter (fun e => e.2.buffer == (Machine.copy x copy).buffer)).map (·.1)).foldl (fun y i => dropCopy (Ctr.fabBadTailDrop (txPort y (Machine.copy y i).port)) i y) x))) ∧
  -- DEEP_WRITE_DONE of a copy without a buffer, or written before (R274)
  (∀ (t : Nat) (copy : Nat) (s : State), let x := sysAt t s
      (Machine.copy x copy).buffer = none ∨ (Machine.copy x copy).written = true →
      Machine.exec (.deepWriteDone t copy) s = .next (leavesSys t s (x)))

/-- O11. BUFFER_FREE by the owner threads the buffer, or quarantines it when a block of it is poisoned; by anybody else, or beyond the
pool, it changes no pool and is counted and reported; POOL_REBUILD_CMD starts a rebuild at its commit point; POOL_REBUILD_DONE
ends it with its counter and event. -/
def Obligations.Buffer_pools_take_effect : Prop :=
  -- BUFFER_FREE by another agent than the owner (R277)
  (∀ (t : Nat) (pool : Fin 3) (buffer : Nat) (agent : Fin 16) (s : State), let x := sysAt t s
      let y := scanNow pool.val x; let p := Machine.pool y pool.val; let own := if agent.val = 9 then 0xB else 1 + agent.val;
      p.buffers ≤ buffer ∨ SMap.get 0 p.owner buffer ≠ own →
      Machine.exec (.bufferFree t pool buffer agent) s = .next (leavesSys t s (raise 0x0605 2 (u8b pool.val ++ u32b buffer ++ u8b (if p.buffers ≤ buffer then 0xE else own))
          (bump Ctr.bpmBadFree y)))) ∧
  -- BUFFER_FREE by the owner (R277, R278, R280)
  (∀ (t : Nat) (pool : Fin 3) (buffer : Nat) (agent : Fin 16) (s : State), let x := sysAt t s
      let y := scanNow pool.val x; let p := Machine.pool y pool.val; let own := if agent.val = 9 then 0xB else 1 + agent.val;
      buffer < p.buffers →
      SMap.get 0 p.owner buffer = own →
      Machine.exec (.bufferFree t pool buffer agent) s = .next (leavesSys t s (let first := unitOf y pool.val buffer
        let bad := (List.range (unitsPer pool.val)).any (fun i => y.poison.contains (first + i))
        let res := SMap.get false p.part buffer
        let q := { p with owner := SMap.set 0 p.owner buffer (if bad then 0xC else 0), part := SMap.set false p.part buffer false,
                          shared := if res then p.shared else p.shared - 1, reserve := if res then p.reserve - 1 else p.reserve }
        let left := q.rebuild.isSome && decide (q.scanned ≤ buffer)
        let z := if !bad ∧ !left ∧ q.fill.length ≥ 120 then { y with wq := y.wq ++ [(first, linkBlock pool.val buffer (chainHead q) q.fill)] } else y
        uncharge pool.val buffer (own - 1) (relevel pool.val (setPool pool.val (if bad || left then q else threadFree buffer q) z))))) ∧
  -- POOL_REBUILD_CMD (R280)
  (∀ (t : Nat) (sid : Nat) (pool : Fin 3) (s : State), let x := atTick t s
      mayCommand x.1 sid 0x0680 4 (pool.val + 1) →
      Machine.exec (.poolRebuildCmd t sid pool) s = .next (leaves s (settled sid x (onSys (startRebuild pool.val) (commandPoint sid x))))) ∧
  -- POOL_REBUILD_DONE (R280)
  (∀ (t : Nat) (pool : Fin 3) (start : Nat) (s : State), let x := sysAt t s
      (Machine.pool x pool.val).rebuild = some start →
      Machine.exec (.poolRebuildDone t pool) s = .next (leavesSys t s (raise 0x0606 2 (u8b pool.val ++ u32b ((x.now - start) / Config.ticksPerUs))
          (bump (Ctr.poolRebuild pool.val) (setPool pool.val { scanTo (Machine.pool x pool.val).buffers (Machine.pool x pool.val) with rebuild := none } x)))))

/-- O12. SCHEDULER_SELECT on a free full-duplex port without MAC control, retry or suspended frame starts the frame that the selection
names; with MAC control waiting it sends that first; CUT_THROUGH_UNDERRUN stomps the copy that lacks a byte; FRAME_TX_END ends
the transmission; EXPRESS_LATENCY_FLOOR and DEEP_LATENCY_FLOOR start a held copy once its floor is reached; CREDIT_TICK brings
the credits of every port up to date. -/
def Obligations.Transmission_takes_effect : Prop :=
  -- SCHEDULER_SELECT of a queued frame (R328)
  (∀ (t : Nat) (port : Fin 76) (id : Nat) (y : Sys) (s : State), let x := sysAt t s
      port.val < 73 →
      admin x port.val = true →
      (Machine.port x port.val).linkUp = true →
      (Machine.port x port.val).tx = none →
      (Machine.port x port.val).free ≤ (pruneAll port.val x).now →
      (Machine.port x port.val).lpiTx = false →
      mediumBusy (pruneAll port.val x) port.val = false →
      bit (fullSilent (pruneAll port.val x)) port.val = true ∨ (Machine.port x port.val).macCtl = [] →
      (Machine.port x port.val).retry = none →
      (Machine.port x port.val).suspended = none →
      select port.val (fun _ => true) (pruneAll port.val x) = (y, some id) →
      Machine.exec (.schedulerSelect t port) s = .next (leavesSys t s (launch port.val id y))) ∧
  -- SCHEDULER_SELECT with MAC control waiting (R131, R328)
  (∀ (t : Nat) (port : Fin 76) (b : List Byte) (rest : List (List Byte)) (s : State), let x := sysAt t s
      port.val < 73 →
      admin x port.val = true →
      (Machine.port x port.val).linkUp = true →
      (Machine.port x port.val).tx = none →
      (Machine.port x port.val).free ≤ (pruneAll port.val x).now →
      (Machine.port x port.val).lpiTx = false →
      mediumBusy (pruneAll port.val x) port.val = false →
      bit (fullSilent (pruneAll port.val x)) port.val = false →
      (Machine.port x port.val).macCtl = b :: rest →
      Machine.exec (.schedulerSelect t port) s = .next (leavesSys t s (sendMacCtl port.val b rest (pruneAll port.val x)))) ∧
  -- CUT_THROUGH_UNDERRUN (R266)
  (∀ (t : Nat) (port : Fin 76) (id : Nat) (s : State), let x := sysAt t s
      (Machine.port x port.val).tx = some id →
      (copy x id).st = .sending →
      (copy x id).path = .cut →
      inTile x (copy x id) = false →
      (copy x id).stomped = false →
      Machine.exec (.cutThroughUnderrun t port) s = .next (leavesSys t s (stompAt id (xing x (copy x id).xing).recv (Ctr.txUnderrunStomp port.val) x))) ∧
  -- FRAME_TX_END (R450)
  (∀ (t : Nat) (port : Fin 76) (id : Nat) (s : State), let x := sysAt t s
      (Machine.port x port.val).tx = some id →
      (copy x id).st = .sending →
      (copy x id).stomped = true ∨ copyWhole x (copy x id) = true ∧ (copy x id).start + bitTicks (8 * (wireLen x (copy x id) - (copy x id).sent + 8)) (linkSpeed x port.val) ≤ x.now →
      Machine.exec (.frameTxEnd t port) s = .next (leavesSys t s (finishTx port.val id x))) ∧
  -- EXPRESS_LATENCY_FLOOR (R11)
  (∀ (t : Nat) (copy : Nat) (s : State), let x := sysAt t s
      let c := Machine.copy x copy; let port := txPort x c.port; let tc := queueTc x c.queue;
      hasCopy x copy = true →
      c.st = .held →
      c.path ≠ .deep →
      (Machine.port x port).tx = some copy →
      floorAt x c * linkSpeed x port ≤ x.now * linkSpeed x port + 64 * 1250 →
      startDrop x c = none →
      classOpen x port tc = true ∧ fits x port tc c = true →
      Machine.exec (.expressLatencyFloor t copy) s = .next (leavesSys t s (startCopy port copy x))) ∧
  -- EXPRESS_LATENCY_FLOOR of a copy that may no longer start (R11, R129, R336)
  (∀ (t : Nat) (copy : Nat) (s : State), let x := sysAt t s
      let c := Machine.copy x copy; let port := txPort x c.port; let tc := queueTc x c.queue;
      hasCopy x copy = true →
      c.st = .held →
      c.path ≠ .deep →
      (Machine.port x port).tx = some copy →
      floorAt x c * linkSpeed x port ≤ x.now * linkSpeed x port + 64 * 1250 →
      startDrop x c = none →
      ¬(classOpen x port tc = true ∧ fits x port tc c = true) →
      Machine.exec (.expressLatencyFloor t copy) s = .next (leavesSys t s (unpick port copy x))) ∧
  -- EXPRESS_LATENCY_FLOOR of a copy that is dropped at its start (R11, R268, R440)
  (∀ (t : Nat) (copy ctr : Nat) (s : State), let x := sysAt t s
      let c := Machine.copy x copy; let port := txPort x c.port; let tc := queueTc x c.queue;
      hasCopy x copy = true →
      c.st = .held →
      c.path ≠ .deep →
      (Machine.port x port).tx = some copy →
      floorAt x c * linkSpeed x port ≤ x.now * linkSpeed x port + 64 * 1250 →
      startDrop x c = some ctr →
      Machine.exec (.expressLatencyFloor t copy) s = .next (leavesSys t s (dropAs (ctr == Ctr.fabBadTailDrop port) ctr copy (updPort port (fun q => { q with tx := none }) x)))) ∧
  -- EXPRESS_LATENCY_FLOOR before the floor, or of a copy that is not held (R11)
  (∀ (t : Nat) (copy : Nat) (s : State), let x := sysAt t s
      let c := Machine.copy x copy; let port := txPort x c.port; let tc := queueTc x c.queue;
      c.st ≠ .held ∨ x.now * linkSpeed x port + 64 * 1250 < floorAt x c * linkSpeed x port →
      Machine.exec (.expressLatencyFloor t copy) s = .next (leavesSys t s (x))) ∧
  -- DEEP_LATENCY_FLOOR (R12)
  (∀ (t : Nat) (copy : Nat) (s : State), let x := sysAt t s
      let c := Machine.copy x copy; let port := txPort x c.port; let tc := queueTc x c.queue;
      hasCopy x copy = true →
      c.st = .held →
      c.path = .deep →
      (Machine.port x port).tx = some copy →
      floorAt x c * linkSpeed x port ≤ x.now * linkSpeed x port + 64 * 1250 →
      startDrop x c = none →
      classOpen x port tc = true ∧ fits x port tc c = true →
      Machine.exec (.deepLatencyFloor t copy) s = .next (leavesSys t s (startCopy port copy x))) ∧
  -- DEEP_LATENCY_FLOOR of a copy that may no longer start (R12, R129, R336)
  (∀ (t : Nat) (copy : Nat) (s : State), let x := sysAt t s
      let c := Machine.copy x copy; let port := txPort x c.port; let tc := queueTc x c.queue;
      hasCopy x copy = true →
      c.st = .held →
      c.path = .deep →
      (Machine.port x port).tx = some copy →
      floorAt x c * linkSpeed x port ≤ x.now * linkSpeed x port + 64 * 1250 →
      startDrop x c = none →
      ¬(classOpen x port tc = true ∧ fits x port tc c = true) →
      Machine.exec (.deepLatencyFloor t copy) s = .next (leavesSys t s (unpick port copy x))) ∧
  -- DEEP_LATENCY_FLOOR of a copy that is dropped at its start (R12, R268, R440)
  (∀ (t : Nat) (copy ctr : Nat) (s : State), let x := sysAt t s
      let c := Machine.copy x copy; let port := txPort x c.port; let tc := queueTc x c.queue;
      hasCopy x copy = true →
      c.st = .held →
      c.path = .deep →
      (Machine.port x port).tx = some copy →
      floorAt x c * linkSpeed x port ≤ x.now * linkSpeed x port + 64 * 1250 →
      startDrop x c = some ctr →
      Machine.exec (.deepLatencyFloor t copy) s = .next (leavesSys t s (dropAs (ctr == Ctr.fabBadTailDrop port) ctr copy (updPort port (fun q => { q with tx := none }) x)))) ∧
  -- DEEP_LATENCY_FLOOR before the floor, or of a copy that is not held (R12)
  (∀ (t : Nat) (copy : Nat) (s : State), let x := sysAt t s
      let c := Machine.copy x copy; let port := txPort x c.port; let tc := queueTc x c.queue;
      c.st ≠ .held ∨ x.now * linkSpeed x port + 64 * 1250 < floorAt x c * linkSpeed x port →
      Machine.exec (.deepLatencyFloor t copy) s = .next (leavesSys t s (x))) ∧
  -- CREDIT_TICK (R332)
  (∀ (t : Nat) (s : State), let x := sysAt t s
      Machine.exec (.creditTick t) s = .next (leavesSys t s (loop creditTickPort 0 73 x)))

/-- O13. On a port other than the Knaing port whose base runs: GATE_CHANGE_TIME adopts a pending configuration whose time has come;
GATE_EVENT gives the gates the states of the instant; STREAM_GATE_EVENT does so for a stream gate. PREEMPT_HOLD_ASSERT asserts
hold when an op 1 entry is near; PREEMPT_VERIFY_TX sends the next of three verify mPackets or fails; PREEMPT_VERIFY_RESPONSE
makes preemption active. -/
def Obligations.Gates_and_preemption_take_effect : Prop :=
  -- GATE_CHANGE_TIME (R335)
  (∀ (t : Nat) (port : Fin 76) (c : GateCfg) (s : State), let x := sysAt t s
      (Machine.port x port.val).gate.pend = some c →
      c.start ≤ clock x (obj x (glIx port.val) 2) →
      baseRuns x (obj x (glIx port.val) 2) = true →
      isKng x port.val = false →
      Machine.exec (.gateChangeTime t port) s = .next (leavesSys t s (gateAdopt port.val c x))) ∧
  -- GATE_EVENT (R338)
  (∀ (t : Nat) (port : Fin 76) (s : State), let x := sysAt t s
      port.val < 73 →
      isKng x port.val = false →
      flag x (glIx port.val) 1 = true →
      baseRuns x (obj x (glIx port.val) 2) = true →
      Machine.exec (.gateEvent t port) s = .next (leavesSys t s (gateTurn port.val (gateChangeEffect port.val x)))) ∧
  -- PREEMPT_HOLD_ASSERT (R345)
  (∀ (t : Nat) (port : Fin 76) (s : State), let x := sysAt t s
      port.val < 64 →
      preemptActive x port.val = true →
      (Machine.port x port.val).hold = false →
      flag x (glIx port.val) 1 = true →
      holdDue x port.val = true →
      Machine.exec (.preemptHoldAssert t port) s = .next (leavesSys t s (bump (Ctr.preemptHold port.val) (updPort port.val (fun q => { q with hold := true }) x)))) ∧
  -- PREEMPT_VERIFY_TX, a verify mPacket (R342)
  (∀ (t : Nat) (port : Fin 76) (s : State), let x := sysAt t s
      port.val < 64 →
      flag x (pix port.val 0x0E) 1 = true →
      flag x (pix port.val 0x0E) 3 = true →
      (Machine.port x port.val).linkUp = true →
      (Machine.port x port.val).verify = 1 ∨ (Machine.port x port.val).verify = 2 →
      (Machine.port x port.val).verifyAt + obj x (pix port.val 0x0E) 4 * Config.ticksPerMs ≤ x.now →
      (Machine.port x port.val).verifies < 3 →
      Machine.exec (.preemptVerifyTx t port) s = .next (leavesSys t s (updPort port.val (fun q => { q with verify := 2, verifies := q.verifies + 1, verifyAt := x.now }) x))) ∧
  -- PREEMPT_VERIFY_TX, after three (R342)
  (∀ (t : Nat) (port : Fin 76) (s : State), let x := sysAt t s
      port.val < 64 →
      flag x (pix port.val 0x0E) 1 = true →
      flag x (pix port.val 0x0E) 3 = true →
      (Machine.port x port.val).linkUp = true →
      (Machine.port x port.val).verify = 1 ∨ (Machine.port x port.val).verify = 2 →
      (Machine.port x port.val).verifyAt + obj x (pix port.val 0x0E) 4 * Config.ticksPerMs ≤ x.now →
      3 ≤ (Machine.port x port.val).verifies →
      Machine.exec (.preemptVerifyTx t port) s = .next (leavesSys t s (bump (Ctr.preemptVerifyFail port.val) (updPort port.val (fun q => { q with verify := 4 }) x)))) ∧
  -- PREEMPT_VERIFY_RESPONSE (R342)
  (∀ (t : Nat) (port : Fin 76) (s : State), let x := sysAt t s
      port.val ≤ 63 →
      (Machine.port x port.val).verify = 2 →
      Machine.exec (.preemptVerifyResponse t port) s = .next (leavesSys t s (updPort port.val (fun q => { q with verify := 3 }) x))) ∧
  -- STREAM_GATE_EVENT (R350)
  (∀ (t : Nat) (gate : Fin 1024) (s : State), let x := sysAt t s
      cellB x 0x6100 1 gate.val 0 = true →
      2 ≤ (streamGate x gate.val).state →
      Machine.exec (.streamGateEvent t gate) s = .next (leavesSys t s (streamGateTurn gate.val x)))

/-- O14. For each request opcode of Table GMP-5, and for an opcode that it does not list: a frame that reaches a steward, belongs to an
open session with a new counter and a good tag, and is a new request with fewer than eight outstanding, stands last in its
session's queue, and the sessions are served in order at once. What serving does is stated of each opcode in
Requests_are_executed. -/
def Obligations.Gramus_requests_reach_their_session : Prop :=
  -- SESSION_CLOSE (R75, R68, R83, R84)
  (∀ (t : Nat) (f : Option GFrame) (g : Taken) (y : SysMem) (v : Session) (s : State), let x := atTick t s
      reaches f (fun g => g.opcode == 3) x g y →
      ofSession y.1 v g.f →
      newRequest v g.f →
      Machine.exec (.sessionClose t f) s = .next (leaves s (pump (onSys (withRequest v g) y)))) ∧
  -- KEEPALIVE (R70, R68, R83, R84)
  (∀ (t : Nat) (f : Option GFrame) (g : Taken) (y : SysMem) (v : Session) (s : State), let x := atTick t s
      reaches f (fun g => g.opcode == 4) x g y →
      ofSession y.1 v g.f →
      newRequest v g.f →
      Machine.exec (.keepalive t f) s = .next (leaves s (pump (onSys (withRequest v g) y)))) ∧
  -- READ (R71, R68, R83, R84)
  (∀ (t : Nat) (f : Option GFrame) (g : Taken) (y : SysMem) (v : Session) (s : State), let x := atTick t s
      reaches f (fun g => g.opcode == 0x10) x g y →
      ofSession y.1 v g.f →
      newRequest v g.f →
      Machine.exec (.read t f) s = .next (leaves s (pump (onSys (withRequest v g) y)))) ∧
  -- WRITE (R72, R68, R83, R84)
  (∀ (t : Nat) (f : Option GFrame) (g : Taken) (y : SysMem) (v : Session) (s : State), let x := atTick t s
      reaches f (fun g => g.opcode == 0x11) x g y →
      ofSession y.1 v g.f →
      newRequest v g.f →
      Machine.exec (.write t f) s = .next (leaves s (pump (onSys (withRequest v g) y)))) ∧
  -- READ_ROWS (R71, R68, R83, R84)
  (∀ (t : Nat) (f : Option GFrame) (g : Taken) (y : SysMem) (v : Session) (s : State), let x := atTick t s
      reaches f (fun g => g.opcode == 0x12) x g y →
      ofSession y.1 v g.f →
      newRequest v g.f →
      Machine.exec (.readRows t f) s = .next (leaves s (pump (onSys (withRequest v g) y)))) ∧
  -- WRITE_ROWS (R196, R72, R68, R83, R84)
  (∀ (t : Nat) (f : Option GFrame) (g : Taken) (y : SysMem) (v : Session) (s : State), let x := atTick t s
      reaches f (fun g => g.opcode == 0x13) x g y →
      ofSession y.1 v g.f →
      newRequest v g.f →
      Machine.exec (.writeRows t f) s = .next (leaves s (pump (onSys (withRequest v g) y)))) ∧
  -- READ_SEGMENT (R70, R68, R83, R84)
  (∀ (t : Nat) (f : Option GFrame) (g : Taken) (y : SysMem) (v : Session) (s : State), let x := atTick t s
      reaches f (fun g => g.opcode == 0x14) x g y →
      ofSession y.1 v g.f →
      newRequest v g.f →
      Machine.exec (.readSegment t f) s = .next (leaves s (pump (onSys (withRequest v g) y)))) ∧
  -- WRITE_SEGMENT (R73, R68, R83, R84)
  (∀ (t : Nat) (f : Option GFrame) (g : Taken) (y : SysMem) (v : Session) (s : State), let x := atTick t s
      reaches f (fun g => g.opcode == 0x15) x g y →
      ofSession y.1 v g.f →
      newRequest v g.f →
      Machine.exec (.writeSegment t f) s = .next (leaves s (pump (onSys (withRequest v g) y)))) ∧
  -- UNKNOWN_OPCODE (R70)
  (∀ (t : Nat) (f : Option GFrame) (g : Taken) (y : SysMem) (v : Session) (s : State), let x := atTick t s
      reaches f (fun g => !knownOpcode g.opcode) x g y →
      ofSession y.1 v g.f →
      newRequest v g.f →
      Machine.exec (.unknownOpcode t f) s = .next (leaves s (pump (onSys (withRequest v g) y)))) ∧
  -- SESSION_CLOSE, on any frame of its opcode (R75, R68)
  (∀ (t : Nat) (f : Option GFrame) (s : State), let x := atTick t s
      Machine.exec (.sessionClose t f) s = .next (leaves s (match takeFrame f (fun g => g.opcode == 3) x with | some (g, y) => serve g 0 [] false y | none => x))) ∧
  -- KEEPALIVE, on any frame of its opcode (R70, R68)
  (∀ (t : Nat) (f : Option GFrame) (s : State), let x := atTick t s
      Machine.exec (.keepalive t f) s = .next (leaves s (match takeFrame f (fun g => g.opcode == 4) x with | some (g, y) => serve g 0 [] false y | none => x))) ∧
  -- READ, on any frame of its opcode (R71, R68)
  (∀ (t : Nat) (f : Option GFrame) (s : State), let x := atTick t s
      Machine.exec (.read t f) s = .next (leaves s (match takeFrame f (fun g => g.opcode == 0x10) x with | some (g, y) => serve g 0 [] false y | none => x))) ∧
  -- WRITE, on any frame of its opcode (R72, R68)
  (∀ (t : Nat) (f : Option GFrame) (s : State), let x := atTick t s
      Machine.exec (.write t f) s = .next (leaves s (match takeFrame f (fun g => g.opcode == 0x11) x with | some (g, y) => serve g 0 [] false y | none => x))) ∧
  -- READ_ROWS, on any frame of its opcode (R71, R68)
  (∀ (t : Nat) (f : Option GFrame) (s : State), let x := atTick t s
      Machine.exec (.readRows t f) s = .next (leaves s (match takeFrame f (fun g => g.opcode == 0x12) x with | some (g, y) => serve g 0 [] false y | none => x))) ∧
  -- WRITE_ROWS, on any frame of its opcode (R196, R72, R68)
  (∀ (t : Nat) (f : Option GFrame) (s : State), let x := atTick t s
      Machine.exec (.writeRows t f) s = .next (leaves s (match takeFrame f (fun g => g.opcode == 0x13) x with | some (g, y) => serve g 0 [] false y | none => x))) ∧
  -- READ_SEGMENT, on any frame of its opcode (R70, R68)
  (∀ (t : Nat) (f : Option GFrame) (s : State), let x := atTick t s
      Machine.exec (.readSegment t f) s = .next (leaves s (match takeFrame f (fun g => g.opcode == 0x14) x with | some (g, y) => serve g 0 [] false y | none => x))) ∧
  -- WRITE_SEGMENT, on any frame of its opcode (R73, R68)
  (∀ (t : Nat) (f : Option GFrame) (s : State), let x := atTick t s
      Machine.exec (.writeSegment t f) s = .next (leaves s (match takeFrame f (fun g => g.opcode == 0x15) x with | some (g, y) => serve g 0 [] false y | none => x)))

/-- O15. DISCOVER of this device is answered after the delay it draws, never above DISCOVER_DELAY; SESSION_OPEN starts an operator's
session in open mode on port 72, and one with the role of its key row where the tag is good, unless the nonce has been used;
EVENT_ACK of the outstanding EVENT frame acknowledges its records; DISCOVER_REPLY_DELAY and DISCOVER_ANNOUNCE send what is
due. SEGMENT_WRITE_TIMEOUT drops a segmented write idle for TXN_TIMEOUT; REQUEST_START_TIMEOUT answers BUSY what has not been
started for 1.5 ms; SESSION_IDLE_TIMEOUT ends an idle session and reports it; EVENT_RETRY_EXPIRY sends the outstanding EVENT
frame again and doubles its interval up to eight times EVENT_RETRY. -/
def Obligations.Gramus_sessions_and_timers_take_effect : Prop :=
  -- DISCOVER (R88)
  (∀ (t : Nat) (f : Option GFrame) (delay : Nat) (g : Taken) (y : SysMem) (s : State), let x := atTick t s
      reaches f (fun g => g.opcode == 1) x g y →
      gfPayload g.f ≠ [] ∧ (gfPayload g.f).length = 1 + byteAt (gfPayload g.f) 0 →
      byteAt (gfPayload g.f) 0 = 0 ∨ (gfPayload g.f).drop 1 = Config.serial →
      Machine.exec (.discover t f delay) s = .next (leaves s (onSys (fun s => { s with discovers := s.discovers ++ [(s.now + min delay (obj s 0x0300 7 * Config.ticksPerMs), replyTo g.view g.f false 0)] }) y))) ∧
  -- SESSION_OPEN in open mode (R75, R80)
  (∀ (t : Nat) (f : Option GFrame) (nonceD : List Byte) (g : Taken) (y : SysMem) (s : State), let x := atTick t s
      reaches f (fun g => g.opcode == 2) x g y →
      keysPending y.1 = false →
      (gfPayload g.f).length = 22 ∧ byteAt (gfPayload g.f) 0 = 0xFF →
      gfTagged g.f = false ∧ authActive y.1 = false ∧ g.f.port.val = 72 →
      y.1.nonces.contains (slice (gfPayload g.f) 6 16) = false →
      Machine.exec (.sessionOpen t f nonceD) s = .next (leaves s (onSys (openStart g.view g.f nonceD 2 0xFF []) y))) ∧
  -- SESSION_OPEN under a key (R80)
  (∀ (t : Nat) (f : Option GFrame) (nonceD : List Byte) (g : Taken) (y : SysMem) (s : State), let x := atTick t s
      reaches f (fun g => g.opcode == 2) x g y →
      keysPending y.1 = false →
      (gfPayload g.f).length = 22 ∧ byteAt (gfPayload g.f) 0 ≤ 3 →
      gfTagged g.f = true ∧ keyed y.1 (byteAt (gfPayload g.f) 0) = true →
      gfTagGood g.f (val y.1 0x0300 9 (byteAt (gfPayload g.f) 0) 1).bytes = true →
      y.1.nonces.contains (slice (gfPayload g.f) 6 16) = false →
      Machine.exec (.sessionOpen t f nonceD) s = .next (leaves s (onSys (openStart g.view g.f nonceD (cell y.1 0x0300 9 (byteAt (gfPayload g.f) 0) 0) (byteAt (gfPayload g.f) 0) (val y.1 0x0300 9 (byteAt (gfPayload g.f) 0) 1).bytes) y))) ∧
  -- EVENT_ACK (R91)
  (∀ (t : Nat) (f : Option GFrame) (g : Taken) (y : SysMem) (v : Session) (first last : Nat) (s : State), let x := atTick t s
      reaches f (fun g => g.opcode == 0xC0) x g y →
      ofSession y.1 v g.f →
      v.sid = g.f.session ∧ v.evFrame = some (first, last) ∧ first ≤ field (gfPayload g.f) 0 4 ∧ (gfPayload g.f).length = 4 →
      Machine.exec (.eventAck t f) s = .next (leaves s (onSys (fun s => reportLoss v.sid (updSession v.sid (fun w => { w with evFrame := none, last := y.1.now, acked := max w.acked (min (field (gfPayload g.f) 0 4) s.evSeq) }) (heard v g.f s))) y))) ∧
  -- DISCOVER_REPLY_DELAY (R88)
  (∀ (t : Nat) (s : State), let x := sysAt t s
      stewardsRun x = true →
      Machine.exec (.discoverReplyDelay t) s = .next (leavesSys t s ((x.discovers.filter (fun e => decide (e.1 ≤ x.now))).foldl (fun y e => respond e.2 0 false (identityBlock y) y) { x with discovers := x.discovers.filter (fun e => decide (x.now < e.1)) }))) ∧
  -- DISCOVER_ANNOUNCE (R88)
  (∀ (t : Nat) (left due : Nat) (s : State), let x := sysAt t s
      stewardsRun x = true →
      x.announce = some (left, due) →
      due ≤ x.now →
      Machine.exec (.discoverAnnounce t) s = .next (leavesSys t s (announceNow left due x))) ∧
  -- SEGMENT_WRITE_TIMEOUT (R73)
  (∀ (t : Nat) (sid : Nat) (s : State), let x := sysAt t s
      stewardsRun x = true →
      Machine.exec (.segmentWriteTimeout t sid) s = .next (leavesSys t s (updSession sid (fun v => { v with seg := v.seg.filter (fun g => decide (x.now < g.at_ + obj x 0x0200 0x0D * Config.ticksPerS)) }) x))) ∧
  -- REQUEST_START_TIMEOUT (R85)
  (∀ (t : Nat) (s : State), let x := atTick t s
      takeFrame none (fun g => g.opcode != 1 && g.opcode != 0xC0) (onSys busyLate x) = none →
      Machine.exec (.requestStartTimeout t) s = .next (leaves s (onSys busyLate x))) ∧
  -- REQUEST_START_TIMEOUT of a request that waits in SQ0 (R85)
  (∀ (t : Nat) (g : Taken) (y : SysMem) (s : State), let x := atTick t s
      takeFrame none (fun g => g.opcode != 1 && g.opcode != 0xC0) (onSys busyLate x) = some (g, y) →
      (onSys busyLate x).1.now < sq0Since x.1 + startTicks →
      Machine.exec (.requestStartTimeout t) s = .next (leaves s (onSys busyLate x))) ∧
  -- REQUEST_START_TIMEOUT of a request that waited 1.5 ms in SQ0 (R85)
  (∀ (t : Nat) (g : Taken) (y : SysMem) (s : State), let x := atTick t s
      takeFrame none (fun g => g.opcode != 1 && g.opcode != 0xC0) (onSys busyLate x) = some (g, y) →
      sq0Since x.1 + startTicks ≤ (onSys busyLate x).1.now →
      Machine.exec (.requestStartTimeout t) s = .next (leaves s (serve g 0 [] true y))) ∧
  -- SESSION_IDLE_TIMEOUT (R75)
  (∀ (t : Nat) (sid : Nat) (v : Session) (s : State), let x := sysAt t s
      stewardsRun x = true →
      session? x sid = some v →
      v.last + obj x 0x0300 5 * Config.ticksPerS ≤ x.now →
      Machine.exec (.sessionIdleTimeout t sid) s = .next (leavesSys t s (raise 0x0206 0 (u16b sid) (endSession sid (bump Ctr.gmpSessionTimeout x))))) ∧
  -- EVENT_RETRY_EXPIRY (R91)
  (∀ (t : Nat) (sid : Nat) (v : Session) (s : State), let x := sysAt t s
      stewardsRun x = true →
      session? x sid = some v →
      v.evFrame ≠ none →
      v.evAt ≤ x.now →
      Machine.exec (.eventRetryExpiry t sid) s = .next (leavesSys t s (let ivl := min (2 * v.evIvl) (8 * obj x 0x0300 8 * Config.ticksPerMs)
        sendEvents v true v.evRid v.evBytes (bump Ctr.gmpEventRetx (updSession sid (fun w => { w with evIvl := ivl, evAt := x.now + ivl }) x)))))

/-- O16. By its object: TXN_OPEN opens an IDLE session's transaction with a number of its own, TXN_ARM of a safety session arms it when
the crc equals 0x0200:0E and aborts it with cause 3 when it does not, TXN_ABORT aborts a live one with cause 1; by its opcode
each is a request of the session. TXN_TIMEOUT_EXPIRY aborts one that was idle for TXN_TIMEOUT with cause 2. -/
def Obligations.Transactions_open_and_arm : Prop :=
  -- TXN_OPEN (R45)
  (∀ (t : Nat) (sid : Nat) (s : State), let x := atTick t s
      mayOwn x.1 sid 0x0200 3 →
      (txnOf x.1 sid).st = .idle →
      ((holders x.1).filter (fun v => v.txn.live && v.txn.num != 0)).length < 8 →
      Machine.exec (.txnOpen t (.obj sid)) s = .next (leaves s (onSys (fun s => touchTxn sid (updTxn sid (fun _ => { st := .open_, num := (free s).1 % 65535 + 1, last := s.now }) (free s).2)) x))) ∧
  -- TXN_OPEN as a request (R45, R74)
  (∀ (t : Nat) (f : Option GFrame) (g : Taken) (y : SysMem) (v : Session) (s : State), let x := atTick t s
      reaches f (fun g => g.opcode == 0x20 && true) x g y →
      ofSession y.1 v g.f →
      newRequest v g.f →
      Machine.exec (.txnOpen t (.gmp f)) s = .next (leaves s (pump (onSys (withRequest v g) y)))) ∧
  -- TXN_ARM with the right crc (R47)
  (∀ (t : Nat) (sid : Nat) (crc : Nat) (s : State), let x := atTick t s
      mayOwn x.1 sid 0x0200 6 →
      roleOf x.1 sid = 3 →
      (txnOf x.1 sid).st = .open_ →
      crc = safetyCrc x.1 →
      Machine.exec (.txnArm t (.obj sid) crc) s = .next (leaves s (onSys (fun s => updTxn sid (fun y => { y with st := .armed, last := s.now, by79 := false }) s) x))) ∧
  -- TXN_ARM with another crc (R47)
  (∀ (t : Nat) (sid : Nat) (crc : Nat) (s : State), let x := atTick t s
      mayOwn x.1 sid 0x0200 6 →
      roleOf x.1 sid = 3 →
      (txnOf x.1 sid).st = .open_ →
      crc ≠ safetyCrc x.1 →
      Machine.exec (.txnArm t (.obj sid) crc) s = .next (leaves s (onSys (fun s => enterCodes sid (txnNo s sid) 0x0200 6 0 0 (0, 0) [6] (.num crc) (inForce s sid 0x0200 6 0 0) (abortTxn sid 3 s)) x))) ∧
  -- TXN_ARM as a request (R47, R74)
  (∀ (t : Nat) (f : Option GFrame) (g : Taken) (y : SysMem) (v : Session) (crc : Nat) (s : State), let x := atTick t s
      reaches f (fun g => g.opcode == 0x21 && true) x g y →
      ofSession y.1 v g.f →
      newRequest v g.f →
      Machine.exec (.txnArm t (.gmp f) crc) s = .next (leaves s (pump (onSys (withRequest v g) y)))) ∧
  -- TXN_ABORT (R44)
  (∀ (t : Nat) (sid : Nat) (s : State), let x := atTick t s
      mayOwn x.1 sid 0x0200 7 →
      (txnOf x.1 sid).live = true →
      Machine.exec (.txnAbort t (.obj sid)) s = .next (leaves s (onSys (fun s => touchTxn sid (abortTxn sid 1 s)) x))) ∧
  -- TXN_ABORT as a request (R44, R74)
  (∀ (t : Nat) (f : Option GFrame) (g : Taken) (y : SysMem) (v : Session) (s : State), let x := atTick t s
      reaches f (fun g => g.opcode == 0x23 && true) x g y →
      ofSession y.1 v g.f →
      newRequest v g.f →
      Machine.exec (.txnAbort t (.gmp f)) s = .next (leaves s (pump (onSys (withRequest v g) y)))) ∧
  -- TXN_TIMEOUT_EXPIRY (R48)
  (∀ (t : Nat) (sid : Nat) (s : State), let x := sysAt t s
      stewardsRun x = true →
      (txnOf x sid).st = .open_ ∨ (txnOf x sid).st = .armed →
      (txnOf x sid).last + obj x 0x0200 0x0D * Config.ticksPerS ≤ x.now →
      Machine.exec (.txnTimeoutExpiry t sid) s = .next (leavesSys t s (abortTxn sid 2 (bump Ctr.dicTxnTimeout x))))

/-- O17. By its object, TXN_COMMIT_NEXT and TXN_COMMIT_STATED accept an OPEN or ARMED transaction: it is PENDING, with its time of
acceptance and for a stated time its base and instant; by its opcode each is a request. COMMIT_POINT and STATED_COMMIT_TIME
make every commit that is due, in the order of acceptance, at one generation; one stated on a disabled base is aborted in its
place. -/
def Obligations.Transactions_commit : Prop :=
  -- TXN_COMMIT_NEXT (R49)
  (∀ (t : Nat) (sid : Nat) (s : State), let x := atTick t s
      mayOwn x.1 sid 0x0200 7 →
      (txnOf x.1 sid).st = .open_ ∨ (txnOf x.1 sid).st = .armed →
      (changesRules x.1 (txnOf x.1 sid).staged = true → x.1.rsWait = none) →
      Machine.exec (.txnCommitNext t (.obj sid)) s = .next (leaves s (onSys (fun s => touchTxn sid (let z := updTxn sid (fun y => { y with st := .pending, acceptedAt := s.now, stated := none, late := false }) s
          if changesRules s (txnOf s sid).staged then rsAccept sid false z else z)) x))) ∧
  -- TXN_COMMIT_NEXT as a request (R49, R74)
  (∀ (t : Nat) (f : Option GFrame) (g : Taken) (y : SysMem) (v : Session) (s : State), let x := atTick t s
      reaches f (fun g => g.opcode == 0x22 && byteAt (gfPayload g) 0 != 2) x g y →
      ofSession y.1 v g.f →
      newRequest v g.f →
      Machine.exec (.txnCommitNext t (.gmp f)) s = .next (leaves s (pump (onSys (withRequest v g) y)))) ∧
  -- TXN_COMMIT_STATED (R51)
  (∀ (t : Nat) (sid : Nat) (base : Fin 5) (time : Nat) (p : SysMem) (s : State), let x := atTick t s
      p = preset sid [(0x0200, 8, time), (0x0200, 9, base.val)] x →
      mayOwn p.1 sid 0x0200 7 →
      (commitWrite sid 2 p.1).1 ≠ 6 →
      Machine.exec (.txnCommitStated t (.obj sid) base time) s = .next (leaves s (onSys (fun s => touchTxn sid (commitWrite sid 2 s).2) p))) ∧
  -- TXN_COMMIT_STATED as a request (R51, R74)
  (∀ (t : Nat) (f : Option GFrame) (g : Taken) (y : SysMem) (v : Session) (base : Fin 5) (time : Nat) (s : State), let x := atTick t s
      reaches f (fun g => g.opcode == 0x22 && byteAt (gfPayload g) 0 == 2) x g y →
      ofSession y.1 v g.f →
      newRequest v g.f →
      Machine.exec (.txnCommitStated t (.gmp f) base time) s = .next (leaves s (pump (onSys (withRequest v g) y)))) ∧
  -- COMMIT_POINT (R49, R254)
  (∀ (t : Nat) (s : State), let x := atTick t s
      let p : SysMem := onSys plinthFirst x;
      stewardsRun x.1 = true →
      dueTxns p.1 false ≠ [] ∨ ((List.range 4).filter (fun i => snapDue p.1 false (snap p.1 i))) ≠ [] →
      Machine.exec (.commitPoint t) s = .next (leaves s (onSys (settleClaims p.1) ((dueTxns p.1 false).foldl (fun y e => commitTxn e.1 e.2 y) (onSys (fun s => ((List.range 4).filter (fun i => snapDue p.1 false (snap p.1 i))).foldl flipSnap (nextGen s)) p))))) ∧
  -- COMMIT_POINT with nothing due (R49, R254)
  (∀ (t : Nat) (s : State), let x := atTick t s
      let p : SysMem := onSys plinthFirst x;
      stewardsRun x.1 = true →
      dueTxns p.1 false = [] →
      ((List.range 4).filter (fun i => snapDue p.1 false (snap p.1 i))) = [] →
      Machine.exec (.commitPoint t) s = .next (leaves s (onSys (settleClaims p.1) p))) ∧
  -- STATED_COMMIT_TIME (R51, R254)
  (∀ (t : Nat) (sid : Nat) (s : State), let x := atTick t s
      let p : SysMem := onSys plinthFirst x;
      stewardsRun x.1 = true →
      (dueTxns x.1 true).any (fun e => e.1.sid == sid) = true →
      (dueTxns p.1 true).any (fun e => e.1.sid == sid) = true →
      Machine.exec (.statedCommitTime t sid) s = .next (leaves s (onSys (settleClaims p.1) ((dueTxns p.1 true).foldl (fun y e => commitTxn e.1 e.2 y) (onSys (fun s => ((List.range 4).filter (fun i => snapDue p.1 true (snap p.1 i))).foldl flipSnap (nextGen s)) p))))) ∧
  -- STATED_COMMIT_TIME before its time (R51)
  (∀ (t : Nat) (sid : Nat) (s : State), let x := atTick t s
      stewardsRun x.1 = true →
      (dueTxns x.1 true).any (fun e => e.1.sid == sid) = false →
      (List.range 4).any (fun i => snapDue x.1 true (snap x.1 i)) = false →
      Machine.exec (.statedCommitTime t sid) s = .next (leaves s (x)))

/-- O18. Written directly by a session that may while no store runs: STORE starts the store of an image at its commit point,
RESTORE_DEFAULTS commits the defaults, ERASE_STORED_IMAGE revokes and erases the configuration slots. STORE_DONE ends a store:
with the image in its slot, STORE_STATE 2, STORE_COMPLETE and the other slot erasing, or with STORE_FAILED and its cause.
SLOT_ERASE_DONE leaves the slot empty. With its slot, base and time set first: SNAP_REQ_NEXT and SNAP_REQ_STATED of a FREE
slot ask for a snapshot, SNAP_RELEASE frees the slot at its commit point, and SNAPSHOT_SWEEP_DONE makes a snapshot that is
being swept READY and reports it. -/
def Obligations.Stores_and_snapshots_take_effect : Prop :=
  -- STORE (R35)
  (∀ (t : Nat) (sid : Nat) (s : State), let x := atTick t s
      mayCommand x.1 sid 0x0200 0x0F (1) →
      storing (commandPoint sid x).1 = false →
      Machine.exec (.store t sid) s = .next (leaves s (settled sid x (onSys (storeStart) (commandPoint sid x))))) ∧
  -- RESTORE_DEFAULTS (R56)
  (∀ (t : Nat) (sid : Nat) (s : State), let x := atTick t s
      mayCommand x.1 sid 0x0200 0x0F 2 →
      changesRules x.1 [{ stagedCommand 0x0200 0x0F 2 with codes := [0] }] = false →
      Machine.exec (.restoreDefaults t sid) s = .next (leaves s (settled sid x (commitStaged sid 0 [{ stagedCommand 0x0200 0x0F 2 with codes := [0] }] (commitAll [] false (pointOf sid x))).1))) ∧
  -- RESTORE_DEFAULTS that changes rules (R54, R56, R178)
  (∀ (t : Nat) (sid : Nat) (s : State), let x := atTick t s
      mayCommand x.1 sid 0x0200 0x0F 2 →
      changesRules x.1 [{ stagedCommand 0x0200 0x0F 2 with codes := [0] }] = true →
      x.1.rsWait = none →
      Machine.exec (.restoreDefaults t sid) s = .next (leaves s (onSys (fun s => rsAccept sid true { touchTxn sid s with
          orphans := s.orphans ++ [{ sid := sid, txn := { st := .pending, staged := [{ stagedCommand 0x0200 0x0F 2 with codes := [0] }], acceptedAt := s.now } }] }) x))) ∧
  -- RESTORE_DEFAULTS while a change of the rules waits (R184, R56)
  (∀ (t : Nat) (sid : Nat) (s : State), let x := atTick t s
      mayCommand x.1 sid 0x0200 0x0F 2 →
      changesRules x.1 [{ stagedCommand 0x0200 0x0F 2 with codes := [0] }] = true →
      x.1.rsWait.isSome = true →
      Machine.exec (.restoreDefaults t sid) s = .next (leaves s (onSys (fun s => touchTxn sid (enterCodes sid 0 0x0200 0x0F 0 0 (0, 0) [6] (.num 2) (inForce s sid 0x0200 0x0F 0 0) s)) x))) ∧
  -- ERASE_STORED_IMAGE (R486)
  (∀ (t : Nat) (sid : Nat) (s : State), let x := atTick t s
      mayCommand x.1 sid 0x0200 0x0F (3) →
      storing (commandPoint sid x).1 = false →
      Machine.exec (.eraseStoredImage t sid) s = .next (leaves s (settled sid x (onSys (eraseImage) (commandPoint sid x))))) ∧
  -- STORE_DONE (R484)
  (∀ (t : Nat) (flashError : Bool) (slot : Nat) (image : Option Slot) (s : State), let x := sysAt t s
      stewardsRun x = true →
      x.flash.store = some (slot, image) →
      Machine.exec (.storeDone t flashError) s = .next (leavesSys t s (let y := useFlash (updFlash (fun f => { f with store := none }) x)
        let fail (cause : Nat) (z : Sys) : Sys := raise 0x0104 2 (u8b slot ++ u8b cause) (updFlash (fun f => { f with storeState := 3 }) z)
        if y.flash.present = false then fail 4 y
        else match image with
          | none => fail 2 y
          | some v =>
            if flashError then fail 1 (setSlot slot { v with header := [] } y)
            else eraseSlots [5 - slot] (raise 0x0103 0 (u8b slot) (updFlash (fun f => { f with storeState := 2 }) (setSlot slot v y)))))) ∧
  -- SLOT_ERASE_DONE (R484)
  (∀ (t : Nat) (slot : FlashSlot) (s : State), let x := sysAt t s
      x.flash.erasing.contains (slotNo slot) = true →
      Machine.exec (.slotEraseDone t slot) s = .next (leavesSys t s (useFlash (updFlash (fun f => { f with erasing := f.erasing.filter (· != slotNo slot) }) (setSlot (slotNo slot) {} x))))) ∧
  -- SNAP_REQ_NEXT (R58)
  (∀ (t : Nat) (sid : Nat) (slot : Fin 4) (p : SysMem) (s : State), let x := atTick t s
      p = preset sid [(0x0220, 5, slot.val)] x →
      mayOwn p.1 sid 0x0220 2 →
      (snap p.1 (ownVal p.1 sid 0x0220 5)).st = 0 →
      Machine.exec (.snapReqNext t sid slot) s = .next (leaves s (onSys (fun s => touchTxn sid (setSnap (ownVal s sid 0x0220 5) { st := 1, base := ownVal s sid 0x0220 4 } s)) p))) ∧
  -- SNAP_REQ_STATED (R58)
  (∀ (t : Nat) (sid : Nat) (slot : Fin 4) (base : Fin 5) (time : Nat) (p : SysMem) (s : State), let x := atTick t s
      p = preset sid [(0x0220, 5, slot.val), (0x0220, 4, base.val), (0x0220, 3, time)] x →
      mayOwn p.1 sid 0x0220 2 →
      (snap p.1 (ownVal p.1 sid 0x0220 5)).st = 0 →
      Machine.exec (.snapReqStated t sid slot base time) s = .next (leaves s (onSys (fun s => touchTxn sid (snapStated sid (ownVal s sid 0x0220 5) (ownVal s sid 0x0220 4) (statedTime s (ownVal s sid 0x0220 4) (timeUnits (ownVal s sid 0x0220 3))) s).1) p))) ∧
  -- SNAP_RELEASE (R60)
  (∀ (t : Nat) (sid : Nat) (slot : Fin 4) (p : SysMem) (s : State), let x := atTick t s
      p = preset sid [(0x0220, 5, slot.val)] x →
      mayOwn p.1 sid 0x0220 2 →
      Machine.exec (.snapRelease t sid slot) s = .next (leaves s (settled sid p (onSys (fun s => setSnap (ownVal p.1 sid 0x0220 5) {} (recSizeCommit (nextGen s))) (commitAll [ownVal p.1 sid 0x0220 5] false (pointOf sid p)))))) ∧
  -- SNAPSHOT_SWEEP_DONE (R60)
  (∀ (t : Nat) (slot : Fin 4) (s : State), let x := sysAt t s
      (snap x slot.val).st = 2 →
      Machine.exec (.snapshotSweepDone t slot) s = .next (leavesSys t s (raise 0x0209 0 (u8b slot.val ++ u32b (snap x slot.val).gen) (setSnap slot.val { snap x slot.val with st := 3, swept := true } x))))

/-- O19. On a lane in training, LANE_TRAINING_REQUEST moves the tap by one step within the limits and changes nothing at a limit;
LANE_TRAINING_DONE and, 500 ms after the start, LANE_TRAINING_TIMEOUT end training; RX_EYE_MEASURE keeps the eye of an Active
lane; the PRBS commands lock and unlock the checker; LANE_POWER_COMMAND sets the target state, LANE_POWER_STATE_REACHED brings
it into force, and LANE_CDR_LOSS takes CDR lock and signal from an Active lane. -/
def Obligations.Serial_lanes_take_effect : Prop :=
  -- LANE_TRAINING_REQUEST of pre (R101)
  (∀ (t : Nat) (lane : Fin 64) (up : Bool) (a : Nat) (s : State), let x := sysAt t s
      (Machine.lane x lane.val).link = 1 →
      (if up then a = eqPre (eqActive x lane.val) + 1 else a + 1 = eqPre (eqActive x lane.val)) →
      Machine.exec (.laneTrainingRequest t lane .pre up) s = .next (leavesSys t s ((if eqLegal a (eqMain (eqActive x lane.val)) (eqPost (eqActive x lane.val)) = true then updLane lane.val (fun l => { l with taps := some (eqWord a (eqMain (eqActive x lane.val)) (eqPost (eqActive x lane.val))), answer := 1 }) x else updLane lane.val (fun l => { l with answer := if up then 3 else 2 }) x)))) ∧
  -- LANE_TRAINING_REQUEST of pre below 0 (R101)
  (∀ (t : Nat) (lane : Fin 64) (s : State), let x := sysAt t s
      (Machine.lane x lane.val).link = 1 →
      eqPre (eqActive x lane.val) = 0 →
      Machine.exec (.laneTrainingRequest t lane .pre false) s = .next (leavesSys t s (updLane lane.val (fun l => { l with answer := 2 }) x))) ∧
  -- LANE_TRAINING_REQUEST of main (R101)
  (∀ (t : Nat) (lane : Fin 64) (up : Bool) (a : Nat) (s : State), let x := sysAt t s
      (Machine.lane x lane.val).link = 1 →
      (if up then a = eqMain (eqActive x lane.val) + 1 else a + 1 = eqMain (eqActive x lane.val)) →
      Machine.exec (.laneTrainingRequest t lane .main up) s = .next (leavesSys t s ((if eqLegal (eqPre (eqActive x lane.val)) a (eqPost (eqActive x lane.val)) = true then updLane lane.val (fun l => { l with taps := some (eqWord (eqPre (eqActive x lane.val)) a (eqPost (eqActive x lane.val))), answer := 1 }) x else updLane lane.val (fun l => { l with answer := if up then 3 else 2 }) x)))) ∧
  -- LANE_TRAINING_REQUEST of main below 0 (R101)
  (∀ (t : Nat) (lane : Fin 64) (s : State), let x := sysAt t s
      (Machine.lane x lane.val).link = 1 →
      eqMain (eqActive x lane.val) = 0 →
      Machine.exec (.laneTrainingRequest t lane .main false) s = .next (leavesSys t s (updLane lane.val (fun l => { l with answer := 2 }) x))) ∧
  -- LANE_TRAINING_REQUEST of post (R101)
  (∀ (t : Nat) (lane : Fin 64) (up : Bool) (a : Nat) (s : State), let x := sysAt t s
      (Machine.lane x lane.val).link = 1 →
      (if up then a = eqPost (eqActive x lane.val) + 1 else a + 1 = eqPost (eqActive x lane.val)) →
      Machine.exec (.laneTrainingRequest t lane .post up) s = .next (leavesSys t s ((if eqLegal (eqPre (eqActive x lane.val)) (eqMain (eqActive x lane.val)) a = true then updLane lane.val (fun l => { l with taps := some (eqWord (eqPre (eqActive x lane.val)) (eqMain (eqActive x lane.val)) a), answer := 1 }) x else updLane lane.val (fun l => { l with answer := if up then 3 else 2 }) x)))) ∧
  -- LANE_TRAINING_REQUEST of post below 0 (R101)
  (∀ (t : Nat) (lane : Fin 64) (s : State), let x := sysAt t s
      (Machine.lane x lane.val).link = 1 →
      eqPost (eqActive x lane.val) = 0 →
      Machine.exec (.laneTrainingRequest t lane .post false) s = .next (leavesSys t s (updLane lane.val (fun l => { l with answer := 2 }) x))) ∧
  -- LANE_TRAINING_REQUEST of a lane that does not train (R101)
  (∀ (t : Nat) (lane : Fin 64) (tap : Tap) (up : Bool) (s : State), let x := sysAt t s
      (Machine.lane x lane.val).link ≠ 1 →
      Machine.exec (.laneTrainingRequest t lane tap up) s = .next (leavesSys t s (x))) ∧
  -- LANE_TRAINING_DONE of a lane that does not train (R101)
  (∀ (t : Nat) (lane : Fin 64) (s : State), let x := sysAt t s
      (Machine.lane x lane.val).link ≠ 1 →
      Machine.exec (.laneTrainingDone t lane) s = .next (leavesSys t s (x))) ∧
  -- LANE_TRAINING_TIMEOUT of a lane that does not train (R101)
  (∀ (t : Nat) (lane : Fin 64) (s : State), let x := sysAt t s
      (Machine.lane x lane.val).link ≠ 1 →
      Machine.exec (.laneTrainingTimeout t lane) s = .next (leavesSys t s (x))) ∧
  -- LANE_TRAINING_DONE (R101)
  (∀ (t : Nat) (lane : Fin 64) (s : State), let x := sysAt t s
      (Machine.lane x lane.val).link = 1 →
      Machine.exec (.laneTrainingDone t lane) s = .next (leavesSys t s (updLane lane.val (fun l => { l with link := 2, trainOk := true }) x))) ∧
  -- LANE_TRAINING_TIMEOUT (R101)
  (∀ (t : Nat) (lane : Fin 64) (s : State), let x := sysAt t s
      (Machine.lane x lane.val).link = 1 →
      (Machine.lane x lane.val).trainAt + 500 * Config.ticksPerMs ≤ x.now →
      Machine.exec (.laneTrainingTimeout t lane) s = .next (leavesSys t s (raise 0x0404 2 (u8b lane.val) (bump (Ctr.laneTrainFail lane.val) (updLane lane.val (fun l => { l with link := 2, trainOk := false, taps := none }) x))))) ∧
  -- RX_EYE_MEASURE (R102, R103)
  (∀ (t : Nat) (lane : Fin 64) (height width : BitVec 16) (errors : Nat) (s : State), let x := sysAt t s
      let y := adaptTurn lane.val x; let z := if (Machine.lane y lane.val).prbs then bumpBy (Ctr.lanePrbsErr lane.val) errors y else y;
      (Machine.lane z lane.val).power = .active ∧ traded z < 3 →
      Machine.exec (.rxEyeMeasure t lane height width errors) s = .next (leavesSys t s (updLane lane.val (fun l => { l with eye := height.toNat * 65536 + width.toNat }) z))) ∧
  -- RX_EYE_MEASURE of a lane that is not Active, or in a brown-out (R102, R433)
  (∀ (t : Nat) (lane : Fin 64) (height width : BitVec 16) (errors : Nat) (s : State), let x := sysAt t s
      let y := adaptTurn lane.val x; let z := if (Machine.lane y lane.val).prbs then bumpBy (Ctr.lanePrbsErr lane.val) errors y else y;
      ¬((Machine.lane z lane.val).power = .active ∧ traded z < 3) →
      Machine.exec (.rxEyeMeasure t lane height width errors) s = .next (leavesSys t s (z))) ∧
  -- PRBS_LOCK_ACQUIRED (R103)
  (∀ (t : Nat) (lane : Fin 64) (s : State), let x := sysAt t s
      obj x (laneIx lane.val) 0x0B ≠ 0 →
      Machine.exec (.prbsLockAcquired t lane) s = .next (leavesSys t s (updLane lane.val (fun l => { l with prbs := true }) x))) ∧
  -- PRBS_LOCK_LOSS (R103)
  (∀ (t : Nat) (lane : Fin 64) (errors : Nat) (s : State), let x := sysAt t s
      (Machine.lane x lane.val).prbs = true →
      Machine.exec (.prbsLockLoss t lane errors) s = .next (leavesSys t s (bump (Ctr.lanePrbsLockLoss lane.val) (bumpBy (Ctr.lanePrbsErr lane.val) errors (updLane lane.val (fun l => { l with prbs := false }) x))))) ∧
  -- LANE_POWER_COMMAND (R106)
  (∀ (t : Nat) (lane : Fin 64) (byManager : Bool) (target : LanePower) (s : State), let x := sysAt t s
      stepDone x 11 = true →
      Machine.exec (.lanePowerCommand t lane byManager target) s = .next (leavesSys t s (let want := powerAllowed x lane.val byManager target
        let want := match (Machine.lane x lane.val).cmd with
          | some (k, who, other) => if k = periodOf x ∧ who ≠ byManager ∧ powerDepth other < powerDepth want then other else want
          | none => want
        aimLane lane.val want (updLane lane.val (fun l => { l with cmd := some (periodOf x, byManager, want) }) x)))) ∧
  -- LANE_POWER_COMMAND before step 11 of a start-up (R106, R479)
  (∀ (t : Nat) (lane : Fin 64) (byManager : Bool) (target : LanePower) (s : State), let x := sysAt t s
      stepDone x 11 = false →
      Machine.exec (.lanePowerCommand t lane byManager target) s = .next (leavesSys t s (x))) ∧
  -- LANE_POWER_STATE_REACHED (R105)
  (∀ (t : Nat) (lane : Fin 64) (target : LanePower) (s : State), let x := sysAt t s
      (Machine.lane x lane.val).target = some target →
      (Machine.lane x lane.val).reachAt ≤ x.now →
      Machine.exec (.lanePowerStateReached t lane) s = .next (leavesSys t s (let y := updLane lane.val (enterPower target) x
        if powerDepth (Machine.lane x lane.val).power ≥ 2 ∧ powerDepth target ≤ 1 then bringUp lane.val y else y))) ∧
  -- LANE_POWER_STATE_REACHED before its time (R105)
  (∀ (t : Nat) (lane : Fin 64) (target : LanePower) (s : State), let x := sysAt t s
      (Machine.lane x lane.val).target = some target →
      x.now < (Machine.lane x lane.val).reachAt →
      Machine.exec (.lanePowerStateReached t lane) s = .next (leavesSys t s (x))) ∧
  -- LANE_POWER_STATE_REACHED without a target (R105)
  (∀ (t : Nat) (lane : Fin 64) (s : State), let x := sysAt t s
      (Machine.lane x lane.val).target = none →
      Machine.exec (.lanePowerStateReached t lane) s = .next (leavesSys t s (x))) ∧
  -- LANE_CDR_LOSS (R106)
  (∀ (t : Nat) (lane : Fin 64) (s : State), let x := sysAt t s
      (Machine.lane x lane.val).power = .active →
      (Machine.lane x lane.val).signal = true →
      Machine.exec (.laneCdrLoss t lane) s = .next (leavesSys t s (bump (Ctr.laneCdrLoss lane.val) (updLane lane.val (fun l => { l with cdr := false, signal := false }) x))))

/-- O20. With the Knaing link enabled and a lane within its widest width: a block whose header is good, without a stuff error, on a
locked lane delivers its segments or its control block after destuffing and descrambling; a block with a bad header is
counted; KNG_HEADER_LOCK locks the receiver; KNG_LOCK_LOSS unlocks it, on lane 0 or 1 with the link down; KNG_IDLE_LANE_DEEP
puts a lane outside the width into Deep after 64 ms. -/
def Obligations.Knaing_blocks_and_locks_take_effect : Prop :=
  -- KNG_BLOCK_RX, a good block (R110, R112)
  (∀ (t : Nat) (k : Fin 8) (bits : List Bool) (last : Bool) (n wrong : Nat) (acc : List Bool) (s : State), let x := sysAt t s
      let head := bitsNat (acc.reverse.take 32); let seq := Machine.bits head 20 9; let y := bumpBy (Ctr.kngStuffErr (kngFirst x + k.val)) wrong (updKngLane k.val (fun l => { l with last := last, run := n, seen := if l.seen ≥ 63 then 0 else l.seen + 1, seq := some seq, bad := if l.seen ≥ 63 then 0 else l.bad }) x);
      flag x 0x2800 1 = true →
      k.val < obj x 0x2800 3 →
      destuff bits (kngLane x k.val).last (kngLane x k.val).run 0 [] = (last, n, wrong, acc) →
      headerGood head = true →
      wrong = 0 ∧ acc.length = 1024 →
      (kngLane x k.val).locked = true →
      Machine.exec (.kngBlockRx t k bits) s = .next (leavesSys t s (let pay := bytesOfBits 124 (scramble (acc.reverse.drop 32) (kngSeed (Machine.bits head 23 21) seq))
        match Machine.bits head 25 24 with
        | 2 => kngControlRxEffect pay seq (if y.kng.st = 2 then kngArrive k.val seq (some []) y else y)
        | 1 => if y.kng.st = 2 ∧ y.devState = 1 then kngArrive k.val seq (some pay) y else y
        | _ => if y.kng.st = 2 then kngArrive k.val seq (some []) y else y))) ∧
  -- KNG_BLOCK_RX, a block with wrong stuff bits or of another length (R110, R112)
  (∀ (t : Nat) (k : Fin 8) (bits : List Bool) (last : Bool) (n wrong : Nat) (acc : List Bool) (s : State), let x := sysAt t s
      let head := bitsNat (acc.reverse.take 32); let seq := Machine.bits head 20 9; let y := bumpBy (Ctr.kngStuffErr (kngFirst x + k.val)) wrong (updKngLane k.val (fun l => { l with last := last, run := n, seen := if l.seen ≥ 63 then 0 else l.seen + 1, seq := some seq, bad := if l.seen ≥ 63 then 0 else l.bad }) x);
      flag x 0x2800 1 = true →
      k.val < obj x 0x2800 3 →
      destuff bits (kngLane x k.val).last (kngLane x k.val).run 0 [] = (last, n, wrong, acc) →
      headerGood head = true →
      wrong ≠ 0 ∨ acc.length ≠ 1024 →
      (kngLane x k.val).locked = true →
      Machine.exec (.kngBlockRx t k bits) s = .next (leavesSys t s (if y.kng.st = 2 then kngArrive k.val seq none y else y))) ∧
  -- KNG_BLOCK_RX, a bad header (R110, R111)
  (∀ (t : Nat) (k : Fin 8) (bits : List Bool) (last : Bool) (n wrong : Nat) (acc : List Bool) (s : State), let x := sysAt t s
      let head := bitsNat (acc.reverse.take 32); let seq := (kngLane x k.val).seq.elim 0 (fun q => (q + 1) % 4096); let y := bumpBy (Ctr.kngStuffErr (kngFirst x + k.val)) wrong (updKngLane k.val (fun l => { l with last := last, run := n, seen := if l.seen ≥ 63 then 0 else l.seen + 1, seq := some seq, bad := if l.seen ≥ 63 then 0 else l.bad + 1 }) x);
      flag x 0x2800 1 = true →
      k.val < obj x 0x2800 3 →
      destuff bits (kngLane x k.val).last (kngLane x k.val).run 0 [] = (last, n, wrong, acc) →
      headerGood head = false →
      (kngLane x k.val).locked = true →
      Machine.exec (.kngBlockRx t k bits) s = .next (leavesSys t s (let z := bump (Ctr.kngHdrErr (kngFirst x + k.val)) y
        if 7 ≤ (kngLane x k.val).bad then kngLockLossEffect k.val z
        else if z.kng.st = 2 then kngArrive k.val seq none z else z))) ∧
  -- KNG_BLOCK_RX of a receiver without lock (R110, R111)
  (∀ (t : Nat) (k : Fin 8) (bits : List Bool) (last : Bool) (n wrong : Nat) (acc : List Bool) (s : State), let x := sysAt t s
      let head := bitsNat (acc.reverse.take 32);
      flag x 0x2800 1 = true →
      k.val < obj x 0x2800 3 →
      destuff bits (kngLane x k.val).last (kngLane x k.val).run 0 [] = (last, n, wrong, acc) →
      (kngLane x k.val).locked = false →
      Machine.exec (.kngBlockRx t k bits) s = .next (leavesSys t s (let seq := if headerGood head then Machine.bits head 20 9 else (kngLane x k.val).seq.elim 0 (fun q => (q + 1) % 4096)
        bumpIf (!headerGood head) (Ctr.kngHdrErr (kngFirst x + k.val)) (bumpBy (Ctr.kngStuffErr (kngFirst x + k.val)) wrong
          (updKngLane k.val (fun l => { l with last := last, run := n, seen := if l.seen ≥ 63 then 0 else l.seen + 1, seq := some seq,
                                                bad := if l.seen ≥ 63 then 0 else l.bad + boolNat (!headerGood head) }) x))))) ∧
  -- KNG_BLOCK_RX with the link disabled or past its width (R110, R113)
  (∀ (t : Nat) (k : Fin 8) (bits : List Bool) (s : State), let x := sysAt t s
      flag x 0x2800 1 = false ∨ obj x 0x2800 3 ≤ k.val →
      Machine.exec (.kngBlockRx t k bits) s = .next (leavesSys t s (x))) ∧
  -- KNG_HEADER_LOCK (R111)
  (∀ (t : Nat) (k : Fin 8) (headers : List (BitVec 32)) (s : State), let x := sysAt t s
      flag x 0x2800 1 = true →
      k.val < obj x 0x2800 3 →
      4 ≤ headers.length →
      ((headers.map (·.toNat)).drop (headers.length - 4)).all headerGood = true →
      Machine.exec (.kngHeaderLock t k headers) s = .next (leavesSys t s (let y := updKngLane k.val (fun l => { l with locked := true, failed := false, seen := 0, bad := 0, seq := (headers.map (·.toNat)).getLast?.map (fun h => Machine.bits h 20 9) }) x
        kngUp (updLane (kngFirst x + k.val) (fun l => { l with link := if x.kng.st = 2 then 3 else 2, cdr := true, signal := true }) y)))) ∧
  -- KNG_HEADER_LOCK without four good headers (R111)
  (∀ (t : Nat) (k : Fin 8) (headers : List (BitVec 32)) (s : State), let x := sysAt t s
      headers.length < 4 ∨ ((headers.map (·.toNat)).drop (headers.length - 4)).all headerGood = false →
      Machine.exec (.kngHeaderLock t k headers) s = .next (leavesSys t s (x))) ∧
  -- KNG_LOCK_LOSS (R111, R115)
  (∀ (t : Nat) (k : Fin 8) (s : State), let x := sysAt t s
      (kngLane x k.val).locked = true →
      Machine.exec (.kngLockLoss t k) s = .next (leavesSys t s (kngLaneFails k.val (updLane (kngFirst x + k.val) (fun l => { l with link := 0, cdr := false })
          (bump (Ctr.kngLockLoss (kngFirst x + k.val)) (updKngLane k.val (fun l => { l with locked := false, seen := 0, bad := 0, seq := none }) x)))))) ∧
  -- KNG_LOCK_LOSS of a receiver without lock (R111)
  (∀ (t : Nat) (k : Fin 8) (s : State), let x := sysAt t s
      (kngLane x k.val).locked = false →
      Machine.exec (.kngLockLoss t k) s = .next (leavesSys t s (x))) ∧
  -- KNG_IDLE_LANE_DEEP (R115)
  (∀ (t : Nat) (k : Fin 8) (s : State), let x := sysAt t s
      flag x 0x2800 1 = true ∧ x.kng.txWidth ≤ k.val ∧ k.val < obj x 0x2800 3 ∧ (kngLane x k.val).idleAt + 64 * Config.ticksPerMs ≤ x.now ∧ laneHeld x (kngFirst x + k.val) = false →
      Machine.exec (.kngIdleLaneDeep t k) s = .next (leavesSys t s (aimLane (kngFirst x + k.val) .deep x))) ∧
  -- KNG_IDLE_LANE_DEEP of a lane that is not idle so long (R115)
  (∀ (t : Nat) (k : Fin 8) (s : State), let x := sysAt t s
      ¬(flag x 0x2800 1 = true ∧ x.kng.txWidth ≤ k.val ∧ k.val < obj x 0x2800 3 ∧ (kngLane x k.val).idleAt + 64 * Config.ticksPerMs ≤ x.now ∧ laneHeld x (kngFirst x + k.val) = false) →
      Machine.exec (.kngIdleLaneDeep t k) s = .next (leavesSys t s (x)))

/-- O21. KNAING_FRAME_RX over a link that is up forwards the frame on its carried decision; KNG_CONTROL_BLOCK_TX sends heartbeat, time
stamps and width; KNG_CONTROL_BLOCK_RX applies the peer's; KNG_HEARTBEAT_MISS declares the link down 4.096 us after the last
new heartbeat; KNG_WIDTH_SWITCH changes the transmit width at the announced block. -/
def Obligations.Knaing_frames_and_control_take_effect : Prop :=
  -- KNAING_FRAME_RX (R15)
  (∀ (t : Nat) (desc bytes : List Byte) (segLost : Bool) (s : State), let x := sysAt t s
      flag x 0x2800 1 = true →
      x.kng.st = 2 →
      x.devState = 1 →
      Machine.exec (.knaingFrameRx t desc bytes segLost) s = .next (leavesSys t s (kngFrameOp desc bytes segLost x))) ∧
  -- KNAING_FRAME_RX over a link that is not up (R15, R113)
  (∀ (t : Nat) (desc bytes : List Byte) (segLost : Bool) (s : State), let x := sysAt t s
      ¬(flag x 0x2800 1 = true ∧ x.kng.st = 2 ∧ x.devState = 1) →
      Machine.exec (.knaingFrameRx t desc bytes segLost) s = .next (leavesSys t s (x))) ∧
  -- KNG_CONTROL_BLOCK_TX (R113, R109)
  (∀ (t : Nat) (s : State), let x := sysAt t s
      flag x 0x2800 1 = true →
      x.devState ≠ 3 →
      Machine.exec (.kngControlBlockTx t) s = .next (leavesSys t s (let g := x.kng
        let b := u32b (g.hbTx + 1) ++ ((baseTimes x).map timeb).flatten ++ (g.arrive.map timeb).flatten ++ u16b g.arriveSeq
          ++ u8b (if g.nextWidth = 0 then obj x 0x2800 3 else g.nextWidth) ++ u8b 0 ++ u16b (kngSeq g.switchAt) ++ Config.serial ++ u16b 0
        kngSendBlock 2 0 (kngSeq x.now) b
          (updKng (fun g => { g with hbTx := (g.hbTx + 1) % 2 ^ 32, lastCtl := b, sent := (kngSeq x.now, baseTimes x) :: g.sent.take 7, txBlocks := [] }) x)))) ∧
  -- KNG_CONTROL_BLOCK_TX with the link disabled, or dormant (R113)
  (∀ (t : Nat) (s : State), let x := sysAt t s
      flag x 0x2800 1 = false ∨ x.devState = 3 →
      Machine.exec (.kngControlBlockTx t) s = .next (leavesSys t s (x))) ∧
  -- KNG_CONTROL_BLOCK_RX (R114, R113, R115)
  (∀ (t : Nat) (payload : List Byte) (seq : Fin 4096) (s : State), let x := sysAt t s
      flag x 0x2800 1 = true →
      Machine.exec (.kngControlBlockRx t payload seq) s = .next (leavesSys t s (let hb := field payload 0 4
        let new := decide (x.kng.hbRx ≠ some hb)
        let times (off : Nat) : List Nat := (List.range 4).map (fun i => timeUnits (field payload (off + 12 * i) 12))
        let pairs := match x.kng.sent.find? (fun e => e.1 == field payload 100 2) with
          | some (_, t1) => some ((List.range 4).map (fun i => kngExchange (t1.getD i 0) ((times 52).getD i 0) ((times 4).getD i 0) ((baseTimes x).getD i 0)))
          | none => none
        kngUp (kngRxWidth seq.val (updKng (fun g =>
          { g with
            hbRx := some hb
            hbAt := if new then x.now else g.hbAt
            good := if new then (if g.hbRx.any (fun h => hb == (h + 1) % 2 ^ 32) then g.good + 1 else 1) else 0
            arrive := baseTimes x
            arriveSeq := seq.val
            peer := slice payload 106 16
            rxPend := if g.st = 2 ∧ byteAt payload 102 ≠ g.rxWidth then some (byteAt payload 102, field payload 104 2 % 4096) else g.rxPend
            offsets := match pairs with | some l => l.map (·.1) | none => g.offsets
            delays := match pairs with | some l => l.map (·.2) | none => g.delays }) x))))) ∧
  -- KNG_CONTROL_BLOCK_RX with the link disabled (R114)
  (∀ (t : Nat) (payload : List Byte) (seq : Fin 4096) (s : State), let x := sysAt t s
      flag x 0x2800 1 = false →
      Machine.exec (.kngControlBlockRx t payload seq) s = .next (leavesSys t s (x))) ∧
  -- KNG_HEARTBEAT_MISS (R113)
  (∀ (t : Nat) (s : State), let x := sysAt t s
      x.kng.st = 2 →
      x.kng.hbAt + 5120 ≤ x.now →
      Machine.exec (.kngHeartbeatMiss t) s = .next (leavesSys t s (bump Ctr.kngHeartbeatMiss (kngDown x)))) ∧
  -- KNG_WIDTH_SWITCH (R115)
  (∀ (t : Nat) (s : State), let x := sysAt t s
      x.kng.st = 2 →
      x.kng.nextWidth ≠ x.kng.txWidth →
      x.kng.switchAt ≤ x.now →
      Machine.exec (.kngWidthSwitch t) s = .next (leavesSys t s (kngSetWidth x.kng.nextWidth x)))

/-- O22. LINK_UP of a port that can have a link starts the link at the given speed; LINK_DOWN ends it, with the frame in transmission
lost and the queued frames held or dropped; HOLD_EXPIRY drops what is still queued; PHY_POLL keeps the PHY's link status and,
on a service port, follows it; SVC_REFCLK_LOSS takes the link of a service port down. -/
def Obligations.Links_take_effect : Prop :=
  -- LINK_UP (R138, R4, R132)
  (∀ (t : Nat) (port : Fin 76) (mbps rate : Nat) (half : Bool) (s : State), let x := sysAt t s
      stepDone x (if port.val = 72 then 6 else 11) = true →
      linkCapable x port.val = true →
      isKng x port.val = false →
      (if 64 ≤ port.val ∧ port.val ≤ 71 then svcRate x port.val else some (typeSpeed x port.val mbps, false)) = some (rate, half) →
      ¬((Machine.port x port.val).linkUp = true ∧ (Machine.port x port.val).speed = rate) →
      Machine.exec (.linkUp t port mbps) s = .next (leavesSys t s (linkUpPort port.val rate half x))) ∧
  -- LINK_UP of a link that is up at its speed (R138)
  (∀ (t : Nat) (port : Fin 76) (mbps rate : Nat) (half : Bool) (s : State), let x := sysAt t s
      stepDone x (if port.val = 72 then 6 else 11) = true →
      linkCapable x port.val = true →
      isKng x port.val = false →
      (if 64 ≤ port.val ∧ port.val ≤ 71 then svcRate x port.val else some (typeSpeed x port.val mbps, false)) = some (rate, half) →
      (Machine.port x port.val).linkUp = true ∧ (Machine.port x port.val).speed = rate →
      Machine.exec (.linkUp t port mbps) s = .next (leavesSys t s (x))) ∧
  -- LINK_UP of a service port whose PHYs agree on no mode (R138, R132)
  (∀ (t : Nat) (port : Fin 76) (mbps : Nat) (s : State), let x := sysAt t s
      stepDone x (if port.val = 72 then 6 else 11) = true →
      linkCapable x port.val = true →
      isKng x port.val = false →
      64 ≤ port.val ∧ port.val ≤ 71 →
      svcRate x port.val = none →
      Machine.exec (.linkUp t port mbps) s = .next (leavesSys t s (x))) ∧
  -- LINK_UP of a port that cannot have a link (R138)
  (∀ (t : Nat) (port : Fin 76) (mbps : Nat) (s : State), let x := sysAt t s
      stepDone x (if port.val = 72 then 6 else 11) = false ∨ linkCapable x port.val = false ∨ isKng x port.val = true →
      Machine.exec (.linkUp t port mbps) s = .next (leavesSys t s (x))) ∧
  -- LINK_DOWN (R139, R142)
  (∀ (t : Nat) (port : Fin 76) (s : State), let x := sysAt t s
      (Machine.port x port.val).linkUp = true →
      Machine.exec (.linkDown t port) s = .next (leavesSys t s (let y := clearCredits port.val (abortTx port.val (cutRx port.val x))
        let y := updPort port.val (fun q => { q with linkUp := false, downAt := y.now, linkAt := y.now, lastChange := dc y, pause := [], lpiTx := false, lpiRx := false, lpiWake := none, verify := 0, hold := false, mmOpen := false, mmBytes := [], fcSent := 0, plca := 0, macCtl := [], backoff := none }) y
        let y := (portLanes y port.val).foldl (fun y n => updLane n (fun l => { l with link := 0, fec := false }) y) y
        if obj y (pix port.val 5) 1 = 0 ∨ admin y port.val = false then
          let (y, _) := dropQueued port.val (Ctr.linkDownDrop port.val) y
          raise 0x0402 1 (u8b port.val ++ u32b 0) y
        else
          let l := queuedFor y port.val
          let y := l.foldl (fun y c => updCopy c.1 (fun c => { c with wasHeld := true }) y) y
          raise 0x0402 1 (u8b port.val ++ u32b l.length) (updPort port.val (fun q => { q with held := true }) y)))) ∧
  -- HOLD_EXPIRY (R141)
  (∀ (t : Nat) (port : Fin 76) (s : State), let x := sysAt t s
      (Machine.port x port.val).held = true →
      holdEnd x port.val ≤ x.now →
      Machine.exec (.holdExpiry t port) s = .next (leavesSys t s (let y := dropQueued port.val (Ctr.linkDownDrop port.val) x
        raise 0x0403 1 (u8b port.val ++ u32b y.2) (updPort port.val (fun q => { q with held := false }) y.1)))) ∧
  -- PHY_POLL of another port than a service port (R144)
  (∀ (t : Nat) (port : Fin 76) (line adv lpa : BitVec 16) (clk : Bool) (s : State), let x := sysAt t s
      stewardsRun x = true →
      x.devState ≠ 0 →
      port.val < 73 →
      isKng x port.val = false →
      obj x (pix port.val 6) 3 ≠ 0 →
      obj x (pix port.val 6) 1 ≠ 0 →
      port.val < 64 ∨ 71 < port.val →
      Machine.exec (.phyPoll t port line adv lpa clk) s = .next (leavesSys t s (updPort port.val (fun q => { q with phyLink := bit line.toNat 2, pollAt := x.now }) x))) ∧
  -- PHY_POLL of a service port whose PHY has no link, or no clock (R144, R498)
  (∀ (t : Nat) (port : Fin 76) (line adv lpa : BitVec 16) (clk : Bool) (s : State), let x := sysAt t s
      let y := updPort port.val (fun q => { q with refclkLost := !clk, resolved := if bit line.toNat 2 then phyResolve adv.toNat lpa.toNat else none }) (updPort port.val (fun q => { q with phyLink := bit line.toNat 2, pollAt := x.now }) x);
      stewardsRun x = true →
      x.devState ≠ 0 →
      port.val < 73 →
      isKng x port.val = false →
      obj x (pix port.val 6) 3 ≠ 0 →
      obj x (pix port.val 6) 1 ≠ 0 →
      64 ≤ port.val ∧ port.val ≤ 71 →
      bit line.toNat 2 = false ∨ clk = false →
      Machine.exec (.phyPoll t port line adv lpa clk) s = .next (leavesSys t s (linkDownEffect port.val y))) ∧
  -- PHY_POLL of a service port whose PHY has link (R144, R132, R138)
  (∀ (t : Nat) (port : Fin 76) (line adv lpa : BitVec 16) (clk : Bool) (rate : Nat) (half : Bool) (s : State), let x := sysAt t s
      let y := updPort port.val (fun q => { q with refclkLost := !clk, resolved := if bit line.toNat 2 then phyResolve adv.toNat lpa.toNat else none }) (updPort port.val (fun q => { q with phyLink := bit line.toNat 2, pollAt := x.now }) x);
      stewardsRun x = true →
      x.devState ≠ 0 →
      port.val < 73 →
      isKng x port.val = false →
      obj x (pix port.val 6) 3 ≠ 0 →
      obj x (pix port.val 6) 1 ≠ 0 →
      64 ≤ port.val ∧ port.val ≤ 71 →
      bit line.toNat 2 = true ∧ clk = true →
      (Machine.port y port.val).linkUp = false →
      linkCapable y port.val = true →
      svcRate y port.val = some (rate, half) →
      Machine.exec (.phyPoll t port line adv lpa clk) s = .next (leavesSys t s (linkUpPort port.val rate half y))) ∧
  -- PHY_POLL of a service port that is up (R144)
  (∀ (t : Nat) (port : Fin 76) (line adv lpa : BitVec 16) (clk : Bool) (s : State), let x := sysAt t s
      let y := updPort port.val (fun q => { q with refclkLost := !clk, resolved := if bit line.toNat 2 then phyResolve adv.toNat lpa.toNat else none }) (updPort port.val (fun q => { q with phyLink := bit line.toNat 2, pollAt := x.now }) x);
      stewardsRun x = true →
      x.devState ≠ 0 →
      port.val < 73 →
      isKng x port.val = false →
      obj x (pix port.val 6) 3 ≠ 0 →
      obj x (pix port.val 6) 1 ≠ 0 →
      64 ≤ port.val ∧ port.val ≤ 71 →
      bit line.toNat 2 = true ∧ clk = true →
      (Machine.port y port.val).linkUp = true →
      Machine.exec (.phyPoll t port line adv lpa clk) s = .next (leavesSys t s (y))) ∧
  -- PHY_POLL of a service port whose PHYs agree on no mode (R144, R132)
  (∀ (t : Nat) (port : Fin 76) (line adv lpa : BitVec 16) (clk : Bool) (s : State), let x := sysAt t s
      let y := updPort port.val (fun q => { q with refclkLost := !clk, resolved := if bit line.toNat 2 then phyResolve adv.toNat lpa.toNat else none }) (updPort port.val (fun q => { q with phyLink := bit line.toNat 2, pollAt := x.now }) x);
      stewardsRun x = true →
      x.devState ≠ 0 →
      port.val < 73 →
      isKng x port.val = false →
      obj x (pix port.val 6) 3 ≠ 0 →
      obj x (pix port.val 6) 1 ≠ 0 →
      64 ≤ port.val ∧ port.val ≤ 71 →
      bit line.toNat 2 = true ∧ clk = true →
      linkCapable y port.val = false ∨ svcRate y port.val = none →
      Machine.exec (.phyPoll t port line adv lpa clk) s = .next (leavesSys t s (y))) ∧
  -- PHY_POLL of a port that is not polled (R144)
  (∀ (t : Nat) (port : Fin 76) (line adv lpa : BitVec 16) (clk : Bool) (s : State), let x := sysAt t s
      stewardsRun x = true →
      x.devState ≠ 0 →
      73 ≤ port.val ∨ isKng x port.val = true ∨ obj x (pix port.val 6) 3 = 0 ∨ obj x (pix port.val 6) 1 = 0 →
      Machine.exec (.phyPoll t port line adv lpa clk) s = .next (leavesSys t s (x))) ∧
  -- SVC_REFCLK_LOSS (R498)
  (∀ (t : Nat) (port : Fin 76) (s : State), let x := sysAt t s
      64 ≤ port.val ∧ port.val ≤ 71 →
      Machine.exec (.svcRefclkLoss t port) s = .next (leavesSys t s (linkDownEffect port.val (updPort port.val (fun q => { q with refclkLost := true }) x))))

/-- O23. COLLISION of a half-duplex transmission sends the frame to back-off, or drops it when late or at the attempt limit;
BACKOFF_EXPIRY starts it anew; PLCA_BEACON_RX, PLCA_BEACON_LOSS and PLCA_TO_TIMER_EXPIRY run the cycle; EEE_IDLE_EXPIRY enters
low-power idle unless a window opens soon, LPI_WAKE_DONE leaves it, PARTNER_LPI follows the partner. -/
def Obligations.Half_duplex_and_low_power_take_effect : Prop :=
  -- COLLISION after 512 bit times (R134)
  (∀ (t : Nat) (port : Fin 76) (bitTimes draw id : Nat) (s : State), let x := sysAt t s
      (Machine.port x port.val).tx = some id →
      (Machine.port x port.val).half = true →
      (copy x id).st = .sending →
      512 < bitTimes →
      Machine.exec (.collision t port bitTimes draw) s = .next (leavesSys t s (collisionDrop port.val id (Ctr.txLateColl port.val) (bump (Ctr.txCollision port.val) x)))) ∧
  -- COLLISION at the attempt limit (R134)
  (∀ (t : Nat) (port : Fin 76) (bitTimes draw id : Nat) (s : State), let x := sysAt t s
      (Machine.port x port.val).tx = some id →
      (Machine.port x port.val).half = true →
      (copy x id).st = .sending →
      bitTimes ≤ 512 →
      obj x (pix port.val 3) 2 ≤ (Machine.port x port.val).attempts + 1 →
      Machine.exec (.collision t port bitTimes draw) s = .next (leavesSys t s (collisionDrop port.val id (Ctr.txExcessColl port.val) (bump (Ctr.txCollision port.val) x)))) ∧
  -- COLLISION otherwise (R133, R134)
  (∀ (t : Nat) (port : Fin 76) (bitTimes draw id : Nat) (s : State), let x := sysAt t s
      (Machine.port x port.val).tx = some id →
      (Machine.port x port.val).half = true →
      (copy x id).st = .sending →
      bitTimes ≤ 512 →
      (Machine.port x port.val).attempts + 1 < obj x (pix port.val 3) 2 →
      Machine.exec (.collision t port bitTimes draw) s = .next (leavesSys t s (let n := (Machine.port x port.val).attempts + 1
        let till := x.now + bitTicks (32 + 512 * (draw % 2 ^ (min n 10))) (linkSpeed x port.val)
        let gap := x.now + bitTicks (32 + obj x (pix port.val 3) 3) (linkSpeed x port.val)
        updPort port.val (fun q => { q with tx := none, txClass := none, retry := some id, attempts := n, backoff := some till, free := max till gap })
          (updCopy id (fun c => { c with st := .held }) (bump (Ctr.txCollision port.val) x))))) ∧
  -- BACKOFF_EXPIRY (R133)
  (∀ (t : Nat) (port : Fin 76) (till : Nat) (s : State), let x := sysAt t s
      (Machine.port x port.val).backoff = some till →
      till ≤ x.now →
      Machine.exec (.backoffExpiry t port) s = .next (leavesSys t s (schedulerEffect port.val (updPort port.val (fun q => { q with backoff := none }) x)))) ∧
  -- PLCA_BEACON_RX (R135)
  (∀ (t : Nat) (port : Fin 76) (s : State), let x := sysAt t s
      plcaOn x port.val = true →
      obj x (pix port.val 3) 5 ≠ 0 →
      Machine.exec (.plcaBeaconRx t port) s = .next (leavesSys t s (updPort port.val (fun q => { q with plca := 2, plcaId := 0, plcaBurst := 0, plcaAt := x.now, plcaTimer := x.now }) x))) ∧
  -- PLCA_BEACON_LOSS (R135)
  (∀ (t : Nat) (port : Fin 76) (s : State), let x := sysAt t s
      plcaOn x port.val = true →
      obj x (pix port.val 3) 5 ≠ 0 →
      (Machine.port x port.val).plca ≠ 1 →
      (Machine.port x port.val).plcaAt + bitTicks 4000 10 ≤ x.now →
      Machine.exec (.plcaBeaconLoss t port) s = .next (leavesSys t s (bump (Ctr.svcPlcaBeaconLoss port.val) (updPort port.val (fun q => { q with plca := 1 }) x)))) ∧
  -- PLCA_TO_TIMER_EXPIRY at the end of the cycle of the coordinator (R135)
  (∀ (t : Nat) (port : Fin 76) (s : State), let x := sysAt t s
      plcaOn x port.val = true →
      (Machine.port x port.val).plca = 2 →
      (Machine.port x port.val).tx = none →
      (Machine.port x port.val).rx = none →
      (Machine.port x port.val).plcaTimer + bitTicks (plcaTimerBits x port.val) 10 ≤ x.now →
      obj x (pix port.val 3) 5 = 0 ∧ obj x (pix port.val 3) 6 ≤ (Machine.port x port.val).plcaId + 1 →
      Machine.exec (.plcaToTimerExpiry t port) s = .next (leavesSys t s (updPort port.val (fun q => { q with plca := 2, plcaId := 0, plcaBurst := 0, plcaAt := x.now, plcaTimer := x.now }) x))) ∧
  -- PLCA_TO_TIMER_EXPIRY within the cycle (R135)
  (∀ (t : Nat) (port : Fin 76) (s : State), let x := sysAt t s
      plcaOn x port.val = true →
      (Machine.port x port.val).plca = 2 →
      (Machine.port x port.val).tx = none →
      (Machine.port x port.val).rx = none →
      (Machine.port x port.val).plcaTimer + bitTicks (plcaTimerBits x port.val) 10 ≤ x.now →
      ¬(obj x (pix port.val 3) 5 = 0 ∧ obj x (pix port.val 3) 6 ≤ (Machine.port x port.val).plcaId + 1) →
      Machine.exec (.plcaToTimerExpiry t port) s = .next (leavesSys t s (updPort port.val (fun q => { q with plcaId := min 255 (q.plcaId + 1), plcaBurst := 0, plcaTimer := x.now }) x))) ∧
  -- PLCA_TO_TIMER_EXPIRY while PLCA is off, or the medium is used (R135)
  (∀ (t : Nat) (port : Fin 76) (s : State), let x := sysAt t s
      plcaOn x port.val = false ∨ (Machine.port x port.val).plca ≠ 2 ∨ (Machine.port x port.val).tx.isSome = true ∨ (Machine.port x port.val).rx.isSome = true ∨ x.now < (Machine.port x port.val).plcaTimer + bitTicks (plcaTimerBits x port.val) 10 →
      Machine.exec (.plcaToTimerExpiry t port) s = .next (leavesSys t s (x))) ∧
  -- EEE_IDLE_EXPIRY (R137, R106)
  (∀ (t : Nat) (port : Fin 76) (s : State), let x := sysAt t s
      port.val < 64 →
      isKng x port.val = false →
      flag x (pix port.val 4) 1 = true →
      (Machine.port x port.val).linkUp = true →
      (Machine.port x port.val).lpiTx = false →
      ((Machine.port x port.val).tx = none ∧ (Machine.port x port.val).suspended = none ∧ (Machine.port x port.val).macCtl = [] ∧ (List.range 8).any (fun c => classWaits x port.val c) = false) →
      windowSoon x port.val (wakeTime x port.val + Config.ticksPerUs) = false →
      (portLanes x port.val).any (laneHeld x) = false →
      (Machine.port x port.val).idleSince + obj x (pix port.val 4) 2 * Config.ticksPerUs ≤ x.now →
      Machine.exec (.eeeIdleExpiry t port) s = .next (leavesSys t s (let y := bump (Ctr.eeeLpiEntry port.val) (updPort port.val (fun q => { q with lpiTx := true, lpiWake := none }) x)
        (portLanes y port.val).foldl (fun y n => aimLane n .quietLpi y) y))) ∧
  -- EEE_IDLE_EXPIRY of a port that is busy, held, not idle so long, or without low-power idle (R137, R106)
  (∀ (t : Nat) (port : Fin 76) (s : State), let x := sysAt t s
      ¬((port.val < 64) ∧ (isKng x port.val = false) ∧ (flag x (pix port.val 4) 1 = true) ∧ ((Machine.port x port.val).linkUp = true) ∧ ((Machine.port x port.val).lpiTx = false) ∧ (((Machine.port x port.val).tx = none ∧ (Machine.port x port.val).suspended = none ∧ (Machine.port x port.val).macCtl = [] ∧ (List.range 8).any (fun c => classWaits x port.val c) = false)) ∧ (windowSoon x port.val (wakeTime x port.val + Config.ticksPerUs) = false) ∧ ((portLanes x port.val).any (laneHeld x) = false) ∧ ((Machine.port x port.val).idleSince + obj x (pix port.val 4) 2 * Config.ticksPerUs ≤ x.now)) →
      Machine.exec (.eeeIdleExpiry t port) s = .next (leavesSys t s (x))) ∧
  -- LPI_WAKE_DONE (R137)
  (∀ (t : Nat) (port : Fin 76) (start : Nat) (s : State), let x := sysAt t s
      (Machine.port x port.val).lpiWake = some start →
      start + wakeTime x port.val ≤ x.now →
      Machine.exec (.lpiWakeDone t port) s = .next (leavesSys t s (let y := updPort port.val (fun q => { q with lpiTx := false, lpiWake := none, idleSince := x.now }) x
        (portLanes y port.val).foldl (fun y n => updLane n (enterPower .active) y) y))) ∧
  -- PARTNER_LPI (R137)
  (∀ (t : Nat) (port : Fin 76) (on : Bool) (s : State), let x := sysAt t s
      (Machine.port x port.val).linkUp = true →
      Machine.exec (.partnerLpi t port on) s = .next (leavesSys t s (updPort port.val (fun q => { q with lpiRx := on }) x)))

/-- O24. Written directly by a session that may, to a port that carries traffic and whose MDIO is free, each of the six commands queues
its frame at its commit point, with port, op, prtad, devad and data; MDIO_FRAME_DONE ends the oldest frame and keeps what a
read brought. -/
def Obligations.MDIO_commands_take_effect : Prop :=
  -- MDIO_C22_READ (R143, R72)
  (∀ (t : Nat) (sid : Nat) (port : Fin 76) (prtad devad : Fin 32) (s : State), let x := atTick t s
      port.val ≤ 72 →
      mayCommand x.1 sid (pix port.val 6) 4 (0 * 2 ^ 60 + prtad.val * 2 ^ 48 + devad.val * 2 ^ 40) →
      (Machine.port (commandPoint sid x).1 port.val).mdioBusy = false →
      (commandPoint sid x).1.mdio.length < 16 →
      Machine.exec (.mdioC22Read t sid port prtad devad) s = .next (leaves s (settled sid x (onSys (fun s => updPort port.val (fun q => { q with mdioBusy := true })
          { s with mdio := s.mdio ++ [{ port := port.val, op := 0, prtad := prtad.val, devad := devad.val, data := 0 }] }) (commandPoint sid x))))) ∧
  -- MDIO_C22_WRITE (R143, R72)
  (∀ (t : Nat) (sid : Nat) (port : Fin 76) (prtad devad : Fin 32) (data : BitVec 16) (s : State), let x := atTick t s
      port.val ≤ 72 →
      mayCommand x.1 sid (pix port.val 6) 4 (1 * 2 ^ 60 + prtad.val * 2 ^ 48 + devad.val * 2 ^ 40 + data.toNat) →
      (Machine.port (commandPoint sid x).1 port.val).mdioBusy = false →
      (commandPoint sid x).1.mdio.length < 16 →
      Machine.exec (.mdioC22Write t sid port prtad devad data) s = .next (leaves s (settled sid x (onSys (fun s => updPort port.val (fun q => { q with mdioBusy := true })
          { s with mdio := s.mdio ++ [{ port := port.val, op := 1, prtad := prtad.val, devad := devad.val, data := data.toNat }] }) (commandPoint sid x))))) ∧
  -- MDIO_C45_ADDRESS (R143, R72)
  (∀ (t : Nat) (sid : Nat) (port : Fin 76) (prtad devad : Fin 32) (data : BitVec 16) (s : State), let x := atTick t s
      port.val ≤ 72 →
      mayCommand x.1 sid (pix port.val 6) 4 (2 * 2 ^ 60 + prtad.val * 2 ^ 48 + devad.val * 2 ^ 40 + data.toNat) →
      (Machine.port (commandPoint sid x).1 port.val).mdioBusy = false →
      (commandPoint sid x).1.mdio.length < 16 →
      Machine.exec (.mdioC45Address t sid port prtad devad data) s = .next (leaves s (settled sid x (onSys (fun s => updPort port.val (fun q => { q with mdioBusy := true })
          { s with mdio := s.mdio ++ [{ port := port.val, op := 2, prtad := prtad.val, devad := devad.val, data := data.toNat }] }) (commandPoint sid x))))) ∧
  -- MDIO_C45_WRITE (R143, R72)
  (∀ (t : Nat) (sid : Nat) (port : Fin 76) (prtad devad : Fin 32) (data : BitVec 16) (s : State), let x := atTick t s
      port.val ≤ 72 →
      mayCommand x.1 sid (pix port.val 6) 4 (3 * 2 ^ 60 + prtad.val * 2 ^ 48 + devad.val * 2 ^ 40 + data.toNat) →
      (Machine.port (commandPoint sid x).1 port.val).mdioBusy = false →
      (commandPoint sid x).1.mdio.length < 16 →
      Machine.exec (.mdioC45Write t sid port prtad devad data) s = .next (leaves s (settled sid x (onSys (fun s => updPort port.val (fun q => { q with mdioBusy := true })
          { s with mdio := s.mdio ++ [{ port := port.val, op := 3, prtad := prtad.val, devad := devad.val, data := data.toNat }] }) (commandPoint sid x))))) ∧
  -- MDIO_C45_READ (R143, R72)
  (∀ (t : Nat) (sid : Nat) (port : Fin 76) (prtad devad : Fin 32) (s : State), let x := atTick t s
      port.val ≤ 72 →
      mayCommand x.1 sid (pix port.val 6) 4 (4 * 2 ^ 60 + prtad.val * 2 ^ 48 + devad.val * 2 ^ 40) →
      (Machine.port (commandPoint sid x).1 port.val).mdioBusy = false →
      (commandPoint sid x).1.mdio.length < 16 →
      Machine.exec (.mdioC45Read t sid port prtad devad) s = .next (leaves s (settled sid x (onSys (fun s => updPort port.val (fun q => { q with mdioBusy := true })
          { s with mdio := s.mdio ++ [{ port := port.val, op := 4, prtad := prtad.val, devad := devad.val, data := 0 }] }) (commandPoint sid x))))) ∧
  -- MDIO_C45_READ_INC (R143, R72)
  (∀ (t : Nat) (sid : Nat) (port : Fin 76) (prtad devad : Fin 32) (s : State), let x := atTick t s
      port.val ≤ 72 →
      mayCommand x.1 sid (pix port.val 6) 4 (5 * 2 ^ 60 + prtad.val * 2 ^ 48 + devad.val * 2 ^ 40) →
      (Machine.port (commandPoint sid x).1 port.val).mdioBusy = false →
      (commandPoint sid x).1.mdio.length < 16 →
      Machine.exec (.mdioC45ReadInc t sid port prtad devad) s = .next (leaves s (settled sid x (onSys (fun s => updPort port.val (fun q => { q with mdioBusy := true })
          { s with mdio := s.mdio ++ [{ port := port.val, op := 5, prtad := prtad.val, devad := devad.val, data := 0 }] }) (commandPoint sid x))))) ∧
  -- MDIO_FRAME_DONE (R143)
  (∀ (t : Nat) (line : BitVec 16) (c : MdioCmd) (rest : List MdioCmd) (s : State), let x := sysAt t s
      x.mdio = c :: rest →
      Machine.exec (.mdioFrameDone t line) s = .next (leavesSys t s (updPort c.port (fun q => { q with mdioBusy := false, mdioDone := true, mdioSeq := (q.mdioSeq + 1) % 256, mdioData := if c.op = 0 ∨ c.op = 4 ∨ c.op = 5 then line.toNat else q.mdioData })
          { x with mdio := rest })))

/-- O25. REF_RECOVERY ends fallback ticks; TB_OFFSET_MEASUREMENT of a PTP or Knaing base and PPS_EDGE of its pin measure the base, with
the one step in UNSET and the servo in ACQUIRING or LOCKED; TB_STEP_TO steps a manual base in UNSET at its commit point, or
readies the step of a PPS base; TB_RESTEP is staged in an ARMED transaction; TB_INPUT_LOSS enters HOLDOVER. -/
def Obligations.Time_bases_take_effect : Prop :=
  -- REF_RECOVERY (R290)
  (∀ (t : Nat) (s : State), let x := sysAt t s
      x.fallback = true →
      Machine.exec (.refRecovery t) s = .next (leavesSys t s (updPlinth (fun p => { p with clocks := SMap.upd {} p.clocks 2 (fun v => { v with faulty := false, bad := 0 }) }) { x with fallback := false }))) ∧
  -- TB_OFFSET_MEASUREMENT by PTP in UNSET (R294, R293)
  (∀ (t : Nat) (b : Fin 4) (source : Nat) (s : State), let x := sysAt t s
      stewardsRun x = true →
      activeSource x b.val = 1 →
      inputPresent x b.val = true →
      (base x b.val).st = 1 →
      Machine.exec (.tbOffsetMeasurement t b source) s = .next (leavesSys t s (stepBase b.val source (setBase b.val { base x b.val with offset := (clock x b.val : Int) - source } x)))) ∧
  -- TB_OFFSET_MEASUREMENT by PTP in ACQUIRING or LOCKED (R294, R295)
  (∀ (t : Nat) (b : Fin 4) (source : Nat) (s : State), let x := sysAt t s
      stewardsRun x = true →
      activeSource x b.val = 1 →
      inputPresent x b.val = true →
      (base x b.val).st = 2 ∨ (base x b.val).st = 3 →
      (base x b.val).lastMeas < x.now →
      Machine.exec (.tbOffsetMeasurement t b source) s = .next (leavesSys t s (let off : Int := (clock x b.val : Int) - source
        let y := lockTurn b.val off (servo b.val off x)
        if activeSource y b.val = 1 then updPtpInst b.val (fun i => { i with offset := off }) y else y))) ∧
  -- TB_OFFSET_MEASUREMENT by the Knaing link in ACQUIRING or LOCKED (R294, R295, R299)
  (∀ (t : Nat) (b : Fin 4) (source : Nat) (s : State), let x := sysAt t s
      stewardsRun x = true →
      activeSource x b.val = 3 →
      inputPresent x b.val = true →
      (base x b.val).st = 2 ∨ (base x b.val).st = 3 →
      (base x b.val).lastMeas < x.now →
      Machine.exec (.tbOffsetMeasurement t b source) s = .next (leavesSys t s (let off : Int := x.kng.offsets.getD b.val 0
        let y := lockTurn b.val off (servo b.val off x)
        if activeSource y b.val = 1 then updPtpInst b.val (fun i => { i with offset := off }) y else y))) ∧
  -- TB_OFFSET_MEASUREMENT of a base that follows neither PTP nor the Knaing link (R294)
  (∀ (t : Nat) (b : Fin 4) (source : Nat) (s : State), let x := sysAt t s
      stewardsRun x = true →
      activeSource x b.val ≠ 1 ∧ activeSource x b.val ≠ 3 →
      Machine.exec (.tbOffsetMeasurement t b source) s = .next (leavesSys t s (x))) ∧
  -- TB_STEP_TO of a manual base (R293)
  (∀ (t : Nat) (sid : Nat) (b : Fin 4) (time : Nat) (s : State), let x := atTick t s
      bits time 47 16 ≤ 999999999 →
      mayCommand x.1 sid (tbIx b.val) 8 time →
      (base (commandPoint sid x).1 b.val).st = 1 →
      activeSource (commandPoint sid x).1 b.val = 0 →
      Machine.exec (.tbStepTo t sid b time) s = .next (leaves s (settled sid x (onSys (stepBase b.val (timeUnits time)) (commandPoint sid x))))) ∧
  -- TB_STEP_TO of a PPS base (R293, R314)
  (∀ (t : Nat) (sid : Nat) (b : Fin 4) (time : Nat) (s : State), let x := atTick t s
      bits time 47 16 ≤ 999999999 →
      mayCommand x.1 sid (tbIx b.val) 8 time →
      (base (commandPoint sid x).1 b.val).st = 1 →
      activeSource (commandPoint sid x).1 b.val = 2 →
      Machine.exec (.tbStepTo t sid b time) s = .next (leaves s (settled sid x (onSys (fun s => setBase b.val { base s b.val with stepTo := some (timeUnits time) } s) (commandPoint sid x))))) ∧
  -- TB_RESTEP, staged (R45, R297)
  (∀ (t : Nat) (sid : Nat) (b : Fin 4) (s : State), let x := atTick t s
      mayStage x.1 sid (tbIx b.val) 0x0E (1) →
      Machine.exec (.tbRestep t sid b) s = .next (leaves s (onSys (withStaged sid (tbIx b.val) 0x0E (1)) x))) ∧
  -- TB_INPUT_LOSS (R296)
  (∀ (t : Nat) (b : Fin 4) (s : State), let x := sysAt t s
      (base x b.val).st = 2 ∨ (base x b.val).st = 3 →
      (base x b.val).lastMeas + obj x (tbIx b.val) 0x0C * Config.ticksPerMs ≤ x.now ∨ inputPresent x b.val = false →
      Machine.exec (.tbInputLoss t b) s = .next (leavesSys t s (let r := rateUnits (base x b.val).freq
        raise 0x0702 2 (u8b b.val ++ toBEInt 8 r) (bump (Ctr.tbHoldoverEntry b.val) (setTbState b.val 4 (setRate b.val r x)))))) ∧
  -- TB_INPUT_LOSS of a base that is neither ACQUIRING nor LOCKED, or has its input (R296)
  (∀ (t : Nat) (b : Fin 4) (s : State), let x := sysAt t s
      ((base x b.val).st ≠ 2 ∧ (base x b.val).st ≠ 3) ∨ (x.now < (base x b.val).lastMeas + obj x (tbIx b.val) 0x0C * Config.ticksPerMs ∧ inputPresent x b.val = true) →
      Machine.exec (.tbInputLoss t b) s = .next (leavesSys t s (x))) ∧
  -- REF_RECOVERY of a time that does not fall back (R290)
  (∀ (t : Nat) (s : State), let x := sysAt t s
      x.fallback = false →
      Machine.exec (.refRecovery t) s = .next (leavesSys t s (x))) ∧
  -- PPS_EDGE of a pin that drives no base (R314)
  (∀ (t : Nat) (pin : Fin 4) (s : State), let x := sysAt t s
      stewardsRun x = true →
      cell x 0x0841 1 pin.val 0 ≠ 4 ∨ activeSource x (cell x 0x0841 1 pin.val 1) ≠ 2 ∨ ppsPin x (cell x 0x0841 1 pin.val 1) ≠ some pin.val →
      Machine.exec (.ppsEdge t pin) s = .next (leavesSys t s (x))) ∧
  -- PPS_EDGE (R314)
  (∀ (t : Nat) (pin : Fin 4) (b : Nat) (s : State), let x := sysAt t s
      stewardsRun x = true →
      cell x 0x0841 1 pin.val 0 = 4 →
      cell x 0x0841 1 pin.val 1 = b →
      activeSource x b = 2 →
      ppsPin x b = some pin.val →
      Machine.exec (.ppsEdge t pin) s = .next (leavesSys t s (let edge : Int := (stampOf x (clock x b) : Int) - cellI x 0x0841 1 pin.val 7 * 65536 / 1000
        let near : Int := (edge + secUnits / 2) / secUnits * secUnits
        Machine.measure b edge (if (base x b).st = 1 then (match (base x b).stepTo with | some w => ((w / secUnits * secUnits : Nat) : Int) | none => near) else near) x)))

/-- O26. TS_QUEUE_DRAIN hands every entry of a transmit time-stamp queue on; TIO_EDGE of a wanted edge on an event pin, 20 ns after the
last, enters the pin's queue when there is room; ACTION_EXECUTE of a row whose time has come, and ACTION_PULSE_END of one
whose pulse has ended, let the rows up to it act. -/
def Obligations.Time_stamps_and_actions_take_effect : Prop :=
  -- TS_QUEUE_DRAIN (R305)
  (∀ (t : Nat) (port : Fin 76) (s : State), let x := sysAt t s
      stewardsRun x = true →
      Machine.exec (.tsQueueDrain t port) s = .next (leavesSys t s ((Machine.port x port.val).tsq.foldl (fun y e => if e.log then tsLogEntry port.val e y else ptpStamp port.val e y) (updPort port.val (fun q => { q with tsq := [] }) x)))) ∧
  -- TIO_EDGE (R312)
  (∀ (t : Nat) (pin : Fin 4) (rising : Bool) (s : State), let x := sysAt t s
      stepDone x 11 = true →
      cell x 0x0841 1 pin.val 0 = 3 →
      ¬(cell x 0x0841 1 pin.val 6 = 1 ∧ rising = false) ∧ ¬(cell x 0x0841 1 pin.val 6 = 2 ∧ rising = true) →
      (Machine.pin x pin.val).lastEdge.all (fun l => decide (l + 25 ≤ x.now)) = true →
      ((Machine.pin x pin.val).events.filter (fun e => decide (cell x 0x0841 3 pin.val 0 < e.1))).length < 16 →
      Machine.exec (.tioEdge t pin rising) s = .next (leavesSys t s (let c := cell x 0x0841 1 pin.val
        let time := if c 1 < 4 ∧ (base x (c 1)).st = 0 then 0 else ((stampOf x (clock x (c 1)) : Int) - cellI x 0x0841 1 pin.val 7 * 65536 / 1000).toNat
        let y := updPin pin.val (fun p => { p with number := p.number + 1, lastEdge := some x.now, events := (p.number + 1, if rising then 1 else 2, time) :: p.events.take 15 }) x
        let y := if bit (obj y 0x7810 0x0D) pin.val then { y with triggers := y.triggers ++ [(4, y.now)] } else y
        if bit (obj y 0x0420 4) 2 ∧ bit (obj y 0x0420 7) pin.val ∧ (y.devState = 2 ∨ y.devState = 3) ∧ y.nrg.pendingWake.isNone then
          { y with nrg := { y.nrg with pendingWake := some 3 } }
        else y))) ∧
  -- TIO_EDGE within 20 ns of the last (R312)
  (∀ (t : Nat) (pin : Fin 4) (rising : Bool) (s : State), let x := sysAt t s
      stepDone x 11 = true →
      cell x 0x0841 1 pin.val 0 = 3 →
      ¬(cell x 0x0841 1 pin.val 6 = 1 ∧ rising = false) ∧ ¬(cell x 0x0841 1 pin.val 6 = 2 ∧ rising = true) →
      (Machine.pin x pin.val).lastEdge.any (fun l => decide (x.now < l + 25)) = true →
      Machine.exec (.tioEdge t pin rising) s = .next (leavesSys t s (bump (Ctr.tioGlitch pin.val) x))) ∧
  -- TIO_EDGE of a full queue (R312)
  (∀ (t : Nat) (pin : Fin 4) (rising : Bool) (s : State), let x := sysAt t s
      stepDone x 11 = true →
      cell x 0x0841 1 pin.val 0 = 3 →
      ¬(cell x 0x0841 1 pin.val 6 = 1 ∧ rising = false) ∧ ¬(cell x 0x0841 1 pin.val 6 = 2 ∧ rising = true) →
      (Machine.pin x pin.val).lastEdge.any (fun l => decide (x.now < l + 25)) = false →
      16 ≤ ((Machine.pin x pin.val).events.filter (fun e => decide (cell x 0x0841 3 pin.val 0 < e.1))).length →
      Machine.exec (.tioEdge t pin rising) s = .next (leavesSys t s (bump (Ctr.tioEventOverflow pin.val) x))) ∧
  -- TIO_EDGE that is not wanted, or before step 11 of a start-up (R312)
  (∀ (t : Nat) (pin : Fin 4) (rising : Bool) (s : State), let x := sysAt t s
      stepDone x 11 = false ∨ cell x 0x0841 1 pin.val 0 ≠ 3 ∨ (cell x 0x0841 1 pin.val 6 = 1 ∧ rising = false) ∨ (cell x 0x0841 1 pin.val 6 = 2 ∧ rising = true) →
      Machine.exec (.tioEdge t pin rising) s = .next (leavesSys t s (x))) ∧
  -- ACTION_EXECUTE (R315, R317)
  (∀ (t : Nat) (row : Fin 64) (s : State), let x := sysAt t s
      (action x row.val).state = 1 →
      (action x row.val).due ≤ clock x (cell x 0x0842 1 row.val 1) →
      Machine.exec (.actionExecute t row) s = .next (leavesSys t s ((List.range (row.val + 1)).foldl (fun y i => actionTurn i (pulseTurn i y)) x))) ∧
  -- ACTION_PULSE_END (R317)
  (∀ (t : Nat) (row : Fin 64) (u : Nat) (s : State), let x := sysAt t s
      (action x row.val).pulseEnd = some u →
      u ≤ clock x (cell x 0x0842 1 row.val 1) →
      Machine.exec (.actionPulseEnd t row) s = .next (leavesSys t s ((List.range (row.val + 1)).foldl (fun y i => actionTurn i (pulseTurn i y)) x)))

/-- O27. Written directly by a session that may: SF_UNBLOCK, SG_CLEAR, METER_CLEAR_RED, FRER_GEN_RESET and FRER_RCVY_RESET release or
reset their row at the commit point. FRER_RECOVERY_TIMEOUT resets a function that has passed no frame for reset_ms;
FRER_LATENT_TEST finds the latent error or its absence; FRER_LATENT_PERIOD_RESET restarts the counts. -/
def Obligations.Stream_states_are_released_and_tested : Prop :=
  -- SF_UNBLOCK (R348)
  (∀ (t : Nat) (sid : Nat) (h : Fin 4096) (s : State), let x := atTick t s
      mayCommand x.1 sid 0x6000 3 (h.val) →
      Machine.exec (.sfUnblock t sid h) s = .next (leaves s (settled sid x (onSys (fun s => { s with blocked := SMap.set false s.blocked h.val false }) (commandPoint sid x))))) ∧
  -- SG_CLEAR (R349)
  (∀ (t : Nat) (sid : Nat) (gate : Fin 1024) (s : State), let x := atTick t s
      mayCommand x.1 sid 0x6100 4 (gate.val) →
      Machine.exec (.sgClear t sid gate) s = .next (leaves s (settled sid x (onSys (fun s => setStreamGate gate.val { streamGate s gate.val with latched := false } s) (commandPoint sid x))))) ∧
  -- METER_CLEAR_RED (R351)
  (∀ (t : Nat) (sid : Nat) (meter : Fin 4096) (s : State), let x := atTick t s
      mayCommand x.1 sid 0x6200 3 (meter.val) →
      Machine.exec (.meterClearRed t sid meter) s = .next (leaves s (settled sid x (onSys (fun s => setMeter meter.val { Machine.meter s meter.val with red := false } s) (commandPoint sid x))))) ∧
  -- FRER_GEN_RESET (R360)
  (∀ (t : Nat) (sid : Nat) (fn : Fin 2048) (s : State), let x := atTick t s
      mayCommand x.1 sid 0x6400 4 (fn.val) →
      Machine.exec (.frerGenReset t sid fn) s = .next (leaves s (settled sid x (onSys (fun s => { s with genSeq := SMap.set 0 s.genSeq fn.val 0 }) (commandPoint sid x))))) ∧
  -- FRER_RCVY_RESET (R368)
  (∀ (t : Nat) (sid : Nat) (fn : Fin 2048) (s : State), let x := atTick t s
      mayCommand x.1 sid 0x6400 7 (fn.val) →
      Machine.exec (.frerRcvyReset t sid fn) s = .next (leaves s (settled sid x (onSys (rcvyReset fn.val) (commandPoint sid x))))) ∧
  -- FRER_RECOVERY_TIMEOUT (R368)
  (∀ (t : Nat) (fn : Fin 2048) (last : Nat) (s : State), let x := sysAt t s
      (rcvy x fn.val).lastPass = some last →
      cellB x 0x6400 5 fn.val 0 = true →
      last + (rcvy x fn.val).resetMs * Config.ticksPerMs ≤ x.now →
      Machine.exec (.frerRecoveryTimeout t fn) s = .next (leavesSys t s (rcvyReset fn.val x))) ∧
  -- FRER_LATENT_TEST with a latent error (R369)
  (∀ (t : Nat) (fn : Fin 2048) (s : State), let x := sysAt t s
      stewardsRun x = true →
      cell x 0x6400 5 fn.val 0 ≠ 0 →
      cell x 0x6400 5 fn.val 11 ≠ 0 →
      (rcvy x fn.val).p * (cell x 0x6400 5 fn.val 12 - 1) > cell x 0x6400 5 fn.val 13 + (rcvy x fn.val).x →
      Machine.exec (.frerLatentTest t fn) s = .next (leavesSys t s (let y := bump (Ctr.frerLatentError fn.val) (setRcvy fn.val { rcvy x fn.val with latent := true } x)
        if (rcvy x fn.val).latent then y else raise 0x0804 2 (u16b fn.val) y))) ∧
  -- FRER_LATENT_TEST without (R369)
  (∀ (t : Nat) (fn : Fin 2048) (s : State), let x := sysAt t s
      stewardsRun x = true →
      cell x 0x6400 5 fn.val 0 ≠ 0 →
      cell x 0x6400 5 fn.val 11 ≠ 0 →
      (rcvy x fn.val).p * (cell x 0x6400 5 fn.val 12 - 1) ≤ cell x 0x6400 5 fn.val 13 + (rcvy x fn.val).x →
      Machine.exec (.frerLatentTest t fn) s = .next (leavesSys t s (setRcvy fn.val { rcvy x fn.val with latent := false } x))) ∧
  -- FRER_LATENT_PERIOD_RESET (R369)
  (∀ (t : Nat) (fn : Fin 2048) (s : State), let x := sysAt t s
      stewardsRun x = true →
      cellB x 0x6400 5 fn.val 0 = true →
      cellB x 0x6400 5 fn.val 11 = true →
      Machine.exec (.frerLatentPeriodReset t fn) s = .next (leavesSys t s (setRcvy fn.val { rcvy x fn.val with p := 0, x := 0 } x)))

/-- O28. For a block of the memory once the HBM is up: HBM_BLOCK_READ of a block in an untouched region changes nothing; of another it
counts what decoding found, and an uncorrectable block is poisoned, logged and made a candidate; HBM_BLOCK_WRITE stores the
block; NARROW_WRITE updates or opens the merge entry, which stays until it is full or the window is 0; MERGE_WINDOW_EXPIRY
flushes an entry whose window has ended. -/
def Obligations.HBM_blocks_are_read_and_written : Prop :=
  -- HBM_BLOCK_READ in an untouched region (R375, R386)
  (∀ (t : Nat) (lba : Nat) (owner : Fin 10) (noise : List Disturbance) (s : State), let x := atTick t s
      let y := onSys (claim lba owner.val) x;
      lba < Config.memBlocks →
      stepDone x.1 8 = true →
      touched y.1 lba = false →
      Machine.exec (.hbmBlockRead t lba owner noise) s = .next (leaves s (y))) ∧
  -- HBM_BLOCK_READ of a block that decodes (R375)
  (∀ (t : Nat) (lba : Nat) (owner : Fin 10) (noise : List Disturbance) (s : State), let x := atTick t s
      let y := onSys (claim lba owner.val) x;
      lba < Config.memBlocks →
      stepDone x.1 8 = true →
      touched y.1 lba = true →
      (decodeAt lba noise y).verdict ≠ 4 →
      Machine.exec (.hbmBlockRead t lba owner noise) s = .next (leaves s (onSys (fun s => countDecoded lba (decodeAt lba noise y) (countReports lba noise (hbmWake s))) y))) ∧
  -- HBM_BLOCK_READ of an uncorrectable block (R375, R379)
  (∀ (t : Nat) (lba : Nat) (owner : Fin 10) (noise : List Disturbance) (s : State), let x := atTick t s
      let y := onSys (claim lba owner.val) x;
      lba < Config.memBlocks →
      stepDone x.1 8 = true →
      touched y.1 lba = true →
      (decodeAt lba noise y).verdict = 4 →
      Machine.exec (.hbmBlockRead t lba owner noise) s = .next (leaves s (let d := decodeAt lba noise y
        let z := writePoison lba d (countDecoded lba d (countReports lba noise (hbmWake y.1)), y.2)
        candidate lba 1 (uncorrectable lba (ownerOf z.1 lba) 1 z.1, z.2)))) ∧
  -- HBM_BLOCK_READ before step 8 of a start-up (R375, R479)
  (∀ (t : Nat) (lba : Nat) (owner : Fin 10) (noise : List Disturbance) (s : State), let x := atTick t s
      lba < Config.memBlocks →
      stepDone x.1 8 = false →
      Machine.exec (.hbmBlockRead t lba owner noise) s = .next (leaves s (x))) ∧
  -- HBM_BLOCK_WRITE (R376)
  (∀ (t : Nat) (lba : Nat) (owner : Fin 10) (data : List Byte) (s : State), let x := atTick t s
      lba < Config.memBlocks →
      stepDone x.1 8 = true →
      Machine.exec (.hbmBlockWrite t lba owner data) s = .next (leaves s (onSys (spoil lba) (storeBlock lba false (padRight 512 data) (onSys (claim lba owner.val) x))))) ∧
  -- HBM_BLOCK_WRITE before step 8 of a start-up (R376, R479)
  (∀ (t : Nat) (lba : Nat) (owner : Fin 10) (data : List Byte) (s : State), let x := atTick t s
      lba < Config.memBlocks →
      stepDone x.1 8 = false →
      Machine.exec (.hbmBlockWrite t lba owner data) s = .next (leaves s (x))) ∧
  -- NARROW_WRITE to a merge entry that it does not fill (R382)
  (∀ (t : Nat) (lba : Nat) (owner : Fin 10) (words : List (Fin 64 × List Byte)) (e : MergeEntry) (s : State), let x := atTick t s
      lba < Config.memBlocks →
      stepDone x.1 8 = true →
      words ≠ [] →
      mergeOf x.1 lba = some e →
      (e.puts words).mask ≠ 2 ^ 64 - 1 →
      obj x.1 0x0620 1 ≠ 0 →
      Machine.exec (.narrowWrite t lba owner words) s = .next (leaves s (onSys (fun s => spoil lba (updMem (fun m => { m with merge := m.merge.map (fun e => if e.lba = lba then e.puts words else e) }) (claim lba owner.val s))) x))) ∧
  -- NARROW_WRITE of a block without an entry, with room (R382)
  (∀ (t : Nat) (lba : Nat) (owner : Fin 10) (words : List (Fin 64 × List Byte)) (s : State), let x := atTick t s
      lba < Config.memBlocks →
      stepDone x.1 8 = true →
      words ≠ [] →
      mergeOf x.1 lba = none →
      x.1.mem.merge.length < 256 →
      obj x.1 0x0620 1 ≠ 0 →
      (({ lba := lba, mask := 0, data := List.replicate 512 0, at_ := x.1.now } : MergeEntry).puts words).mask ≠ 2 ^ 64 - 1 →
      Machine.exec (.narrowWrite t lba owner words) s = .next (leaves s (onSys (fun s => spoil lba (updMem (fun m => { m with merge := m.merge ++ [({ lba := lba, mask := 0, data := List.replicate 512 0, at_ := x.1.now } : MergeEntry).puts words] }) (claim lba owner.val s))) x))) ∧
  -- NARROW_WRITE that fills its entry, or with a window of 0 (R382, R383)
  (∀ (t : Nat) (lba : Nat) (owner : Fin 10) (words : List (Fin 64 × List Byte)) (e : MergeEntry) (s : State), let x := atTick t s
      let y := mergeWords lba words (onSys (claim lba owner.val) x);
      lba < Config.memBlocks →
      stepDone x.1 8 = true →
      words ≠ [] →
      mergeOf y.1 lba = some e →
      e.mask = 2 ^ 64 - 1 ∨ obj y.1 0x0620 1 = 0 →
      Machine.exec (.narrowWrite t lba owner words) s = .next (leaves s (onSys (spoil lba) (flushEntry e [] y)))) ∧
  -- NARROW_WRITE of no words (R382)
  (∀ (t : Nat) (lba : Nat) (owner : Fin 10) (words : List (Fin 64 × List Byte)) (s : State), let x := atTick t s
      lba < Config.memBlocks →
      stepDone x.1 8 = true →
      words = [] →
      Machine.exec (.narrowWrite t lba owner words) s = .next (leaves s (x))) ∧
  -- NARROW_WRITE before step 8 of a start-up (R382, R479)
  (∀ (t : Nat) (lba : Nat) (owner : Fin 10) (words : List (Fin 64 × List Byte)) (s : State), let x := atTick t s
      lba < Config.memBlocks →
      stepDone x.1 8 = false →
      Machine.exec (.narrowWrite t lba owner words) s = .next (leaves s (x))) ∧
  -- MERGE_WINDOW_EXPIRY (R383)
  (∀ (t : Nat) (lba : Nat) (noise : List Disturbance) (e : MergeEntry) (s : State), let x := atTick t s
      mergeOf x.1 lba = some e →
      e.at_ * 4 + obj x.1 0x0620 1 * 5 ≤ x.1.now * 4 →
      Machine.exec (.mergeWindowExpiry t lba noise) s = .next (leaves s (flushEntry e noise x)))

/-- O29. MEM_DIE_CMD is staged in an ARMED transaction; CHISEL_PASS_START starts the automatic pass when its period has come;
CHISEL_BLOCK works on the next touched block of a pass; CHISEL_PASS_END ends a pass that has none left; CHISEL_CMD scrubs,
verifies or aborts at its commit point; REMAP_CMD makes the block a candidate and remaps it; SRAM_SWEEP corrects or loses each
word it hits; SHADOW_REBUILD_DONE reports a rebuilt table. -/
def Obligations.HBM_is_maintained : Prop :=
  -- MEM_DIE_FAIL_CMD, staged (R45, R378)
  (∀ (t : Nat) (sid : Nat) (die : Fin 24) (s : State), let x := atTick t s
      mayStage x.1 sid 0x0600 5 (256 + die.val) →
      Machine.exec (.memDieFailCmd t sid die) s = .next (leaves s (onSys (withStaged sid 0x0600 5 (256 + die.val)) x))) ∧
  -- MEM_DIE_RESTORE_CMD, staged (R45, R378)
  (∀ (t : Nat) (sid : Nat) (die : Fin 24) (s : State), let x := atTick t s
      mayStage x.1 sid 0x0600 5 (512 + die.val) →
      Machine.exec (.memDieRestoreCmd t sid die) s = .next (leaves s (onSys (withStaged sid 0x0600 5 (512 + die.val)) x))) ∧
  -- CHISEL_PASS_START (R389)
  (∀ (t : Nat) (base : Nat) (s : State), let x := sysAt t s
      x.mem.autoBase = some base →
      x.devState = 1 →
      x.mem.auto = none →
      base + obj x 0x0630 1 * 3600 * Config.ticksPerS ≤ x.now →
      Machine.exec (.chiselPassStart t) s = .next (leavesSys t s (updMem (fun m => { m with auto := some { cmd := 0x81, first := 0, count := Config.memBlocks, start := dc x, pos := 0 }, autoBase := some (base + obj x 0x0630 1 * 3600 * Config.ticksPerS), prevCorr := m.curCorr, curCorr := [] }) x))) ∧
  -- CHISEL_BLOCK (R388)
  (∀ (t : Nat) (requested : Bool) (noise : List Disturbance) (p : Pass) (lba : Nat) (s : State), let x := atTick t s
      passOf x.1 requested = some p →
      mayChisel x.1 requested = true →
      nextTouched x.1 p.pos = some lba →
      lba < p.end_ →
      Machine.exec (.chiselBlock t requested noise) s = .next (leaves s (chiselTurn requested lba p noise x))) ∧
  -- CHISEL_PASS_END (R392)
  (∀ (t : Nat) (requested : Bool) (p : Pass) (s : State), let x := sysAt t s
      passOf x requested = some p →
      mayChisel x requested = true →
      (nextTouched x p.pos).all (fun l => decide (p.end_ ≤ l)) = true →
      Machine.exec (.chiselPassEnd t requested) s = .next (leavesSys t s (endPass requested false x))) ∧
  -- CHISEL_SCRUB (R390)
  (∀ (t : Nat) (sid : Nat) (s : State), let x := atTick t s
      mayCommand x.1 sid 0x0630 5 (1) →
      (commandPoint sid x).1.mem.req = none →
      Machine.exec (.chiselScrub t sid) s = .next (leaves s (settled sid x (onSys (fun s => setPass true (some { cmd := 1, first := obj s 0x0630 3, count := if obj s 0x0630 4 = 0 then Config.memBlocks - obj s 0x0630 3 else min (obj s 0x0630 4) (Config.memBlocks - obj s 0x0630 3), start := dc s, pos := obj s 0x0630 3 }) s) (commandPoint sid x))))) ∧
  -- CHISEL_VERIFY (R390)
  (∀ (t : Nat) (sid : Nat) (s : State), let x := atTick t s
      mayCommand x.1 sid 0x0630 5 (2) →
      (commandPoint sid x).1.mem.req = none →
      Machine.exec (.chiselVerify t sid) s = .next (leaves s (settled sid x (onSys (fun s => setPass true (some { cmd := 2, first := obj s 0x0630 3, count := if obj s 0x0630 4 = 0 then Config.memBlocks - obj s 0x0630 3 else min (obj s 0x0630 4) (Config.memBlocks - obj s 0x0630 3), start := dc s, pos := obj s 0x0630 3 }) s) (commandPoint sid x))))) ∧
  -- CHISEL_ABORT (R390)
  (∀ (t : Nat) (sid : Nat) (s : State), let x := atTick t s
      mayCommand x.1 sid 0x0630 5 (3) →
      (commandPoint sid x).1.mem.req.isSome = true →
      Machine.exec (.chiselAbort t sid) s = .next (leaves s (settled sid x (onSys (endPass true true) (commandPoint sid x))))) ∧
  -- REMAP_CMD (R393)
  (∀ (t : Nat) (sid : Nat) (lba : Nat) (s : State), let x := atTick t s
      mayCommand x.1 sid 0x0610 3 (lba) →
      lba < Config.memBlocks →
      Machine.exec (.remapCmd t sid lba) s = .next (leaves s (settled sid x (candidate lba 3 (commandPoint sid x))))) ∧
  -- SRAM_SWEEP (R396)
  (∀ (t : Nat) (mem : Fin 10) (hits : List SramHit) (s : State), let x := atTick t s
      stepDone x.1 3 = true →
      Machine.exec (.sramSweep t mem hits) s = .next (leaves s (hits.foldl (fun y h => if h.correctable && mem.val != 3 then onSys (bump (Ctr.memSramCorr mem.val)) y else sramLost mem.val h.word (onSys (bump (Ctr.memSramUncorr mem.val)) y)) x))) ∧
  -- SHADOW_REBUILD_DONE (R381)
  (∀ (t : Nat) (index : Nat) (s : State), let x := sysAt t s
      stewardsRun x = true →
      x.mem.rebuilds ≠ 0 →
      Machine.exec (.shadowRebuildDone t index) s = .next (leavesSys t s (let runs (d : Decider) : Bool := d.st == .leading || d.st == .following || d.st == .shadow
        raise 0x0505 1 (u16b index) (updMem (fun m => { m with rebuilds := m.rebuilds - 1, checkWanted := m.checkWanted || (runs x.decA && runs x.decB) }) x))))

/-- O30. MAQUETTE_PERIOD past the plan in force begins the new period; MAQUETTE_PLAN_LOAD of ACTIVE stewards with at least 10 us left
loads the plan for the next period, at the level that the limit allows; WAKE_LIST_ENTRY raises the resource of the oldest
entry whose tick has come; SURGE beyond a limit, once a period, raises the form in force. -/
def Obligations.Energy_periods_and_surges_take_effect : Prop :=
  -- MAQUETTE_PERIOD (R397)
  (∀ (t : Nat) (spentUj : Nat) (s : State), let x := sysAt t s
      x.devState ≠ 0 →
      x.nrg.plan.period < periodOf x →
      Machine.exec (.maquettePeriod t spentUj) s = .next (leavesSys t s (kngPeriod (windowAhead (periodTurn (periodOf x) spentUj x)) (periodTurn (periodOf x) spentUj x)))) ∧
  -- MAQUETTE_PERIOD within the period in force, or before the end of a start-up (R397)
  (∀ (t : Nat) (spentUj : Nat) (s : State), let x := sysAt t s
      x.devState = 0 ∨ periodOf x ≤ x.nrg.plan.period →
      Machine.exec (.maquettePeriod t spentUj) s = .next (leavesSys t s (x))) ∧
  -- MAQUETTE_PLAN_LOAD too late, or in another state than ACTIVE (R404)
  (∀ (t : Nat) (offer : PlanOffer) (s : State), let x := sysAt t s
      stewardsRun x = true →
      x.dcZero + 1280000 * (periodOf x + 1) - x.now < 12500 ∨ x.devState ≠ 1 →
      Machine.exec (.maquettePlanLoad t offer) s = .next (leavesSys t s (x))) ∧
  -- MAQUETTE_PLAN_LOAD (R404, R402, R403)
  (∀ (t : Nat) (offer : PlanOffer) (s : State), let x := sysAt t s
      stewardsRun x = true →
      x.devState = 1 →
      x.plinth.restart = none →
      x.now + 12500 ≤ x.dcZero + 1280000 * (periodOf x + 1) →
      Machine.exec (.maquettePlanLoad t offer) s = .next (leavesSys t s (let floor := offer.floorSafety + offer.floorSched + offer.floorLinks
        let a := max (obj x 0x0400 1) floor
        let limit := max ((floor * 65536 : Nat) : Int) (((a * 65536 : Nat) : Int) + x.nrg.bal)
        let place := choosePlace offer x limit
        let predicted := (offerAll offer).getD place.1 0
        let p : Plan := { period := periodOf x + 1, clocks := offer.clocks.toNat, hbm := offer.hbm.toNat, emm := offer.emm.toNat, tiles := offer.tiles.toNat, t8 := offer.t8, level := offerLevel offer place.1, step := if place.1 ≤ offer.steps.length then place.1 else offer.steps.length, good := place.2, fallback := false, over_ := overAll offer x limit, lanes := padRight 16 offer.lanes, predicted := predicted, floor := floor, parts := [offer.floorSafety, offer.floorSched, offer.floorLinks], wakes := mergeWakes (sortBy (·.1) offer.wakes), effective := a, balance := x.nrg.bal / 1000, spent := x.nrg.plan.spent }
        updNrg (fun n => { n with next := some p }) x))) ∧
  -- WAKE_LIST_ENTRY (R405)
  (∀ (t : Nat) (s : State), let x := sysAt t s
      x.devState ≠ 0 →
      Machine.exec (.wakeListEntry t) s = .next (leavesSys t s (let due := fun (e : Nat × Nat × Nat × Nat) => decide (x.dcZero + 1280000 * x.nrg.form.period + e.1 ≤ x.now)
        (x.nrg.form.wakes.filter due).foldl (fun y e => wakeRaise e.2.1 e.2.2.1 e.2.2.2 y)
          (updNrg (fun n => { n with form := { n.form with wakes := x.nrg.form.wakes.filter (fun e => !due e) } }) x)))) ∧
  -- SURGE (R412)
  (∀ (t : Nat) (s : State), let x := sysAt t s
      x.devState ≠ 0 →
      x.devState ≠ 3 →
      (List.range 8).any (fun t => decide (stagingBytes < 8 * stagingUsed x t)) = true ∨ 256 < waitingHeads x →
      surging x (periodOf x) = false →
      Machine.exec (.surge t) s = .next (leavesSys t s (bump Ctr.nrgSurge (updNrg (fun n => { n with surgeAt := some (periodOf x), form := raiseForm n.form }) x)))) ∧
  -- SURGE below its limits, within a surge, or in DORMANT (R412)
  (∀ (t : Nat) (s : State), let x := sysAt t s
      x.devState = 0 ∨ x.devState = 3 ∨ ¬((List.range 8).any (fun t => decide (stagingBytes < 8 * stagingUsed x t)) = true ∨ 256 < waitingHeads x) ∨ surging x (periodOf x) = true →
      Machine.exec (.surge t) s = .next (leavesSys t s (x)))

/-- O31. Written directly by a session that may: NRG_POWER_CMD 1, where nothing refuses it at its commit point, starts the drain in
ENTERING, and 2 in ENTERING or DORMANT without a wake source waiting leaves DORMANT. DORMANT_DRAIN_END completes entry once
NRG_DRAIN has ended; DORMANT_WAKE_TIME notes the wake source at its time; DORMANT_EXIT_READY makes the device ACTIVE with a
balance of 0. -/
def Obligations.DORMANT_is_entered_and_left : Prop :=
  -- DORMANT_ENTER_CMD (R413)
  (∀ (t : Nat) (sid : Nat) (s : State), let x := atTick t s
      mayCommand x.1 sid 0x0420 1 (1) →
      dormantRefusal (commandPoint sid x).1 = none →
      Machine.exec (.dormantEnterCmd t sid) s = .next (leaves s (settled sid x (onSys (fun s => setDevState 2 (updNrg (fun n => { n with drainEnd := s.now + obj s 0x0420 3 * Config.ticksPerMs, pendingWake := none }) s)) (commandPoint sid x))))) ∧
  -- DORMANT_EXIT_CMD (R416)
  (∀ (t : Nat) (sid : Nat) (s : State), let x := atTick t s
      mayCommand x.1 sid 0x0420 1 (2) →
      (commandPoint sid x).1.devState = 2 ∨ (commandPoint sid x).1.devState = 3 →
      (commandPoint sid x).1.nrg.pendingWake = none →
      Machine.exec (.dormantExitCmd t sid) s = .next (leaves s (settled sid x (onSys (fun s => wakeWatch (updNrg (fun n => { n with pendingWake := some 1 }) s)) (commandPoint sid x))))) ∧
  -- DORMANT_DRAIN_END (R413, R415)
  (∀ (t : Nat) (s : State), let x := atTick t s
      x.1.devState = 2 →
      x.1.nrg.drainEnd ≤ x.1.now →
      Machine.exec (.dormantDrainEnd t) s = .next (leaves s (let y := flushMerge (freezeNow (closeSeg (drainFrames x.1)), x.2)
        let s := basesHoldover (sleepDecider .b (sleepDecider .a (sleepPorts y.1)))
        (wakeWatch (raise 0x0A03 0 [] (setDevState 3 { s with golden := none, flush := none, sweep := none })), y.2)))) ∧
  -- DORMANT_WAKE_TIME (R416)
  (∀ (t : Nat) (s : State), let x := sysAt t s
      bit (obj x 0x0420 4) 1 = true →
      baseCounts x (obj x 0x0420 6) = true →
      timeUnits (obj x 0x0420 5) ≤ clock x (obj x 0x0420 6) →
      x.devState = 2 ∨ x.devState = 3 →
      x.nrg.pendingWake = none →
      Machine.exec (.dormantWakeTime t) s = .next (leavesSys t s (updNrg (fun n => { n with pendingWake := some 2 }) x))) ∧
  -- DORMANT_EXIT_READY (R416)
  (∀ (t : Nat) (failA failB : Bool) (s : State), let x := sysAt t s
      x.devState = 4 →
      Machine.exec (.dormantExitReady t failA failB) s = .next (leavesSys t s (let y := updNrg (fun n => { n with bal := 0, first := true, next := none, surgeAt := none }) (wakeDecider .b failB (wakeDecider .a failA x))
        raise 0x0A04 0 (u8b y.nrg.lastWake) (silenceAll (setDevState 1 y)))))

/-- O32. From its start-up step a monitored clock domain keeps its count: inside the window and locked nothing else follows, a second
window outside or a lost lock makes it faulty with its reaction, a planned stop is noted. CLOCK_VOTE judges WATCH, REF and AON
two by two; VOLTAGE_EXCURSION outside the window for 1.5 us sets cause 4; TEMP_SAMPLE and MARGIN_READ judge each sensor;
AON_CRYSTAL_TIMEOUT reports AON after 2 s. -/
def Obligations.Clocks_rails_and_sensors_take_effect : Prop :=
  -- CLOCK_MONITOR_WINDOW of AON, WATCH or REF (R434)
  (∀ (t : Nat) (domain : Fin 25) (khz want : Nat) (locked : Bool) (s : State), let x := sysAt t s
      stepDone x (clockStep domain.val) = true →
      planKhz x domain.val = some want →
      domain.val ≤ 2 →
      Machine.exec (.clockMonitorWindow t domain khz locked) s = .next (leavesSys t s (updPlinth (fun p => { p with clocks := SMap.upd {} p.clocks domain.val (fun v => { v with khz := khz }) }) x))) ∧
  -- CLOCK_MONITOR_WINDOW of a planned stop (R434, R435)
  (∀ (t : Nat) (domain : Fin 25) (khz want : Nat) (locked : Bool) (s : State), let x := sysAt t s
      stepDone x (clockStep domain.val) = true →
      planKhz x domain.val = some want →
      3 ≤ domain.val →
      plannedStop x domain.val = true →
      Machine.exec (.clockMonitorWindow t domain khz locked) s = .next (leavesSys t s (updPlinth (fun p => { p with clocks := SMap.set {} p.clocks domain.val { khz := khz, stopped := true } }) x))) ∧
  -- CLOCK_MONITOR_WINDOW within 5 % and locked (R434)
  (∀ (t : Nat) (domain : Fin 25) (khz want : Nat) (locked : Bool) (s : State), let x := sysAt t s
      stepDone x (clockStep domain.val) = true →
      planKhz x domain.val = some want →
      3 ≤ domain.val →
      plannedStop x domain.val = false →
      want * 95 ≤ khz * 100 ∧ khz * 100 ≤ want * 105 →
      locked = true →
      Machine.exec (.clockMonitorWindow t domain khz locked) s = .next (leavesSys t s (updPlinth (fun p => { p with clocks := SMap.set {} p.clocks domain.val { khz := khz, bad := 0, faulty := false, stopped := false } }) x))) ∧
  -- CLOCK_MONITOR_WINDOW, the first outside, locked (R434)
  (∀ (t : Nat) (domain : Fin 25) (khz want : Nat) (locked : Bool) (s : State), let x := sysAt t s
      let v : ClockMon := SMap.get {} x.plinth.clocks domain.val;
      stepDone x (clockStep domain.val) = true →
      planKhz x domain.val = some want →
      3 ≤ domain.val →
      plannedStop x domain.val = false →
      ¬(want * 95 ≤ khz * 100 ∧ khz * 100 ≤ want * 105) →
      locked = true →
      v.bad = 0 →
      Machine.exec (.clockMonitorWindow t domain khz locked) s = .next (leavesSys t s (updPlinth (fun p => { p with clocks := SMap.set {} p.clocks domain.val { khz := khz, bad := 1, faulty := v.faulty, stopped := false } }) x))) ∧
  -- CLOCK_MONITOR_WINDOW, the second outside (R434)
  (∀ (t : Nat) (domain : Fin 25) (khz want : Nat) (locked : Bool) (s : State), let x := sysAt t s
      let v : ClockMon := SMap.get {} x.plinth.clocks domain.val;
      stepDone x (clockStep domain.val) = true →
      planKhz x domain.val = some want →
      3 ≤ domain.val →
      plannedStop x domain.val = false →
      ¬(want * 95 ≤ khz * 100 ∧ khz * 100 ≤ want * 105) →
      1 ≤ v.bad →
      Machine.exec (.clockMonitorWindow t domain khz locked) s = .next (leavesSys t s (let y := clockFault domain.val (updPlinth (fun p => { p with clocks := SMap.set {} p.clocks domain.val { khz := khz, bad := v.bad + 1, faulty := v.faulty, stopped := false } }) x)
        if domain.val = 3 then restartStewards y else y))) ∧
  -- CLOCK_MONITOR_WINDOW of a domain that has lost lock (R434)
  (∀ (t : Nat) (domain : Fin 25) (khz want : Nat) (locked : Bool) (s : State), let x := sysAt t s
      let v : ClockMon := SMap.get {} x.plinth.clocks domain.val;
      stepDone x (clockStep domain.val) = true →
      planKhz x domain.val = some want →
      3 ≤ domain.val →
      plannedStop x domain.val = false →
      locked = false →
      Machine.exec (.clockMonitorWindow t domain khz locked) s = .next (leavesSys t s (let off := !(decide (want * 95 ≤ khz * 100) && decide (khz * 100 ≤ want * 105))
        let y := clockFault domain.val (updPlinth (fun p => { p with clocks := SMap.set {} p.clocks domain.val { khz := khz, bad := if off then v.bad + 1 else 0, faulty := v.faulty, stopped := false } }) x)
        if domain.val = 3 then restartStewards y else y))) ∧
  -- CLOCK_MONITOR_WINDOW before the domain's start-up step (R434, R479)
  (∀ (t : Nat) (domain : Fin 25) (khz : Nat) (locked : Bool) (s : State), let x := sysAt t s
      stepDone x (clockStep domain.val) = false →
      Machine.exec (.clockMonitorWindow t domain khz locked) s = .next (leavesSys t s (x))) ∧
  -- CLOCK_VOTE (R434)
  (∀ (t : Nat) (watch ref aon : Nat) (s : State), let x := sysAt t s
      stepDone x 2 = true →
      Machine.exec (.clockVote t watch ref aon) s = .next (leavesSys t s (let far (a b : Nat) : Bool := decide (a * 105 < b * 100) || decide (b * 105 < a * 100)
        let judge (d : Nat) (odd : Bool) (y : Sys) : Sys :=
          if odd then clockFault d y
          else updPlinth (fun p => { p with clocks := SMap.upd {} p.clocks d (fun v => { v with faulty := v.faulty && decide (2 ≤ v.bad) }) }) y
        judge 0 (far aon watch && far aon ref) (judge 2 (far ref watch && far ref aon) (judge 1 (far watch ref && far watch aon) x))))) ∧
  -- VOLTAGE_EXCURSION outside the window for 1.5 us (R437)
  (∀ (t : Nat) (rail : Fin 10) (mv lastedNs : Nat) (s : State), let x := sysAt t s
      stepDone x 3 = true →
      mv < (railWindow rail.val).1 ∨ (railWindow rail.val).2.1 < mv →
      1500 ≤ lastedNs →
      monClocked x = true →
      Machine.exec (.voltageExcursion t rail mv lastedNs) s = .next (leavesSys t s (setCause 4 rail.val (railWindow rail.val).2.2 (raise 0x0309 3 (u8b rail.val ++ u16b mv)
          (updPlinth (fun p => { p with rails := SMap.set {} p.rails rail.val { (SMap.get {} x.plinth.rails rail.val : Mon).read mv with faulty := true } }) x))))) ∧
  -- VOLTAGE_EXCURSION inside the window, or for less than 0.5 us (R437)
  (∀ (t : Nat) (rail : Fin 10) (mv lastedNs : Nat) (s : State), let x := sysAt t s
      stepDone x 3 = true →
      ((railWindow rail.val).1 ≤ mv ∧ mv ≤ (railWindow rail.val).2.1) ∨ lastedNs < 500 →
      monClocked x = true →
      Machine.exec (.voltageExcursion t rail mv lastedNs) s = .next (leavesSys t s (let v := (SMap.get {} x.plinth.rails rail.val : Mon).read mv
        updPlinth (fun p => { p with rails := SMap.set {} p.rails rail.val { v with faulty := decide (mv < (railWindow rail.val).1 ∨ (railWindow rail.val).2.1 < mv) && v.faulty } }) x))) ∧
  -- VOLTAGE_EXCURSION outside for 0.5 us to 1.5 us (R437)
  (∀ (t : Nat) (rail : Fin 10) (mv lastedNs : Nat) (s : State), let x := sysAt t s
      stepDone x 3 = true →
      mv < (railWindow rail.val).1 ∨ (railWindow rail.val).2.1 < mv →
      500 ≤ lastedNs ∧ lastedNs < 1500 →
      monClocked x = true →
      Machine.exec (.voltageExcursion t rail mv lastedNs) s = .next (leavesSys t s (let v := (SMap.get {} x.plinth.rails rail.val : Mon).read mv
        let told := (free x).1 % 2 == 1
        let y := updPlinth (fun p => { p with rails := SMap.set {} p.rails rail.val { v with faulty := told || v.faulty } }) (free x).2
        if told then setCause 4 rail.val (railWindow rail.val).2.2 (raise 0x0309 3 (u8b rail.val ++ u16b mv) y) else y))) ∧
  -- VOLTAGE_EXCURSION without the monitor's clock, or before step 3 of a start-up (R437, R479)
  (∀ (t : Nat) (rail : Fin 10) (mv lastedNs : Nat) (s : State), let x := sysAt t s
      stepDone x 3 = false ∨ monClocked x = false →
      Machine.exec (.voltageExcursion t rail mv lastedNs) s = .next (leavesSys t s (x))) ∧
  -- TEMP_SAMPLE (R438)
  (∀ (t : Nat) (readings : List Int) (s : State), let x := sysAt t s
      stepDone x 3 = true →
      monClocked x = true →
      Machine.exec (.tempSample t readings) s = .next (leavesSys t s (let y := (List.range 18).foldl (fun y i => if i < readings.length then tempTurn i (readings.getD i 0) y else y) x
        if (List.range 18).all (fun i => decide (2 ≤ (SMap.get {} y.plinth.temps i : Mon).cool)) then holdCause 16 0 false y else y))) ∧
  -- MARGIN_READ (R439)
  (∀ (t : Nat) (readings : List Nat) (s : State), let x := sysAt t s
      stepDone x 3 = true →
      Machine.exec (.marginRead t readings) s = .next (leavesSys t s ((List.range 6).foldl (fun y i => if i < readings.length then marginTurn i (readings.getD i 0) y else y) x))) ∧
  -- AON_CRYSTAL_TIMEOUT (R506)
  (∀ (t : Nat) (s : State), let x := sysAt t s
      x.boot.trigger + 2 * Config.ticksPerS ≤ x.now ∧ (2 ≤ x.devStep ∨ x.devState ≠ 0) →
      Machine.exec (.aonCrystalTimeout t) s = .next (leavesSys t s (updPlinth (fun p => { p with clocks := SMap.upd {} p.clocks 0 (fun v => { v with bad := 2 }) }) (clockFault 0 x)))) ∧
  -- AON_CRYSTAL_TIMEOUT before 2 s or step 2 (R506)
  (∀ (t : Nat) (s : State), let x := sysAt t s
      ¬(x.boot.trigger + 2 * Config.ticksPerS ≤ x.now ∧ (2 ≤ x.devStep ∨ x.devState ≠ 0)) →
      Machine.exec (.aonCrystalTimeout t) s = .next (leavesSys t s (x)))

/-- O33. CONFIG_CHECK_PASS counts the pass and acts on each finding; CHUNK_RELOAD_DONE ends the oldest reload; FAULT_PIN_READBACK
counts mismatches and sets cause 6 at the fourth; PLINTH_MISCOMPARE and a bad PLINTH_ROM_CHECK set cause 0;
KEEP_SIGNAL_TIMEOUT silences; STEWARD_HEARTBEAT_MISS restarts the stewards and STEWARD_RESTART_DONE sets cause 14; SAF_CLEAR
and SAF_PIN_TEST are staged in an ARMED transaction; PIN_TEST_END ends the test. -/
def Obligations.Plinth_and_stewards_take_effect : Prop :=
  -- CONFIG_CHECK_PASS (R441, R415)
  (∀ (t : Nat) (found : List Mismatch) (s : State), let x := sysAt t s
      stepDone x 9 = true →
      Machine.exec (.configCheckPass t found) s = .next (leavesSys t s (let l := if x.devState = 3 then found.filter (fun m => match m with | .rws _ => true | _ => false) else found
        let y := l.foldl (fun y m => finding m y) (updMem (fun m => { m with checkWanted := false }) x)
        updPlinth (fun p => { p with passes := p.passes + 1, lastPass := dc y }) y))) ∧
  -- CHUNK_RELOAD_DONE (R442)
  (∀ (t : Nat) (r : Reload) (rest : List Reload) (s : State), let x := sysAt t s
      x.reloads = r :: rest →
      Machine.exec (.chunkReloadDone t) s = .next (leavesSys t s ({ x with reloads := rest }))) ∧
  -- FAULT_PIN_READBACK (R426)
  (∀ (t : Nat) (aHigh bHigh : Bool) (s : State), let x := sysAt t s
      stepDone x 2 = true →
      Machine.exec (.faultPinReadback t aHigh bHigh) s = .next (leavesSys t s (let a := if aHigh = pinADriven x then x.plinth.aBad + 1 else 0
        let b := if bHigh = pinBDriven x then x.plinth.bBad + 1 else 0
        let y := updPlinth (fun p => { p with aBad := a, bBad := b, aRead := !aHigh, bRead := !bHigh }) x
        if a = 4 ∨ b = 4 then setCause 6 0 0 y else y))) ∧
  -- PLINTH_MISCOMPARE (R432)
  (∀ (t : Nat) (s : State), let x := sysAt t s
      stepDone x 1 = true →
      bit x.faults 0 = false →
      Machine.exec (.plinthMiscompare t) s = .next (leavesSys t s ({ setCause 0 0 allPorts x with keepLost := 1023 }))) ∧
  -- PLINTH_ROM_CHECK that fails (R432)
  (∀ (t : Nat) (s : State), let x := sysAt t s
      stepDone x 2 = true →
      bit x.faults 0 = false →
      Machine.exec (.plinthRomCheck t false) s = .next (leavesSys t s ({ setCause 0 0 allPorts x with keepLost := 1023 }))) ∧
  -- PLINTH_ROM_CHECK that passes (R432)
  (∀ (t : Nat) (s : State), let x := sysAt t s
      stepDone x 2 = true →
      Machine.exec (.plinthRomCheck t true) s = .next (leavesSys t s (x))) ∧
  -- KEEP_SIGNAL_TIMEOUT (R423)
  (∀ (t : Nat) (unit : Fin 10) (s : State), let x := sysAt t s
      stepDone x 2 = true →
      Machine.exec (.keepSignalTimeout t unit) s = .next (leavesSys t s (silenceAll { x with keepLost := setBit x.keepLost unit.val true }))) ∧
  -- STEWARD_HEARTBEAT_MISS after start-up (R445)
  (∀ (t : Nat) (steward : Fin 4) (s : State), let x := sysAt t s
      x.devState ≠ 0 →
      x.plinth.restart = none →
      Machine.exec (.stewardHeartbeatMiss t steward) s = .next (leavesSys t s (basesHoldover (endSessions (updPlinth (fun p => { p with restart := some x.now }) { x with sq := [], outbox := [], discovers := [], announce := none, nrg := { x.nrg with next := none } }))))) ∧
  -- STEWARD_HEARTBEAT_MISS within a restart (R445)
  (∀ (t : Nat) (steward : Fin 4) (s : State), let x := sysAt t s
      x.devState ≠ 0 →
      x.plinth.restart.isSome = true →
      Machine.exec (.stewardHeartbeatMiss t steward) s = .next (leavesSys t s (x))) ∧
  -- STEWARD_HEARTBEAT_MISS in a start-up (R445, R480)
  (∀ (t : Nat) (steward : Fin 4) (s : State), let x := sysAt t s
      x.devState = 0 →
      Machine.exec (.stewardHeartbeatMiss t steward) s = .next (leavesSys t s ({ x with boot := { x.boot with fwFailed := x.boot.fwFailed || decide (5 < x.devStep) } }))) ∧
  -- STEWARD_RESTART_DONE (R445)
  (∀ (t : Nat) (start : Nat) (s : State), let x := sysAt t s
      x.plinth.restart = some start →
      Machine.exec (.stewardRestartDone t) s = .next (leavesSys t s (setCause 14 0 0 (bump Ctr.safStewardRestart (updPlinth (fun p => { p with restart := none }) x))))) ∧
  -- SAF_CLEAR, staged (R45, R430)
  (∀ (t : Nat) (sid : Nat) (mask : BitVec 32) (s : State), let x := atTick t s
      mayStage x.1 sid 0x0540 4 (mask.toNat) →
      Machine.exec (.safClear t sid mask) s = .next (leaves s (onSys (withStaged sid 0x0540 4 (mask.toNat)) x))) ∧
  -- SAF_PIN_TEST_B, staged (R45, R427)
  (∀ (t : Nat) (sid : Nat) (s : State), let x := atTick t s
      mayStage x.1 sid 0x0540 0x0A (1) →
      Machine.exec (.safPinTestB t sid) s = .next (leaves s (onSys (withStaged sid 0x0540 0x0A (1)) x))) ∧
  -- SAF_PIN_TEST_A, staged (R45, R427)
  (∀ (t : Nat) (sid : Nat) (s : State), let x := atTick t s
      mayStage x.1 sid 0x0540 0x0A (2) →
      Machine.exec (.safPinTestA t sid) s = .next (leaves s (onSys (withStaged sid 0x0540 0x0A (2)) x))) ∧
  -- PIN_TEST_END (R427)
  (∀ (t : Nat) (onA : Bool) (till : Nat) (s : State), let x := sysAt t s
      x.plinth.pinTest = some (onA, till) →
      till ≤ x.now →
      Machine.exec (.pinTestEnd t) s = .next (leavesSys t s (updPlinth (fun p => { p with pinTest := none }) x)))

/-- O34. RECORDER_DRAW, while the recorder runs and its cap allows, writes the capture record of the next copy; REC_OVERRUN_REPORT
reports drops once a second; REC_TRIGGER triggers at its commit point at the present instant or at REC_TRIGGER_TIME;
CAST_FREEZE freezes the collecting Cast once REC_POST has passed. -/
def Obligations.Recorder_and_triggers_take_effect : Prop :=
  -- RECORDER_DRAW (R461)
  (∀ (t : Nat) (y : Sys) (id : Nat) (s : State), let x := sysAt t s
      x.recFree ≤ x.now →
      traded x < 2 →
      x.devState = 1 →
      drawFrom 74 8 (tidyDrr x) = (y, some id) →
      Machine.exec (.recorderDraw t) s = .next (leavesSys t s (recordCopy id y))) ∧
  -- RECORDER_DRAW with nothing to draw, above its cap, or while it does not run (R461)
  (∀ (t : Nat) (s : State), let x := sysAt t s
      x.now < x.recFree ∨ 2 ≤ traded x ∨ x.devState ≠ 1 ∨ (drawFrom 74 8 (tidyDrr x)).2 = none →
      Machine.exec (.recorderDraw t) s = .next (leavesSys t s (x))) ∧
  -- REC_OVERRUN_REPORT (R463)
  (∀ (t : Nat) (s : State), let x := sysAt t s
      0 < x.recd.overCount →
      x.recd.overTold + Config.ticksPerS ≤ x.now →
      Machine.exec (.recOverrunReport t) s = .next (leavesSys t s (raise 0x0902 1 (u64b x.recd.overCount) (updRecd (fun r => { r with overCount := 0, overTold := x.now }) x)))) ∧
  -- REC_TRIGGER_NOW (R464)
  (∀ (t : Nat) (sid : Nat) (s : State), let x := atTick t s
      mayCommand x.1 sid 0x7810 0x0E (1) →
      Machine.exec (.recTriggerNow t sid) s = .next (leaves s (settled sid x (onSys (fun s => trigger 1 (clock s (recClock s)) s) (commandPoint sid x))))) ∧
  -- REC_TRIGGER_AT_TIME (R464)
  (∀ (t : Nat) (sid : Nat) (s : State), let x := atTick t s
      mayCommand x.1 sid 0x7810 0x0E (2) →
      Machine.exec (.recTriggerAtTime t sid) s = .next (leaves s (settled sid x (onSys (fun s => trigger 1 (timeUnits (obj s 0x7810 0x0F)) s) (commandPoint sid x))))) ∧
  -- CAST_FREEZE (R465)
  (∀ (t : Nat) (i : Nat) (s : State), let x := sysAt t s
      collecting x = some i →
      (cast x i).at_ + obj x 0x7810 0x0A * 1000000 * nsUnits ≤ clock x (recClock x) →
      Machine.exec (.castFreeze t) s = .next (leavesSys t s (freezeCast i false x)))

/-- O35. CAST_CMD of a session that may releases, replays or stops a Cast in the state it needs, at the commit point; CAST_REPLAY_FRAME
sends the next record once its instant has come; CAST_EXPORT_SEL of a FROZEN Cast starts the scan of a part, and
EXPORT_SCAN_DONE makes the part readable; CAST_DIRECTORY_REBUILT brings the rows back from the segment headers. -/
def Obligations.Casts_take_effect : Prop :=
  -- CAST_RELEASE (R467)
  (∀ (t : Nat) (sid : Nat) (cast : Fin 8) (s : State), let x := atTick t s
      mayCommand x.1 sid 0x7820 2 (256 + cast.val) →
      castRefused (commandPoint sid x).1 1 cast.val = false →
      Machine.exec (.castRelease t sid cast) s = .next (leaves s (settled sid x (onSys (fun s => let y := stopReplay cast.val s
          setCast cast.val {} ((Machine.cast y cast.val).segs.foldl (fun y k => clearSeg k y) y)) (commandPoint sid x))))) ∧
  -- CAST_REPLAY (R470)
  (∀ (t : Nat) (sid : Nat) (cast : Fin 8) (s : State), let x := atTick t s
      mayCommand x.1 sid 0x7820 2 (512 + cast.val) →
      castRefused (commandPoint sid x).1 2 cast.val = false →
      Machine.exec (.castReplay t sid cast) s = .next (leaves s (settled sid x (let y := commandPoint sid x
        onSys (fun s => bumpBy Ctr.recPoisonSkip (castPoison s cast.val) (updRecd (fun v => { v with replay := some { cast := cast.val, start := s.now, first := (Machine.cast s cast.val).first, left := castRecords y cast.val, free := s.now } })
          (setCast cast.val { Machine.cast s cast.val with st := 3 } s))) y)))) ∧
  -- CAST_STOP_REPLAY (R470)
  (∀ (t : Nat) (sid : Nat) (cast : Fin 8) (s : State), let x := atTick t s
      mayCommand x.1 sid 0x7820 2 (768 + cast.val) →
      castRefused (commandPoint sid x).1 3 cast.val = false →
      Machine.exec (.castStopReplay t sid cast) s = .next (leaves s (settled sid x (onSys (stopReplay cast.val) (commandPoint sid x))))) ∧
  -- CAST_REPLAY_FRAME, a record whose instant has come (R470)
  (∀ (t : Nat) (r : Replay) (n : Nat) (h b : List Byte) (rest : List (Nat × Nat)) (s : State), let x := atTick t s
      x.1.recd.replay = some r →
      skipRecords x r.left 0 = (n, some (h, b, rest)) →
      replayDue (bumpBy Ctr.castReplaySkip n x.1) r h = true →
      x.1.devState = 1 →
      Machine.exec (.castReplayFrame t) s = .next (leaves s (onSys (fun s => replaySend r b rest (bumpBy Ctr.castReplaySkip n s)) x))) ∧
  -- CAST_REPLAY_FRAME, no record left (R470)
  (∀ (t : Nat) (r : Replay) (n : Nat) (s : State), let x := atTick t s
      x.1.recd.replay = some r →
      skipRecords x r.left 0 = (n, none) →
      Machine.exec (.castReplayFrame t) s = .next (leaves s (onSys (fun s => stopReplay r.cast (bumpBy Ctr.castReplaySkip n s)) x))) ∧
  -- CAST_EXPORT_SEL (R469)
  (∀ (t : Nat) (sid : Nat) (cast : Fin 8) (part : Nat) (s : State), let x := atTick t s
      mayOwn x.1 sid 0x7820 4 →
      (Machine.cast x.1 cast.val).st = 2 →
      Machine.exec (.castExportSel t sid cast part) s = .next (leaves s (onSys (fun s => touchTxn sid (exportSel sid cast.val (part % 2 ^ 24) (putOwn sid 0x7820 4 0 0 (.num ((cast.val * 2 ^ 24 + part % 2 ^ 24 : Nat) : Int)) s))) x))) ∧
  -- EXPORT_SCAN_DONE (R469)
  (∀ (t : Nat) (sid : Nat) (v : Session) (s : State), let x := atTick t s
      session? x.1 sid = some v →
      v.exp.st = 1 →
      Machine.exec (.exportScanDone t sid) s = .next (leaves s (let parts := splitParts x (castRecords x v.exp.cast)
        let l := parts.getD v.exp.part []
        let n := if v.exp.part < parts.length then partHead + (l.map (epbLength x)).foldl (· + ·) 0 else 0
        let bad := if v.exp.part < parts.length then partPoison x.1 v.exp.cast v.exp.part parts else 0
        onSys (fun s => bumpBy Ctr.recPoisonSkip bad (setCast v.exp.cast { cast s v.exp.cast with poisoned := castPoison s v.exp.cast }
          (updExport sid (fun e => { e with st := 2, parts := parts.length, length := n, recs := l }) s))) x))) ∧
  -- CAST_DIRECTORY_REBUILT (R467)
  (∀ (t : Nat) (s : State), let x := sysAt t s
      stewardsRun x = true →
      x.mem.castDirLost = true →
      Machine.exec (.castDirectoryRebuilt t) s = .next (leavesSys t s (updMem (fun m => { m with castDirLost := false }) ((List.range 8).foldl (fun y i => castRebuild i y) x))))

/-- O36. PORST_N and the power-on detector begin a power-on reset of cause 1 or 2 and hold it; WRST_N begins a warm reset of cause 3
unless something holds the device; a boundary-scan instruction holds the device; each release begins start-up where nothing
holds the device. DEV_RESET schedules a reset 2 ms ahead, which then begins; FIRMWARE_BOOT_TIMEOUT revokes the slot that
failed and begins a warm reset. -/
def Obligations.Resets_and_start_up_take_effect : Prop :=
  -- PORST_N_ASSERT (R471)
  (∀ (t : Nat) (s : State), let x := atTick t s
      x.1.boot.porst = false →
      Machine.exec (.porstNAssert t) s = .next (leaves s (onSys (updBoot (fun b => { b with porst := true })) (beginReset false 1 1 x)))) ∧
  -- PORST_N_ASSERT when it is held already (R471)
  (∀ (t : Nat) (s : State), let x := atTick t s
      x.1.boot.porst = true →
      Machine.exec (.porstNAssert t) s = .next (leaves s (x))) ∧
  -- POWER_ON_DETECTOR_ASSERT (R502)
  (∀ (t : Nat) (s : State), let x := atTick t s
      x.1.boot.detector = false →
      Machine.exec (.powerOnDetectorAssert t) s = .next (leaves s (onSys (updBoot (fun b => { b with detector := true })) (beginReset false 1 2 x)))) ∧
  -- POWER_ON_DETECTOR_ASSERT when it is held already (R502)
  (∀ (t : Nat) (s : State), let x := atTick t s
      x.1.boot.detector = true →
      Machine.exec (.powerOnDetectorAssert t) s = .next (leaves s (x))) ∧
  -- PORST_N_RELEASE (R475)
  (∀ (t : Nat) (boot : BootInput) (s : State), let x := atTick t s
      x.1.boot.porst = true →
      Machine.exec (.porstNRelease t boot) s = .next (leaves s (startUp boot (onSys (updBoot (fun b => { b with porst := false, testEn := boot.testEn })) x)))) ∧
  -- PORST_N_RELEASE when it is not held (R475)
  (∀ (t : Nat) (boot : BootInput) (s : State), let x := atTick t s
      x.1.boot.porst = false →
      Machine.exec (.porstNRelease t boot) s = .next (leaves s (x))) ∧
  -- POWER_ON_DETECTOR_RELEASE (R502)
  (∀ (t : Nat) (boot : BootInput) (s : State), let x := atTick t s
      x.1.boot.detector = true →
      Machine.exec (.powerOnDetectorRelease t boot) s = .next (leaves s (startUp boot (onSys (updBoot (fun b => { b with detector := false })) x)))) ∧
  -- POWER_ON_DETECTOR_RELEASE when it is not held (R502)
  (∀ (t : Nat) (boot : BootInput) (s : State), let x := atTick t s
      x.1.boot.detector = false →
      Machine.exec (.powerOnDetectorRelease t boot) s = .next (leaves s (x))) ∧
  -- WRST_N_RELEASE (R477)
  (∀ (t : Nat) (boot : BootInput) (s : State), let x := atTick t s
      x.1.boot.wrst = true →
      Machine.exec (.wrstNRelease t boot) s = .next (leaves s (startUp boot (onSys (updBoot (fun b => { b with wrst := false })) x)))) ∧
  -- WRST_N_RELEASE when it is not held (R477)
  (∀ (t : Nat) (boot : BootInput) (s : State), let x := atTick t s
      x.1.boot.wrst = false →
      Machine.exec (.wrstNRelease t boot) s = .next (leaves s (x))) ∧
  -- BOUNDARY_SCAN_RELEASE (R509)
  (∀ (t : Nat) (boot : BootInput) (s : State), let x := atTick t s
      x.1.boot.scan = true →
      Machine.exec (.boundaryScanRelease t boot) s = .next (leaves s (startUp boot (onSys (updBoot (fun b => { b with scan := false })) x)))) ∧
  -- BOUNDARY_SCAN_RELEASE when it is not held (R509)
  (∀ (t : Nat) (boot : BootInput) (s : State), let x := atTick t s
      x.1.boot.scan = false →
      Machine.exec (.boundaryScanRelease t boot) s = .next (leaves s (x))) ∧
  -- WRST_N_ASSERT (R477)
  (∀ (t : Nat) (s : State), let x := atTick t s
      x.1.boot.wrst = false →
      inHold x.1 = false →
      Machine.exec (.wrstNAssert t) s = .next (leaves s (onSys (updBoot (fun b => { b with wrst := true })) (warmReset 3 x)))) ∧
  -- WRST_N_ASSERT within a hold (R477)
  (∀ (t : Nat) (s : State), let x := atTick t s
      x.1.boot.wrst = false →
      inHold x.1 = true →
      Machine.exec (.wrstNAssert t) s = .next (leaves s (onSys (updBoot (fun b => { b with wrst := true })) x))) ∧
  -- WRST_N_ASSERT when it is held already (R477)
  (∀ (t : Nat) (s : State), let x := atTick t s
      x.1.boot.wrst = true →
      Machine.exec (.wrstNAssert t) s = .next (leaves s (x))) ∧
  -- BOUNDARY_SCAN_HOLD when it holds already (R509)
  (∀ (t : Nat) (s : State), let x := atTick t s
      x.1.boot.scan = true →
      Machine.exec (.boundaryScanHold t) s = .next (leaves s (x))) ∧
  -- BOUNDARY_SCAN_HOLD (R509)
  (∀ (t : Nat) (s : State), let x := atTick t s
      x.1.boot.scan = false →
      Machine.exec (.boundaryScanHold t) s = .next (leaves s (onSys (updBoot (fun b => { b with scan := true })) (beginReset false 1 (free x.1).1 ((free x.1).2, x.2))))) ∧
  -- DEV_RESET_WARM (R474)
  (∀ (t : Nat) (sid : Nat) (s : State), let x := atTick t s
      mayCommand x.1 sid 0x0110 3 (0xA501) →
      (commandPoint sid x).1.boot.delay = none →
      Machine.exec (.devResetWarm t sid) s = .next (leaves s (settled sid x (onSys (fun s => { s with boot := { s.boot with delay := some (s.now + 2 * Config.ticksPerMs, false) } }) (commandPoint sid x))))) ∧
  -- DEV_RESET_FULL (R474)
  (∀ (t : Nat) (sid : Nat) (s : State), let x := atTick t s
      mayCommand x.1 sid 0x0110 3 (0xA502) →
      (commandPoint sid x).1.boot.delay = none →
      Machine.exec (.devResetFull t sid) s = .next (leaves s (settled sid x (onSys (fun s => { s with boot := { s.boot with delay := some (s.now + 2 * Config.ticksPerMs, true) } }) (commandPoint sid x))))) ∧
  -- DEV_RESET_DELAY_EXPIRY (R474)
  (∀ (t : Nat) (boot : BootInput) (due : Nat) (full : Bool) (s : State), let x := atTick t s
      x.1.boot.delay = some (due, full) →
      due ≤ x.1.now →
      Machine.exec (.devResetDelayExpiry t boot) s = .next (leaves s (startUp boot (if full then beginReset false 3 4 x else warmReset 4 x)))) ∧
  -- FIRMWARE_BOOT_TIMEOUT (R476)
  (∀ (t : Nat) (boot : BootInput) (s : State), let x := atTick t s
      x.1.devState = 0 →
      x.1.devStep ≠ 0 →
      x.1.flash.fw ≠ 0 →
      x.1.boot.fwFailed = true ∨ x.1.boot.trigger + 2 * Config.ticksPerS ≤ x.1.now →
      Machine.exec (.firmwareBootTimeout t boot) s = .next (leaves s (startUp boot (warmReset 5 (onSys (revokeSlot (x.1.flash.fw - 1)) x)))))

/-- O37. FW_STAGE of a session that may, of an image within the limit, begins to program a valid image and refuses another in
FW_STAGE_STATE; FW_STAGE_PROGRAM_DONE ends it with its state; FLASH_IDLE_STOP stops the clock of a flash that has been idle
for 1 ms. -/
def Obligations.Firmware_and_flash_take_effect : Prop :=
  -- FW_STAGE of an image that is not valid (R487)
  (∀ (t : Nat) (sid : Nat) (image : List Byte) (s : State), let x := atTick t s
      mayCommand x.1 sid 0x0110 4 (Value.octets image).toNat →
      image.length ≤ 4194304 →
      storing (commandPoint sid x).1 = false →
      (commandPoint sid x).1.flash.stage = none →
      ({ header := image.take 256, payload := image.drop 256 } : Slot).valid 0 = false →
      Machine.exec (.fwStage t sid image) s = .next (leaves s (settled sid x (onSys (updFlash (fun f => { f with stageState := 3 })) (commandPoint sid x))))) ∧
  -- FW_STAGE of a valid image (R487)
  (∀ (t : Nat) (sid : Nat) (image : List Byte) (s : State), let x := atTick t s
      mayCommand x.1 sid 0x0110 4 (Value.octets image).toNat →
      image.length ≤ 4194304 →
      storing (commandPoint sid x).1 = false →
      (commandPoint sid x).1.flash.stage = none →
      ({ header := image.take 256, payload := image.drop 256 } : Slot).valid 0 = true →
      Machine.exec (.fwStage t sid image) s = .next (leaves s (settled sid x (onSys (fun s =>
          let h := (image.take 256).take 8 ++ u32b (nextSequence s 0) ++ ((image.take 256).take 60).drop 12
          useFlash (updFlash (fun f => { f with stage := some (stageTarget s, { header := h ++ u32b (crc32 h) ++ (image.take 256).drop 64, payload := image.drop 256 }), stageState := 1 }) s)) (commandPoint sid x))))) ∧
  -- FW_STAGE_PROGRAM_DONE (R487)
  (∀ (t : Nat) (flashError : Bool) (slot : Nat) (v : Slot) (s : State), let x := sysAt t s
      x.flash.stage = some (slot, v) →
      Machine.exec (.fwStageProgramDone t flashError) s = .next (leavesSys t s (let y := useFlash (updFlash (fun f => { f with stage := none }) x)
        if flashError = true ∨ y.flash.present = false then updFlash (fun f => { f with stageState := 4 }) (if y.flash.present then setSlot slot { v with header := [] } y else y)
        else updFlash (fun f => { f with stageState := 2 }) (setSlot slot v y)))) ∧
  -- FLASH_IDLE_STOP (R411)
  (∀ (t : Nat) (s : State), let x := sysAt t s
      stepDone x 4 = true →
      flashIdle x = true →
      x.flash.present = true →
      x.flash.used + Config.ticksPerMs ≤ x.now →
      Machine.exec (.flashIdleStop t) s = .next (leavesSys t s (updFlash (fun f => { f with stopped := true }) x)))

/-- O38. A step with command c at the front of the queue is exec of c on the state with the queue's rest. On an empty queue a step
changes nothing: that clause is the model's choice (log entry 1). -/
def Obligations.A_step_runs_the_front_command : Prop :=
  (∀ (c : Instr) (rest : List Instr) (s : State), s.pending = c :: rest → step s = exec c { s with pending := rest }) ∧
  (∀ s : State, s.pending = [] → step s = .next s)

/-- O39. Whatever command is carried out, the commands that wait are the same after it. -/
def Obligations.Commands_leave_the_queue_alone : Prop :=
  ∀ (c : Instr) (s t : State), exec c s = .next t → t.pending = s.pending

/-- O40. No command is refused. The three commands that name an HBM block stop when its number is 89,478,420 or above, and nothing else
stops the block: each of the three completes on every block below that number, and every other command completes on every
state and all operands. That the model stops there is its choice (log entry 9): R371 gives the HBM no such block. -/
def Obligations.Only_blocks_beyond_the_HBM_stop : Prop :=
  (∀ (c : Instr) (s : State) (r : Refusal), exec c s ≠ .refused r) ∧
  (∀ (c : Instr) (s : State) (f : Fault), exec c s = .fault f ↔
    ∃ lba, f = .noSuchBlock lba ∧ 89478420 ≤ lba ∧
      ((∃ t owner noise, c = .hbmBlockRead t lba owner noise) ∨ (∃ t owner data, c = .hbmBlockWrite t lba owner data) ∨ (∃ t owner words, c = .narrowWrite t lba owner words))) ∧
  (∀ (t lba : Nat) (owner : Fin 10) (noise : List Disturbance) (data : List Byte) (words : List (Fin 64 × List Byte)) (s : State), lba < 89478420 →
    (∃ s', exec (.hbmBlockRead t lba owner noise) s = .next s' ∧ s'.pending = s.pending) ∧
    (∃ s', exec (.hbmBlockWrite t lba owner data) s = .next s' ∧ s'.pending = s.pending) ∧
    (∃ s', exec (.narrowWrite t lba owner words) s = .next s' ∧ s'.pending = s.pending)) ∧
  (∀ (c : Instr) (s : State), (∀ t lba owner noise, c ≠ .hbmBlockRead t lba owner noise) → (∀ t lba owner data, c ≠ .hbmBlockWrite t lba owner data) →
    (∀ t lba owner words, c ≠ .narrowWrite t lba owner words) → ∃ s', exec c s = .next s' ∧ s'.pending = s.pending)

/-- O41. From any state whose HBM lists its bytes with strictly rising addresses and no entry equal to what an unlisted byte reads as,
every step that goes on leaves the HBM in that form. The form is the model's; the bytes are those of R371 to R376. -/
def Obligations.HBM_keeps_its_canonical_form : Prop :=
  ∀ s t : State, hbmOk s → step s = .next t → hbmOk t

/-- O42. In the state that PORST_N holds, every object reads as its default, every counter reads 0, DC reads 0.0, the device state is
STARTING with no start-up step begun, both deciders have no claim, no session, frame or event exists, no cause is set and no
HBM byte is listed; the queue is empty and the HBM has its canonical form. What an unlisted HBM byte reads as and that both
claims are 0 are the model's choices (log entries 7 and 5). -/
def Obligations.Reset_state : Prop :=
  (∀ ix sub row col, val State.reset.sys ix sub row col = dfltVal ix sub row col) ∧ (∀ n, count State.reset.sys n = 0) ∧
  dc State.reset.sys = 0 ∧ State.reset.sys.devState = 0 ∧ State.reset.sys.devStep = 0 ∧ State.reset.sys.boot.porst = true ∧
  State.reset.sys.decA.claim = 0 ∧ State.reset.sys.decB.claim = 0 ∧ State.reset.sys.sessions = [] ∧ State.reset.sys.frames = [] ∧
  State.reset.sys.events = [] ∧ State.reset.sys.faults = 0 ∧ State.reset.pending = [] ∧ State.reset.hbm = [] ∧ hbmOk State.reset

/-- O43. Share j of physical block n lies on die (18k + j) mod 24 in slot 3g + (18k + j) div 24, with g = n div 4 and k = n mod 4.
Logical blocks and the 64 spares behind them take slots 0 to 67,108,862 of 24 dies; a block's shares lie on different dies;
different shares lie in different places; and four consecutive blocks fill three slots of every die. A logical block that is
not remapped is the physical block of its number, and spare s is physical block 89,478,420 + s. The data of the logical blocks
are 45,812,951,040 bytes. -/
def Obligations.Shares_are_placed_on_eighteen_dies : Prop :=
  (Config.memBlocks = 89478420 ∧ Config.memSpares = 64 ∧ Config.dies = 24 ∧ Config.dieSlots = 67108864 ∧ Config.memBlocks * 512 = 45812951040) ∧
  (∀ n j, j < 18 → sharePlace n j = ((18 * (n % 4) + j) % 24, 3 * (n / 4) + (18 * (n % 4) + j) / 24)) ∧
  (∀ n j, n < Config.memBlocks + Config.memSpares → j < 18 → (sharePlace n j).1 < 24 ∧ (sharePlace n j).2 < 67108863) ∧
  (∀ n i j, i < 18 → j < 18 → i ≠ j → (sharePlace n i).1 ≠ (sharePlace n j).1) ∧
  (∀ n m i j, i < 18 → j < 18 → sharePlace n i = sharePlace m j → n = m ∧ i = j) ∧
  (∀ g d q, d < 24 → q < 3 → ∃ k j, k < 4 ∧ j < 18 ∧ sharePlace (4 * g + k) j = (d, 3 * g + q)) ∧
  (∀ (s : Sys) (lba : Nat), spareOf s lba = none → (physical s lba).1 = lba) ∧
  (∀ (s : Sys) (lba i : Nat), spareOf s lba = some i → (physical s lba).1 = 89478420 + i)

/-- O44. Byte n of a block is byte position n mod 32 of data share n div 32. The eighteen shares of 32 bytes satisfy S0 = 0 and S1 = 0
at every position, over GF(2^8) with the polynomial x^8 + x^4 + x^3 + x^2 + 1 and α = 2; c_16 = (A + B) / 3 and c_17 = A +
c_16 for A and B of the data symbols. -/
def Obligations.The_code_words_satisfy_both_checks : Prop :=
  (∀ a, a < 128 → gfMul 2 a = 2 * a) ∧ (∀ a, 128 ≤ a → a < 256 → gfMul 2 a = (2 * a) ^^^ 0x11D) ∧
  ∀ data : List Byte, data.length = 512 →
    (encodeShares data).length = 18 ∧ (∀ j, j < 18 → ((encodeShares data).getD j []).length = 32) ∧
    (∀ n, n < 512 → byteAt ((encodeShares data).getD (n / 32) []) (n % 32) = byteAt data n) ∧
    ∀ p, p < 32 →
      let c := (encodeShares data).map (fun x => byteAt x p)
      xorAll c = 0 ∧ syndrome1 17 c = 0 ∧
      gfMul 3 (c.getD 16 0) = xorAll (c.take 16) ^^^ syndrome1 17 (c.take 16) ∧ c.getD 17 0 = xorAll (c.take 16) ^^^ c.getD 16 0

/-- O45. While no die is failed, block lba decodes clean to the 512 bytes last written whole, whatever it held before, and is not
poisoned. Where its region was written before, every HBM byte outside its eighteen shares and their tags is unchanged. -/
def Obligations.A_written_block_reads_back : Prop :=
  ∀ (lba : Nat) (data : List Byte) (x : SysMem), lba < Config.memBlocks → data.length = 512 → Memory.wf x.2 = true →
    (failedDie x.1 = none →
      let y := storeBlock lba false data x
      (decodeAt lba [] y).verdict = 0 ∧ (decodeAt lba [] y).data = data ∧ ¬ lba ∈ y.1.poison ∧ touched y.1 lba = true) ∧
    (touched x.1 lba = true → ∀ a, ¬ inBlock (physical x.1 lba).1 a →
      Memory.read (storeBlock lba false data x).2 a = Memory.read x.2 a)

/-- O46. A block of which one share was damaged, or lies on the failed die, decodes to the data written: with any bytes in that share,
and with a tag that is as written or fails its test. -/
def Obligations.Damage_within_one_share_is_corrected : Prop :=
  ∀ (area lba : Nat) (data : List Byte) (j : Nat) (sh : Share) (failed : List Nat), area < 4 → lba < 2 ^ 27 → data.length = 512 → j < 18 →
    sh.data.length = 32 → (∀ b ∈ sh.data, b < 256) →
    (sh.tag = tagWord false area lba ∨ oddParity 32 sh.tag = true ∨ bits sh.tag 29 28 ≠ area ∨ sh.tag % 2 ^ 27 ≠ lba) →
    (failed = [] ∨ failed = [j]) →
    let d := decodeBlock area lba failed (setAt (goodShares area lba data) j sh)
    d.data = data ∧ d.verdict ≤ 1 ∧ (d.verdict = 1 → d.fixed = [j])

/-- O47. Blocks 128r to 128r + 127 share one bit of the region-touched bitmap. A read of a block whose bit is 0 gives 512 zero bytes
without poison and changes nothing. A write of a block sets the bit of its region and of no other. -/
def Obligations.Untouched_regions_read_as_zeros : Prop :=
  (∀ (s : Sys) (r i : Nat), i < 128 → touched s (128 * r + i) = touched s (128 * r)) ∧
  (∀ (lba source : Nat) (noise : List Disturbance) (x : SysMem), touched x.1 lba = false →
    (readBlock lba source noise x).2 = x ∧ (readBlock lba source noise x).1.data = List.replicate 512 0 ∧
    (readBlock lba source noise x).1.verdict = 0) ∧
  (∀ (lba k : Nat) (p : Bool) (data : List Byte) (x : SysMem),
    touched (storeBlock lba p data x).1 k = if k / 128 = lba / 128 then true else touched x.1 k)

/-- O48. Every decision record whose values fit the fields of Table DEC-1 is encoded in 48 bytes with a good crc, and decoding gives
back every field of it. -/
def Obligations.Decision_records_decode_as_encoded : Prop :=
  ∀ r : Rec, recFits r → r.encode.length = 48 ∧ crcGood r.encode = true ∧ decodeRec r.encode = r

/-- O49. Whatever bits a transmitter is given behind its last bit and a run below 20, the receiver of R110 that stands at the same bit
and run delivers exactly those bits from what is sent, finds no stuff bit wrong, and ends at the bit and the run, below 20, at
which the transmitter ends: so runs go on alike across blocks. -/
def Obligations.Stuffed_bits_are_delivered : Prop :=
  ∀ (l : List Bool) (last : Bool) (run bad : Nat) (out : List Bool), run < 20 →
    (destuff (stuff l last run []).2.2.reverse last run bad out = ((stuff l last run []).1, (stuff l last run []).2.1, bad, l.reverse ++ out)) ∧
    (stuff l last run []).2.1 < 20

/-- O50. For minimum m, maximum M and step s: below m the device stores m with code 1; else above M it stores M with code 2; else off
the grid it stores m + k·s with code 3 for the integer k nearest to (v − m) / s, ties toward m; else it stores v with code 0.
Where M − m is a whole number of steps, what is stored lies in the range and on a step. -/
def Obligations.Numbers_are_clamped_to_their_range : Prop :=
  ∀ m M s v : Int, 0 < s → m ≤ M → (M - m) % s = 0 →
    (v < m → clampStep m M s v = (.num m, 1)) ∧
    (m ≤ v → M < v → clampStep m M s v = (.num M, 2)) ∧
    (m ≤ v → v ≤ M → (v - m) % s ≠ 0 → ∃ k : Int, clampStep m M s v = (.num (m + k * s), 3) ∧
      -s < 2 * (v - (m + k * s)) ∧ 2 * (v - (m + k * s)) ≤ s) ∧
    (m ≤ v → v ≤ M → (v - m) % s = 0 → clampStep m M s v = (.num v, 0)) ∧
    (m ≤ (clampStep m M s v).1.toInt ∧ (clampStep m M s v).1.toInt ≤ M ∧ ((clampStep m M s v).1.toInt - m) % s = 0)

/-- O51. A TIME of 48 bits of seconds, 32 bits of nanoseconds and 16 bits of fraction whose nanoseconds exceed 999,999,999 is stored
with 999,999,999 nanoseconds and code 2 for that field, any other as written. A BOOL other than 0 and 1, and a value that an
enumeration does not list, are rejected with code 4 and the old value kept. -/
def Obligations.Times_and_lists_are_checked : Prop :=
  (∀ (f : Field) (row sec ns fr : Nat) (old : Value), f.ty = .time → f.fixed row = false → sec < 2 ^ 48 → ns < 2 ^ 32 → fr < 2 ^ 16 →
    checkField f row old (.num ((sec * 2 ^ 48 + ns * 2 ^ 16 + fr : Nat) : Int)) =
      if 999999999 < ns then (.num ((sec * 2 ^ 48 + 999999999 * 2 ^ 16 + fr : Nat) : Int), [0, 2, 0])
      else (.num ((sec * 2 ^ 48 + ns * 2 ^ 16 + fr : Nat) : Int), [0, 0, 0])) ∧
  (∀ (f : Field) (row : Nat) (old : Value) (v : Int), f.ty = .bool → f.fixed row = false → v ≠ 0 → v ≠ 1 →
    checkField f row old (.num v) = (old, [4])) ∧
  (∀ (f : Field) (row : Nat) (old : Value) (v : Int) (l : List Int), f.ty = .enum8 → f.rng = .enum l → f.fixed row = false → ¬ v ∈ l →
    checkField f row old (.num v) = (old, [4]))

/-- O52. Whatever is written to TX_EQ, the stored taps lie in their ranges with pre + main + post ≤ 63 and main − pre − post ≥ 8; main
is the clamped main; post gives way before pre; no tap is reduced without need; each tap that is reduced has code 2, and a
main that is raised has code 1. -/
def Obligations.Equaliser_taps_stay_within_their_limits : Prop :=
  (∀ v : Nat,
    let pre := min 15 (bits v 23 16)
    let main := max 16 (min 63 (bits v 15 8))
    let post := min 31 (v % 256)
    ∃ a b, a ≤ pre ∧ b ≤ post ∧ (0 < b → a = pre) ∧ a + main + b ≤ 63 ∧ 8 + a + b ≤ main ∧
      ((a, b) = (pre, post) ∨ a + main + b = 63 ∨ 8 + a + b = main) ∧
      eqCheck v = (a * 65536 + main * 256 + b,
        [if a < bits v 23 16 then 2 else 0, if main < bits v 15 8 then 2 else if bits v 15 8 < main then 1 else 0, if b < v % 256 then 2 else 0])) ∧
  eqCheck 0x14320C = (0x0D3200, [2, 0, 2])

/-- O53. With take_any set, the number is taken, take_any clears and the frame passes. Else a number equal to R is discarded and
counted in FRER_DISCARDED. Else FRER_OUT_OF_ORDER counts unless the number is R + 1 modulo 65,536, and the number becomes R
and the frame passes. -/
def Obligations.The_match_algorithm : Prop :=
  ∀ (fn n : Nat) (v : Rcvy) (s : Sys),
    (v.takeAny = true → matchStep fn n v s = (s, { v with recov := n, takeAny := false }, true)) ∧
    (v.takeAny = false → n = v.recov → ∃ w, matchStep fn n v s = (bump (Ctr.frerDiscarded fn) s, w, false) ∧ w.recov = v.recov ∧ w.takeAny = false) ∧
    (v.takeAny = false → n ≠ v.recov →
      matchStep fn n v s = (if n = (v.recov + 1) % 65536 then s else bump (Ctr.frerOutOfOrder fn) s, { v with recov := n }, true))

/-- O54. Counting k events on counter n leaves counter n at its old value plus k modulo 2^64, every other counter as it was, and
nothing else of the device changed. -/
def Obligations.Counters_wrap_and_stand_alone : Prop :=
  ∀ (n k : Nat) (s : Sys), SMap.wf 0 s.ctr = true →
    count (bumpBy n k s) n = (count s n + k) % 2 ^ 64 ∧ (∀ m, m ≠ n → count (bumpBy n k s) m = count s m) ∧
    { bumpBy n k s with ctr := s.ctr } = s ∧ SMap.wf 0 (bumpBy n k s).ctr = true

/-- O55. After an election at most one decider is LEADING. Of two deciders with a claim, the one with the higher claim leads and the
other follows; with equal claims DEC_PREFER names the leader. A decider that alone has a claim leads. With none there is no
committer and DEC_COMMITTER reads 2. An election changes no claim and neither the dictionary nor the frames. -/
def Obligations.At_most_one_decider_leads : Prop :=
  ∀ s : Sys,
    ¬ ((elect s).decA.st = .leading ∧ (elect s).decB.st = .leading) ∧
    (committing s.decA = true → committing s.decB = true →
      (s.decB.claim < s.decA.claim ∨ s.decA.claim = s.decB.claim ∧ obj s 0x0500 3 = 0 →
        (elect s).decA.st = .leading ∧ (elect s).decB.st = .following ∧ committer (elect s) = 0) ∧
      (s.decA.claim < s.decB.claim ∨ s.decA.claim = s.decB.claim ∧ obj s 0x0500 3 ≠ 0 →
        (elect s).decA.st = .following ∧ (elect s).decB.st = .leading ∧ committer (elect s) = 1)) ∧
    (committing s.decA = true → committing s.decB = false → committer (elect s) = 0) ∧
    (committing s.decA = false → committing s.decB = true → committer (elect s) = 1) ∧
    (committing s.decA = false → committing s.decB = false → committer (elect s) = 2) ∧
    (elect s).decA.claim = s.decA.claim ∧ (elect s).decB.claim = s.decB.claim ∧ (elect s).dict = s.dict ∧ (elect s).frames = s.frames

/-- O56. An opcode of no list is answered 0x21. Before the device is ready every request but DISCOVER, SESSION_CLOSE, KEEPALIVE, and
reads of 0x0100 to 0x012F is answered STARTING; in DORMANT every other request but a WRITE to 0x0110–0x011F and 0x0400–0x047F
is answered DORMANT. A monitor session is answered ROLE_REFUSED for all but closing, keep-alive and reads. -/
def Obligations.Requests_are_turned_away : Prop :=
  ∀ (r : Reply) (f : GFrame) (x : SysMem),
    (listed f.opcode = false → execute r f x = onSys (answer r 0x21 false []) x) ∧
    (listed f.opcode = true → x.1.devState = 0 → f.opcode ∈ [0x11, 0x12, 0x13, 0x15, 0x20, 0x21, 0x22, 0x23] → execute r f x = onSys (answer r 0x42 false []) x) ∧
    (listed f.opcode = true → x.1.devState = 3 → f.opcode ∈ [0x12, 0x13, 0x15, 0x20, 0x21, 0x22, 0x23] → execute r f x = onSys (answer r 0x45 false []) x) ∧
    (x.1.devState = 0 → f.opcode = 0x10 ∨ f.opcode = 0x14 → (∃ i ∈ indexesOf f, i < 0x0100 ∨ 0x012F < i) → execute r f x = onSys (answer r 0x42 false []) x) ∧
    (x.1.devState = 3 → f.opcode = 0x11 → (∃ i ∈ indexesOf f, ¬ (0x0110 ≤ i ∧ i ≤ 0x011F) ∧ ¬ (0x0400 ≤ i ∧ i ≤ 0x047F)) → execute r f x = onSys (answer r 0x45 false []) x) ∧
    (x.1.devState = 1 → roleOf x.1 r.sid = 1 → f.opcode ∈ [0x11, 0x13, 0x15, 0x20, 0x21, 0x22, 0x23] → execute r f x = onSys (answer r 0x34 false []) x)

/-- O57. A session without a held response whose oldest waiting request is f has f taken from its queue and executed, and the rest
served after it. A session with a response that must wait is not served. A session with nothing waiting, and one without a
held response that ends at the commit point being carried out, is left alone. -/
def Obligations.Waiting_requests_are_served_in_order : Prop :=
  ∀ (sid n : Nat) (x : SysMem) (v : Session), session? x.1 sid = some v →
    (∀ (at_ : Nat) (r : Reply) (f : GFrame) (l : List (Nat × Reply × GFrame)), v.held = none → v.waitq = (at_, r, f) :: l → x.1.ending.contains sid = false →
      pumpSession sid (n + 1) x = pumpSession sid n (execute r f (onSys (updSession sid (fun w => { w with waitq := l })) x))) ∧
    (∀ h, v.held = some h → heldReady x.1 v h = false → pumpSession sid n x = x) ∧
    (v.held = none → v.waitq = [] → pumpSession sid n x = x) ∧
    (v.held = none → x.1.ending.contains sid = true → pumpSession sid n x = x)

/-- O58. A read of an index from 0xF000 on has code 6, and of any other unassigned index or subindex the status "no such object"
without a value. A write by a session to either changes nothing at all. -/
def Obligations.Unassigned_objects_are_refused : Prop :=
  ∀ (x : SysMem) (sid ix sub : Nat) (v : Value),
    (0xF000 ≤ ix → readItem x sid ix sub = (6, 0, [])) ∧
    (ix < 0xF000 → objAt ix sub = none → readItem x sid ix sub = (0x10, 0, [])) ∧
    (objAt ix sub = none → sessionWrite sid ix sub v x = x)

/-- O59. On a ready and idle device each of the six commands of training, eye measurement and PRBS lock answers a next state in which
every other lane, the dictionary, the generation, every queue, copy and frame, the flash, and every HBM byte are as before. -/
def Obligations.Lane_commands_leave_all_else : Prop :=
  ∀ (t : Nat) (lane : Fin 64) (tap : Tap) (up : Bool) (height width : BitVec 16) (errors : Nat) (c : Instr) (s : State), quiet s.sys →
    c ∈ [Instr.laneTrainingRequest t lane tap up, .laneTrainingDone t lane, .laneTrainingTimeout t lane, .rxEyeMeasure t lane height width errors, .prbsLockAcquired t lane, .prbsLockLoss t lane errors] →
    ∃ u, exec c s = .next u ∧ (∀ n, n ≠ lane.val → Machine.lane u.sys n = Machine.lane s.sys n) ∧ u.sys.dict = s.sys.dict ∧ u.sys.gen = s.sys.gen ∧
      u.sys.queues = s.sys.queues ∧ u.sys.copies = s.sys.copies ∧ u.sys.frames = s.sys.frames ∧ u.sys.flash = s.sys.flash ∧
      (∀ a, Memory.read u.hbm a = Memory.read s.hbm a)

/-- O60. On a ready and idle device, HBM_BLOCK_WRITE of a block whose region was written before answers a next state in which every HBM
byte outside the block's eighteen shares reads as before, and the dictionary, the counters, the lanes, every queue, copy and
frame, and the flash are as before. -/
def Obligations.A_block_write_leaves_all_else : Prop :=
  ∀ (t lba : Nat) (owner : Fin 10) (data : List Byte) (s : State), quiet s.sys → lba < 89478420 → touched s.sys lba = true → s.sys.now = t →
    ∃ u, exec (.hbmBlockWrite t lba owner data) s = .next u ∧
      (∀ a, ¬ inBlock (physical s.sys lba).1 a → Memory.read u.hbm a = Memory.read s.hbm a) ∧
      u.sys.dict = s.sys.dict ∧ u.sys.ctr = s.sys.ctr ∧ u.sys.lanes = s.sys.lanes ∧ u.sys.queues = s.sys.queues ∧ u.sys.copies = s.sys.copies ∧
      u.sys.frames = s.sys.frames ∧ u.sys.flash = s.sys.flash
end

