-- ==== Sys2Proof/Laws/Command.lean ====
section
/-! SUPPORT. What every command does: the state it leaves, and how a command that a session writes takes effect. -/

namespace Sys2Proof.Laws

open Sys2Proof.Machine Sys2Proof.Safety

/-- A command of tick `t` whose effect on the registers it finds is `y`. -/
theorem run_eq (t : Nat) (f : Sys → Sys) (s : State) (x y : Sys) (hx : sysAt t s = x) (h : f x = y) : run t f s = .next (leavesSys t s y) := by
  subst hx h
  rfl

/-- The same for a command with an effect on the HBM. -/
theorem runMem_eq (t : Nat) (f : SysMem → SysMem) (s : State) (x y : SysMem) (hx : atTick t s = x) (h : f x = y) :
    runMem t f s = .next (leaves s y) := by
  subst hx h
  rfl

/-- Nothing written, nothing clamped. -/
theorem clampRounds_nil (o : Sys) (n : Nat) (s : Sys) : clampRounds o n [] s = (s, []) := by
  cases n <;> simp [clampRounds]

/-- A commit that changes no object only lets a REC_SIZE that waited take effect. -/
theorem commitHooks_nil (s : Sys) : commitHooks s [] s = recSizeCommit s := by
  have : ∀ b, sourceHook s b s = s := by intro b; simp [sourceHook]
  simp [commitHooks, loop, this]

/-- Neither a command that is no restore nor a value outside the rules makes a new rule set. -/
theorem changesRules_one (s : Sys) (y : Staged) (hr : ruleObject y.ix y.sub = false) (hn : isRestore y = false) : changesRules s [y] = false := by
  simp [changesRules, stagesRules, hr, hn]

/-- A command is no restore. -/
theorem isRestore_no (ix sub row col : Nat) (req w : Value) (codes : List Nat) (hn : (ix, sub, w.toNat) ≠ (0x200, 0x0F, 2)) :
    isRestore { ix := ix, sub := sub, row := row, col := col, req := req, val := w, codes := codes } = false := by
  rw [Bool.eq_false_iff]
  intro hc
  simp only [isRestore, Bool.and_eq_true, beq_iff_eq] at hc
  obtain ⟨⟨a, b⟩, d⟩ := hc
  apply hn
  rw [a, b, d]
  rfl

/-- A fold whose every step changes nothing. -/
theorem foldl_same {α β : Type} (f : β → α → β) (l : List α) (s : β) (h : ∀ e ∈ l, ∀ s, f s e = s) : l.foldl f s = s := by
  induction l generalizing s with
  | nil => rfl
  | cons a l ih =>
    rw [List.foldl_cons, h a (by simp)]
    exact ih s (fun e he => h e (by simp [he]))

/-- Codes that are all 0 enter nothing. -/
theorem enterCodes_zero (sid txn ix sub row col : Nat) (gov : Nat × Nat) (codes : List Nat) (req stored : Value) (s : Sys) (h : ∀ c ∈ codes, c = 0) :
    enterCodes sid txn ix sub row col gov codes req stored s = s := by
  unfold enterCodes
  refine foldl_same _ _ s ?_
  intro e he s
  have : e.1 = 0 := h e.1 (List.fst_mem_of_mem_zipIdx he)
  simp [this]

/-- The commit of one command object is the command's effect at the commit point (R49). -/
theorem commit_value (sid ix sub : Nat) (w : Value) (codes : List Nat) (x : SysMem) (hcs : ∀ c ∈ codes, c = 0) (c : isCommand ix sub = true) (hr : ruleObject ix sub = false) (hn : (ix, sub, w.toNat) ≠ (0x200, 0x0F, 2)) (h220 : ix ≠ 0x220) (h400 : ix ≠ 0x400 ∧ (sub = 2 → 0x1980 ≤ ix) ∧ (sub = 9 → ix < 0x0800 ∨ 0x0840 ≤ ix))
  (y : SysMem) (hy : commandEffect sid 0 ix sub (w) (recSizeCommit (nextGen x.1), x.2) = (y, none)) :
  commitStaged sid 0 [{ ix := ix, sub := sub, row := 0, col := 0, req := w, val := w, codes := codes }] x = (y, [({ ix := ix, sub := sub, row := 0, col := 0, req := w, val := w, codes := codes }, codes)], false) := by
  have hx : actsOnly { ix := ix, sub := sub, row := 0, col := 0, req := w, val := w, codes := codes } = true := by simp [actsOnly, c]
  have hrs := isRestore_no ix sub 0 0 w w codes hn
  have hcr := changesRules_one (nextGen x.1) _ (show ruleObject (Staged.ix { ix := ix, sub := sub, row := 0, col := 0, req := w, val := w, codes := codes }) sub = false from hr) hrs
  have hk : ∀ s, kngFixed s { ix := ix, sub := sub, row := 0, col := 0, req := w, val := w, codes := codes } = none := by
    intro s
    refine if_neg ?_
    rintro ⟨a, b, _⟩
    have := h400.2.1 a
    simp only at b
    omega
  unfold commitStaged
  simp only [hcr, Bool.false_eq_true, if_false, putStaged, List.foldl, hrs, hx, if_true, clampRounds_nil, List.filterMap_cons, List.filterMap_nil, hk, List.map_nil, List.append_nil, List.eraseDups_nil, List.filter_nil, commitHooks_nil]
  simp [runStaged, hx, h220, hy, finalCodes, enterCodes_zero _ _ _ _ _ _ _ codes _ _ _ hcs, h400.1]

theorem commit_command (sid ix sub v : Nat) (x : SysMem) (c : isCommand ix sub = true) (hr : ruleObject ix sub = false) (hn : (ix, sub, v) ≠ (0x200, 0x0F, 2)) (h220 : ix ≠ 0x220) (h400 : ix ≠ 0x400 ∧ (sub = 2 → 0x1980 ≤ ix) ∧ (sub = 9 → ix < 0x0800 ∨ 0x0840 ≤ ix))
  (y : SysMem) (hy : commandEffect sid 0 ix sub (.num v) (recSizeCommit (nextGen x.1), x.2) = (y, none)) :
  commitStaged sid 0 [{ ix := ix, sub := sub, row := 0, col := 0, req := .num v, val := .num v, codes := [0] }] x = (y, [({ ix := ix, sub := sub, row := 0, col := 0, req := .num v, val := .num v, codes := [0] }, [0])], false) :=
  commit_value sid ix sub (.num v) [0] x (by simp) c hr (by simpa [Value.toNat, Value.toInt] using hn) h220 h400 y hy

/-- A command object that a session may write is committed at its commit point (R31, R72). -/
theorem value_direct (sid ix sub : Nat) (w : Value) (codes : List Nat) (x : SysMem) (o : Obj) (f : Field) (fs : List Field) (h : mayCommand x.1 sid ix sub w.toNat)
    (ho : objAt ix sub = some o) (hrows : o.rows = none) (hcols : o.cols = f :: fs) (hacc : o.acc = .wo) (hheld : sessionHeld ix sub = false)
    (hck : checkValue x.1 ix sub 0 0 f (w) = (w, codes)) (hcs : ∀ c ∈ codes, c = 0) 
    (hcr : ∀ s : Sys, s.dict = x.1.dict → changesRules s [{ ix := ix, sub := sub, row := 0, col := 0, req := w, val := w, codes := codes }] = false)
    (h9 : sub = 9 → ix < 0x0800 ∨ 0x0840 ≤ ix) :
    sessionWrite sid ix sub w x = settled sid x (commitStaged sid 0 [{ ix := ix, sub := sub, row := 0, col := 0, req := w, val := w, codes := codes }] (commitAll [] false (pointOf sid x))).1 := by
  obtain ⟨h1, h2, h3, h4⟩ := h
  have hcmd : isCommand ix sub = true := by simp [isCommand, ho, hheld, hacc]
  have hacc' : accessCode x.1 sid ix sub o = 0 := by simp [accessCode, hacc, h2, h3]
  have h9' : ¬(0x0800 ≤ ix ∧ ix < 0x0840 ∧ sub = 9 ∧ activeSource x.1 ((ix - 0x0800) / 16) ≠ 0) := by
    rintro ⟨a, b, c, _⟩
    have := h9 c
    omega
  have c0 := hcr x.1 rfl
  have c1 := hcr (touchTxn sid x.1) rfl
  have hrel : releases [{ ix := ix, sub := sub, row := 0, col := 0, req := w, val := w, codes := codes }] = [] := by
    have : ¬(ix = 0x0220 ∧ sub = 2) := by
      rintro ⟨rfl, rfl⟩
      simp [sessionHeld] at hheld
    simpa [releases] using this
  have htouch : touchFor sid ix sub x.1 = touchTxn sid x.1 := by
    refine if_neg ?_
    intro he
    obtain ⟨rfl, rfl⟩ := Prod.mk.inj he
    simp [sessionHeld] at hheld
  have hany : codes.any (fun c => c == 5 || c == 6 || c == 8) = false := by
    rw [Bool.eq_false_iff]
    intro ha
    obtain ⟨c, hc, hd⟩ := List.any_eq_true.mp ha
    simp [hcs c hc] at hd
  have hfour : codes.contains 4 = false := by
    rw [Bool.eq_false_iff]
    intro ha
    have := hcs 4 (by simpa using ha)
    omega
  have hrej : rejected x.1 { ix := ix, sub := sub, row := 0, col := 0, req := w, val := w, codes := codes } = false := by simp only [rejected, hany, hfour, Bool.false_and, Bool.or_false]
  have hfirst : firstCode codes = 0 := by
    have : codes.find? (· != 0) = none := by
      rw [List.find?_eq_none]
      intro c hc
      simp [hcs c hc]
    simp [firstCode, this]
  have hw : (writeValue sid ix sub f o (w) (x.1, [])).1 = (x.1, [{ ix := ix, sub := sub, row := 0, col := 0, req := w, val := w, codes := codes }]) := by
    unfold writeValue
    simp only [hacc', hheld, hck, hcmd, h2, hfirst, placeField, h4, if_neg h9', Bool.false_eq_true, and_false, if_false]
    simp [hrej, c0]
  unfold sessionWrite
  simp only [h1, ho, hrows, hcols, hw, htouch]
  simp [directCommit, c1, hrel, onSys, settled, pointOf]

/-- A command object that a session may write takes effect at its commit point, as `commandEffect` says (R31, R72). -/
theorem value_effect (sid ix sub : Nat) (w : Value) (codes : List Nat) (x y : SysMem) (o : Obj) (f : Field) (fs : List Field) (h : mayCommand x.1 sid ix sub w.toNat)
    (ho : objAt ix sub = some o) (hrows : o.rows = none) (hcols : o.cols = f :: fs) (hacc : o.acc = .wo) (hheld : sessionHeld ix sub = false)
    (hck : checkValue x.1 ix sub 0 0 f (w) = (w, codes)) (hcs : ∀ c ∈ codes, c = 0)
    (hr : ruleObject ix sub = false) (hn : (ix, sub, w.toNat) ≠ (0x200, 0x0F, 2)) (h220 : ix ≠ 0x220) (h400 : ix ≠ 0x400 ∧ (sub = 2 → 0x1980 ≤ ix) ∧ (sub = 9 → ix < 0x0800 ∨ 0x0840 ≤ ix))
    (hy : commandEffect sid 0 ix sub (w) (commandPoint sid x) = (y, none)) : sessionWrite sid ix sub w x = settled sid x y := by
  have hcmd : isCommand ix sub = true := by simp [isCommand, ho, hheld, hacc]
  rw [value_direct sid ix sub w codes x o f fs h ho hrows hcols hacc hheld hck hcs (fun s _ => changesRules_one s _ hr (isRestore_no ix sub 0 0 w w codes hn)) h400.2.2]
  have hc := commit_value sid ix sub w codes (commitAll [] false (pointOf sid x)) hcs hcmd hr hn h220 h400 y hy
  rw [hc]

/-- The same for numbers. -/
theorem writes_codes_effect (sid ix sub v : Nat) (codes : List Nat) (x y : SysMem) (o : Obj) (f : Field) (fs : List Field) (h : mayCommand x.1 sid ix sub v)
    (ho : objAt ix sub = some o) (hrows : o.rows = none) (hcols : o.cols = f :: fs) (hacc : o.acc = .wo) (hheld : sessionHeld ix sub = false)
    (hck : checkValue x.1 ix sub 0 0 f (.num v) = (.num v, codes)) (hcs : ∀ c ∈ codes, c = 0)
    (hr : ruleObject ix sub = false) (hn : (ix, sub, v) ≠ (0x200, 0x0F, 2)) (h220 : ix ≠ 0x220) (h400 : ix ≠ 0x400 ∧ (sub = 2 → 0x1980 ≤ ix) ∧ (sub = 9 → ix < 0x0800 ∨ 0x0840 ≤ ix))
    (hy : commandEffect sid 0 ix sub (.num v) (commandPoint sid x) = (y, none)) : writes sid ix sub v x = settled sid x y := by
  have tn : (Value.num (v : Int)).toNat = v := by simp [Value.toNat, Value.toInt]
  exact value_effect sid ix sub (.num v) codes x y o f fs (by rw [tn]; exact h) ho hrows hcols hacc hheld hck hcs hr (by rw [tn]; exact hn) h220 h400 hy

theorem writes_command (sid ix sub v : Nat) (x y : SysMem) (o : Obj) (f : Field) (fs : List Field) (h : mayCommand x.1 sid ix sub v)
    (ho : objAt ix sub = some o) (hrows : o.rows = none) (hcols : o.cols = f :: fs) (hacc : o.acc = .wo) (hheld : sessionHeld ix sub = false)
    (hck : checkValue x.1 ix sub 0 0 f (.num v) = (.num v, [0]))
    (hr : ruleObject ix sub = false) (hn : (ix, sub, v) ≠ (0x200, 0x0F, 2)) (h220 : ix ≠ 0x220) (h400 : ix ≠ 0x400 ∧ (sub = 2 → 0x1980 ≤ ix) ∧ (sub = 9 → ix < 0x0800 ∨ 0x0840 ≤ ix))
    (hy : commandEffect sid 0 ix sub (.num v) (commandPoint sid x) = (y, none)) : writes sid ix sub v x = settled sid x y :=
  writes_codes_effect sid ix sub v [0] x y o f fs h ho hrows hcols hacc hheld hck (by simp) hr hn h220 h400 hy

/-- An RWS command object written in an ARMED transaction is staged (R45 to R47). -/
theorem writes_stage (sid ix sub v : Nat) (x : SysMem) (o : Obj) (f : Field) (fs : List Field) (h : mayStage x.1 sid ix sub v)
    (ho : objAt ix sub = some o) (hrows : o.rows = none) (hcols : o.cols = f :: fs) (hacc : o.acc = .rws) (hheld : sessionHeld ix sub = false)
    (hcls : o.cls = .v) (hck : checkValue x.1 ix sub 0 0 f (.num v) = (.num v, [0]))
    (h9 : ix ≠ 0x200 ∧ (sub = 9 → ix < 0x0800 ∨ 0x0840 ≤ ix)) : writes sid ix sub v x = onSys (withStaged sid ix sub v) x := by
  obtain ⟨h1, hd, h2, h3, h4, h5, h6, h7⟩ := h
  obtain ⟨hn, h9⟩ := h9
  have hcmd : isCommand ix sub = true := by simp [isCommand, ho, hheld, hacc, hcls]
  have hot : openTxn (txnOf x.1 sid) = true := by simp [openTxn, h2]
  have hin : inTxn x.1 sid = true := by simp [inTxn, hot, hd]
  have hacc' : accessCode x.1 sid ix sub o = 0 := by simp [accessCode, hacc, hin, h2, h3, h4]
  have hrs : isRestore { ix := ix, sub := sub, row := 0, col := 0, req := .num v, val := .num v, codes := [0] } = false := by
    simp [isRestore, hn]
  have hrej : rejected x.1 { ix := ix, sub := sub, row := 0, col := 0, req := .num v, val := .num v, codes := [0] } = false := by
    simp [rejected]
  have tn : (Value.num (v : Int)).toNat = v := by simp [Value.toNat, Value.toInt]
  have e : stageField sid { ix := ix, sub := sub, row := 0, col := 0, req := .num v, val := .num v, codes := [0] } x.1 =
      (updTxn sid (fun y => { y with staged := stagedElse x.1 sid ix sub ++ [stagedCommand ix sub v] }) x.1, [7]) := by
    have h8 : ¬ (1024 < ((stagedCommand ix sub v :: stagedElse x.1 sid ix sub).map stagedFields).foldl (· + ·) 0
        ∨ 65536 < ((stagedCommand ix sub v :: stagedElse x.1 sid ix sub).map valueBytes).foldl (· + ·) 0) := by
      rintro (h | h) <;> omega
    exact if_neg h8
  have h9' : ¬(0x0800 ≤ ix ∧ ix < 0x0840 ∧ sub = 9 ∧ activeSource x.1 ((ix - 0x0800) / 16) ≠ 0) := by
    rintro ⟨a, b, c, _⟩
    have := h9 c
    omega
  have hw : (writeValue sid ix sub f o (.num v) (x.1, [])).1 = (updTxn sid (fun y => { y with staged := stagedElse x.1 sid ix sub ++ [stagedCommand ix sub v] }) x.1, []) := by
    unfold writeValue
    simp only [hacc', hheld, hck, hcmd, hin, firstCode, placeField, hrs, tn, h5, if_neg h9']
    simp [hrej, e, enterCodes]
  have htouch : ∀ s, touchFor sid ix sub s = touchTxn sid s := fun s => if_neg (by simp [hn])
  unfold writes sessionWrite
  simp only [h1, ho, hrows, hcols, hw, htouch]
  simp [directCommit, onSys, withStaged]

/-- The mode of a word of EMM_FLUSH (R206). -/
theorem flushWord_mode (mode : Nat) (lag peer : Bool) (target vid : Nat) (h : mode < 16) : bits (flushWord mode lag peer target vid) 31 28 = mode := by
  have hb (b : Bool) : boolNat b ≤ 1 := by cases b <;> decide
  have h1 := hb lag
  have h2 := hb peer
  simp only [bits, flushWord]
  generalize boolNat lag = a at *
  generalize boolNat peer = b at *
  omega
/-- A flush that a session may write, with a mode of Table TAB-6, starts at its commit point (R206). -/
theorem flush_command (sid w : Nat) (x : SysMem) (hb : 1 ≤ bits w 31 28 ∧ bits w 31 28 ≤ 5) (h0 : mayCommand x.1 sid 0x4003 1 w)
    (h1 : (commandPoint sid x).1.flush = none) : writes sid 0x4003 1 w x = settled sid x (onSys (startFlush w (findKey (commandPoint sid x).1 sid)) (commandPoint sid x)) := by
  refine writes_command sid 0x4003 1 (w) x _ _ _ _ h0 (by rfl) rfl rfl rfl rfl ?_ rfl (by simp) (by decide) (by decide) ?_
  · simp [checkValue, checkSpecial, Value.toNat, Value.toInt, hb]
  · simp [commandEffect, onSys, h1, Value.toNat, Value.toInt]

/-- A write of one of a session's own objects (R33). -/
theorem writes_own (sid ix sub v : Nat) (x : SysMem) (y : Sys) (o : Obj) (f : Field) (fs : List Field) (codes : List Nat) (l : List Staged) (h : mayOwn x.1 sid ix sub)
    (ho : objAt ix sub = some o) (hrows : o.rows = none) (hcols : o.cols = f :: fs) (hacc : o.acc = .wo ∨ o.acc = .rw) (hheld : sessionHeld ix sub = true)
    (hw : writeOwn sid ix sub f (.num v) x.1 = (y, codes, l)) : writes sid ix sub v x = (directCommit sid l (touchFor sid ix sub y, x.2)).1 := by
  obtain ⟨h1, h2⟩ := h
  have hacc' : accessCode x.1 sid ix sub o = 0 := by rcases hacc with h | h <;> simp [accessCode, h, h2]
  have h9' : ¬(0x0800 ≤ ix ∧ ix < 0x0840 ∧ sub = 9 ∧ activeSource x.1 ((ix - 0x0800) / 16) ≠ 0) := by
    rintro ⟨a, b, c, _⟩
    have : sessionHeld ix sub = false := by simp [sessionHeld]; omega
    simp [this] at hheld
  unfold writes sessionWrite
  simp only [h1, ho, hrows, hcols, writeValue, hacc', hheld, hw, if_neg h9']
  simp

/-- The same where nothing is left for a commit point. -/
theorem writes_own_now (sid ix sub v : Nat) (x : SysMem) (y : Sys) (o : Obj) (f : Field) (fs : List Field) (codes : List Nat) (h : mayOwn x.1 sid ix sub)
    (ho : objAt ix sub = some o) (hrows : o.rows = none) (hcols : o.cols = f :: fs) (hacc : o.acc = .wo ∨ o.acc = .rw) (hheld : sessionHeld ix sub = true)
    (hw : writeOwn sid ix sub f (.num v) x.1 = (y, codes, [])) : writes sid ix sub v x = (touchFor sid ix sub y, x.2) := by
  rw [writes_own sid ix sub v x y o f fs codes [] h ho hrows hcols hacc hheld hw]
  simp [directCommit]

/-- MDIO_CMD of a port that carries traffic. -/
theorem mdio_obj : ∀ p : Fin 73, objAt (pix p.val 6) 4 = some { acc := .wo, cls := .v, cols := [ro .u64] } := by
  intro p
  have hp := p.isLt
  have e1 : (pix p.val 6 - 0x1000) / 0x20 = p.val := by unfold pix; omega
  have e2 : pix p.val 6 % 0x20 = 6 := by unfold pix; omega
  have e3 : 0x1000 ≤ pix p.val 6 ∧ pix p.val 6 < 0x1980 := by unfold pix; omega
  unfold objAt objBody
  rw [if_neg (by decide), if_pos e3, e1, e2]
  exact if_pos (show p.val ≤ 72 by omega)

/-- The fields of a word of MDIO_CMD (Table PRT-14). -/
theorem mdio_word (op prtad devad data : Nat) (h0 : op ≤ 5) (h1 : prtad < 32) (h2 : devad < 32) (h3 : data < 65536) :
    let w := op * 2 ^ 60 + prtad * 2 ^ 48 + devad * 2 ^ 40 + data
    bits w 63 60 = op ∧ bits w 52 48 = prtad ∧ bits w 44 40 = devad ∧ w % 65536 = data := by
  simp only [bits]
  omega

/-- An MDIO command that a session may write is queued at its commit point (R143). -/
theorem mdio_command (sid w : Nat) (p : Fin 73) (x : SysMem) (hb : bits w 63 60 ≤ 5) (h0 : mayCommand x.1 sid (pix p.val 6) 4 w)
    (h1 : (port (commandPoint sid x).1 p.val).mdioBusy = false) (h2 : (commandPoint sid x).1.mdio.length < 16) :
    writes sid (pix p.val 6) 4 w x = settled sid x (onSys (fun s => updPort p.val (fun q => { q with mdioBusy := true })
      { s with mdio := s.mdio ++ [{ port := p.val, op := bits w 63 60, prtad := bits w 52 48, devad := bits w 44 40, data := w % 65536 }] })
      (commandPoint sid x)) := by
  have hp := p.isLt
  have e1 : (pix p.val 6 - 0x1000) / 32 = p.val := by unfold pix; omega
  have e2 : pix p.val 6 % 32 = 6 := by unfold pix; omega
  have e3 : 0x1000 ≤ pix p.val 6 ∧ pix p.val 6 < 0x1980 := by unfold pix; omega
  refine writes_command sid _ 4 w x _ _ _ _ h0 (mdio_obj p) rfl rfl rfl ?_ ?_ ?_ ?_ ?_ ?_ ?_
  · generalize pix p.val 6 = ix at *
    simp [sessionHeld]; omega
  · simp [checkValue, checkSpecial, Value.toNat, Value.toInt, e2, e3, hb]
  · generalize pix p.val 6 = ix at *
    simp [ruleObject]; omega
  · simp
  · omega
  · omega
  · simp [commandEffect, e1, e3, mdioCommand, h1, Nat.not_le.mpr h2, Value.toNat, Value.toInt, onSys]

set_option maxHeartbeats 1000000 in
/-- Every command lets time run, has its effect and lets what follows happen; but the three that name an HBM block stop where it does
not exist. -/
theorem exec_runs (c : Instr) (s : State) :
    (∃ t f, exec c s = runMem t f s)
      ∨ ∃ t lba f, exec c s = (if Config.memBlocks ≤ lba then .fault (.noSuchBlock lba) else runMem t f s) ∧
        ((∃ o q, c = .hbmBlockRead t lba o q) ∨ (∃ o d, c = .hbmBlockWrite t lba o d) ∨ ∃ o w, c = .narrowWrite t lba o w) := by
  cases c
  case hbmBlockRead t lba o q => exact .inr ⟨t, lba, _, rfl, .inl ⟨_, _, rfl⟩⟩
  case hbmBlockWrite t lba o d => exact .inr ⟨t, lba, _, rfl, .inr (.inl ⟨_, _, rfl⟩)⟩
  case narrowWrite t lba o w => exact .inr ⟨t, lba, _, rfl, .inr (.inr ⟨_, _, rfl⟩)⟩
  case snapReqNext t sid i => exact .inl ⟨t, fun x => writes sid 0x0220 2 1 (preset sid [(0x0220, 5, i.val)] x), rfl⟩
  case snapReqStated t sid i b u =>
    exact .inl ⟨t, fun x => writes sid 0x0220 2 2 (preset sid [(0x0220, 5, i.val), (0x0220, 4, b.val), (0x0220, 3, u)] x), rfl⟩
  case snapRelease t sid i => exact .inl ⟨t, fun x => writes sid 0x0220 2 3 (preset sid [(0x0220, 5, i.val)] x), rfl⟩
  all_goals exact .inl ⟨_, _, rfl⟩

end Sys2Proof.Laws
end

