-- ==== Sys2Proof/Laws/Gramus.lean ====
section
/-! SUPPORT. How the frames of Gramus reach a steward. -/

namespace Sys2Proof.Laws

open Sys2Proof.Machine Sys2Proof.Safety

/-- A frame of a session: an acknowledgement acts, and a request is admitted and the sessions are served (R68, R83). -/
theorem receive_session (g : Taken) (delay : Nat) (n : List Byte) (y : SysMem) (v : Session) (h1 : stewardsRun y.1 = true)
    (h2 : gmpListens g.view g.f = true) (h3 : badFrame g.f = false) (h4 : g.f.version = 1) (hv : ofSession y.1 v g.f) (ho : g.f.opcode ≠ 1 ∧ g.f.opcode ≠ 2) :
    serve g delay n false y =
      if g.f.opcode = 0xC0 then (ackEffect v.sid g.f (heard v g.f y.1), y.2)
      else pump (admitRequest g.view { v with rxCtr := g.f.counter } false g.at_ g.f (heard v g.f y.1, y.2)) := by
  obtain ⟨hs, hc, ht⟩ := hv
  have hc' := Nat.not_le.mpr hc
  unfold serve receive
  simp only [h1, h2, h3, h4, hs, ho.1, ho.2, hc']
  rcases ht with ⟨a, b⟩ | ⟨a, b, c⟩
  · simp [a, b, heard]
  · simp [a, b, c, heard]

/-- A new request joins its session's queue, and the sessions are served. -/
theorem receive_request (g : Taken) (delay : Nat) (n : List Byte) (y : SysMem) (v : Session) (h1 : stewardsRun y.1 = true)
    (h2 : gmpListens g.view g.f = true) (h3 : badFrame g.f = false) (h4 : g.f.version = 1) (hv : ofSession y.1 v g.f) (hn : newRequest v g.f)
    (ho : g.f.opcode ≠ 1 ∧ g.f.opcode ≠ 2) (hc : g.f.opcode ≠ 0xC0) : serve g delay n false y = pump (onSys (withRequest v g) y) := by
  rw [receive_session g delay n y v h1 h2 h3 h4 hv ho, if_neg hc]
  obtain ⟨a, b, c, d, e⟩ := hn
  have e' := Nat.not_le.mpr e
  simp only [admitRequest, a, b, c, d, onSys, withRequest]
  simp [e'] <;> rfl

/-- A frame taken is one that was wanted. -/
theorem takeFrame_want (f : Option GFrame) (want : GFrame → Bool) (x y : SysMem) (g : Taken) (h : takeFrame f want x = some (g, y)) : want g.f = true := by
  unfold takeFrame at h
  split at h
  · split at h
    · obtain ⟨rfl, _⟩ := Prod.mk.inj (Option.some.inj h)
      assumption
    · simp at h
  · split at h
    · simp at h
    · dsimp only at h
      split at h
      · simp at h
      · split at h
        · simp only [Option.map_eq_some_iff] at h
          obtain ⟨e, _, he⟩ := h
          obtain ⟨rfl, _⟩ := Prod.mk.inj he
          assumption
        · simp at h

/-- A row of the table that brings a request (R68, R83). -/
theorem gmp_request (op : Nat) (f : Option GFrame) (x y : SysMem) (g : Taken) (v : Session) (h : reaches f (fun g => g.opcode == op) x g y)
    (hv : ofSession y.1 v g.f) (hn : newRequest v g.f) (ho : (op == 1 || op == 2 || op == 0xC0) = false) :
    gmpEffect op f 0 [] x = pump (onSys (withRequest v g) y) := by
  have hop := takeFrame_want _ _ _ _ _ h.1
  obtain ⟨a, b, c, d, e⟩ := h
  simp only [gmpEffect, a]
  exact receive_request g 0 [] y v b c d e hv hn (by simp_all) (by simp_all)

/-- A transaction command that comes as a request. -/
theorem txn_request (op : Nat) (f : Option GFrame) (want : GFrame → Bool) (write : Nat → SysMem → SysMem) (x y : SysMem) (g : Taken) (v : Session)
    (h : reaches f (fun g => g.opcode == op && want g) x g y) (hv : ofSession y.1 v g.f) (hn : newRequest v g.f)
    (ho : (op == 1 || op == 2 || op == 0xC0) = false) : txnEffect (.gmp f) op want write x = pump (onSys (withRequest v g) y) := by
  have hop := takeFrame_want _ _ _ _ _ h.1
  obtain ⟨a, b, c, d, e⟩ := h
  simp only [txnEffect, a]
  simp only [Bool.and_eq_true, beq_iff_eq] at hop
  exact receive_request g 0 [] y v b c d e hv hn (by simp_all) (by simp_all)

/-- A session that has heard a frame is found as before, with the new counter. -/
theorem heard_session (v : Session) (g : GFrame) (y : Sys) (h : ofSession y v g) (hid : v.sid = g.session) :
    session? (heard v g y) v.sid = some { v with rxCtr := g.counter } := by
  have hs := h.1
  rw [← hid] at hs
  unfold session? at hs ⊢
  split at hs
  · simp at hs
  · rename_i h0
    rw [if_neg h0]
    simp only [heard, updSession, List.find?_map]
    have e : ((fun w : Session => w.sid == v.sid) ∘ fun w => if w.sid = v.sid then { w with rxCtr := g.counter } else w)
        = fun w => w.sid == v.sid := by
      funext w
      by_cases hw : w.sid = v.sid <;> simp [hw]
    rw [e, hs]
    simp

end Sys2Proof.Laws
end

