-- ==== Sys2Proof/Laws/Table.lean ====
section
/-! SUPPORT. Reading and writing sparse tables, and their canonical form. -/

namespace Sys2Proof.Laws

open Sys2Proof.Machine

variable {α : Type}

theorem smap_get_ins_self (d : α) (m : SMap α) (k : Nat) (v : α) : SMap.get d (SMap.ins m k v) k = v := by
  induction m with
  | nil => simp [SMap.ins, SMap.get]
  | cons e r ih =>
    obtain ⟨j, w⟩ := e
    unfold SMap.ins
    split
    · simp [SMap.get]
    · split
      · simp [SMap.get]
      · rename_i h1 h2
        simp [SMap.get, Ne.symm h2, ih]

theorem smap_get_ins_other (d : α) (m : SMap α) (k i : Nat) (v : α) (h : i ≠ k) : SMap.get d (SMap.ins m k v) i = SMap.get d m i := by
  induction m with
  | nil => simp [SMap.ins, SMap.get, Ne.symm h]
  | cons e r ih =>
    obtain ⟨j, w⟩ := e
    unfold SMap.ins
    split
    · simp [SMap.get, Ne.symm h]
    · split
      · rename_i h1 h2
        subst h2
        simp [SMap.get, Ne.symm h]
      · simp [SMap.get, ih]

theorem smap_get_del_other (d : α) (m : SMap α) (k i : Nat) (h : i ≠ k) : SMap.get d (SMap.del m k) i = SMap.get d m i := by
  induction m with
  | nil => rfl
  | cons e r ih =>
    obtain ⟨j, w⟩ := e
    unfold SMap.del
    split
    · rename_i h1
      subst h1
      simp [SMap.get, Ne.symm h]
    · simp [SMap.get, ih]

/-- A key below every key of a table reads as unlisted. -/
theorem smap_get_low (d : α) (m : SMap α) (k : Nat) (h : m.all (fun p => decide (k < p.1)) = true) : SMap.get d m k = d := by
  induction m with
  | nil => rfl
  | cons e r ih =>
    obtain ⟨j, w⟩ := e
    simp only [List.all_cons, Bool.and_eq_true, decide_eq_true_eq] at h
    simp [SMap.get, Nat.ne_of_gt h.1, ih h.2]

variable [DecidableEq α]

/-- A write leaves every other key alone. -/
@[simp] theorem smap_get_set_other (d : α) (m : SMap α) (k i : Nat) (v : α) (h : i ≠ k) : SMap.get d (SMap.set d m k v) i = SMap.get d m i := by
  unfold SMap.set
  split
  · exact smap_get_del_other d m k i h
  · exact smap_get_ins_other d m k i v h

/-- A key reads as what was written to it, where that is not what an unlisted key reads as. -/
theorem smap_get_set_ne (d : α) (m : SMap α) (k : Nat) (v : α) (h : v ≠ d) : SMap.get d (SMap.set d m k v) k = v := by
  unfold SMap.set
  rw [if_neg h]
  exact smap_get_ins_self d m k v

/-- In the canonical form, a key reads as what was written to it. -/
theorem smap_get_set_self (d : α) (m : SMap α) (k : Nat) (v : α) (h : SMap.wf d m = true) : SMap.get d (SMap.set d m k v) k = v := by
  by_cases hv : v = d
  · unfold SMap.set
    rw [if_pos hv]
    induction m with
    | nil => simp [SMap.del, SMap.get, hv]
    | cons e r ih =>
      obtain ⟨j, w⟩ := e
      simp only [SMap.wf, Bool.and_eq_true] at h
      unfold SMap.del
      split
      · rename_i h1
        subst h1
        rw [hv]
        exact smap_get_low d r j h.2
      · rename_i h1
        simp only [SMap.get, if_neg h1]
        exact ih h.1.2
  · exact smap_get_set_ne d m k v hv

theorem smap_all_ins (m : SMap α) (k n : Nat) (v : α) (h : m.all (fun p => decide (n < p.1)) = true) (hk : n < k) :
    (SMap.ins m k v).all (fun p => decide (n < p.1)) = true := by
  induction m with
  | nil => simp [SMap.ins, hk]
  | cons e r ih =>
    obtain ⟨j, w⟩ := e
    simp only [List.all_cons, Bool.and_eq_true, decide_eq_true_eq] at h
    unfold SMap.ins
    split
    · simp [hk, h.1, h.2]
    · split
      · simp [hk, h.2]
      · simp [h.1, ih h.2]

theorem smap_all_del (m : SMap α) (k n : Nat) (h : m.all (fun p => decide (n < p.1)) = true) :
    (SMap.del m k).all (fun p => decide (n < p.1)) = true := by
  induction m with
  | nil => rfl
  | cons e r ih =>
    obtain ⟨j, w⟩ := e
    simp only [List.all_cons, Bool.and_eq_true, decide_eq_true_eq] at h
    unfold SMap.del
    split
    · exact h.2
    · simp [h.1, ih h.2]

theorem smap_wf_ins (d : α) (m : SMap α) (k : Nat) (v : α) (hv : v ≠ d) (h : SMap.wf d m = true) : SMap.wf d (SMap.ins m k v) = true := by
  induction m with
  | nil => simp [SMap.ins, SMap.wf, hv]
  | cons e r ih =>
    obtain ⟨j, w⟩ := e
    simp only [SMap.wf, Bool.and_eq_true, decide_eq_true_eq] at h
    obtain ⟨⟨h1, h2⟩, h3⟩ := h
    unfold SMap.ins
    split
    · rename_i hk
      simp only [SMap.wf, Bool.and_eq_true, decide_eq_true_eq, List.all_cons]
      refine ⟨⟨hv, ⟨h1, h2⟩, h3⟩, hk, ?_⟩
      rw [List.all_eq_true] at h3 ⊢
      intro x hx
      have := h3 x hx
      simp only [decide_eq_true_eq] at this ⊢
      omega
    · split
      · rename_i hk
        subst hk
        simp [SMap.wf, hv, h2, h3]
      · rename_i hk hn
        simp only [SMap.wf, Bool.and_eq_true, decide_eq_true_eq]
        exact ⟨⟨h1, ih h2⟩, smap_all_ins r k j v h3 (by omega)⟩

theorem smap_wf_del (d : α) (m : SMap α) (k : Nat) (h : SMap.wf d m = true) : SMap.wf d (SMap.del m k) = true := by
  induction m with
  | nil => rfl
  | cons e r ih =>
    obtain ⟨j, w⟩ := e
    simp only [SMap.wf, Bool.and_eq_true, decide_eq_true_eq] at h
    obtain ⟨⟨h1, h2⟩, h3⟩ := h
    unfold SMap.del
    split
    · exact h2
    · simp only [SMap.wf, Bool.and_eq_true, decide_eq_true_eq]
      exact ⟨⟨h1, ih h2⟩, smap_all_del r k j h3⟩

/-- A write keeps the canonical form. -/
theorem smap_wf_set (d : α) (m : SMap α) (k : Nat) (v : α) (h : SMap.wf d m = true) : SMap.wf d (SMap.set d m k v) = true := by
  unfold SMap.set
  split
  · exact smap_wf_del d m k h
  · exact smap_wf_ins d m k v ‹_› h

theorem smap_wf_upd (d : α) (m : SMap α) (k : Nat) (f : α → α) (h : SMap.wf d m = true) : SMap.wf d (SMap.upd d m k f) = true :=
  smap_wf_set d m k _ h

end Sys2Proof.Laws
end

