-- ==== Sys2Proof/Laws/Effects.lean ====
section
/-! SUPPORT. How the checks of single objects come out, and what single operations do: lemmas for the commands that are written to
those objects. -/

set_option maxRecDepth 4000

namespace Sys2Proof.Laws

open Sys2Proof.Machine Sys2Proof.Safety

/-- The commit point of a write that releases slot `i`: the slot does not flip at it (R60). -/
theorem release_commit (sid i : Nat) (p : SysMem) :
    (directCommit sid [{ ix := 0x0220, sub := 2, row := i, col := 0, req := .num 3, val := .num 3, codes := [0] }] (touchTxn sid p.1, p.2)).1
      = settled sid p (onSys (fun s => setSnap i {} (recSizeCommit (nextGen s))) (commitAll [i] false (pointOf sid p))) := by
  have ha : actsOnly { ix := 0x0220, sub := 2, row := i, col := 0, req := .num 3, val := .num 3, codes := [0] } = true := by simp [actsOnly]
  have hrs : isRestore { ix := 0x0220, sub := 2, row := i, col := 0, req := .num 3, val := .num 3, codes := [0] } = false := rfl
  have hcr : ∀ s, changesRules s [{ ix := 0x0220, sub := 2, row := i, col := 0, req := .num 3, val := .num 3, codes := [0] }] = false :=
    fun s => changesRules_one s _ rfl hrs
  have hrel : releases [{ ix := 0x0220, sub := 2, row := i, col := 0, req := .num 3, val := .num 3, codes := [0] }] = [i] := rfl
  have hk : ∀ s, kngFixed s { ix := 0x0220, sub := 2, row := i, col := 0, req := .num 3, val := .num 3, codes := [0] } = none := by
    intro s
    refine if_neg ?_
    rintro ⟨_, _, h⟩
    cases hp : kngPort s with
    | none => simp [hp] at h
    | some q => simp [hp, pix] at h; omega
  simp only [directCommit, hcr, hrel]
  unfold commitStaged
  simp only [hcr, Bool.false_eq_true, if_false, putStaged, List.foldl, hrs, ha, if_true, clampRounds_nil, List.filterMap_cons, List.filterMap_nil, hk, List.map_nil, List.append_nil, List.eraseDups_nil, List.filter_nil, commitHooks_nil]
  simp [runStaged, ha, finalCodes, enterCodes, settled, pointOf, onSys]

/-- SNAP_REQ value 2 of a FREE slot asks for the stated time. -/
theorem snapRequest_codes (sid : Nat) (s : Sys) (h : (snap s (ownVal s sid 0x0220 5)).st = 0) :
    snapRequest sid 2 s = snapStated sid (ownVal s sid 0x0220 5) (ownVal s sid 0x0220 4)
      (statedTime s (ownVal s sid 0x0220 4) (timeUnits (ownVal s sid 0x0220 3))) s := by
  unfold snapRequest
  rw [if_neg (by decide), if_neg (by simp [h]), if_neg (by decide)]

/-- A request for a stated time leaves nothing to commit and is not refused. -/
theorem snapStated_codes (sid i b : Nat) (q : Nat × Bool) (s : Sys) :
    (snapStated sid i b q s).2.2 = [] ∧ (snapStated sid i b q s).2.1 ≠ 6 := by
  obtain ⟨u, far⟩ := q
  cases far
  · exact ⟨rfl, (by decide : (0 : Nat) ≠ 6)⟩
  · exact ⟨rfl, (by decide : (2 : Nat) ≠ 6)⟩

/-- A number within 0 to M, in steps of 1, is stored as written. -/
theorem clampStep_in (M v : Nat) (h : v ≤ M) : clampStep 0 M 1 v = (.num v, 0) := by
  unfold clampStep
  rw [if_neg (by omega), if_neg (by omega), if_neg (by simp)]

/-- The same of a U16 field. -/
theorem check_u16 (M : Nat) (row : Nat) (old : Value) (v : Nat) (h : v ≤ M) : checkField (u16 0 M) row old (.num v) = (.num v, [0]) := by
  simp [checkField, u16, fld, Value.toInt, clampStep_in M v h]

/-- The same of the commands of chapters 11 and 12 that name a row. -/
theorem range_value (s : Sys) (ix sub M v : Nat) (h1 : ix = 0x6000 ∨ ix = 0x6100 ∨ ix = 0x6200 ∨ ix = 0x6400) (hv : v ≤ M) :
    checkValue s ix sub 0 0 (u16 0 M) (.num v) = (.num v, if (match objAt ix sub with | some o => o.rows.isSome | none => false) then [firstCode [0]] else [0]) := by
  have e : checkSpecial ix sub (val s ix sub 0 0).toNat (Value.num v).toNat = none := by
    rcases h1 with h | h | h | h <;> subst h <;> rfl
  unfold checkValue
  simp only [e]
  rw [if_neg (by omega), check_u16 M 0 _ v hv]
  simp only [padded]
  rw [if_neg (by omega)]
  all_goals rfl

/-- A loop from 0 as a fold. -/
theorem loop_range {σ : Type} (f : Nat → σ → σ) (n : Nat) (s : σ) : loop f 0 n s = (List.range n).foldl (fun y i => f i y) s := by
  have aux : ∀ n i (s : σ), loop f i n s = (List.range' i n).foldl (fun y i => f i y) s := by
    intro n
    induction n with
    | zero => intro i s; rfl
    | succ n ih => intro i s; simp [loop, ih, List.range'_succ]
  rw [aux, List.range_eq_range']

/-- TB_RESTEP is staged. -/
theorem restep_stage (sid : Nat) (b : Fin 4) (x : SysMem) (h0 : mayStage x.1 sid (tbIx b.val) 0x0E 1) :
    writes sid (tbIx b.val) 0x0E 1 x = onSys (withStaged sid (tbIx b.val) 0x0E 1) x := by
  match b with
  | 0 => exact writes_stage sid 0x0800 0x0E 1 x _ _ _ h0 (by rfl) rfl rfl rfl rfl rfl rfl (by decide)
  | 1 => exact writes_stage sid 0x0810 0x0E 1 x _ _ _ h0 (by rfl) rfl rfl rfl rfl rfl rfl (by decide)
  | 2 => exact writes_stage sid 0x0820 0x0E 1 x _ _ _ h0 (by rfl) rfl rfl rfl rfl rfl rfl (by decide)
  | 3 => exact writes_stage sid 0x0830 0x0E 1 x _ _ _ h0 (by rfl) rfl rfl rfl rfl rfl rfl (by decide)

/-- A TIME within its range is stored as written. -/
theorem check_time (s : Sys) (b : Fin 4) (time : Nat) (h : bits time 47 16 ≤ 999999999) :
    checkValue s (tbIx b.val) 8 0 0 (ro .time) (.num time) = (.num time, [0, 0, 0]) := by
  have e : ∀ o r, checkSpecial (tbIx b.val) 8 o r = none := by
    intro o r
    match b with
    | 0 => rfl
    | 1 => rfl
    | 2 => rfl
    | 3 => rfl
  have e0 : ((Value.num (time : Int)).toNat) = time := by simp [Value.toNat, Value.toInt]
  have e1 : (match objAt (tbIx b.val) 8 with | some o => o.rows.isSome | none => false) = false := by
    match b with
    | 0 => rfl
    | 1 => rfl
    | 2 => rfl
    | 3 => rfl
  have hb : tbIx b.val ≠ 0x0680 ∧ tbIx b.val ≠ 0x3400 ∧ tbIx b.val ≠ 0x3800 := by
    have := b.isLt
    unfold tbIx
    omega
  unfold checkValue
  simp only [e]
  rw [if_neg (by omega)]
  have hf : checkField (ro .time) 0 (val s (tbIx b.val) 8 0 0) (.num time) = (.num time, [0, 0, 0]) := by
    simp only [checkField, ro, fld, e0]
    rw [if_neg (by simp), if_neg (by omega)]
  rw [hf]
  simp [padded, hb]
  all_goals exact e1

/-- TB_STEP_TO of a time base. -/
theorem tb_obj : ∀ b : Fin 4, objAt (tbIx b.val) 8 = some { acc := .wo, cls := .v, cols := [ro .time] }
  | 0 => rfl
  | 1 => rfl
  | 2 => rfl
  | 3 => rfl

/-- A written step command of a time base takes effect at its commit point. -/
theorem tb_command (sid time : Nat) (b : Fin 4) (x : SysMem) (h0 : bits time 47 16 ≤ 999999999) (h1 : mayCommand x.1 sid (tbIx b.val) 8 time) (y : SysMem)
    (hy : commandEffect sid 0 (tbIx b.val) 8 (.num time) (commandPoint sid x) = (y, none)) : writes sid (tbIx b.val) 8 time x = settled sid x y := by
  have hb := b.isLt
  have hx : 0x0800 ≤ tbIx b.val ∧ tbIx b.val < 0x0840 := by unfold tbIx; omega
  refine writes_codes_effect sid (tbIx b.val) 8 time [0, 0, 0] x y _ _ _ h1 (tb_obj b) rfl rfl rfl ?_ (check_time x.1 b time h0) (by simp) ?_ ?_ ?_ ?_ hy
  all_goals generalize tbIx b.val = ix at *
  · simp [sessionHeld]; omega
  · simp [ruleObject]
  · simp
  · omega
  · omega

/-- What the step command of a time base does. -/
theorem commandEffect_tb (sid txn time : Nat) (b : Fin 4) (x : SysMem) :
    commandEffect sid txn (tbIx b.val) 8 (.num time) x =
      (if stepToRefused x.1 b.val then (x, some (tbIx b.val, 4)) else ((stepToEffect b.val (timeUnits time) x.1, x.2), none)) := by
  have hb := b.isLt
  have e : (tbIx b.val - 0x0800) / 16 = b.val := by unfold tbIx; omega
  have e0 : ((Value.num (time : Int)).toNat) = time := by simp [Value.toNat, Value.toInt]
  unfold commandEffect
  rw [if_neg (by unfold tbIx; omega), if_pos (by unfold tbIx; omega)]
  simp only [e, e0, if_true]

/-- MEM_DIE_CMD accepts both commands for every die. -/
theorem check_die (s : Sys) (v : Nat) (h : 256 ≤ v ∧ v < 280 ∨ 512 ≤ v ∧ v < 536) : checkValue s 0x0600 5 0 0 (ro .u16) (.num v) = (.num v, [0]) := by
  have hd : Config.dies = 24 := rfl
  have e0 : ((Value.num (v : Int)).toNat) = v := by simp [Value.toNat, Value.toInt]
  unfold checkValue
  simp only [checkSpecial, e0]
  have : ((v / 256 == 1 || v / 256 == 2) && decide (v % 256 < Config.dies)) = true := by
    simp [hd]
    omega
  simp [this]

/-- A number in its range and on its grid is stored as written. -/
theorem clampStep_grid (m M s v : Int) (h0 : m ≤ v) (h1 : v ≤ M) (h2 : (v - m) % s = 0) : clampStep m M s v = (.num v, 0) := by
  unfold clampStep
  rw [if_neg (by omega), if_neg (by omega), if_neg (by simp [h2])]

/-- A block number below MEM_BLOCKS is stored as written. -/
theorem check_block (s : Sys) (v : Nat) (h : v < Config.memBlocks) : checkValue s 0x0610 3 0 0 (u32 0 89478419) (.num v) = (.num v, [0]) := by
  have hb : v ≤ 89478419 := by simp [Config.memBlocks] at h; omega
  have hf : checkField (u32 0 89478419) 0 (val s 0x0610 3 0 0) (.num v) = (.num v, [0]) := by
    have := clampStep_grid 0 89478419 1 v (by omega) (by omega) (by simp)
    simp [checkField, u32, fld, Value.toInt, this]
  have e : checkSpecial 0x0610 3 (val s 0x0610 3 0 0).toNat (Value.num v).toNat = none := rfl
  unfold checkValue
  simp only [e]
  rw [if_neg (by decide), hf]
  rfl

/-- An entry of the merge buffer is found as changed. -/
theorem merge_map (s : Sys) (lba : Nat) (f : MergeEntry → MergeEntry) (e : MergeEntry) (hf : ∀ e, (f e).lba = e.lba) (h : mergeOf s lba = some e) :
    mergeOf (updMem (fun m => { m with merge := m.merge.map (fun o => if o.lba = lba then f o else o) }) s) lba = some (f e) := by
  have aux : ∀ l : List MergeEntry, l.find? (fun e => e.lba == lba) = some e → (l.map (fun o => if o.lba = lba then f o else o)).find? (fun e => e.lba == lba) = some (f e) := by
    intro l
    induction l with
    | nil => intro h; simp at h
    | cons a l ih =>
      intro h
      by_cases ha : a.lba = lba
      · simp [ha] at h
        subst h
        simp [ha, hf]
      · rw [List.find?_cons_of_neg (by simpa using ha)] at h
        rw [List.map_cons, if_neg ha, List.find?_cons_of_neg (by simpa using ha)]
        exact ih h
  exact aux _ h

/-- A mask of one word is not full. -/
theorem setBit_zero (w : Nat) (h : w < 64) : setBit 0 w true ≠ 2 ^ 64 - 1 := by
  have e : setBit 0 w true = 2 ^ w := by simp [setBit, boolNat]
  rw [e]
  intro hc
  have h1 : 2 ^ w ≤ 2 ^ 63 := Nat.pow_le_pow_right (by decide) (by omega)
  omega

/-- A merge buffer that is not full needs no room. -/
theorem mergeRoom_same (x : SysMem) (h : x.1.mem.merge.length < 256) : mergeRoom x = x := by
  unfold mergeRoom
  split
  · exact if_neg (by omega)
  · rfl

/-- A claim leaves the merge buffer and the objects as they are. -/
theorem claim_mem (lba owner : Nat) (x : SysMem) :
    mergeOf (onSys (claim lba owner) x).1 lba = mergeOf x.1 lba ∧ (onSys (claim lba owner) x).1.mem.merge = x.1.mem.merge
      ∧ (onSys (claim lba owner) x).1.dict = x.1.dict := by
  simp only [onSys, claim]
  split <;> exact ⟨rfl, rfl, rfl⟩

/-- An object reads the dictionary only. -/
theorem obj_dict (s t : Sys) (h : s.dict = t.dict) (ix sub : Nat) : obj s ix sub = obj t ix sub := by
  simp [obj, cell, val, h]

/-- An entry that is not full stays, while MERGE_WINDOW is not 0. -/
theorem mergeSettle_same (lba : Nat) (x : SysMem) (e : MergeEntry) (g : mergeOf x.1 lba = some e) (h3 : e.mask ≠ 2 ^ 64 - 1) (h4 : obj x.1 0x0620 1 ≠ 0) :
    mergeSettle lba x = x := by
  unfold mergeSettle
  rw [g]
  refine if_neg ?_
  rintro (h | h)
  · exact h3 h
  · exact h4 h

/-- A narrow write to a block that has an entry. -/
theorem narrow_old (lba owner : Nat) (words : List (Fin 64 × List Byte)) (x : SysMem) (e : MergeEntry) (h1 : words ≠ []) (h2 : mergeOf x.1 lba = some e)
    (h3 : (e.puts words).mask ≠ 2 ^ 64 - 1) (h4 : obj x.1 0x0620 1 ≠ 0) (hf : ∀ e : MergeEntry, (e.puts words).lba = e.lba) :
    narrowEffect lba owner words x = onSys (fun s => spoil lba (updMem (fun m => { m with merge := m.merge.map (fun e => if e.lba = lba then e.puts words else e) })
      (claim lba owner s))) x := by
  obtain ⟨c1, c2, c3⟩ := claim_mem lba owner x
  unfold narrowEffect mergeWords
  rw [if_neg (by simpa using h1), if_pos (by rw [c1, h2]; rfl)]
  rw [mergeSettle_same lba _ (e.puts words) (merge_map (onSys (claim lba owner) x).1 lba (fun e => e.puts words) e hf (by rw [c1]; exact h2)) h3
    (fun hc => h4 (by rw [← hc]; exact obj_dict x.1 _ c3.symm 0x0620 1))]
  rfl

/-- A narrow write to a block that has none. -/
theorem narrow_open (lba owner : Nat) (words : List (Fin 64 × List Byte)) (x : SysMem) (h1 : words ≠ []) (h2 : mergeOf x.1 lba = none)
    (h3 : x.1.mem.merge.length < 256) (h4 : obj x.1 0x0620 1 ≠ 0) (hf : ∀ e : MergeEntry, (e.puts words).lba = e.lba)
    (hm : (({ lba := lba, mask := 0, data := List.replicate 512 0, at_ := x.1.now } : MergeEntry).puts words).mask ≠ 2 ^ 64 - 1) :
    narrowEffect lba owner words x = onSys (fun s => spoil lba (updMem (fun m => { m with merge := m.merge ++
      [({ lba := lba, mask := 0, data := List.replicate 512 0, at_ := x.1.now } : MergeEntry).puts words] }) (claim lba owner s))) x := by
  obtain ⟨c1, c2, c3⟩ := claim_mem lba owner x
  have cn : (onSys (claim lba owner) x).1.now = x.1.now := by simp only [onSys, claim]; split <;> rfl
  unfold narrowEffect mergeWords
  rw [if_neg (by simpa using h1), if_neg (by rw [c1, h2]; simp), mergeRoom_same _ (by rw [c2]; exact h3)]
  dsimp only
  rw [cn, mergeSettle_same lba _ (({ lba := lba, mask := 0, data := List.replicate 512 0, at_ := x.1.now } : MergeEntry).puts words) ?_ hm
    (fun hc => h4 (by rw [← hc]; exact obj_dict x.1 _ c3.symm 0x0620 1))]
  · rfl
  · unfold mergeOf at *
    simp only [onSys, updMem] at c1 ⊢
    rw [List.find?_append, c1, h2]
    simp [hf]

/-- Words go to an entry of the same block. -/
theorem puts_lba (words : List (Fin 64 × List Byte)) (e : MergeEntry) : (e.puts words).lba = e.lba := by
  unfold MergeEntry.puts
  induction words generalizing e with
  | nil => rfl
  | cons w l ih => exact ih _

/-- CAST_CMD accepts its three commands for every Cast. -/
theorem check_cast (s : Sys) (v : Nat) (h : 256 ≤ v ∧ v < 264 ∨ 512 ≤ v ∧ v < 520 ∨ 768 ≤ v ∧ v < 776) : checkValue s 0x7820 2 0 0 (ro .u16) (.num v) = (.num v, [0]) := by
  have e0 : ((Value.num (v : Int)).toNat) = v := by simp [Value.toNat, Value.toInt]
  unfold checkValue
  simp only [checkSpecial, e0]
  have : 1 ≤ v / 256 ∧ v / 256 ≤ 3 ∧ v % 256 ≤ 7 := by omega
  simp [this]

/-- What CAST_CMD does. -/
theorem cast_effect (sid n v i : Nat) (x y : SysMem) (h1 : v / 256 = n) (h2 : v % 256 = i) (h : castCommand n i x = y) :
    commandEffect sid 0 0x7820 2 (.num v) x = (y, none) := by
  have e0 : ((Value.num (v : Int)).toNat) = v := by simp [Value.toNat, Value.toInt]
  unfold commandEffect
  rw [if_neg (by decide), if_neg (by decide)]
  simp only [e0, h1, h2, h]

/-- CAST_EXPORT_SEL of a FROZEN Cast starts its scan. -/
theorem export_sel (sid : Nat) (cast : Fin 8) (part : Nat) (x : SysMem) (h0 : mayOwn x.1 sid 0x7820 4) (h1 : (Machine.cast x.1 cast.val).st = 2) :
    writes sid 0x7820 4 (cast.val * 2 ^ 24 + part % 2 ^ 24) x = onSys (fun s => touchTxn sid (exportSel sid cast.val (part % 2 ^ 24)
      (putOwn sid 0x7820 4 0 0 (.num ((cast.val * 2 ^ 24 + part % 2 ^ 24 : Nat) : Int)) s))) x := by
  have hc := cast.isLt
  have a : (cast.val * 2 ^ 24 + part % 2 ^ 24) / 2 ^ 24 = cast.val := by omega
  have b : (cast.val * 2 ^ 24 + part % 2 ^ 24) % 2 ^ 24 = part % 2 ^ 24 := by omega
  generalize cast.val * 2 ^ 24 + part % 2 ^ 24 = w at *
  have e0 : ((Value.num (w : Int)).toNat) = w := by simp [Value.toNat, Value.toInt]
  have hs : checkSpecial 0x7820 4 (ownVal x.1 sid 0x7820 4) w = some (w, [0]) := by
    have : w / 16777216 ≤ 7 := by omega
    simp [checkSpecial, this]
  have hw : writeOwn sid 0x7820 4 (ro .u32) (.num w) x.1 = (exportSel sid cast.val (part % 2 ^ 24) (putOwn sid 0x7820 4 0 0 (.num w) x.1), [0], []) := by
    unfold writeOwn
    have hk : (checkField (ro .u32) 0 (dictVal ((session? x.1 sid).getD {}).own 0x7820 4 0 0) (.num w)).2 = [0] := rfl
    simp only [e0, hs, hk, a, b, h1]
    simp
  simp only [onSys]
  exact writes_own_now sid 0x7820 4 w x _ _ _ _ [0] h0 (by rfl) rfl rfl (.inr rfl) rfl hw

/-- FW_STAGE by a session that may starts to program. -/
theorem fw_stage (sid : Nat) (image : List Byte) (x : SysMem) (h0 : mayCommand x.1 sid 0x0110 4 (Value.octets image).toNat) (h1 : image.length ≤ 4194304)
    (h2 : storing (commandPoint sid x).1 = false) (h3 : (commandPoint sid x).1.flash.stage = none) :
    sessionWrite sid 0x0110 4 (.octets image) x = settled sid x (onSys (stageStart image) (commandPoint sid x)) := by
  refine value_effect sid 0x0110 4 (.octets image) [0] x _ _ _ _ h0 (by rfl) rfl rfl rfl rfl ?_ (by simp) rfl (by simp) (by decide) (by decide) ?_
  · have hf : checkField (fOcts 4194304) 0 (val x.1 0x0110 4 0 0) (.octets image) = (.octets image, [0]) := by
      have hb : (Value.octets image).bytes.length ≤ 4194304 := h1
      unfold checkField
      rw [if_neg (by simp [fOcts])]
      exact if_pos hb
    have e : checkSpecial 0x0110 4 (val x.1 0x0110 4 0 0).toNat (Value.octets image).toNat = none := rfl
    unfold checkValue
    simp only [e]
    rw [if_neg (by decide), hf]
    rfl
  · simp [commandEffect, onSys, h2, h3]
    rfl

/-- A direct restore of the defaults that changes no rule object is committed at once (R56). -/
theorem restore_direct (sid : Nat) (x : SysMem) (h : mayCommand x.1 sid 0x0200 0x0F 2)
    (hr : changesRules x.1 [{ stagedCommand 0x0200 0x0F 2 with codes := [0] }] = false) :
    writes sid 0x0200 0x0F 2 x
      = settled sid x (commitStaged sid 0 [{ stagedCommand 0x0200 0x0F 2 with codes := [0] }] (commitAll [] false (pointOf sid x))).1 := by
  refine value_direct sid 0x0200 0x0F (.num (2 : Nat)) [0] x _ _ _ h (by rfl) rfl rfl rfl rfl (by rfl) (by simp) ?_ (by decide)
  intro s hs
  simpa [changesRules, hs, stagedCommand] using hr

/-- A direct restore of the defaults is a staged change that its checks let pass. -/
theorem restore_write (sid : Nat) (x : SysMem) (h : mayCommand x.1 sid 0x0200 0x0F 2) :
    writes sid 0x0200 0x0F 2 x =
      (directCommit sid (placeField sid (0, 0) { stagedCommand 0x0200 0x0F 2 with codes := [0] } (x.1, [])).1.2
        (touchTxn sid (placeField sid (0, 0) { stagedCommand 0x0200 0x0F 2 with codes := [0] } (x.1, [])).1.1, x.2)).1 := by
  obtain ⟨h1, h2, h3, h4⟩ := h
  have ho : objAt 0x0200 0x0F = some { acc := .wo, cls := .v, cols := [fEnum [1, 2, 3]] } := rfl
  have hcmd : isCommand 0x0200 0x0F = true := rfl
  have hacc : accessCode x.1 sid 0x0200 0x0F { acc := .wo, cls := .v, cols := [fEnum [1, 2, 3]] } = 0 := by simp [accessCode, h2, h3]
  have hck : checkValue x.1 0x0200 0x0F 0 0 (fEnum [1, 2, 3]) (.num (2 : Nat)) = (.num (2 : Nat), [0]) := rfl
  have hw : (writeValue sid 0x0200 0x0F (fEnum [1, 2, 3]) { acc := .wo, cls := .v, cols := [fEnum [1, 2, 3]] } (.num (2 : Nat)) (x.1, [])).1
      = (placeField sid (0, 0) { stagedCommand 0x0200 0x0F 2 with codes := [0] } (x.1, [])).1 := by
    have hv : (Value.num (2 : Nat)).toNat = 2 := rfl
    simp only [writeValue, hacc, hck, hcmd, h2, hv, h4, stagedCommand]
    simp
    rfl
  unfold writes sessionWrite
  simp only [h1, ho, hw]
  rfl

/-- One that changes a rule object waits for its bank (R54, R178). -/
theorem restore_waits (sid : Nat) (x : SysMem) (h : mayCommand x.1 sid 0x0200 0x0F 2)
    (hr : changesRules x.1 [{ stagedCommand 0x0200 0x0F 2 with codes := [0] }] = true) (hw : x.1.rsWait = none) :
    writes sid 0x0200 0x0F 2 x = onSys (fun s => rsAccept sid true { touchTxn sid s with
      orphans := s.orphans ++ [{ sid := sid, txn := { st := .pending, staged := [{ stagedCommand 0x0200 0x0F 2 with codes := [0] }], acceptedAt := s.now } }] }) x := by
  have hrj : rejected x.1 { stagedCommand 0x0200 0x0F 2 with codes := [0] } = false := rfl
  have ht : changesRules (touchTxn sid x.1) [{ stagedCommand 0x0200 0x0F 2 with codes := [0] }] = true := hr
  rw [restore_write sid x h]
  simp [placeField, hrj, h.2.1, hw, directCommit, ht, onSys]
  rfl

/-- One that changes a rule object while another change of the rules waits is refused with code 6 (R184). -/
theorem restore_refused (sid : Nat) (x : SysMem) (h : mayCommand x.1 sid 0x0200 0x0F 2)
    (hr : changesRules x.1 [{ stagedCommand 0x0200 0x0F 2 with codes := [0] }] = true) (hw : x.1.rsWait.isSome = true) :
    writes sid 0x0200 0x0F 2 x = onSys (fun s => touchTxn sid
      (enterCodes sid 0 0x0200 0x0F 0 0 (0, 0) [6] (.num 2) (inForce s sid 0x0200 0x0F 0 0) s)) x := by
  have hrj : rejected x.1 { stagedCommand 0x0200 0x0F 2 with codes := [0] } = false := rfl
  rw [restore_write sid x h]
  simp [placeField, hrj, h.2.1, hw, hr, directCommit, txnNo, onSys]
  rfl

end Sys2Proof.Laws
end

