-- ==== Sys2Proof/Laws/Memory.lean ====
section
/-! SUPPORT. The bytes of the HBM: reading after writing, and that every operation keeps their canonical form. -/

namespace Sys2Proof.Laws

open Sys2Proof.Machine Sys2Proof.Safety

/-! ### One byte -/

theorem read_put_self (m : List Host.Cell) (a : Nat) (v : Byte) : Memory.read (Memory.put m a v) a = v := by
  induction m with
  | nil => simp [Memory.put, Memory.read]
  | cons e r ih =>
    obtain ⟨j, w⟩ := e
    unfold Memory.put
    split
    · simp [Memory.read]
    · split
      · simp [Memory.read]
      · rename_i h1 h2
        simp [Memory.read, Ne.symm h2, ih]

theorem read_put_other (m : List Host.Cell) (a b : Nat) (v : Byte) (h : b ≠ a) : Memory.read (Memory.put m a v) b = Memory.read m b := by
  induction m with
  | nil => simp [Memory.put, Memory.read, Ne.symm h]
  | cons e r ih =>
    obtain ⟨j, w⟩ := e
    unfold Memory.put
    split
    · simp [Memory.read, Ne.symm h]
    · split
      · rename_i h1 h2
        subst h2
        simp [Memory.read, Ne.symm h]
      · simp [Memory.read, ih]

theorem read_del_other (m : List Host.Cell) (a b : Nat) (h : b ≠ a) : Memory.read (Memory.del m a) b = Memory.read m b := by
  induction m with
  | nil => rfl
  | cons e r ih =>
    obtain ⟨j, w⟩ := e
    unfold Memory.del
    split
    · rename_i h1
      subst h1
      simp [Memory.read, Ne.symm h]
    · simp [Memory.read, ih]

/-- A byte below every listed one reads as unlisted. -/
theorem read_low (m : List Host.Cell) (a : Nat) (h : m.all (fun p => decide (a < p.1)) = true) : Memory.read m a = hbmDflt a := by
  induction m with
  | nil => rfl
  | cons e r ih =>
    obtain ⟨j, w⟩ := e
    simp only [List.all_cons, Bool.and_eq_true, decide_eq_true_eq] at h
    simp [Memory.read, Nat.ne_of_gt h.1, ih h.2]

/-- A write leaves every other byte alone. -/
@[simp] theorem read_write_other (m : List Host.Cell) (a b : Nat) (v : Byte) (h : b ≠ a) : Memory.read (Memory.write m a v) b = Memory.read m b := by
  unfold Memory.write
  split
  · exact read_del_other m a b h
  · exact read_put_other m a b v h

/-- In the canonical form, a byte reads as what was written to it. -/
theorem read_write_self (m : List Host.Cell) (a : Nat) (v : Byte) (h : Memory.wf m = true) : Memory.read (Memory.write m a v) a = v := by
  unfold Memory.write
  split
  · rename_i hv
    subst hv
    induction m with
    | nil => rfl
    | cons e r ih =>
      obtain ⟨j, w⟩ := e
      simp only [Memory.wf, Bool.and_eq_true] at h
      unfold Memory.del
      split
      · rename_i h1
        subst h1
        exact read_low r j h.2
      · rename_i h1
        simp only [Memory.read, if_neg h1]
        exact ih h.1.2
  · exact read_put_self m a v

/-! ### The canonical form -/

theorem all_put (m : List Host.Cell) (a n : Nat) (v : Byte) (h : m.all (fun p => decide (n < p.1)) = true) (ha : n < a) :
    (Memory.put m a v).all (fun p => decide (n < p.1)) = true := by
  induction m with
  | nil => simp [Memory.put, ha]
  | cons e r ih =>
    obtain ⟨j, w⟩ := e
    simp only [List.all_cons, Bool.and_eq_true, decide_eq_true_eq] at h
    unfold Memory.put
    split
    · simp [ha, h.1, h.2]
    · split
      · simp [ha, h.2]
      · simp [h.1, ih h.2]

theorem all_del (m : List Host.Cell) (a n : Nat) (h : m.all (fun p => decide (n < p.1)) = true) :
    (Memory.del m a).all (fun p => decide (n < p.1)) = true := by
  induction m with
  | nil => rfl
  | cons e r ih =>
    obtain ⟨j, w⟩ := e
    simp only [List.all_cons, Bool.and_eq_true, decide_eq_true_eq] at h
    unfold Memory.del
    split
    · exact h.2
    · simp [h.1, ih h.2]

theorem wf_put (m : List Host.Cell) (a : Nat) (v : Byte) (hv : v ≠ hbmDflt a) (h : Memory.wf m = true) : Memory.wf (Memory.put m a v) = true := by
  induction m with
  | nil => simp [Memory.put, Memory.wf, hv]
  | cons e r ih =>
    obtain ⟨j, w⟩ := e
    simp only [Memory.wf, Bool.and_eq_true, decide_eq_true_eq] at h
    obtain ⟨⟨h1, h2⟩, h3⟩ := h
    unfold Memory.put
    split
    · rename_i ha
      simp only [Memory.wf, Bool.and_eq_true, decide_eq_true_eq, List.all_cons]
      refine ⟨⟨hv, ⟨h1, h2⟩, h3⟩, ha, ?_⟩
      rw [List.all_eq_true] at h3 ⊢
      intro x hx
      have := h3 x hx
      simp only [decide_eq_true_eq] at this ⊢
      omega
    · split
      · rename_i ha
        subst ha
        simp [Memory.wf, hv, h2, h3]
      · rename_i ha hn
        simp only [Memory.wf, Bool.and_eq_true, decide_eq_true_eq]
        exact ⟨⟨h1, ih h2⟩, all_put r a j v h3 (by omega)⟩

theorem wf_del (m : List Host.Cell) (a : Nat) (h : Memory.wf m = true) : Memory.wf (Memory.del m a) = true := by
  induction m with
  | nil => rfl
  | cons e r ih =>
    obtain ⟨j, w⟩ := e
    simp only [Memory.wf, Bool.and_eq_true, decide_eq_true_eq] at h
    obtain ⟨⟨h1, h2⟩, h3⟩ := h
    unfold Memory.del
    split
    · exact h2
    · simp only [Memory.wf, Bool.and_eq_true, decide_eq_true_eq]
      exact ⟨⟨h1, ih h2⟩, all_del r a j h3⟩

theorem wf_write (m : List Host.Cell) (a : Nat) (v : Byte) (h : Memory.wf m = true) : Memory.wf (Memory.write m a v) = true := by
  unfold Memory.write
  split
  · exact wf_del m a h
  · exact wf_put m a v ‹_› h

theorem wf_writeAll (a : Nat) (l : List Byte) (m : List Host.Cell) (h : Memory.wf m = true) : Memory.wf (Memory.writeAll a l m) = true := by
  induction l generalizing a m with
  | nil => exact h
  | cons b l ih => exact ih (a + 1) _ (wf_write m a b h)

theorem wf_putShares (n tag j : Nat) (l : List (List Byte)) (m : List Host.Cell) (h : Memory.wf m = true) :
    Memory.wf (putShares n tag j l m) = true := by
  induction l generalizing j m with
  | nil => exact h
  | cons x l ih => exact ih (j + 1) _ (wf_writeAll _ _ m h)

theorem wf_putBlock (n : Nat) (p : Bool) (area lba : Nat) (data : List Byte) (m : List Host.Cell) (h : Memory.wf m = true) :
    Memory.wf (putBlock n p area lba data m) = true :=
  wf_putShares _ _ _ _ m h

/-- A loop whose every turn keeps a property keeps it. -/
theorem loop_keeps {σ : Type} (p : σ → Prop) (f : Nat → σ → σ) (hf : ∀ i s, p s → p (f i s)) (i n : Nat) (s : σ) (h : p s) : p (loop f i n s) := by
  induction n generalizing i s with
  | zero => exact h
  | succ n ih => exact ih (i + 1) _ (hf i s h)

/-- The same of a fold. -/
theorem foldl_keeps {σ α : Type} (p : σ → Prop) (f : σ → α → σ) (l : List α) (s : σ) (hf : ∀ s a, p s → p (f s a)) (h : p s) : p (l.foldl f s) := by
  induction l generalizing s with
  | nil => exact h
  | cons a l ih => exact ih _ (hf s a h)

theorem wf_fillRegion (s : Sys) (r skip : Nat) (m : List Host.Cell) (h : Memory.wf m = true) : Memory.wf (fillRegion s r skip m) = true := by
  unfold fillRegion
  dsimp only
  refine loop_keeps (fun m => Memory.wf m = true) _ ?_ _ _ m h
  intro l m hm
  split
  · exact hm
  · exact wf_putShares _ _ _ _ m hm

/-! ### The operations of chapter 13 -/

theorem wf_touch (lba : Nat) (x : SysMem) (h : Memory.wf x.2 = true) : Memory.wf (touch lba x).2 = true := by
  unfold touch
  split
  · exact h
  · exact wf_fillRegion x.1 (lba / 128) lba x.2 h

theorem wf_storeBlock (lba : Nat) (p : Bool) (data : List Byte) (x : SysMem) (h : Memory.wf x.2 = true) :
    Memory.wf (storeBlock lba p data x).2 = true :=
  wf_putBlock _ _ _ _ _ _ (wf_touch lba (onSys hbmWake x) h)

theorem wf_flushWrites (x : SysMem) (h : Memory.wf x.2 = true) : Memory.wf (flushWrites x).2 = true :=
  foldl_keeps (fun y : SysMem => Memory.wf y.2 = true) _ _ _ (fun y w hy => wf_storeBlock w.1 false w.2 y hy) h

theorem wf_remap (lba : Nat) (x : SysMem) (h : Memory.wf x.2 = true) : Memory.wf (remap lba x).2 = true := by
  unfold remap
  dsimp only
  split
  · exact h
  · exact wf_putBlock _ _ _ _ _ _ h

theorem wf_candidate (lba reason : Nat) (x : SysMem) (h : Memory.wf x.2 = true) : Memory.wf (candidate lba reason x).2 = true := by
  unfold candidate
  dsimp only
  repeat' split
  all_goals first | exact wf_remap _ _ h | exact h

theorem wf_writePoison (lba : Nat) (d : Decoded) (x : SysMem) (h : Memory.wf x.2 = true) : Memory.wf (writePoison lba d x).2 = true :=
  wf_putShares _ _ _ _ _ h

theorem wf_readBlock (lba source : Nat) (noise : List Disturbance) (x : SysMem) (h : Memory.wf x.2 = true) :
    Memory.wf (readBlock lba source noise x).2.2 = true := by
  unfold readBlock
  split
  · exact h
  · dsimp only
    split
    · exact wf_candidate _ _ _ (wf_writePoison lba _ _ h)
    · exact h

theorem wf_flushEntry (e : MergeEntry) (noise : List Disturbance) (x : SysMem) (h : Memory.wf x.2 = true) :
    Memory.wf (flushEntry e noise x).2 = true := by
  unfold flushEntry
  dsimp only
  split
  · exact wf_storeBlock _ _ _ _ h
  · split
    · exact wf_storeBlock _ _ _ _ h
    · split
      · exact wf_candidate _ _ _ (wf_storeBlock _ _ _ _ h)
      · exact wf_storeBlock _ _ _ _ h

theorem wf_flushLba (lba : Nat) (noise : List Disturbance) (x : SysMem) (h : Memory.wf x.2 = true) : Memory.wf (flushLba lba noise x).2 = true := by
  unfold flushLba
  split
  · exact wf_flushEntry _ _ _ h
  · exact h

theorem wf_flushMerge (x : SysMem) (h : Memory.wf x.2 = true) : Memory.wf (flushMerge x).2 = true :=
  foldl_keeps (fun y : SysMem => Memory.wf y.2 = true) _ _ _ (fun y e hy => wf_flushEntry e [] y hy) h

theorem wf_mergeRoom (x : SysMem) (h : Memory.wf x.2 = true) : Memory.wf (mergeRoom x).2 = true := by
  unfold mergeRoom
  split
  · split
    · exact wf_flushEntry _ _ _ h
    · exact h
  · exact h

theorem wf_mergeWords (lba : Nat) (words : List (Fin 64 × List Byte)) (x : SysMem) (h : Memory.wf x.2 = true) :
    Memory.wf (mergeWords lba words x).2 = true := by
  unfold mergeWords
  split
  · exact h
  · exact wf_mergeRoom x h

theorem wf_narrowEffect (lba owner : Nat) (words : List (Fin 64 × List Byte)) (x : SysMem) (h : Memory.wf x.2 = true) :
    Memory.wf (narrowEffect lba owner words x).2 = true := by
  unfold narrowEffect
  split
  · exact h
  · have hw := wf_mergeWords lba words (onSys (claim lba owner) x) h
    show Memory.wf (mergeSettle lba _).2 = true
    unfold mergeSettle
    split
    · split
      · exact wf_flushEntry _ _ _ hw
      · exact hw
    · exact hw

theorem wf_blockWriteEffect (lba owner : Nat) (data : List Byte) (x : SysMem) (h : Memory.wf x.2 = true) :
    Memory.wf (blockWriteEffect lba owner data x).2 = true :=
  wf_storeBlock lba false data (onSys (claim lba owner) x) h

theorem wf_blockReadEffect (lba owner : Nat) (noise : List Disturbance) (x : SysMem) (h : Memory.wf x.2 = true) :
    Memory.wf (blockReadEffect lba owner noise x).2 = true :=
  wf_readBlock lba 1 noise (onSys (claim lba owner) x) h

theorem wf_mergeExpiryEffect (lba : Nat) (noise : List Disturbance) (x : SysMem) (h : Memory.wf x.2 = true) :
    Memory.wf (mergeExpiryEffect lba noise x).2 = true := by
  unfold mergeExpiryEffect
  split
  · split
    · exact wf_flushEntry _ _ _ h
    · exact h
  · exact h

theorem wf_chiselTurn (req : Bool) (lba : Nat) (p : Pass) (noise : List Disturbance) (x : SysMem) (h : Memory.wf x.2 = true) :
    Memory.wf (chiselTurn req lba p noise x).2 = true := by
  have h1 := wf_flushLba lba [] x h
  have h2 := wf_readBlock lba 0 noise _ h1
  unfold chiselTurn
  dsimp only [onSys]
  generalize readBlock lba 0 noise (flushLba lba [] x) = y at *
  have h3 : Memory.wf (if (y.1.verdict = 1 ∨ y.1.verdict = 2) ∧ p.cmd ≠ 2 then storeBlock lba false y.1.data y.2 else y.2).2 = true := by
    split
    · exact wf_storeBlock _ _ _ _ h2
    · exact h2
  generalize (if (y.1.verdict = 1 ∨ y.1.verdict = 2) ∧ p.cmd ≠ 2 then storeBlock lba false y.1.data y.2 else y.2) = z at *
  split <;> split <;> first | exact wf_candidate _ _ _ h3 | exact h3

theorem wf_poisonEntry (e : MergeEntry) (x : SysMem) (h : Memory.wf x.2 = true) : Memory.wf (poisonEntry e x).2 = true :=
  wf_candidate _ _ _ (wf_storeBlock _ _ _ _ h)

/-- A write of consecutive bytes leaves every other byte alone. -/
theorem read_writeAll (a : Nat) (l : List Byte) (m : List Host.Cell) (b : Nat) (h : b < a ∨ a + l.length ≤ b) :
    Memory.read (Memory.writeAll a l m) b = Memory.read m b := by
  induction l generalizing a m with
  | nil => rfl
  | cons x l ih =>
    simp only [Memory.writeAll]
    rw [ih (a + 1) _ (by simp only [List.length_cons] at h; omega)]
    simp only [List.length_cons] at h
    exact read_write_other _ _ _ _ (by omega)

/-- Writing shares of a block leaves every byte outside it alone. -/
theorem read_putShares (n tag : Nat) (l : List (List Byte)) (j : Nat) (m : List Host.Cell) (a : Nat)
    (hl : ∀ x ∈ l, x.length = 32) (hj : j + l.length ≤ 18) (h : ¬ inBlock n a) : Memory.read (putShares n tag j l m) a = Memory.read m a := by
  induction l generalizing j m with
  | nil => rfl
  | cons x l ih =>
    simp only [putShares]
    simp only [List.length_cons] at hj
    rw [ih (j + 1) _ (fun y hy => hl y (List.mem_cons_of_mem _ hy)) (by omega)]
    refine read_writeAll _ _ _ _ ?_
    have hx := hl x (List.mem_cons_self ..)
    have : (x ++ toBE 4 tag).length = 36 := by simp [hx, toBE]
    rw [this]
    by_contra hc
    exact h ⟨j, by omega, by omega, by omega⟩

/-- A block is encoded as eighteen shares of 32 bytes. -/
theorem encodeShares_length (data : List Byte) :
    (encodeShares (padRight 512 data)).length = 18 ∧ ∀ x ∈ encodeShares (padRight 512 data), x.length = 32 := by
  have hp : (padRight 512 data).length = 512 := by simp [padRight]; omega
  generalize padRight 512 data = d at *
  unfold encodeShares
  refine ⟨by simp, ?_⟩
  intro x hx
  simp only [List.mem_append, List.mem_map, List.mem_range, List.mem_cons, List.not_mem_nil, or_false] at hx
  rcases hx with ⟨j, hj, rfl⟩ | rfl | rfl
  · simp [slice, hp]; omega
  · simp
  · simp

end Sys2Proof.Laws
end

