-- ==== Sys2Proof/Laws/Quiet.lean ====
section
/-! SUPPORT. What surrounds a command on a ready and idle device: TIME runs on, and nothing follows but upkeep. -/

namespace Sys2Proof.Laws

open Sys2Proof Sys2Proof.Machine Sys2Proof.Safety

/-- A loop whose every turn changes nothing changes nothing. -/
theorem loop_same {σ : Type} (f : Nat → σ → σ) (i n : Nat) (s : σ) (h : ∀ j, f j s = s) : loop f i n s = s := by
  induction n generalizing i with
  | zero => rfl
  | succ n ih => simp only [loop, h, ih]

/-- The watch over the tiles changes nothing but the form in force. -/
theorem tileWatch_frame (s : Sys) : ∃ c, tileWatch s = { s with nrg := c } := by
  unfold tileWatch
  have : ∀ (f : Nat → Sys → Sys) (hf : ∀ k y, ∃ c, f k y = { y with nrg := c }) (n i : Nat) (y : Sys),
      ∃ c, loop f i n y = { y with nrg := c } := by
    intro f hf n
    induction n with
    | zero => intro i y; exact ⟨_, rfl⟩
    | succ n ih =>
      intro i y
      simp only [loop]
      obtain ⟨c, e⟩ := hf i y
      rw [e]
      obtain ⟨d, e⟩ := ih (i + 1) { y with nrg := c }
      rw [e]
      exact ⟨_, rfl⟩
  apply this
  intro k y
  dsimp only
  split
  · exact ⟨_, rfl⟩
  · exact ⟨_, rfl⟩

/-- On a ready and idle device a command is followed by nothing but the upkeep of rule-set banks and tiles. -/
theorem aftermath_quiet (x : SysMem) (h : quiet x.1) :
    ∃ a b c, aftermath x = ({ x.1 with rsBank := a, rsRetired := b, nrg := c }, x.2) := by
  obtain ⟨s, m⟩ := x
  obtain ⟨⟨h1, h2, h3, h4, h5⟩, ⟨h6, h7, h8, h9⟩, ⟨h10, h11, h12, h13, h14⟩, h15, h16⟩ := h
  dsimp only at *
  have e1 : deferAll s = s := by
    unfold deferAll; rw [if_neg]
    simp only [List.any_eq_true, not_exists, not_and, List.all_eq_true] at *
    intro e he; have := h16 e he; simp at this; simp [this.1]
  have e2 : lpiWatch s = s := by
    unfold lpiWatch; rw [if_neg]
    simp only [List.any_eq_true, not_exists, not_and, List.all_eq_true] at *
    intro e he; have := h16 e he; simp at this; simp [this.2]
  have e3 : laneWatch s = s := by unfold laneWatch; simp [h6, h7]
  have e4 : fcAll s = s := by unfold fcAll; rw [if_pos h15]
  have e5 : kngWatch s = s := by
    have k : kngWakes s = s := by unfold kngWakes; rw [if_pos (.inl h14)]
    unfold kngWatch; simp only [k]; rw [if_neg (fun k => h13 k.1)]
  obtain ⟨a, b, e6⟩ : ∃ a b, rsWatch s = { s with rsBank := a, rsRetired := b } := by
    have ask : ∀ y : Sys, y.rsWait = none → y.sessions = [] → y.orphans = [] → rsAsk y = y := by
      intro y g1 g2 g3
      unfold rsAsk holders
      simp [g1, g2, g3]
    have main : ∀ a b, (match rsAsk { s with rsBank := a, rsRetired := b } with | y => match y.rsWait with
        | some w => if w.loadEnd.isNone ∧ y.rsBank.isEmpty then
            { y with rsWait := some { w with loadEnd := some (y.now + bankTicks), delay := y.now - w.accepted } } else y
        | none => y) = { s with rsBank := a, rsRetired := b } := by
      intro a b
      rw [ask _ (by exact h9) (by exact h6) (by exact h7)]
      simp only [h9]
    exact ⟨_, _, main _ _⟩
  have e7 : basesWatch { s with rsBank := a, rsRetired := b } = { s with rsBank := a, rsRetired := b } := by
    unfold basesWatch
    refine loop_same _ _ _ _ (fun j => ?_)
    have k : (base { s with rsBank := a, rsRetired := b } j).st = (baseReset j).st := by simp [base, h12, SMap.get]
    have k2 : ¬ ((baseReset j).st = 2 ∨ (baseReset j).st = 3) := by unfold baseReset; split <;> simp
    unfold inputWatch
    simp only [k]
    rw [if_neg (fun q => k2 q.1)]
  have e8 : triggersTurn { s with rsBank := a, rsRetired := b } = { s with rsBank := a, rsRetired := b } := by
    unfold triggersTurn
    simp only [h5, List.foldl_nil]
  have e9 : dieWatch { s with rsBank := a, rsRetired := b } = { s with rsBank := a, rsRetired := b } := by
    have k : failedDie { s with rsBank := a, rsRetired := b } = failedDie s := rfl
    unfold dieWatch
    split
    · rw [k, h11]
      unfold holdCause
      simp [h4, bit]
    · rfl
  have e10 : silenceWatch { s with rsBank := a, rsRetired := b } = { s with rsBank := a, rsRetired := b } := by
    unfold silenceWatch
    rw [if_neg (by simp [h3])]
  obtain ⟨c, e11⟩ := tileWatch_frame { s with rsBank := a, rsRetired := b }
  have e12 : wakeWatch { s with rsBank := a, rsRetired := b, nrg := c } = { s with rsBank := a, rsRetired := b, nrg := c } := by
    unfold wakeWatch
    split
    · rw [if_neg (by simp [h1])]
    · rfl
  refine ⟨a, b, c, ?_⟩
  have fw : ∀ y : SysMem, y.1.wq = [] → flushWrites y = y := by
    intro y hy
    unfold flushWrites
    rw [hy]
    show (({ y.1 with wq := [] }, y.2) : SysMem) = y
    rw [← hy]
  have pp : ∀ y : SysMem, y.1.sessions = [] → pump y = y := by
    intro y hy
    unfold pump
    rw [hy]
    simp
  have ep : ∀ y : Sys, y.sessions = [] → eventPump y = y := by
    intro y hy
    unfold eventPump
    rw [hy]
    simp
  unfold aftermath
  simp only [e1, e2, e3, e4, e5, e6, e7, e8, e9, e10, e11, e12]
  have w1 : ({ s with rsBank := a, rsRetired := b, nrg := c } : Sys).wq = [] := h10
  have w2 : ({ s with rsBank := a, rsRetired := b, nrg := c } : Sys).sessions = [] := h6
  have w3 : ({ s with rsBank := a, rsRetired := b, nrg := c } : Sys).ending = [] := h8
  generalize ({ s with rsBank := a, rsRetired := b, nrg := c } : Sys) = y at *
  rw [fw (y, m) w1, pp (y, m) w2]
  simp only [w3, List.foldl_nil]
  have w4 : ({ y with ending := [] } : Sys) = y := by rw [← w3]
  rw [w4, ep y w2, fw (y, m) w1]

/-- What holds of every entry and of the default holds of what is read. -/
theorem smap_every_get {α : Type} [DecidableEq α] (P : α → Bool) (d : α) (m : SMap α) (k : Nat) (h : m.all (fun e => P e.2) = true)
    (hd : P d = true) : P (SMap.get d m k) = true := by
  induction m with
  | nil => exact hd
  | cons e r ih =>
    simp only [List.all_cons, Bool.and_eq_true] at h
    simp only [SMap.get]
    split
    · exact h.1
    · exact ih h.2

/-- What holds of every entry holds after one is deleted. -/
theorem smap_every_del {α : Type} [DecidableEq α] (P : α → Bool) (m : SMap α) (k : Nat) (h : m.all (fun e => P e.2) = true) :
    (SMap.del m k).all (fun e => P e.2) = true := by
  induction m with
  | nil => rfl
  | cons e r ih =>
    simp only [List.all_cons, Bool.and_eq_true] at h
    obtain ⟨j, w⟩ := e
    simp only [SMap.del]
    split
    · exact h.2
    · simp only [List.all_cons, Bool.and_eq_true]; exact ⟨h.1, ih h.2⟩

/-- What holds of every entry and of a new one holds after it is inserted. -/
theorem smap_every_ins {α : Type} [DecidableEq α] (P : α → Bool) (m : SMap α) (k : Nat) (v : α) (h : m.all (fun e => P e.2) = true)
    (hv : P v = true) : (SMap.ins m k v).all (fun e => P e.2) = true := by
  induction m with
  | nil => simp [SMap.ins, hv]
  | cons e r ih =>
    simp only [List.all_cons, Bool.and_eq_true] at h
    obtain ⟨j, w⟩ := e
    simp only [SMap.ins]
    repeat' split
    all_goals simp only [List.all_cons, Bool.and_eq_true, hv, h.1, h.2, ih h.2, and_self]

/-- What holds of every entry and of a value holds after it is set. -/
theorem smap_every_set {α : Type} [DecidableEq α] (P : α → Bool) (d : α) (m : SMap α) (k : Nat) (v : α) (h : m.all (fun e => P e.2) = true)
    (hv : P v = true) : (SMap.set d m k v).all (fun e => P e.2) = true := by
  unfold SMap.set
  split
  · exact smap_every_del P m k h
  · exact smap_every_ins P m k v h hv

/-- Slot counting of a lane changes counters and marks only. -/
theorem slotTurn_frame (a b : Nat) (d : DecId) (l : Nat) (s : Sys) : ∃ c k, slotTurn a b d l s = { s with ctr := c, slotMarks := k } := by
  unfold slotTurn
  dsimp only
  repeat' split
  all_goals exact ⟨_, _, rfl⟩

/-- Slot counting changes counters, marks and its own tick only. -/
theorem slotsTo_frame (t : Nat) (s : Sys) : ∃ c k a, slotsTo t s = { s with ctr := c, slotMarks := k, slotAt := a } := by
  unfold slotsTo
  split
  · exact ⟨_, _, _, rfl⟩
  · dsimp only
    obtain ⟨c1, k1, e1⟩ := slotTurn_frame s.slotAt t .a 0 s
    rw [e1]
    obtain ⟨c2, k2, e2⟩ := slotTurn_frame s.slotAt t .a 1 { s with ctr := c1, slotMarks := k1 }
    rw [e2]
    obtain ⟨c3, k3, e3⟩ := slotTurn_frame s.slotAt t .b 0 { s with ctr := c2, slotMarks := k2 }
    rw [e3]
    obtain ⟨c4, k4, e4⟩ := slotTurn_frame s.slotAt t .b 1 { s with ctr := c3, slotMarks := k3 }
    rw [e4]
    exact ⟨_, _, _, rfl⟩

/-- Credit updates change the ports' credits only. -/
theorem creditsTo_frame (P : Port → Bool) (hd : P {} = true) (hP : ∀ q a b, P { q with creditAt := a, credit := b } = P q) (t : Nat) (s : Sys)
    (h : s.ports.all (fun e => P e.2) = true) :
    ∃ p, creditsTo t s = { s with ports := p } ∧ p.all (fun e => P e.2) = true := by
  unfold creditsTo
  generalize (s.ports.map (·.1)) = l
  induction l generalizing s with
  | nil => exact ⟨_, rfl, h⟩
  | cons a l ih =>
    rw [List.foldl_cons]
    have : ∃ p, creditTo a t s = { s with ports := p } ∧ p.all (fun e => P e.2) = true := by
      unfold creditTo
      dsimp only
      split
      · exact ⟨_, rfl, h⟩
      · refine ⟨_, rfl, ?_⟩
        unfold SMap.upd
        refine smap_every_set P _ _ _ _ h ?_
        rw [hP]
        exact smap_every_get P _ _ _ h hd
    obtain ⟨p, e, hp⟩ := this
    rw [e]
    obtain ⟨p', e', hp'⟩ := ih { s with ports := p } hp
    exact ⟨p', e', hp'⟩


/-- TIME runs on over a ready and idle device, which stays so. -/
theorem setNow_quiet (t : Nat) (s : Sys) (h : quiet s) : quiet (setNow t s) ∧
    ∃ a b c d e, setNow t s = { s with now := a, ports := b, ctr := c, slotMarks := d, slotAt := e } := by
  obtain ⟨⟨h1, h2, h3, h4, h5⟩, ⟨h6, h7, h8, h9⟩, ⟨h10, h11, h12, h13, h14⟩, h15, h16⟩ := h
  have hc : s.ports.all (fun e => e.2.bp == 0) = true := by
    unfold calm at h15; simp only [Bool.and_eq_true] at h15; exact h15.2
  unfold setNow
  split
  · exact ⟨⟨⟨h1, h2, h3, h4, h5⟩, ⟨h6, h7, h8, h9⟩, ⟨h10, h11, h12, h13, h14⟩, h15, h16⟩, _, _, _, _, _, rfl⟩
  · obtain ⟨c, k, a, e⟩ := slotsTo_frame t s
    rw [e]
    have hb : s.ports.all (fun e => (fun q : Port => (!q.half && !q.lpiTx) && q.bp == 0) e.2) = true := by
      simp only [List.all_eq_true] at *
      intro e he; simp [h16 e he]; have := h16 e he; have := hc e he; simp_all
    obtain ⟨p, e', hp⟩ := creditsTo_frame (fun q => (!q.half && !q.lpiTx) && q.bp == 0) rfl (fun _ _ _ => rfl) t
      { s with ctr := c, slotMarks := k, slotAt := a } hb
    rw [e']
    have hp1 : p.all (fun e => !e.2.half && !e.2.lpiTx) = true := by
      simp only [List.all_eq_true] at *; intro e he; have := hp e he; simp only [Bool.and_eq_true] at this; simp [this.1]
    have hp2 : p.all (fun e => e.2.bp == 0) = true := by
      simp only [List.all_eq_true] at *; intro e he; have := hp e he; simp only [Bool.and_eq_true] at this; exact this.2
    have hcalm : calm { s with ctr := c, slotMarks := k, slotAt := a, ports := p, now := t } = true := by
      unfold calm at *
      simp only [Bool.and_eq_true] at *
      exact ⟨h15.1, hp2⟩
    exact ⟨⟨⟨h1, h2, h3, h4, h5⟩, ⟨h6, h7, h8, h9⟩, ⟨h10, h11, h12, h13, h14⟩, hcalm, hp1⟩, _, _, _, _, _, rfl⟩

end Sys2Proof.Laws
end

