-- ==== Sys2Proof/Laws/State.lean ====
section
/-! SUPPORT. What each update of the state leaves alone: one lemma for each update and each field that statements speak of, so that no
proof unfolds a record update. -/

namespace Sys2Proof.Laws

open Sys2Proof.Machine

variable (s : Sys)

/-! ### bumpBy -/

@[simp] theorem bumpBy_dict (n k : Nat) : (bumpBy n k s).dict = s.dict := rfl
@[simp] theorem bumpBy_gen (n k : Nat) : (bumpBy n k s).gen = s.gen := rfl
@[simp] theorem bumpBy_rsGen (n k : Nat) : (bumpBy n k s).rsGen = s.rsGen := rfl
@[simp] theorem bumpBy_events (n k : Nat) : (bumpBy n k s).events = s.events := rfl
@[simp] theorem bumpBy_sessions (n k : Nat) : (bumpBy n k s).sessions = s.sessions := rfl
@[simp] theorem bumpBy_ports (n k : Nat) : (bumpBy n k s).ports = s.ports := rfl
@[simp] theorem bumpBy_lanes (n k : Nat) : (bumpBy n k s).lanes = s.lanes := rfl
@[simp] theorem bumpBy_kng (n k : Nat) : (bumpBy n k s).kng = s.kng := rfl
@[simp] theorem bumpBy_frames (n k : Nat) : (bumpBy n k s).frames = s.frames := rfl
@[simp] theorem bumpBy_copies (n k : Nat) : (bumpBy n k s).copies = s.copies := rfl
@[simp] theorem bumpBy_xings (n k : Nat) : (bumpBy n k s).xings = s.xings := rfl
@[simp] theorem bumpBy_queues (n k : Nat) : (bumpBy n k s).queues = s.queues := rfl
@[simp] theorem bumpBy_decA (n k : Nat) : (bumpBy n k s).decA = s.decA := rfl
@[simp] theorem bumpBy_decB (n k : Nat) : (bumpBy n k s).decB = s.decB := rfl
@[simp] theorem bumpBy_snaps (n k : Nat) : (bumpBy n k s).snaps = s.snaps := rfl
@[simp] theorem bumpBy_bases (n k : Nat) : (bumpBy n k s).bases = s.bases := rfl
@[simp] theorem bumpBy_mem (n k : Nat) : (bumpBy n k s).mem = s.mem := rfl
@[simp] theorem bumpBy_poison (n k : Nat) : (bumpBy n k s).poison = s.poison := rfl
@[simp] theorem bumpBy_wq (n k : Nat) : (bumpBy n k s).wq = s.wq := rfl
@[simp] theorem bumpBy_flash (n k : Nat) : (bumpBy n k s).flash = s.flash := rfl
@[simp] theorem bumpBy_nrg (n k : Nat) : (bumpBy n k s).nrg = s.nrg := rfl
@[simp] theorem bumpBy_recd (n k : Nat) : (bumpBy n k s).recd = s.recd := rfl
@[simp] theorem bumpBy_boot (n k : Nat) : (bumpBy n k s).boot = s.boot := rfl
@[simp] theorem bumpBy_plinth (n k : Nat) : (bumpBy n k s).plinth = s.plinth := rfl
@[simp] theorem bumpBy_faults (n k : Nat) : (bumpBy n k s).faults = s.faults := rfl
@[simp] theorem bumpBy_devState (n k : Nat) : (bumpBy n k s).devState = s.devState := rfl
@[simp] theorem bumpBy_now (n k : Nat) : (bumpBy n k s).now = s.now := rfl
@[simp] theorem bumpBy_freeCtr (n k : Nat) : (bumpBy n k s).freeCtr = s.freeCtr := rfl

/-! ### bump -/

@[simp] theorem bump_dict (n : Nat) : (bump n s).dict = s.dict := rfl
@[simp] theorem bump_gen (n : Nat) : (bump n s).gen = s.gen := rfl
@[simp] theorem bump_rsGen (n : Nat) : (bump n s).rsGen = s.rsGen := rfl
@[simp] theorem bump_events (n : Nat) : (bump n s).events = s.events := rfl
@[simp] theorem bump_sessions (n : Nat) : (bump n s).sessions = s.sessions := rfl
@[simp] theorem bump_ports (n : Nat) : (bump n s).ports = s.ports := rfl
@[simp] theorem bump_lanes (n : Nat) : (bump n s).lanes = s.lanes := rfl
@[simp] theorem bump_kng (n : Nat) : (bump n s).kng = s.kng := rfl
@[simp] theorem bump_frames (n : Nat) : (bump n s).frames = s.frames := rfl
@[simp] theorem bump_copies (n : Nat) : (bump n s).copies = s.copies := rfl
@[simp] theorem bump_xings (n : Nat) : (bump n s).xings = s.xings := rfl
@[simp] theorem bump_queues (n : Nat) : (bump n s).queues = s.queues := rfl
@[simp] theorem bump_decA (n : Nat) : (bump n s).decA = s.decA := rfl
@[simp] theorem bump_decB (n : Nat) : (bump n s).decB = s.decB := rfl
@[simp] theorem bump_snaps (n : Nat) : (bump n s).snaps = s.snaps := rfl
@[simp] theorem bump_bases (n : Nat) : (bump n s).bases = s.bases := rfl
@[simp] theorem bump_mem (n : Nat) : (bump n s).mem = s.mem := rfl
@[simp] theorem bump_poison (n : Nat) : (bump n s).poison = s.poison := rfl
@[simp] theorem bump_wq (n : Nat) : (bump n s).wq = s.wq := rfl
@[simp] theorem bump_flash (n : Nat) : (bump n s).flash = s.flash := rfl
@[simp] theorem bump_nrg (n : Nat) : (bump n s).nrg = s.nrg := rfl
@[simp] theorem bump_recd (n : Nat) : (bump n s).recd = s.recd := rfl
@[simp] theorem bump_boot (n : Nat) : (bump n s).boot = s.boot := rfl
@[simp] theorem bump_plinth (n : Nat) : (bump n s).plinth = s.plinth := rfl
@[simp] theorem bump_faults (n : Nat) : (bump n s).faults = s.faults := rfl
@[simp] theorem bump_devState (n : Nat) : (bump n s).devState = s.devState := rfl
@[simp] theorem bump_now (n : Nat) : (bump n s).now = s.now := rfl
@[simp] theorem bump_freeCtr (n : Nat) : (bump n s).freeCtr = s.freeCtr := rfl

/-! ### putVal -/

@[simp] theorem putVal_gen (ix sub row col : Nat) (v : Value) : (putVal s ix sub row col v).gen = s.gen := rfl
@[simp] theorem putVal_rsGen (ix sub row col : Nat) (v : Value) : (putVal s ix sub row col v).rsGen = s.rsGen := rfl
@[simp] theorem putVal_ctr (ix sub row col : Nat) (v : Value) : (putVal s ix sub row col v).ctr = s.ctr := rfl
@[simp] theorem putVal_events (ix sub row col : Nat) (v : Value) : (putVal s ix sub row col v).events = s.events := rfl
@[simp] theorem putVal_sessions (ix sub row col : Nat) (v : Value) : (putVal s ix sub row col v).sessions = s.sessions := rfl
@[simp] theorem putVal_ports (ix sub row col : Nat) (v : Value) : (putVal s ix sub row col v).ports = s.ports := rfl
@[simp] theorem putVal_lanes (ix sub row col : Nat) (v : Value) : (putVal s ix sub row col v).lanes = s.lanes := rfl
@[simp] theorem putVal_kng (ix sub row col : Nat) (v : Value) : (putVal s ix sub row col v).kng = s.kng := rfl
@[simp] theorem putVal_frames (ix sub row col : Nat) (v : Value) : (putVal s ix sub row col v).frames = s.frames := rfl
@[simp] theorem putVal_copies (ix sub row col : Nat) (v : Value) : (putVal s ix sub row col v).copies = s.copies := rfl
@[simp] theorem putVal_xings (ix sub row col : Nat) (v : Value) : (putVal s ix sub row col v).xings = s.xings := rfl
@[simp] theorem putVal_queues (ix sub row col : Nat) (v : Value) : (putVal s ix sub row col v).queues = s.queues := rfl
@[simp] theorem putVal_decA (ix sub row col : Nat) (v : Value) : (putVal s ix sub row col v).decA = s.decA := rfl
@[simp] theorem putVal_decB (ix sub row col : Nat) (v : Value) : (putVal s ix sub row col v).decB = s.decB := rfl
@[simp] theorem putVal_snaps (ix sub row col : Nat) (v : Value) : (putVal s ix sub row col v).snaps = s.snaps := rfl
@[simp] theorem putVal_bases (ix sub row col : Nat) (v : Value) : (putVal s ix sub row col v).bases = s.bases := rfl
@[simp] theorem putVal_mem (ix sub row col : Nat) (v : Value) : (putVal s ix sub row col v).mem = s.mem := rfl
@[simp] theorem putVal_poison (ix sub row col : Nat) (v : Value) : (putVal s ix sub row col v).poison = s.poison := rfl
@[simp] theorem putVal_wq (ix sub row col : Nat) (v : Value) : (putVal s ix sub row col v).wq = s.wq := rfl
@[simp] theorem putVal_flash (ix sub row col : Nat) (v : Value) : (putVal s ix sub row col v).flash = s.flash := rfl
@[simp] theorem putVal_nrg (ix sub row col : Nat) (v : Value) : (putVal s ix sub row col v).nrg = s.nrg := rfl
@[simp] theorem putVal_recd (ix sub row col : Nat) (v : Value) : (putVal s ix sub row col v).recd = s.recd := rfl
@[simp] theorem putVal_boot (ix sub row col : Nat) (v : Value) : (putVal s ix sub row col v).boot = s.boot := rfl
@[simp] theorem putVal_plinth (ix sub row col : Nat) (v : Value) : (putVal s ix sub row col v).plinth = s.plinth := rfl
@[simp] theorem putVal_faults (ix sub row col : Nat) (v : Value) : (putVal s ix sub row col v).faults = s.faults := rfl
@[simp] theorem putVal_devState (ix sub row col : Nat) (v : Value) : (putVal s ix sub row col v).devState = s.devState := rfl
@[simp] theorem putVal_now (ix sub row col : Nat) (v : Value) : (putVal s ix sub row col v).now = s.now := rfl
@[simp] theorem putVal_freeCtr (ix sub row col : Nat) (v : Value) : (putVal s ix sub row col v).freeCtr = s.freeCtr := rfl

/-! ### updPort -/

@[simp] theorem updPort_dict (p : Nat) (f : Port → Port) : (updPort p f s).dict = s.dict := rfl
@[simp] theorem updPort_gen (p : Nat) (f : Port → Port) : (updPort p f s).gen = s.gen := rfl
@[simp] theorem updPort_rsGen (p : Nat) (f : Port → Port) : (updPort p f s).rsGen = s.rsGen := rfl
@[simp] theorem updPort_ctr (p : Nat) (f : Port → Port) : (updPort p f s).ctr = s.ctr := rfl
@[simp] theorem updPort_events (p : Nat) (f : Port → Port) : (updPort p f s).events = s.events := rfl
@[simp] theorem updPort_sessions (p : Nat) (f : Port → Port) : (updPort p f s).sessions = s.sessions := rfl
@[simp] theorem updPort_lanes (p : Nat) (f : Port → Port) : (updPort p f s).lanes = s.lanes := rfl
@[simp] theorem updPort_kng (p : Nat) (f : Port → Port) : (updPort p f s).kng = s.kng := rfl
@[simp] theorem updPort_frames (p : Nat) (f : Port → Port) : (updPort p f s).frames = s.frames := rfl
@[simp] theorem updPort_copies (p : Nat) (f : Port → Port) : (updPort p f s).copies = s.copies := rfl
@[simp] theorem updPort_xings (p : Nat) (f : Port → Port) : (updPort p f s).xings = s.xings := rfl
@[simp] theorem updPort_queues (p : Nat) (f : Port → Port) : (updPort p f s).queues = s.queues := rfl
@[simp] theorem updPort_decA (p : Nat) (f : Port → Port) : (updPort p f s).decA = s.decA := rfl
@[simp] theorem updPort_decB (p : Nat) (f : Port → Port) : (updPort p f s).decB = s.decB := rfl
@[simp] theorem updPort_snaps (p : Nat) (f : Port → Port) : (updPort p f s).snaps = s.snaps := rfl
@[simp] theorem updPort_bases (p : Nat) (f : Port → Port) : (updPort p f s).bases = s.bases := rfl
@[simp] theorem updPort_mem (p : Nat) (f : Port → Port) : (updPort p f s).mem = s.mem := rfl
@[simp] theorem updPort_poison (p : Nat) (f : Port → Port) : (updPort p f s).poison = s.poison := rfl
@[simp] theorem updPort_wq (p : Nat) (f : Port → Port) : (updPort p f s).wq = s.wq := rfl
@[simp] theorem updPort_flash (p : Nat) (f : Port → Port) : (updPort p f s).flash = s.flash := rfl
@[simp] theorem updPort_nrg (p : Nat) (f : Port → Port) : (updPort p f s).nrg = s.nrg := rfl
@[simp] theorem updPort_recd (p : Nat) (f : Port → Port) : (updPort p f s).recd = s.recd := rfl
@[simp] theorem updPort_boot (p : Nat) (f : Port → Port) : (updPort p f s).boot = s.boot := rfl
@[simp] theorem updPort_plinth (p : Nat) (f : Port → Port) : (updPort p f s).plinth = s.plinth := rfl
@[simp] theorem updPort_faults (p : Nat) (f : Port → Port) : (updPort p f s).faults = s.faults := rfl
@[simp] theorem updPort_devState (p : Nat) (f : Port → Port) : (updPort p f s).devState = s.devState := rfl
@[simp] theorem updPort_now (p : Nat) (f : Port → Port) : (updPort p f s).now = s.now := rfl
@[simp] theorem updPort_freeCtr (p : Nat) (f : Port → Port) : (updPort p f s).freeCtr = s.freeCtr := rfl

/-! ### setFrame -/

@[simp] theorem setFrame_dict (i : Nat) (f : Frame) : (setFrame i f s).dict = s.dict := rfl
@[simp] theorem setFrame_gen (i : Nat) (f : Frame) : (setFrame i f s).gen = s.gen := rfl
@[simp] theorem setFrame_rsGen (i : Nat) (f : Frame) : (setFrame i f s).rsGen = s.rsGen := rfl
@[simp] theorem setFrame_ctr (i : Nat) (f : Frame) : (setFrame i f s).ctr = s.ctr := rfl
@[simp] theorem setFrame_events (i : Nat) (f : Frame) : (setFrame i f s).events = s.events := rfl
@[simp] theorem setFrame_sessions (i : Nat) (f : Frame) : (setFrame i f s).sessions = s.sessions := rfl
@[simp] theorem setFrame_ports (i : Nat) (f : Frame) : (setFrame i f s).ports = s.ports := rfl
@[simp] theorem setFrame_lanes (i : Nat) (f : Frame) : (setFrame i f s).lanes = s.lanes := rfl
@[simp] theorem setFrame_kng (i : Nat) (f : Frame) : (setFrame i f s).kng = s.kng := rfl
@[simp] theorem setFrame_copies (i : Nat) (f : Frame) : (setFrame i f s).copies = s.copies := rfl
@[simp] theorem setFrame_xings (i : Nat) (f : Frame) : (setFrame i f s).xings = s.xings := rfl
@[simp] theorem setFrame_queues (i : Nat) (f : Frame) : (setFrame i f s).queues = s.queues := rfl
@[simp] theorem setFrame_decA (i : Nat) (f : Frame) : (setFrame i f s).decA = s.decA := rfl
@[simp] theorem setFrame_decB (i : Nat) (f : Frame) : (setFrame i f s).decB = s.decB := rfl
@[simp] theorem setFrame_snaps (i : Nat) (f : Frame) : (setFrame i f s).snaps = s.snaps := rfl
@[simp] theorem setFrame_bases (i : Nat) (f : Frame) : (setFrame i f s).bases = s.bases := rfl
@[simp] theorem setFrame_mem (i : Nat) (f : Frame) : (setFrame i f s).mem = s.mem := rfl
@[simp] theorem setFrame_poison (i : Nat) (f : Frame) : (setFrame i f s).poison = s.poison := rfl
@[simp] theorem setFrame_wq (i : Nat) (f : Frame) : (setFrame i f s).wq = s.wq := rfl
@[simp] theorem setFrame_flash (i : Nat) (f : Frame) : (setFrame i f s).flash = s.flash := rfl
@[simp] theorem setFrame_nrg (i : Nat) (f : Frame) : (setFrame i f s).nrg = s.nrg := rfl
@[simp] theorem setFrame_recd (i : Nat) (f : Frame) : (setFrame i f s).recd = s.recd := rfl
@[simp] theorem setFrame_boot (i : Nat) (f : Frame) : (setFrame i f s).boot = s.boot := rfl
@[simp] theorem setFrame_plinth (i : Nat) (f : Frame) : (setFrame i f s).plinth = s.plinth := rfl
@[simp] theorem setFrame_faults (i : Nat) (f : Frame) : (setFrame i f s).faults = s.faults := rfl
@[simp] theorem setFrame_devState (i : Nat) (f : Frame) : (setFrame i f s).devState = s.devState := rfl
@[simp] theorem setFrame_now (i : Nat) (f : Frame) : (setFrame i f s).now = s.now := rfl
@[simp] theorem setFrame_freeCtr (i : Nat) (f : Frame) : (setFrame i f s).freeCtr = s.freeCtr := rfl

/-! ### setCopy -/

@[simp] theorem setCopy_dict (i : Nat) (c : Copy) : (setCopy i c s).dict = s.dict := rfl
@[simp] theorem setCopy_gen (i : Nat) (c : Copy) : (setCopy i c s).gen = s.gen := rfl
@[simp] theorem setCopy_rsGen (i : Nat) (c : Copy) : (setCopy i c s).rsGen = s.rsGen := rfl
@[simp] theorem setCopy_ctr (i : Nat) (c : Copy) : (setCopy i c s).ctr = s.ctr := rfl
@[simp] theorem setCopy_events (i : Nat) (c : Copy) : (setCopy i c s).events = s.events := rfl
@[simp] theorem setCopy_sessions (i : Nat) (c : Copy) : (setCopy i c s).sessions = s.sessions := rfl
@[simp] theorem setCopy_ports (i : Nat) (c : Copy) : (setCopy i c s).ports = s.ports := rfl
@[simp] theorem setCopy_lanes (i : Nat) (c : Copy) : (setCopy i c s).lanes = s.lanes := rfl
@[simp] theorem setCopy_kng (i : Nat) (c : Copy) : (setCopy i c s).kng = s.kng := rfl
@[simp] theorem setCopy_frames (i : Nat) (c : Copy) : (setCopy i c s).frames = s.frames := rfl
@[simp] theorem setCopy_xings (i : Nat) (c : Copy) : (setCopy i c s).xings = s.xings := rfl
@[simp] theorem setCopy_queues (i : Nat) (c : Copy) : (setCopy i c s).queues = s.queues := rfl
@[simp] theorem setCopy_decA (i : Nat) (c : Copy) : (setCopy i c s).decA = s.decA := rfl
@[simp] theorem setCopy_decB (i : Nat) (c : Copy) : (setCopy i c s).decB = s.decB := rfl
@[simp] theorem setCopy_snaps (i : Nat) (c : Copy) : (setCopy i c s).snaps = s.snaps := rfl
@[simp] theorem setCopy_bases (i : Nat) (c : Copy) : (setCopy i c s).bases = s.bases := rfl
@[simp] theorem setCopy_mem (i : Nat) (c : Copy) : (setCopy i c s).mem = s.mem := rfl
@[simp] theorem setCopy_poison (i : Nat) (c : Copy) : (setCopy i c s).poison = s.poison := rfl
@[simp] theorem setCopy_wq (i : Nat) (c : Copy) : (setCopy i c s).wq = s.wq := rfl
@[simp] theorem setCopy_flash (i : Nat) (c : Copy) : (setCopy i c s).flash = s.flash := rfl
@[simp] theorem setCopy_nrg (i : Nat) (c : Copy) : (setCopy i c s).nrg = s.nrg := rfl
@[simp] theorem setCopy_recd (i : Nat) (c : Copy) : (setCopy i c s).recd = s.recd := rfl
@[simp] theorem setCopy_boot (i : Nat) (c : Copy) : (setCopy i c s).boot = s.boot := rfl
@[simp] theorem setCopy_plinth (i : Nat) (c : Copy) : (setCopy i c s).plinth = s.plinth := rfl
@[simp] theorem setCopy_faults (i : Nat) (c : Copy) : (setCopy i c s).faults = s.faults := rfl
@[simp] theorem setCopy_devState (i : Nat) (c : Copy) : (setCopy i c s).devState = s.devState := rfl
@[simp] theorem setCopy_now (i : Nat) (c : Copy) : (setCopy i c s).now = s.now := rfl
@[simp] theorem setCopy_freeCtr (i : Nat) (c : Copy) : (setCopy i c s).freeCtr = s.freeCtr := rfl

/-! ### setXing -/

@[simp] theorem setXing_dict (i : Nat) (y : Xing) : (setXing i y s).dict = s.dict := rfl
@[simp] theorem setXing_gen (i : Nat) (y : Xing) : (setXing i y s).gen = s.gen := rfl
@[simp] theorem setXing_rsGen (i : Nat) (y : Xing) : (setXing i y s).rsGen = s.rsGen := rfl
@[simp] theorem setXing_ctr (i : Nat) (y : Xing) : (setXing i y s).ctr = s.ctr := rfl
@[simp] theorem setXing_events (i : Nat) (y : Xing) : (setXing i y s).events = s.events := rfl
@[simp] theorem setXing_sessions (i : Nat) (y : Xing) : (setXing i y s).sessions = s.sessions := rfl
@[simp] theorem setXing_ports (i : Nat) (y : Xing) : (setXing i y s).ports = s.ports := rfl
@[simp] theorem setXing_lanes (i : Nat) (y : Xing) : (setXing i y s).lanes = s.lanes := rfl
@[simp] theorem setXing_kng (i : Nat) (y : Xing) : (setXing i y s).kng = s.kng := rfl
@[simp] theorem setXing_frames (i : Nat) (y : Xing) : (setXing i y s).frames = s.frames := rfl
@[simp] theorem setXing_copies (i : Nat) (y : Xing) : (setXing i y s).copies = s.copies := rfl
@[simp] theorem setXing_queues (i : Nat) (y : Xing) : (setXing i y s).queues = s.queues := rfl
@[simp] theorem setXing_decA (i : Nat) (y : Xing) : (setXing i y s).decA = s.decA := rfl
@[simp] theorem setXing_decB (i : Nat) (y : Xing) : (setXing i y s).decB = s.decB := rfl
@[simp] theorem setXing_snaps (i : Nat) (y : Xing) : (setXing i y s).snaps = s.snaps := rfl
@[simp] theorem setXing_bases (i : Nat) (y : Xing) : (setXing i y s).bases = s.bases := rfl
@[simp] theorem setXing_mem (i : Nat) (y : Xing) : (setXing i y s).mem = s.mem := rfl
@[simp] theorem setXing_poison (i : Nat) (y : Xing) : (setXing i y s).poison = s.poison := rfl
@[simp] theorem setXing_wq (i : Nat) (y : Xing) : (setXing i y s).wq = s.wq := rfl
@[simp] theorem setXing_flash (i : Nat) (y : Xing) : (setXing i y s).flash = s.flash := rfl
@[simp] theorem setXing_nrg (i : Nat) (y : Xing) : (setXing i y s).nrg = s.nrg := rfl
@[simp] theorem setXing_recd (i : Nat) (y : Xing) : (setXing i y s).recd = s.recd := rfl
@[simp] theorem setXing_boot (i : Nat) (y : Xing) : (setXing i y s).boot = s.boot := rfl
@[simp] theorem setXing_plinth (i : Nat) (y : Xing) : (setXing i y s).plinth = s.plinth := rfl
@[simp] theorem setXing_faults (i : Nat) (y : Xing) : (setXing i y s).faults = s.faults := rfl
@[simp] theorem setXing_devState (i : Nat) (y : Xing) : (setXing i y s).devState = s.devState := rfl
@[simp] theorem setXing_now (i : Nat) (y : Xing) : (setXing i y s).now = s.now := rfl
@[simp] theorem setXing_freeCtr (i : Nat) (y : Xing) : (setXing i y s).freeCtr = s.freeCtr := rfl

/-! ### setQueue -/

@[simp] theorem setQueue_dict (q : Nat) (l : List Nat) : (setQueue q l s).dict = s.dict := rfl
@[simp] theorem setQueue_gen (q : Nat) (l : List Nat) : (setQueue q l s).gen = s.gen := rfl
@[simp] theorem setQueue_rsGen (q : Nat) (l : List Nat) : (setQueue q l s).rsGen = s.rsGen := rfl
@[simp] theorem setQueue_ctr (q : Nat) (l : List Nat) : (setQueue q l s).ctr = s.ctr := rfl
@[simp] theorem setQueue_events (q : Nat) (l : List Nat) : (setQueue q l s).events = s.events := rfl
@[simp] theorem setQueue_sessions (q : Nat) (l : List Nat) : (setQueue q l s).sessions = s.sessions := rfl
@[simp] theorem setQueue_ports (q : Nat) (l : List Nat) : (setQueue q l s).ports = s.ports := rfl
@[simp] theorem setQueue_lanes (q : Nat) (l : List Nat) : (setQueue q l s).lanes = s.lanes := rfl
@[simp] theorem setQueue_kng (q : Nat) (l : List Nat) : (setQueue q l s).kng = s.kng := rfl
@[simp] theorem setQueue_frames (q : Nat) (l : List Nat) : (setQueue q l s).frames = s.frames := rfl
@[simp] theorem setQueue_copies (q : Nat) (l : List Nat) : (setQueue q l s).copies = s.copies := rfl
@[simp] theorem setQueue_xings (q : Nat) (l : List Nat) : (setQueue q l s).xings = s.xings := rfl
@[simp] theorem setQueue_decA (q : Nat) (l : List Nat) : (setQueue q l s).decA = s.decA := rfl
@[simp] theorem setQueue_decB (q : Nat) (l : List Nat) : (setQueue q l s).decB = s.decB := rfl
@[simp] theorem setQueue_snaps (q : Nat) (l : List Nat) : (setQueue q l s).snaps = s.snaps := rfl
@[simp] theorem setQueue_bases (q : Nat) (l : List Nat) : (setQueue q l s).bases = s.bases := rfl
@[simp] theorem setQueue_mem (q : Nat) (l : List Nat) : (setQueue q l s).mem = s.mem := rfl
@[simp] theorem setQueue_poison (q : Nat) (l : List Nat) : (setQueue q l s).poison = s.poison := rfl
@[simp] theorem setQueue_wq (q : Nat) (l : List Nat) : (setQueue q l s).wq = s.wq := rfl
@[simp] theorem setQueue_flash (q : Nat) (l : List Nat) : (setQueue q l s).flash = s.flash := rfl
@[simp] theorem setQueue_nrg (q : Nat) (l : List Nat) : (setQueue q l s).nrg = s.nrg := rfl
@[simp] theorem setQueue_recd (q : Nat) (l : List Nat) : (setQueue q l s).recd = s.recd := rfl
@[simp] theorem setQueue_boot (q : Nat) (l : List Nat) : (setQueue q l s).boot = s.boot := rfl
@[simp] theorem setQueue_plinth (q : Nat) (l : List Nat) : (setQueue q l s).plinth = s.plinth := rfl
@[simp] theorem setQueue_faults (q : Nat) (l : List Nat) : (setQueue q l s).faults = s.faults := rfl
@[simp] theorem setQueue_devState (q : Nat) (l : List Nat) : (setQueue q l s).devState = s.devState := rfl
@[simp] theorem setQueue_now (q : Nat) (l : List Nat) : (setQueue q l s).now = s.now := rfl
@[simp] theorem setQueue_freeCtr (q : Nat) (l : List Nat) : (setQueue q l s).freeCtr = s.freeCtr := rfl

/-! ### setBase -/

@[simp] theorem setBase_dict (b : Nat) (v : Base) : (setBase b v s).dict = s.dict := rfl
@[simp] theorem setBase_gen (b : Nat) (v : Base) : (setBase b v s).gen = s.gen := rfl
@[simp] theorem setBase_rsGen (b : Nat) (v : Base) : (setBase b v s).rsGen = s.rsGen := rfl
@[simp] theorem setBase_ctr (b : Nat) (v : Base) : (setBase b v s).ctr = s.ctr := rfl
@[simp] theorem setBase_events (b : Nat) (v : Base) : (setBase b v s).events = s.events := rfl
@[simp] theorem setBase_sessions (b : Nat) (v : Base) : (setBase b v s).sessions = s.sessions := rfl
@[simp] theorem setBase_ports (b : Nat) (v : Base) : (setBase b v s).ports = s.ports := rfl
@[simp] theorem setBase_lanes (b : Nat) (v : Base) : (setBase b v s).lanes = s.lanes := rfl
@[simp] theorem setBase_kng (b : Nat) (v : Base) : (setBase b v s).kng = s.kng := rfl
@[simp] theorem setBase_frames (b : Nat) (v : Base) : (setBase b v s).frames = s.frames := rfl
@[simp] theorem setBase_copies (b : Nat) (v : Base) : (setBase b v s).copies = s.copies := rfl
@[simp] theorem setBase_xings (b : Nat) (v : Base) : (setBase b v s).xings = s.xings := rfl
@[simp] theorem setBase_queues (b : Nat) (v : Base) : (setBase b v s).queues = s.queues := rfl
@[simp] theorem setBase_decA (b : Nat) (v : Base) : (setBase b v s).decA = s.decA := rfl
@[simp] theorem setBase_decB (b : Nat) (v : Base) : (setBase b v s).decB = s.decB := rfl
@[simp] theorem setBase_snaps (b : Nat) (v : Base) : (setBase b v s).snaps = s.snaps := rfl
@[simp] theorem setBase_mem (b : Nat) (v : Base) : (setBase b v s).mem = s.mem := rfl
@[simp] theorem setBase_poison (b : Nat) (v : Base) : (setBase b v s).poison = s.poison := rfl
@[simp] theorem setBase_wq (b : Nat) (v : Base) : (setBase b v s).wq = s.wq := rfl
@[simp] theorem setBase_flash (b : Nat) (v : Base) : (setBase b v s).flash = s.flash := rfl
@[simp] theorem setBase_nrg (b : Nat) (v : Base) : (setBase b v s).nrg = s.nrg := rfl
@[simp] theorem setBase_recd (b : Nat) (v : Base) : (setBase b v s).recd = s.recd := rfl
@[simp] theorem setBase_boot (b : Nat) (v : Base) : (setBase b v s).boot = s.boot := rfl
@[simp] theorem setBase_plinth (b : Nat) (v : Base) : (setBase b v s).plinth = s.plinth := rfl
@[simp] theorem setBase_faults (b : Nat) (v : Base) : (setBase b v s).faults = s.faults := rfl
@[simp] theorem setBase_devState (b : Nat) (v : Base) : (setBase b v s).devState = s.devState := rfl
@[simp] theorem setBase_now (b : Nat) (v : Base) : (setBase b v s).now = s.now := rfl
@[simp] theorem setBase_freeCtr (b : Nat) (v : Base) : (setBase b v s).freeCtr = s.freeCtr := rfl

/-! ### updLane -/

@[simp] theorem updLane_dict (n : Nat) (f : Lane → Lane) : (updLane n f s).dict = s.dict := rfl
@[simp] theorem updLane_gen (n : Nat) (f : Lane → Lane) : (updLane n f s).gen = s.gen := rfl
@[simp] theorem updLane_rsGen (n : Nat) (f : Lane → Lane) : (updLane n f s).rsGen = s.rsGen := rfl
@[simp] theorem updLane_ctr (n : Nat) (f : Lane → Lane) : (updLane n f s).ctr = s.ctr := rfl
@[simp] theorem updLane_events (n : Nat) (f : Lane → Lane) : (updLane n f s).events = s.events := rfl
@[simp] theorem updLane_sessions (n : Nat) (f : Lane → Lane) : (updLane n f s).sessions = s.sessions := rfl
@[simp] theorem updLane_ports (n : Nat) (f : Lane → Lane) : (updLane n f s).ports = s.ports := rfl
@[simp] theorem updLane_kng (n : Nat) (f : Lane → Lane) : (updLane n f s).kng = s.kng := rfl
@[simp] theorem updLane_frames (n : Nat) (f : Lane → Lane) : (updLane n f s).frames = s.frames := rfl
@[simp] theorem updLane_copies (n : Nat) (f : Lane → Lane) : (updLane n f s).copies = s.copies := rfl
@[simp] theorem updLane_xings (n : Nat) (f : Lane → Lane) : (updLane n f s).xings = s.xings := rfl
@[simp] theorem updLane_queues (n : Nat) (f : Lane → Lane) : (updLane n f s).queues = s.queues := rfl
@[simp] theorem updLane_decA (n : Nat) (f : Lane → Lane) : (updLane n f s).decA = s.decA := rfl
@[simp] theorem updLane_decB (n : Nat) (f : Lane → Lane) : (updLane n f s).decB = s.decB := rfl
@[simp] theorem updLane_snaps (n : Nat) (f : Lane → Lane) : (updLane n f s).snaps = s.snaps := rfl
@[simp] theorem updLane_bases (n : Nat) (f : Lane → Lane) : (updLane n f s).bases = s.bases := rfl
@[simp] theorem updLane_mem (n : Nat) (f : Lane → Lane) : (updLane n f s).mem = s.mem := rfl
@[simp] theorem updLane_poison (n : Nat) (f : Lane → Lane) : (updLane n f s).poison = s.poison := rfl
@[simp] theorem updLane_wq (n : Nat) (f : Lane → Lane) : (updLane n f s).wq = s.wq := rfl
@[simp] theorem updLane_flash (n : Nat) (f : Lane → Lane) : (updLane n f s).flash = s.flash := rfl
@[simp] theorem updLane_nrg (n : Nat) (f : Lane → Lane) : (updLane n f s).nrg = s.nrg := rfl
@[simp] theorem updLane_recd (n : Nat) (f : Lane → Lane) : (updLane n f s).recd = s.recd := rfl
@[simp] theorem updLane_boot (n : Nat) (f : Lane → Lane) : (updLane n f s).boot = s.boot := rfl
@[simp] theorem updLane_plinth (n : Nat) (f : Lane → Lane) : (updLane n f s).plinth = s.plinth := rfl
@[simp] theorem updLane_faults (n : Nat) (f : Lane → Lane) : (updLane n f s).faults = s.faults := rfl
@[simp] theorem updLane_devState (n : Nat) (f : Lane → Lane) : (updLane n f s).devState = s.devState := rfl
@[simp] theorem updLane_now (n : Nat) (f : Lane → Lane) : (updLane n f s).now = s.now := rfl
@[simp] theorem updLane_freeCtr (n : Nat) (f : Lane → Lane) : (updLane n f s).freeCtr = s.freeCtr := rfl

/-! ### updKng -/

@[simp] theorem updKng_dict (f : Kng → Kng) : (updKng f s).dict = s.dict := rfl
@[simp] theorem updKng_gen (f : Kng → Kng) : (updKng f s).gen = s.gen := rfl
@[simp] theorem updKng_rsGen (f : Kng → Kng) : (updKng f s).rsGen = s.rsGen := rfl
@[simp] theorem updKng_ctr (f : Kng → Kng) : (updKng f s).ctr = s.ctr := rfl
@[simp] theorem updKng_events (f : Kng → Kng) : (updKng f s).events = s.events := rfl
@[simp] theorem updKng_sessions (f : Kng → Kng) : (updKng f s).sessions = s.sessions := rfl
@[simp] theorem updKng_ports (f : Kng → Kng) : (updKng f s).ports = s.ports := rfl
@[simp] theorem updKng_lanes (f : Kng → Kng) : (updKng f s).lanes = s.lanes := rfl
@[simp] theorem updKng_frames (f : Kng → Kng) : (updKng f s).frames = s.frames := rfl
@[simp] theorem updKng_copies (f : Kng → Kng) : (updKng f s).copies = s.copies := rfl
@[simp] theorem updKng_xings (f : Kng → Kng) : (updKng f s).xings = s.xings := rfl
@[simp] theorem updKng_queues (f : Kng → Kng) : (updKng f s).queues = s.queues := rfl
@[simp] theorem updKng_decA (f : Kng → Kng) : (updKng f s).decA = s.decA := rfl
@[simp] theorem updKng_decB (f : Kng → Kng) : (updKng f s).decB = s.decB := rfl
@[simp] theorem updKng_snaps (f : Kng → Kng) : (updKng f s).snaps = s.snaps := rfl
@[simp] theorem updKng_bases (f : Kng → Kng) : (updKng f s).bases = s.bases := rfl
@[simp] theorem updKng_mem (f : Kng → Kng) : (updKng f s).mem = s.mem := rfl
@[simp] theorem updKng_poison (f : Kng → Kng) : (updKng f s).poison = s.poison := rfl
@[simp] theorem updKng_wq (f : Kng → Kng) : (updKng f s).wq = s.wq := rfl
@[simp] theorem updKng_flash (f : Kng → Kng) : (updKng f s).flash = s.flash := rfl
@[simp] theorem updKng_nrg (f : Kng → Kng) : (updKng f s).nrg = s.nrg := rfl
@[simp] theorem updKng_recd (f : Kng → Kng) : (updKng f s).recd = s.recd := rfl
@[simp] theorem updKng_boot (f : Kng → Kng) : (updKng f s).boot = s.boot := rfl
@[simp] theorem updKng_plinth (f : Kng → Kng) : (updKng f s).plinth = s.plinth := rfl
@[simp] theorem updKng_faults (f : Kng → Kng) : (updKng f s).faults = s.faults := rfl
@[simp] theorem updKng_devState (f : Kng → Kng) : (updKng f s).devState = s.devState := rfl
@[simp] theorem updKng_now (f : Kng → Kng) : (updKng f s).now = s.now := rfl
@[simp] theorem updKng_freeCtr (f : Kng → Kng) : (updKng f s).freeCtr = s.freeCtr := rfl

/-! ### updMem -/

@[simp] theorem updMem_dict (f : Mem → Mem) : (updMem f s).dict = s.dict := rfl
@[simp] theorem updMem_gen (f : Mem → Mem) : (updMem f s).gen = s.gen := rfl
@[simp] theorem updMem_rsGen (f : Mem → Mem) : (updMem f s).rsGen = s.rsGen := rfl
@[simp] theorem updMem_ctr (f : Mem → Mem) : (updMem f s).ctr = s.ctr := rfl
@[simp] theorem updMem_events (f : Mem → Mem) : (updMem f s).events = s.events := rfl
@[simp] theorem updMem_sessions (f : Mem → Mem) : (updMem f s).sessions = s.sessions := rfl
@[simp] theorem updMem_ports (f : Mem → Mem) : (updMem f s).ports = s.ports := rfl
@[simp] theorem updMem_lanes (f : Mem → Mem) : (updMem f s).lanes = s.lanes := rfl
@[simp] theorem updMem_kng (f : Mem → Mem) : (updMem f s).kng = s.kng := rfl
@[simp] theorem updMem_frames (f : Mem → Mem) : (updMem f s).frames = s.frames := rfl
@[simp] theorem updMem_copies (f : Mem → Mem) : (updMem f s).copies = s.copies := rfl
@[simp] theorem updMem_xings (f : Mem → Mem) : (updMem f s).xings = s.xings := rfl
@[simp] theorem updMem_queues (f : Mem → Mem) : (updMem f s).queues = s.queues := rfl
@[simp] theorem updMem_decA (f : Mem → Mem) : (updMem f s).decA = s.decA := rfl
@[simp] theorem updMem_decB (f : Mem → Mem) : (updMem f s).decB = s.decB := rfl
@[simp] theorem updMem_snaps (f : Mem → Mem) : (updMem f s).snaps = s.snaps := rfl
@[simp] theorem updMem_bases (f : Mem → Mem) : (updMem f s).bases = s.bases := rfl
@[simp] theorem updMem_poison (f : Mem → Mem) : (updMem f s).poison = s.poison := rfl
@[simp] theorem updMem_wq (f : Mem → Mem) : (updMem f s).wq = s.wq := rfl
@[simp] theorem updMem_flash (f : Mem → Mem) : (updMem f s).flash = s.flash := rfl
@[simp] theorem updMem_nrg (f : Mem → Mem) : (updMem f s).nrg = s.nrg := rfl
@[simp] theorem updMem_recd (f : Mem → Mem) : (updMem f s).recd = s.recd := rfl
@[simp] theorem updMem_boot (f : Mem → Mem) : (updMem f s).boot = s.boot := rfl
@[simp] theorem updMem_plinth (f : Mem → Mem) : (updMem f s).plinth = s.plinth := rfl
@[simp] theorem updMem_faults (f : Mem → Mem) : (updMem f s).faults = s.faults := rfl
@[simp] theorem updMem_devState (f : Mem → Mem) : (updMem f s).devState = s.devState := rfl
@[simp] theorem updMem_now (f : Mem → Mem) : (updMem f s).now = s.now := rfl
@[simp] theorem updMem_freeCtr (f : Mem → Mem) : (updMem f s).freeCtr = s.freeCtr := rfl

/-! ### updFlash -/

@[simp] theorem updFlash_dict (f : Flash → Flash) : (updFlash f s).dict = s.dict := rfl
@[simp] theorem updFlash_gen (f : Flash → Flash) : (updFlash f s).gen = s.gen := rfl
@[simp] theorem updFlash_rsGen (f : Flash → Flash) : (updFlash f s).rsGen = s.rsGen := rfl
@[simp] theorem updFlash_ctr (f : Flash → Flash) : (updFlash f s).ctr = s.ctr := rfl
@[simp] theorem updFlash_events (f : Flash → Flash) : (updFlash f s).events = s.events := rfl
@[simp] theorem updFlash_sessions (f : Flash → Flash) : (updFlash f s).sessions = s.sessions := rfl
@[simp] theorem updFlash_ports (f : Flash → Flash) : (updFlash f s).ports = s.ports := rfl
@[simp] theorem updFlash_lanes (f : Flash → Flash) : (updFlash f s).lanes = s.lanes := rfl
@[simp] theorem updFlash_kng (f : Flash → Flash) : (updFlash f s).kng = s.kng := rfl
@[simp] theorem updFlash_frames (f : Flash → Flash) : (updFlash f s).frames = s.frames := rfl
@[simp] theorem updFlash_copies (f : Flash → Flash) : (updFlash f s).copies = s.copies := rfl
@[simp] theorem updFlash_xings (f : Flash → Flash) : (updFlash f s).xings = s.xings := rfl
@[simp] theorem updFlash_queues (f : Flash → Flash) : (updFlash f s).queues = s.queues := rfl
@[simp] theorem updFlash_decA (f : Flash → Flash) : (updFlash f s).decA = s.decA := rfl
@[simp] theorem updFlash_decB (f : Flash → Flash) : (updFlash f s).decB = s.decB := rfl
@[simp] theorem updFlash_snaps (f : Flash → Flash) : (updFlash f s).snaps = s.snaps := rfl
@[simp] theorem updFlash_bases (f : Flash → Flash) : (updFlash f s).bases = s.bases := rfl
@[simp] theorem updFlash_mem (f : Flash → Flash) : (updFlash f s).mem = s.mem := rfl
@[simp] theorem updFlash_poison (f : Flash → Flash) : (updFlash f s).poison = s.poison := rfl
@[simp] theorem updFlash_wq (f : Flash → Flash) : (updFlash f s).wq = s.wq := rfl
@[simp] theorem updFlash_nrg (f : Flash → Flash) : (updFlash f s).nrg = s.nrg := rfl
@[simp] theorem updFlash_recd (f : Flash → Flash) : (updFlash f s).recd = s.recd := rfl
@[simp] theorem updFlash_boot (f : Flash → Flash) : (updFlash f s).boot = s.boot := rfl
@[simp] theorem updFlash_plinth (f : Flash → Flash) : (updFlash f s).plinth = s.plinth := rfl
@[simp] theorem updFlash_faults (f : Flash → Flash) : (updFlash f s).faults = s.faults := rfl
@[simp] theorem updFlash_devState (f : Flash → Flash) : (updFlash f s).devState = s.devState := rfl
@[simp] theorem updFlash_now (f : Flash → Flash) : (updFlash f s).now = s.now := rfl
@[simp] theorem updFlash_freeCtr (f : Flash → Flash) : (updFlash f s).freeCtr = s.freeCtr := rfl

/-! ### updNrg -/

@[simp] theorem updNrg_dict (f : Nrg → Nrg) : (updNrg f s).dict = s.dict := rfl
@[simp] theorem updNrg_gen (f : Nrg → Nrg) : (updNrg f s).gen = s.gen := rfl
@[simp] theorem updNrg_rsGen (f : Nrg → Nrg) : (updNrg f s).rsGen = s.rsGen := rfl
@[simp] theorem updNrg_ctr (f : Nrg → Nrg) : (updNrg f s).ctr = s.ctr := rfl
@[simp] theorem updNrg_events (f : Nrg → Nrg) : (updNrg f s).events = s.events := rfl
@[simp] theorem updNrg_sessions (f : Nrg → Nrg) : (updNrg f s).sessions = s.sessions := rfl
@[simp] theorem updNrg_ports (f : Nrg → Nrg) : (updNrg f s).ports = s.ports := rfl
@[simp] theorem updNrg_lanes (f : Nrg → Nrg) : (updNrg f s).lanes = s.lanes := rfl
@[simp] theorem updNrg_kng (f : Nrg → Nrg) : (updNrg f s).kng = s.kng := rfl
@[simp] theorem updNrg_frames (f : Nrg → Nrg) : (updNrg f s).frames = s.frames := rfl
@[simp] theorem updNrg_copies (f : Nrg → Nrg) : (updNrg f s).copies = s.copies := rfl
@[simp] theorem updNrg_xings (f : Nrg → Nrg) : (updNrg f s).xings = s.xings := rfl
@[simp] theorem updNrg_queues (f : Nrg → Nrg) : (updNrg f s).queues = s.queues := rfl
@[simp] theorem updNrg_decA (f : Nrg → Nrg) : (updNrg f s).decA = s.decA := rfl
@[simp] theorem updNrg_decB (f : Nrg → Nrg) : (updNrg f s).decB = s.decB := rfl
@[simp] theorem updNrg_snaps (f : Nrg → Nrg) : (updNrg f s).snaps = s.snaps := rfl
@[simp] theorem updNrg_bases (f : Nrg → Nrg) : (updNrg f s).bases = s.bases := rfl
@[simp] theorem updNrg_mem (f : Nrg → Nrg) : (updNrg f s).mem = s.mem := rfl
@[simp] theorem updNrg_poison (f : Nrg → Nrg) : (updNrg f s).poison = s.poison := rfl
@[simp] theorem updNrg_wq (f : Nrg → Nrg) : (updNrg f s).wq = s.wq := rfl
@[simp] theorem updNrg_flash (f : Nrg → Nrg) : (updNrg f s).flash = s.flash := rfl
@[simp] theorem updNrg_recd (f : Nrg → Nrg) : (updNrg f s).recd = s.recd := rfl
@[simp] theorem updNrg_boot (f : Nrg → Nrg) : (updNrg f s).boot = s.boot := rfl
@[simp] theorem updNrg_plinth (f : Nrg → Nrg) : (updNrg f s).plinth = s.plinth := rfl
@[simp] theorem updNrg_faults (f : Nrg → Nrg) : (updNrg f s).faults = s.faults := rfl
@[simp] theorem updNrg_devState (f : Nrg → Nrg) : (updNrg f s).devState = s.devState := rfl
@[simp] theorem updNrg_now (f : Nrg → Nrg) : (updNrg f s).now = s.now := rfl
@[simp] theorem updNrg_freeCtr (f : Nrg → Nrg) : (updNrg f s).freeCtr = s.freeCtr := rfl

/-! ### updRecd -/

@[simp] theorem updRecd_dict (f : Recd → Recd) : (updRecd f s).dict = s.dict := rfl
@[simp] theorem updRecd_gen (f : Recd → Recd) : (updRecd f s).gen = s.gen := rfl
@[simp] theorem updRecd_rsGen (f : Recd → Recd) : (updRecd f s).rsGen = s.rsGen := rfl
@[simp] theorem updRecd_ctr (f : Recd → Recd) : (updRecd f s).ctr = s.ctr := rfl
@[simp] theorem updRecd_events (f : Recd → Recd) : (updRecd f s).events = s.events := rfl
@[simp] theorem updRecd_sessions (f : Recd → Recd) : (updRecd f s).sessions = s.sessions := rfl
@[simp] theorem updRecd_ports (f : Recd → Recd) : (updRecd f s).ports = s.ports := rfl
@[simp] theorem updRecd_lanes (f : Recd → Recd) : (updRecd f s).lanes = s.lanes := rfl
@[simp] theorem updRecd_kng (f : Recd → Recd) : (updRecd f s).kng = s.kng := rfl
@[simp] theorem updRecd_frames (f : Recd → Recd) : (updRecd f s).frames = s.frames := rfl
@[simp] theorem updRecd_copies (f : Recd → Recd) : (updRecd f s).copies = s.copies := rfl
@[simp] theorem updRecd_xings (f : Recd → Recd) : (updRecd f s).xings = s.xings := rfl
@[simp] theorem updRecd_queues (f : Recd → Recd) : (updRecd f s).queues = s.queues := rfl
@[simp] theorem updRecd_decA (f : Recd → Recd) : (updRecd f s).decA = s.decA := rfl
@[simp] theorem updRecd_decB (f : Recd → Recd) : (updRecd f s).decB = s.decB := rfl
@[simp] theorem updRecd_snaps (f : Recd → Recd) : (updRecd f s).snaps = s.snaps := rfl
@[simp] theorem updRecd_bases (f : Recd → Recd) : (updRecd f s).bases = s.bases := rfl
@[simp] theorem updRecd_mem (f : Recd → Recd) : (updRecd f s).mem = s.mem := rfl
@[simp] theorem updRecd_poison (f : Recd → Recd) : (updRecd f s).poison = s.poison := rfl
@[simp] theorem updRecd_wq (f : Recd → Recd) : (updRecd f s).wq = s.wq := rfl
@[simp] theorem updRecd_flash (f : Recd → Recd) : (updRecd f s).flash = s.flash := rfl
@[simp] theorem updRecd_nrg (f : Recd → Recd) : (updRecd f s).nrg = s.nrg := rfl
@[simp] theorem updRecd_boot (f : Recd → Recd) : (updRecd f s).boot = s.boot := rfl
@[simp] theorem updRecd_plinth (f : Recd → Recd) : (updRecd f s).plinth = s.plinth := rfl
@[simp] theorem updRecd_faults (f : Recd → Recd) : (updRecd f s).faults = s.faults := rfl
@[simp] theorem updRecd_devState (f : Recd → Recd) : (updRecd f s).devState = s.devState := rfl
@[simp] theorem updRecd_now (f : Recd → Recd) : (updRecd f s).now = s.now := rfl
@[simp] theorem updRecd_freeCtr (f : Recd → Recd) : (updRecd f s).freeCtr = s.freeCtr := rfl

/-! ### updBoot -/

@[simp] theorem updBoot_dict (f : Boot → Boot) : (updBoot f s).dict = s.dict := rfl
@[simp] theorem updBoot_gen (f : Boot → Boot) : (updBoot f s).gen = s.gen := rfl
@[simp] theorem updBoot_rsGen (f : Boot → Boot) : (updBoot f s).rsGen = s.rsGen := rfl
@[simp] theorem updBoot_ctr (f : Boot → Boot) : (updBoot f s).ctr = s.ctr := rfl
@[simp] theorem updBoot_events (f : Boot → Boot) : (updBoot f s).events = s.events := rfl
@[simp] theorem updBoot_sessions (f : Boot → Boot) : (updBoot f s).sessions = s.sessions := rfl
@[simp] theorem updBoot_ports (f : Boot → Boot) : (updBoot f s).ports = s.ports := rfl
@[simp] theorem updBoot_lanes (f : Boot → Boot) : (updBoot f s).lanes = s.lanes := rfl
@[simp] theorem updBoot_kng (f : Boot → Boot) : (updBoot f s).kng = s.kng := rfl
@[simp] theorem updBoot_frames (f : Boot → Boot) : (updBoot f s).frames = s.frames := rfl
@[simp] theorem updBoot_copies (f : Boot → Boot) : (updBoot f s).copies = s.copies := rfl
@[simp] theorem updBoot_xings (f : Boot → Boot) : (updBoot f s).xings = s.xings := rfl
@[simp] theorem updBoot_queues (f : Boot → Boot) : (updBoot f s).queues = s.queues := rfl
@[simp] theorem updBoot_decA (f : Boot → Boot) : (updBoot f s).decA = s.decA := rfl
@[simp] theorem updBoot_decB (f : Boot → Boot) : (updBoot f s).decB = s.decB := rfl
@[simp] theorem updBoot_snaps (f : Boot → Boot) : (updBoot f s).snaps = s.snaps := rfl
@[simp] theorem updBoot_bases (f : Boot → Boot) : (updBoot f s).bases = s.bases := rfl
@[simp] theorem updBoot_mem (f : Boot → Boot) : (updBoot f s).mem = s.mem := rfl
@[simp] theorem updBoot_poison (f : Boot → Boot) : (updBoot f s).poison = s.poison := rfl
@[simp] theorem updBoot_wq (f : Boot → Boot) : (updBoot f s).wq = s.wq := rfl
@[simp] theorem updBoot_flash (f : Boot → Boot) : (updBoot f s).flash = s.flash := rfl
@[simp] theorem updBoot_nrg (f : Boot → Boot) : (updBoot f s).nrg = s.nrg := rfl
@[simp] theorem updBoot_recd (f : Boot → Boot) : (updBoot f s).recd = s.recd := rfl
@[simp] theorem updBoot_plinth (f : Boot → Boot) : (updBoot f s).plinth = s.plinth := rfl
@[simp] theorem updBoot_faults (f : Boot → Boot) : (updBoot f s).faults = s.faults := rfl
@[simp] theorem updBoot_devState (f : Boot → Boot) : (updBoot f s).devState = s.devState := rfl
@[simp] theorem updBoot_now (f : Boot → Boot) : (updBoot f s).now = s.now := rfl
@[simp] theorem updBoot_freeCtr (f : Boot → Boot) : (updBoot f s).freeCtr = s.freeCtr := rfl

/-! ### updPlinth -/

@[simp] theorem updPlinth_dict (f : Plinth → Plinth) : (updPlinth f s).dict = s.dict := rfl
@[simp] theorem updPlinth_gen (f : Plinth → Plinth) : (updPlinth f s).gen = s.gen := rfl
@[simp] theorem updPlinth_rsGen (f : Plinth → Plinth) : (updPlinth f s).rsGen = s.rsGen := rfl
@[simp] theorem updPlinth_ctr (f : Plinth → Plinth) : (updPlinth f s).ctr = s.ctr := rfl
@[simp] theorem updPlinth_events (f : Plinth → Plinth) : (updPlinth f s).events = s.events := rfl
@[simp] theorem updPlinth_sessions (f : Plinth → Plinth) : (updPlinth f s).sessions = s.sessions := rfl
@[simp] theorem updPlinth_ports (f : Plinth → Plinth) : (updPlinth f s).ports = s.ports := rfl
@[simp] theorem updPlinth_lanes (f : Plinth → Plinth) : (updPlinth f s).lanes = s.lanes := rfl
@[simp] theorem updPlinth_kng (f : Plinth → Plinth) : (updPlinth f s).kng = s.kng := rfl
@[simp] theorem updPlinth_frames (f : Plinth → Plinth) : (updPlinth f s).frames = s.frames := rfl
@[simp] theorem updPlinth_copies (f : Plinth → Plinth) : (updPlinth f s).copies = s.copies := rfl
@[simp] theorem updPlinth_xings (f : Plinth → Plinth) : (updPlinth f s).xings = s.xings := rfl
@[simp] theorem updPlinth_queues (f : Plinth → Plinth) : (updPlinth f s).queues = s.queues := rfl
@[simp] theorem updPlinth_decA (f : Plinth → Plinth) : (updPlinth f s).decA = s.decA := rfl
@[simp] theorem updPlinth_decB (f : Plinth → Plinth) : (updPlinth f s).decB = s.decB := rfl
@[simp] theorem updPlinth_snaps (f : Plinth → Plinth) : (updPlinth f s).snaps = s.snaps := rfl
@[simp] theorem updPlinth_bases (f : Plinth → Plinth) : (updPlinth f s).bases = s.bases := rfl
@[simp] theorem updPlinth_mem (f : Plinth → Plinth) : (updPlinth f s).mem = s.mem := rfl
@[simp] theorem updPlinth_poison (f : Plinth → Plinth) : (updPlinth f s).poison = s.poison := rfl
@[simp] theorem updPlinth_wq (f : Plinth → Plinth) : (updPlinth f s).wq = s.wq := rfl
@[simp] theorem updPlinth_flash (f : Plinth → Plinth) : (updPlinth f s).flash = s.flash := rfl
@[simp] theorem updPlinth_nrg (f : Plinth → Plinth) : (updPlinth f s).nrg = s.nrg := rfl
@[simp] theorem updPlinth_recd (f : Plinth → Plinth) : (updPlinth f s).recd = s.recd := rfl
@[simp] theorem updPlinth_boot (f : Plinth → Plinth) : (updPlinth f s).boot = s.boot := rfl
@[simp] theorem updPlinth_faults (f : Plinth → Plinth) : (updPlinth f s).faults = s.faults := rfl
@[simp] theorem updPlinth_devState (f : Plinth → Plinth) : (updPlinth f s).devState = s.devState := rfl
@[simp] theorem updPlinth_now (f : Plinth → Plinth) : (updPlinth f s).now = s.now := rfl
@[simp] theorem updPlinth_freeCtr (f : Plinth → Plinth) : (updPlinth f s).freeCtr = s.freeCtr := rfl

/-! ### setSnap -/

@[simp] theorem setSnap_dict (i : Nat) (v : Snap) : (setSnap i v s).dict = s.dict := rfl
@[simp] theorem setSnap_gen (i : Nat) (v : Snap) : (setSnap i v s).gen = s.gen := rfl
@[simp] theorem setSnap_rsGen (i : Nat) (v : Snap) : (setSnap i v s).rsGen = s.rsGen := rfl
@[simp] theorem setSnap_ctr (i : Nat) (v : Snap) : (setSnap i v s).ctr = s.ctr := rfl
@[simp] theorem setSnap_events (i : Nat) (v : Snap) : (setSnap i v s).events = s.events := rfl
@[simp] theorem setSnap_sessions (i : Nat) (v : Snap) : (setSnap i v s).sessions = s.sessions := rfl
@[simp] theorem setSnap_ports (i : Nat) (v : Snap) : (setSnap i v s).ports = s.ports := rfl
@[simp] theorem setSnap_lanes (i : Nat) (v : Snap) : (setSnap i v s).lanes = s.lanes := rfl
@[simp] theorem setSnap_kng (i : Nat) (v : Snap) : (setSnap i v s).kng = s.kng := rfl
@[simp] theorem setSnap_frames (i : Nat) (v : Snap) : (setSnap i v s).frames = s.frames := rfl
@[simp] theorem setSnap_copies (i : Nat) (v : Snap) : (setSnap i v s).copies = s.copies := rfl
@[simp] theorem setSnap_xings (i : Nat) (v : Snap) : (setSnap i v s).xings = s.xings := rfl
@[simp] theorem setSnap_queues (i : Nat) (v : Snap) : (setSnap i v s).queues = s.queues := rfl
@[simp] theorem setSnap_decA (i : Nat) (v : Snap) : (setSnap i v s).decA = s.decA := rfl
@[simp] theorem setSnap_decB (i : Nat) (v : Snap) : (setSnap i v s).decB = s.decB := rfl
@[simp] theorem setSnap_bases (i : Nat) (v : Snap) : (setSnap i v s).bases = s.bases := rfl
@[simp] theorem setSnap_mem (i : Nat) (v : Snap) : (setSnap i v s).mem = s.mem := rfl
@[simp] theorem setSnap_poison (i : Nat) (v : Snap) : (setSnap i v s).poison = s.poison := rfl
@[simp] theorem setSnap_wq (i : Nat) (v : Snap) : (setSnap i v s).wq = s.wq := rfl
@[simp] theorem setSnap_flash (i : Nat) (v : Snap) : (setSnap i v s).flash = s.flash := rfl
@[simp] theorem setSnap_nrg (i : Nat) (v : Snap) : (setSnap i v s).nrg = s.nrg := rfl
@[simp] theorem setSnap_recd (i : Nat) (v : Snap) : (setSnap i v s).recd = s.recd := rfl
@[simp] theorem setSnap_boot (i : Nat) (v : Snap) : (setSnap i v s).boot = s.boot := rfl
@[simp] theorem setSnap_plinth (i : Nat) (v : Snap) : (setSnap i v s).plinth = s.plinth := rfl
@[simp] theorem setSnap_faults (i : Nat) (v : Snap) : (setSnap i v s).faults = s.faults := rfl
@[simp] theorem setSnap_devState (i : Nat) (v : Snap) : (setSnap i v s).devState = s.devState := rfl
@[simp] theorem setSnap_now (i : Nat) (v : Snap) : (setSnap i v s).now = s.now := rfl
@[simp] theorem setSnap_freeCtr (i : Nat) (v : Snap) : (setSnap i v s).freeCtr = s.freeCtr := rfl

/-! ### updSession -/

@[simp] theorem updSession_dict (i : Nat) (f : Session → Session) : (updSession i f s).dict = s.dict := rfl
@[simp] theorem updSession_gen (i : Nat) (f : Session → Session) : (updSession i f s).gen = s.gen := rfl
@[simp] theorem updSession_rsGen (i : Nat) (f : Session → Session) : (updSession i f s).rsGen = s.rsGen := rfl
@[simp] theorem updSession_ctr (i : Nat) (f : Session → Session) : (updSession i f s).ctr = s.ctr := rfl
@[simp] theorem updSession_events (i : Nat) (f : Session → Session) : (updSession i f s).events = s.events := rfl
@[simp] theorem updSession_ports (i : Nat) (f : Session → Session) : (updSession i f s).ports = s.ports := rfl
@[simp] theorem updSession_lanes (i : Nat) (f : Session → Session) : (updSession i f s).lanes = s.lanes := rfl
@[simp] theorem updSession_kng (i : Nat) (f : Session → Session) : (updSession i f s).kng = s.kng := rfl
@[simp] theorem updSession_frames (i : Nat) (f : Session → Session) : (updSession i f s).frames = s.frames := rfl
@[simp] theorem updSession_copies (i : Nat) (f : Session → Session) : (updSession i f s).copies = s.copies := rfl
@[simp] theorem updSession_xings (i : Nat) (f : Session → Session) : (updSession i f s).xings = s.xings := rfl
@[simp] theorem updSession_queues (i : Nat) (f : Session → Session) : (updSession i f s).queues = s.queues := rfl
@[simp] theorem updSession_decA (i : Nat) (f : Session → Session) : (updSession i f s).decA = s.decA := rfl
@[simp] theorem updSession_decB (i : Nat) (f : Session → Session) : (updSession i f s).decB = s.decB := rfl
@[simp] theorem updSession_snaps (i : Nat) (f : Session → Session) : (updSession i f s).snaps = s.snaps := rfl
@[simp] theorem updSession_bases (i : Nat) (f : Session → Session) : (updSession i f s).bases = s.bases := rfl
@[simp] theorem updSession_mem (i : Nat) (f : Session → Session) : (updSession i f s).mem = s.mem := rfl
@[simp] theorem updSession_poison (i : Nat) (f : Session → Session) : (updSession i f s).poison = s.poison := rfl
@[simp] theorem updSession_wq (i : Nat) (f : Session → Session) : (updSession i f s).wq = s.wq := rfl
@[simp] theorem updSession_flash (i : Nat) (f : Session → Session) : (updSession i f s).flash = s.flash := rfl
@[simp] theorem updSession_nrg (i : Nat) (f : Session → Session) : (updSession i f s).nrg = s.nrg := rfl
@[simp] theorem updSession_recd (i : Nat) (f : Session → Session) : (updSession i f s).recd = s.recd := rfl
@[simp] theorem updSession_boot (i : Nat) (f : Session → Session) : (updSession i f s).boot = s.boot := rfl
@[simp] theorem updSession_plinth (i : Nat) (f : Session → Session) : (updSession i f s).plinth = s.plinth := rfl
@[simp] theorem updSession_faults (i : Nat) (f : Session → Session) : (updSession i f s).faults = s.faults := rfl
@[simp] theorem updSession_devState (i : Nat) (f : Session → Session) : (updSession i f s).devState = s.devState := rfl
@[simp] theorem updSession_now (i : Nat) (f : Session → Session) : (updSession i f s).now = s.now := rfl
@[simp] theorem updSession_freeCtr (i : Nat) (f : Session → Session) : (updSession i f s).freeCtr = s.freeCtr := rfl

/-! ### setDecider -/

@[simp] theorem setDecider_dict (d : DecId) (v : Decider) : (setDecider d v s).dict = s.dict := by cases d <;> rfl
@[simp] theorem setDecider_gen (d : DecId) (v : Decider) : (setDecider d v s).gen = s.gen := by cases d <;> rfl
@[simp] theorem setDecider_rsGen (d : DecId) (v : Decider) : (setDecider d v s).rsGen = s.rsGen := by cases d <;> rfl
@[simp] theorem setDecider_ctr (d : DecId) (v : Decider) : (setDecider d v s).ctr = s.ctr := by cases d <;> rfl
@[simp] theorem setDecider_events (d : DecId) (v : Decider) : (setDecider d v s).events = s.events := by cases d <;> rfl
@[simp] theorem setDecider_sessions (d : DecId) (v : Decider) : (setDecider d v s).sessions = s.sessions := by cases d <;> rfl
@[simp] theorem setDecider_ports (d : DecId) (v : Decider) : (setDecider d v s).ports = s.ports := by cases d <;> rfl
@[simp] theorem setDecider_lanes (d : DecId) (v : Decider) : (setDecider d v s).lanes = s.lanes := by cases d <;> rfl
@[simp] theorem setDecider_kng (d : DecId) (v : Decider) : (setDecider d v s).kng = s.kng := by cases d <;> rfl
@[simp] theorem setDecider_frames (d : DecId) (v : Decider) : (setDecider d v s).frames = s.frames := by cases d <;> rfl
@[simp] theorem setDecider_copies (d : DecId) (v : Decider) : (setDecider d v s).copies = s.copies := by cases d <;> rfl
@[simp] theorem setDecider_xings (d : DecId) (v : Decider) : (setDecider d v s).xings = s.xings := by cases d <;> rfl
@[simp] theorem setDecider_queues (d : DecId) (v : Decider) : (setDecider d v s).queues = s.queues := by cases d <;> rfl
@[simp] theorem setDecider_snaps (d : DecId) (v : Decider) : (setDecider d v s).snaps = s.snaps := by cases d <;> rfl
@[simp] theorem setDecider_bases (d : DecId) (v : Decider) : (setDecider d v s).bases = s.bases := by cases d <;> rfl
@[simp] theorem setDecider_mem (d : DecId) (v : Decider) : (setDecider d v s).mem = s.mem := by cases d <;> rfl
@[simp] theorem setDecider_poison (d : DecId) (v : Decider) : (setDecider d v s).poison = s.poison := by cases d <;> rfl
@[simp] theorem setDecider_wq (d : DecId) (v : Decider) : (setDecider d v s).wq = s.wq := by cases d <;> rfl
@[simp] theorem setDecider_flash (d : DecId) (v : Decider) : (setDecider d v s).flash = s.flash := by cases d <;> rfl
@[simp] theorem setDecider_nrg (d : DecId) (v : Decider) : (setDecider d v s).nrg = s.nrg := by cases d <;> rfl
@[simp] theorem setDecider_recd (d : DecId) (v : Decider) : (setDecider d v s).recd = s.recd := by cases d <;> rfl
@[simp] theorem setDecider_boot (d : DecId) (v : Decider) : (setDecider d v s).boot = s.boot := by cases d <;> rfl
@[simp] theorem setDecider_plinth (d : DecId) (v : Decider) : (setDecider d v s).plinth = s.plinth := by cases d <;> rfl
@[simp] theorem setDecider_faults (d : DecId) (v : Decider) : (setDecider d v s).faults = s.faults := by cases d <;> rfl
@[simp] theorem setDecider_devState (d : DecId) (v : Decider) : (setDecider d v s).devState = s.devState := by cases d <;> rfl
@[simp] theorem setDecider_now (d : DecId) (v : Decider) : (setDecider d v s).now = s.now := by cases d <;> rfl
@[simp] theorem setDecider_freeCtr (d : DecId) (v : Decider) : (setDecider d v s).freeCtr = s.freeCtr := by cases d <;> rfl

@[simp] theorem setDecider_self (d : DecId) (v : Decider) : decider (setDecider d v s) d = v := by cases d <;> rfl
@[simp] theorem setDecider_dother (d : DecId) (v : Decider) : decider (setDecider d v s) (dother d) = decider s (dother d) := by cases d <;> rfl

end Sys2Proof.Laws
end

