-- ==== Sys2Proof/Machine/Package.lean ====
section
/-! DEFINITION. The package: its balls, what the board must supply, and what its pins and its die do (R492 to R511). Voltages are in
millivolts, times in picoseconds, rails numbered as the monitor numbers them (Table SAF-5). -/

namespace Sys2Proof.Machine

/-- What a ball carries: ground, a rail, one ball of a lane (0 TX_P, 1 TX_N, 2 RX_P, 3 RX_N), signal `j` of service port 64 + `k`,
or a signal of Table PKG-4. -/
inductive Ball where
  | vss
  | rail (r : Nat)
  | lane (n ball : Nat)
  | svc (k j : Nat)
  | control (name : String)
  deriving DecidableEq, Repr

/-! ### Names and places (R492 to R497) -/

/-- The nineteen letters of row names, in index order (Table PKG-1). -/
def rowLetters : List String := ["A", "B", "C", "D", "E", "F", "G", "H", "J", "K", "L", "M", "N", "P", "T", "U", "V", "W", "Y"]

/-- The name of row `i`, 1 to 49. -/
def rowName (i : Nat) : String :=
  let letter (k : Nat) : String := rowLetters.getD k ""
  if i ≤ 19 then letter (i - 1) else if i ≤ 38 then "A" ++ letter (i - 20) else "B" ++ letter (i - 39)
def ballName (i c : Nat) : String := rowName i ++ toString c

/-- The columns of a lane's four balls in the west field, of an even and of an odd lane (R495). -/
def laneColumns (odd : Bool) : List Nat := if odd then [8, 9, 11, 12] else [2, 3, 5, 6]

/-- Row and column of ball `b` of lane `n`. -/
def laneBall (n b : Nat) : Nat × Nat :=
  let m := n % 32
  let c := (laneColumns (m % 2 == 1)).getD b 0
  (3 + 3 * (m / 2), if n < 32 then c else 50 - c)

/-- Row and column of signal `j` of service port 64 + `k` (R497). -/
def svcBall (k j : Nat) : Nat × Nat := (46 + 2 * (k / 4) + j / 4, 14 + 4 * (k % 4) + j % 4)

/-- SVC_TXD0, TXD1, TX_EN are outputs; RXD0, RXD1, CRS_DV, RX_ER and REFCLK are inputs. -/
def svcSignals : List (String × Bool) :=
  [("SVC_TXD0", true), ("SVC_TXD1", true), ("SVC_TX_EN", true), ("SVC_RXD0", false), ("SVC_RXD1", false), ("SVC_CRS_DV", false), ("SVC_RX_ER", false),
   ("SVC_REFCLK", false)]

/-- Table PKG-4: signals with row and column. -/
def controlBalls : List (String × Nat × Nat) :=
  [("LANE_RCAL", 1, 17), ("REFCLK_P", 1, 20), ("REFCLK_N", 1, 21), ("MGMT_TX_P", 1, 24), ("MGMT_TX_N", 1, 25), ("MGMT_RX_P", 1, 28), ("MGMT_RX_N", 1, 29),
   ("XTAL_IN", 1, 33), ("XTAL_OUT", 1, 34), ("PORST_N", 2, 14), ("WRST_N", 2, 15), ("FAULT_A_N", 2, 16), ("FAULT_B_N", 2, 17)]
  ++ (List.range 4).map (fun k => ("TIME_IO" ++ toString k, 2, 19 + k))
  ++ [("FLASH_SCK", 2, 24), ("FLASH_CS_N", 2, 25)]
  ++ (List.range 4).map (fun k => ("FLASH_IO" ++ toString k, 2, 26 + k))
  ++ [("MDC", 2, 31), ("MDIO", 2, 32), ("SVC_REFCLK_OUT", 3, 20), ("TEST_EN", 3, 31), ("TCK", 3, 32), ("TMS", 3, 33), ("TDI", 3, 34), ("TDO", 3, 35),
      ("TRST_N", 3, 36)]

/-- The resistor inside the package at a ball, 50 kΩ ±30 %. -/
inductive Pull where
  | none | up | down
  deriving DecidableEq, Repr

/-- How a signal is driven: its I/O type, whether it is an input, whether it is an output, and its resistor. -/
structure PinType where
  io : String
  input : Bool
  output : Bool
  pull : Pull := .none
  deriving DecidableEq, Repr

/-- The columns of Table PKG-4 that follow the ball, by signal (TIME_IO and FLASH_IO stand for their four). -/
def pinTypes : List (String × PinType) :=
  [("REFCLK", ⟨"differential", true, false, .none⟩), ("MGMT_TX", ⟨"CML", false, true, .none⟩), ("MGMT_RX", ⟨"CML", true, false, .none⟩),
   ("XTAL_IN", ⟨"analogue", true, false, .none⟩), ("XTAL_OUT", ⟨"analogue", false, true, .none⟩), ("LANE_RCAL", ⟨"analogue", false, false, .none⟩),
   ("PORST_N", ⟨"LVCMOS18 Schmitt", true, false, .down⟩), ("WRST_N", ⟨"LVCMOS18 Schmitt", true, false, .up⟩),
   ("FAULT_A_N", ⟨"LVCMOS18", false, true, .none⟩), ("FAULT_B_N", ⟨"LVCMOS18", false, true, .none⟩), ("TIME_IO", ⟨"LVCMOS18", true, true, .none⟩),
   ("FLASH_SCK", ⟨"LVCMOS18", false, true, .none⟩), ("FLASH_CS_N", ⟨"LVCMOS18", false, true, .up⟩), ("FLASH_IO", ⟨"LVCMOS18", true, true, .up⟩),
   ("MDC", ⟨"LVCMOS33", false, true, .none⟩), ("MDIO", ⟨"LVCMOS33 open drain", true, true, .none⟩), ("SVC_REFCLK_OUT", ⟨"LVCMOS33", false, true, .none⟩),
   ("TEST_EN", ⟨"LVCMOS18", true, false, .down⟩), ("TCK", ⟨"LVCMOS18", true, false, .none⟩), ("TMS", ⟨"LVCMOS18", true, false, .up⟩),
   ("TDI", ⟨"LVCMOS18", true, false, .up⟩), ("TDO", ⟨"LVCMOS18 3-state", false, true, .none⟩), ("TRST_N", ⟨"LVCMOS18", true, false, .down⟩)]

/-- A ball of the west lane field; the east field mirrors it with lanes 32 to 63. -/
def fieldBall (east : Bool) (i c : Nat) : Ball :=
  let lane (odd : Bool) : Option Ball :=
    ((laneColumns odd).zipIdx.find? (fun e => e.1 == c)).map (fun e => .lane (32 * boolNat east + 2 * (i / 3 - 1) + boolNat odd) e.2)
  if i % 3 = 0 then ((lane false).orElse (fun _ => lane true)).getD .vss
  else if i % 3 = 1 then (if c = 4 ∨ c = 10 then .rail 3 else if c = 7 then .rail 4 else .vss)
  else .vss

/-- The control block, rows 1 to 3. -/
def controlBall (i c : Nat) : Ball :=
  if i ≠ 2 ∧ 14 ≤ c ∧ c ≤ 16 then .rail 0
  else if (i, c) ∈ [(2, 18), (2, 23), (2, 30), (2, 33), (3, 18), (3, 27)] then .rail 9
  else ((controlBalls.find? (fun e => e.2 == (i, c))).map (fun e => Ball.control e.1)).getD .vss

/-- An HBM band at the row offset `o`. -/
def bandBall (o c : Nat) : Ball :=
  if c % 2 = 0 then .vss
  else if o ≤ 2 then .rail 5
  else if o ≤ 4 then .rail 6
  else if c = 15 ∨ c = 17 ∨ c = 19 then .rail 7 else .vss

def coreBall (i c : Nat) : Ball := if (i + c) % 2 = 0 then .vss else if c ≤ 17 ∨ 33 ≤ c then .rail 2 else .rail 1

/-- The service block, rows 46 to 49. -/
def serviceBall (i c : Nat) : Ball :=
  if c ≤ 29 then .svc (4 * ((i - 46) / 2) + (c - 14) / 4) (4 * (i % 2) + (c - 14) % 4)
  else if c = 30 ∨ (c = 31 ∧ i ≤ 47) then .rail 8 else .vss

/-- The ball at row index `i` and column `c` (Table PKG-3). -/
def ballAt (i c : Nat) : Ball :=
  if c ≤ 13 then fieldBall false i c
  else if 37 ≤ c then fieldBall true i (50 - c)
  else if i ≤ 3 then controlBall i c
  else if i ≤ 9 then bandBall (i - 4) c
  else if i ≤ 39 then coreBall i c
  else if i ≤ 45 then bandBall (i - 40) c
  else serviceBall i c

/-- How many balls of a row carry something (Table PKG-2). -/
def rowCount (p : Ball → Bool) (i : Nat) : Nat := ((List.range 49).filter (fun c => p (ballAt i (c + 1)))).length
def ballCount (p : Ball → Bool) : Nat := ((List.range 49).map (fun i => rowCount p (i + 1))).sum

/-! ### Rails (R499 to R504) -/

/-- A rail's recommended voltages, its greatest current in milliamperes, and its absolute limits. -/
structure RailSpec where
  low : Nat
  nominal : Nat
  high : Nat
  current : Nat
  absLow : Int
  absHigh : Nat
  deriving DecidableEq, Repr

/-- Tables PKG-6 and PKG-7. -/
def railSpecs : List RailSpec :=
  [⟨776, 800, 824, 600, -300, 950⟩, ⟨728, 750, 772, 70000, -300, 900⟩, ⟨825, 850, 875, 10000, -300, 1000⟩, ⟨873, 900, 927, 14000, -300, 1050⟩,
   ⟨1164, 1200, 1236, 5000, -300, 1400⟩, ⟨1067, 1100, 1133, 6000, -300, 1300⟩, ⟨388, 400, 412, 4000, -300, 550⟩, ⟨1746, 1800, 1854, 400, -300, 2100⟩,
   ⟨3135, 3300, 3465, 150, -300, 3800⟩, ⟨1746, 1800, 1854, 250, -300, 2100⟩]

/-- The greatest power of all rails, in microwatts. -/
def railPower : Nat := (railSpecs.map (fun r => r.nominal * r.current)).sum

/-- The step of Table PKG-5 at which a rail ramps, and its place among the rails of that step (VDDIO_SVC: any time after step 1). -/
def rampStep (r : Nat) : Nat × Nat := [(1, 0), (2, 1), (2, 0), (3, 0), (3, 1), (4, 1), (4, 2), (4, 0), (5, 0), (1, 0)].getD r (0, 0)

/-- A rail counts as up at 90 % of its nominal voltage (R499). -/
def railUp (r : RailSpec) (mv : Nat) : Bool := decide (r.nominal * 9 ≤ mv * 10)

/-- What holds of the voltages of rails 0 to 9 at all times (R499, R500). -/
def railsConform (v : List Nat) : Bool :=
  decide (v.getD 1 0 ≤ v.getD 2 0 + 50 ∧ v.getD 5 0 ≤ v.getD 7 0 ∧ v.getD 6 0 ≤ v.getD 5 0)

/-- The power-on detector: the falling and the rising threshold on VDD_AON, and the delay of its release (R502). -/
def detectorThresholds : Nat × Nat × Nat := (660, 700, 50000000)

/-! ### Pins (R498, R507 to R509) -/

/-- SVC_REFCLK_OUT runs from start-up step 3 until DORMANT. -/
def svcRefclkOut (s : Sys) : Bool := s.devState != 3 && (s.devState != 0 || decide (3 < s.devStep))

/-- Whether a low pulse on PORST_N or WRST_N of so many ns resets the device; none where either may happen (Table PKG-9, R508). -/
def pulseResets (ns : Nat) : Option Bool := if 1000 ≤ ns then some true else if ns ≤ 200 then some false else none

/-- The uncertainty of an input edge of TIME_IO by its rise or fall time (R312, R508); a slower edge has none. -/
def edgeUncertainty (rise : Nat) : Option Nat := if rise ≤ 2000 then some 1600 else if rise ≤ 10000 then some (1600 + (rise - 2000) / 2) else none

/-- The JTAG identity: version, part, manufacturer and 1 (R509). -/
def idcode : BitVec 32 := (0x1#4 ++ 0x6416#16 ++ 0x54D#11 ++ 1#1 : BitVec 32)

/-- A signal of Table PKG-4 in the boundary-scan chain, or a lane or service ball; REFCLK, the crystal and LANE_RCAL are outside. -/
def inChain : Ball → Bool
  | .control n => !(["REFCLK_P", "REFCLK_N", "XTAL_IN", "XTAL_OUT", "LANE_RCAL"].contains n)
  | .lane _ _ | .svc _ _ => true
  | .vss | .rail _ => false

/-- Table PKG-9: interface and parameter, least and greatest value in picoseconds. -/
def pinTiming : List (String × Option Int × Option Int) :=
  [("RMII output valid", some 2000, some 12000), ("RMII input setup", some 4000, none), ("RMII input hold", some 2000, none),
   ("SVC_REFCLK_OUT jitter", none, some 300), ("MDC period", some 400000, none), ("MDC high and low", some 180000, some 220000),
   ("MDIO output change", some 0, some 20000), ("MDIO input setup", some 20000, none), ("MDIO input hold", some 0, none),
   ("FLASH_CS_N setup and hold", some 5000, none), ("FLASH_CS_N high", some 50000, none), ("FLASH_IO output valid", some (-1000), some 2000),
   ("FLASH_IO input setup", some 2000, none), ("FLASH_IO input hold", some 0, none), ("TIME_IO output edge", some (-1600), some 1600),
   ("TIME_IO output rise and fall", some 500, some 1500), ("TIME_IO input width", some 8000, none), ("TIME_IO input rise and fall", none, some 2000),
   ("PORST_N low", some 1000000000, none), ("FAULT fall", none, some 20000), ("TMS, TDI setup", some 4000, none), ("TMS, TDI hold", some 4000, none),
   ("TDO valid", none, some 8000), ("TRST_N low", some 100000, none)]

/-- Greatest clocks of Table PKG-9 in kHz: FLASH_SCK in discovery and in a quad read, TCK. -/
def pinClocks : Nat × Nat × Nat := (25000, 104000, 50000)

/-- The levels of an LVCMOS type at 8 mA: greatest low and least high input, greatest low output, least high output at a supply,
and the hysteresis of a Schmitt input. -/
structure Levels where
  vil : Nat
  vih : Nat
  vol : Nat
  voh : Nat → Nat
  hysteresis : Nat

/-- Table PKG-8, for the supply VDDIO in millivolts: LVCMOS18 on VDDIO_GEN and LVCMOS33 on VDDIO_SVC. -/
def lvcmos18 : Levels := ⟨630, 1170, 450, fun vddio => vddio - 450, 150⟩
def lvcmos33 : Levels := ⟨800, 2000, 400, fun _ => 2400, 0⟩

/-- What an input reads: none between the two levels, where the device gives no value. -/
def Levels.reads (l : Levels) (mv : Nat) : Option Bool := if mv ≤ l.vil then some false else if l.vih ≤ mv then some true else none

/-! ### Clocks (R505, R506) -/

/-- A frequency in Hz within some parts in a million of its nominal. -/
def within (nominal ppm hz : Nat) : Bool := decide (nominal * (1000000 - ppm) ≤ hz * 1000000 ∧ hz * 1000000 ≤ nominal * (1000000 + ppm))
def refclkGood (hz : Nat) : Bool := within 156250000 50 hz
def crystalGood (hz : Nat) : Bool := within 32768 50 hz

/-- AON on WATCH, 100 MHz divided by 3,052, in tenths of a Hz. -/
def aonOnWatch : Nat := (100000000 * 10 + 1526) / 3052

/-! ### Heat and outline (R510, R511) -/

/-- Millidegrees of the die above the lid, and of a stack above its lid, for so many milliwatts (Table PKG-10). -/
def dieRise (mw : Nat) : Nat := mw * 8 / 100
def stackRise (mw : Nat) : Nat := mw * 35 / 100

/-- Whether the die, and the HBM stacks, stay within R504 and R510 at a case temperature in millidegrees and so many milliwatts. -/
def coolEnough (tcase : Int) (die stack : Nat) : Bool :=
  decide (-40000 ≤ tcase ∧ tcase ≤ 105000 ∧ tcase + dieRise die ≤ 115000 ∧ stack ≤ 4460 ∧ stackRise stack ≤ 1600)

/-- Table PKG-11: nominal and tolerance in micrometres, of body, height, ball pitch, ball diameter, ball height, coplanarity and
lid flatness. -/
def outline : List (Nat × Nat) := [(50000, 100), (4350, 200), (1000, 0), (600, 0), (450, 0), (200, 0), (100, 0)]

end Sys2Proof.Machine
end

