-- ==== Sys2Proof/Tests/Slice0.lean ====
section
/-! SUPPORT. Tests: worked examples of the manual and published vectors of the algorithms it names, ill-formed operands, single steps
on small states, and for each statement a state and operands that meet its hypotheses. -/

set_option Elab.async false
set_option linter.unusedVariables false

namespace Sys2Proof.Tests

open Sys2Proof.Machine Sys2Proof.Safety

/-- A state with given registers, nothing waiting and nothing in memory. -/
def on (y : Sys) : State := { sys := y }

/-! ### Published vectors -/

-- the check values of the CRC catalogue for "123456789"
theorem test_crc32 : crc32 (ascii "123456789") = 0xCBF43926 := by decide +kernel
theorem test_crc32c : crc32c (ascii "123456789") = 0xE3069283 := by decide +kernel
theorem test_crc8 : crc8 (ascii "123456789") = 0xF4 := by decide +kernel

-- FIPS 180: the digest of "abc", first four bytes
theorem test_sha256 : (sha256 (ascii "abc")).take 4 = [0xBA, 0x78, 0x16, 0xBF] := by decide +kernel

-- RFC 4231, test case 2, first four bytes
theorem test_hmac : (hmac (ascii "Jefe") (ascii "what do ya want for nothing?")).take 4 = [0x5B, 0xDC, 0xC1, 0x46] := by decide +kernel

/-! ### Worked examples of the manual -/

-- chapter 02, after R37: range 64 to 9,216 in steps of 64
theorem test_clamp_example : [1000, 96, 10000, 0].map (clampStep 64 9216 64) = [(.num 1024, 3), (.num 64, 3), (.num 9216, 2), (.num 64, 1)] := by
  decide +kernel

-- chapter 04, R100
theorem test_tx_eq_example : eqCheck 0x14320C = (0x0D3200, [2, 0, 2]) := by decide +kernel

-- chapter 13, R375: block 5, its places, and the check symbols at position 7
theorem test_block_five : (List.range 18).map (sharePlace 5) = ((List.range 6).map (fun j => (18 + j, 3))) ++ ((List.range 12).map (fun j => (j, 4))) := by
  decide +kernel
theorem test_check_symbols : checkSymbols (List.replicate 14 0 ++ [1, 1]) = (4, 4) ∧ gfAlpha 12 = 0xCD := by decide +kernel
theorem test_locates_share_five : locate [[0], [0], [0], [0], [0], [0x5A], [0], [0], [0], [0], [0], [0], [0], [0], [1], [1], [4], [4]] [0] none = some (some 5) := by
  decide +kernel

-- chapter 12, steps 1 to 4: history 4, A 100, B 100, A 101, B 101
theorem test_vector_recovery :
    let a := vectorStep 12 4 100 { takeAny := true } {}
    let b := vectorStep 12 4 100 a.2.1 {}
    let c := vectorStep 12 4 101 b.2.1 {}
    let d := vectorStep 12 4 101 c.2.1 {}
    (a.2.2, b.2.2, c.2.2, d.2.2) = (true, false, true, false) ∧ (a.2.1.hist, d.2.1.hist, d.2.1.recov) = (15, 15, 101) := by decide +kernel

-- chapter 18, R492, R495, R497: a lane's balls and a service signal
theorem test_ball_places : (List.range 4).map (fun b => ballName (laneBall 45 b).1 (laneBall 45 b).2) = ["AB42", "AB41", "AB39", "AB38"]
    ∧ ballName (svcBall 2 5).1 (svcBall 2 5).2 = "BJ23" ∧ ballAt 47 23 = .svc 2 5 ∧ ballAt 21 42 = .lane 45 0 := by decide +kernel

-- Table PKG-2: what the balls carry
theorem test_ball_counts : (List.range 10).map (fun r => ballCount (· == .rail r)) = [6, 225, 120, 68, 34, 66, 44, 6, 6, 6]
    ∧ ballCount (· == .vss) = 1468 := by decide +kernel

-- R504: the greatest power of all rails, 89.945 W
theorem test_rail_power : railPower = 89945000 := by decide +kernel

/-! ### Single steps -/

-- R103: the checker of lane 5 locks while PRBS_RX is on, and counts what it saw when it loses lock
theorem test_prbs_lock : (match exec (.prbsLockAcquired 0 5) (on (putCell { devState := 1, boot := { porst := false } } 0x2050 0x0B 0 0 2)) with
    | .next t => (lane t.sys 5).prbs && !(lane t.sys 6).prbs | _ => false) = true := by decide +kernel
theorem test_prbs_loss : (match exec (.prbsLockLoss 0 5 16) (on { devState := 1, boot := { porst := false }, lanes := [(5, { prbs := true })] }) with
    | .next t => !(lane t.sys 5).prbs && count t.sys (Ctr.lanePrbsErr 5) == 16 && count t.sys (Ctr.lanePrbsLockLoss 5) == 1 | _ => false) = true := by
  decide +kernel

-- R288, R289: DC runs at 0.8 ns a tick; 1,250,000,000 ticks are one second
theorem test_dc : timeVal (dc { now := 1250000000 }) = 2 ^ 48 ∧ timeVal (dc { now := 5 }) = 4 * 65536 := by decide +kernel

-- a step takes the front command and leaves the rest
theorem test_step_queue : (match step { on { devState := 1 } with pending := [.txnTimeoutExpiry 0 1, .commitPoint 0] } with
    | .next t => t.pending == [.commitPoint 0] | _ => false) = true := by decide +kernel

/-! ### Ill-formed operands -/

/-- A Gramus frame whose fields fit. -/
def plainFrame : GFrame :=
  { port := 72, dst := 1, src := 2, vlan := none, version := 1, opcode := 4, product := 0x6416, session := 1, flags := 0, requestId := 1,
    counter := 1, length := 0, status := 0, reserved := 0, body := [] }

theorem test_refuses_long_head : wellFormed (.headComplete 0 0 0 (List.replicate 129 0) true (0, 0)) = false := by decide +kernel
theorem test_refuses_short_open_head : wellFormed (.headComplete 0 0 0 [1, 2] false (0, 0)) = false := by decide +kernel
theorem test_refuses_pause : wellFormed (.pauseRx 0 0 (2 ^ 48) 0) = false ∧ wellFormed (.pauseRx 0 0 0 65536) = false := by decide +kernel
theorem test_refuses_pfc : wellFormed (.pfcRx 0 0 0 256 (List.replicate 8 0)) = false ∧ wellFormed (.pfcRx 0 0 0 0 [0]) = false
    ∧ wellFormed (.pfcRx 0 0 0 0 (List.replicate 8 65536)) = false := by decide +kernel
theorem test_refuses_record : wellFormed (.decisionRecordArrival 0 .a 0 0 (some [0])) = false := by decide +kernel
theorem test_refuses_shown : wellFormed (.readmitLoadDone 0 .b [(0, [0])]) = false := by decide +kernel
theorem test_refuses_slot : wellFormed (.flapHoldExpiry 0 .a 131072) = false := by decide +kernel
theorem test_refuses_flush : wellFormed (.emmFlushSource 0 1 false false 256) = false ∧ wellFormed (.emmFlushVid 0 1 4096) = false
    ∧ wellFormed (.emmFlushSourceVid 0 1 false false 0 4096) = false := by decide +kernel
theorem test_refuses_frame : wellFormed (.keepalive 0 (some plainFrame)) = true ∧ wellFormed (.keepalive 0 (some { plainFrame with dst := 2 ^ 48 })) = false
    ∧ wellFormed (.read 0 (some { plainFrame with vlan := some 65536 })) = false := by decide +kernel
theorem test_refuses_nonce : wellFormed (.sessionOpen 0 none [1]) = false := by decide +kernel
theorem test_refuses_via : wellFormed (.txnOpen 0 (.obj 65536)) = false ∧ wellFormed (.txnArm 0 (.obj 1) (2 ^ 32)) = false := by decide +kernel
theorem test_refuses_time : wellFormed (.tbStepTo 0 1 0 (2 ^ 96)) = false := by decide +kernel
theorem test_refuses_payload : wellFormed (.kngControlBlockRx 0 [0] 0) = false := by decide +kernel
theorem test_refuses_speed : wellFormed (.linkUp 0 0 123) = false := by decide +kernel
theorem test_refuses_block : wellFormed (.hbmBlockRead 0 89478420 0 []) = false ∧ wellFormed (.hbmBlockWrite 0 0 0 [0]) = false
    ∧ wellFormed (.narrowWrite 0 0 0 [(0, [0])]) = false ∧ wellFormed (.mergeWindowExpiry 0 89478420 []) = false ∧ wellFormed (.remapCmd 0 1 89478420) = false := by
  decide +kernel
theorem test_refuses_readings : wellFormed (.tempSample 0 [1]) = false ∧ wellFormed (.marginRead 0 [1]) = false := by decide +kernel
theorem test_refuses_part : wellFormed (.castExportSel 0 1 0 (2 ^ 24)) = false := by decide +kernel
theorem test_refuses_plan : (∀ o : PlanOffer, o.lanes = [] → wellFormed (.maquettePlanLoad 0 o) = false) := by
  intro o h
  simp [wellFormed, PlanOffer.wellFormed, h]
theorem test_refuses_boot : ∀ b : BootInput, b.stepsUs = [] →
    wellFormed (.porstNRelease 0 b) = false ∧ wellFormed (.powerOnDetectorRelease 0 b) = false ∧ wellFormed (.wrstNRelease 0 b) = false
      ∧ wellFormed (.devResetDelayExpiry 0 b) = false ∧ wellFormed (.firmwareBootTimeout 0 b) = false ∧ wellFormed (.boundaryScanRelease 0 b) = false := by
  intro b h
  simp [wellFormed, BootInput.wellFormed, h]
theorem test_refuses_image : ∀ b : List Byte, 4194304 < b.length → wellFormed (.fwStage 0 1 b) = false := by
  intro b h
  simp [wellFormed, h]
theorem test_refuses_key : wellFormed (.emmFind 0 1 0 (2 ^ 64) 0) = false ∧ wellFormed (.snapReqStated 0 1 0 0 (2 ^ 96)) = false := by decide +kernel

/-! ### Small states for the hypotheses below -/

/-- The ingress staging of tile 0 is full. -/
def fullStaging (l : List Byte) : Sys :=
  { devState := 1, ports := [(3, { linkUp := true, speed := 1000 })], frames := [(0, some { port := 3, bytes := l, stage := .numbered })], nextFrame := 1 }
theorem fullStaging_used (l : List Byte) (h : 524288 ≤ l.length) : stagingBytes < stagingUsed (fullStaging l) 0 + 2 := by
  simp [stagingUsed, stagedBytes, allFrames, fullStaging, stagingBytes, tileOf, Frame.discarded]
  omega
theorem fullStaging_full (l : List Byte) (h : 524288 ≤ l.length) :
    stagingFull (fullStaging l) { port := 3, bytes := l, stage := .numbered } 2 = true := by
  have := fullStaging_used l h
  simp only [stagingFull, tileOf]
  simpa [Frame.discarded] using this
theorem fullStaging_head (l : List Byte) (h : 524288 ≤ l.length) : let t := 0; let port : Fin 76 := 3; let sfd : Nat := 0; let bytes : List Byte := [1, 2]; let cw : Codewords := (0, 0); let x := sysAt t (on (fullStaging l)); let y := farEnd port.val bytes (countCw port.val cw x); (fromBalls x port.val = true) ∧ (macAccept y port.val = .all) ∧ ((Machine.port y port.val).rx = none) ∧ (stagingBytes < stagingUsed y (tileOf port.val) + bytes.length) :=
  ⟨rfl, rfl, rfl, fullStaging_used l h⟩
theorem fullStaging_parse (l : List Byte) (h : 524288 ≤ l.length) :
    (headsIn (sysAt 0 (on (fullStaging l))) .numbered).head? = some (0, { port := 3, bytes := l, stage := .numbered })
      ∧ ({ port := 3, bytes := l, stage := .numbered } : Frame).ended = false
      ∧ stagingFull (sysAt 0 (on (fullStaging l))) { port := 3, bytes := l, stage := .numbered } [(1 : Byte), 2].length = true :=
  ⟨rfl, rfl, fullStaging_full l h⟩

/-- One copy waits at port 75. -/
def recircSys : Sys :=
  { devState := 1, queues := [(600, [0])], copies := [(0, some { frame := 0, port := 75, queue := 600, st := .queued, ready := true, body := some [] })], frames := [(0, some { stage := .committed, ended := true })] }

/-- Port 72 with its link up while the device starts. -/
def bootMac : Sys := { devState := 0, devStep := 8, ports := [(72, { linkUp := true, speed := 1000 })] }

/-- A session whose pending transaction stages a rule row, its bank loaded. -/
def rsSession : Session :=
  { sid := 1, txn := { st := .pending, num := 1, staged := [{ ix := 0x3400, sub := 1, row := 0, col := 0, req := .num 1, val := .num 1 }] } }
def rsSys : Sys := { devState := 1, sessions := [rsSession], rsWait := some { sid := 1, direct := false, accepted := 0, loadEnd := some 0 } }

/-- A frame waits in steward queue SQ2, another in SQ1. -/
def slowSys : Sys :=
  { devState := 1, sq := [(1, [1]), (2, [0])], frames := [(0, some { stage := .steered, ended := true, bytes := List.replicate 60 0 }), (1, some { stage := .steered, ended := true, bytes := List.replicate 60 0 })] }

/-- An operator's session on a device that is ready, and the same with an ARMED transaction. -/
def opSys : Sys := { devState := 1, sessions := [{ sid := 1, role := 3 }] }
def armedSys : Sys := { devState := 1, sessions := [{ sid := 1, role := 3, txn := { st := .armed, num := 1 } }] }

/-- One copy waits in class 0 of port 3. -/
def txSys : Sys :=
  { devState := 1, bootSilent := false, now := 1000, ports := [(3, { linkUp := true, speed := 1000 })],
    copies := [(0, some { port := 3, queue := 24, st := .queued, path := .express, ready := true, body := some [], counted := 64, kind := .steward false })],
    queues := [(24, [0])], frames := [(0, some { stage := .injected, ended := true })] }

/-- Port 3 runs a gate list whose second entry asserts hold. -/
def holdSys : Sys :=
  { dict := [(dkey (glIx 3) 1 0 0, .num 1), (dkey (glIx 3) 2 0 0, .num 4), (dkey (pix 3 0x0E) 1 0 0, .num 1), (dkey (pix 3 0x0E) 3 0 0, .num 0), (dkey (pix 3 0x0E) 6 0 0, .num 65535)],
    ports := [(3, { linkUp := true, gate := { oper := some { entries := [{ gates := 255, op := 0, interval := 1000 }, { gates := 255, op := 1, interval := 1000 }], start := 0, cycle := 2000 } } })] }

/-- A request of session 1, and a device that hears it on port 72. -/
def reqFrame (op : Nat) (p : List Byte) : GFrame :=
  { port := 72, dst := obj {} 0x0300 2, src := 0x0200000000AA, vlan := none, version := 1, opcode := op, product := 0x6416, session := 1, flags := 0, requestId := 5,
    counter := 1, length := p.length, status := 0, reserved := 0, body := p }

def gmpState : State := on opSys
def gmpSession : Session := { sid := 1, role := 3 }

/-- A device with one key, and a SESSION_OPEN tagged with it. -/
def keySys : Sys := { devState := 1, dict := [(dkey 0x0300 9 0 0, .num 3), (dkey 0x0300 9 0 1, .octets (List.replicate 32 5))] }
def openFrame : GFrame :=
  let f := { reqFrame 2 (0 :: List.replicate 21 0) with flags := 1, session := 0 }
  { f with body := f.body ++ gmpTag (List.replicate 32 5) f.dst f.src (gfHeader f) (gfPayload f) }

def ackSys : Sys := { devState := 1, sessions := [{ sid := 1, role := 3, evFrame := some (1, 1), evRid := 5 }] }

/-- A KEEPALIVE waits in SQ0. -/
def sq0Bytes : List Byte := toBE 6 (obj {} 0x0300 2) ++ toBE 6 1 ++ u16b (obj {} 0x0300 1) ++ (gfHeader (reqFrame 4 []) ++ List.replicate 22 0)
def sq0Sys : Sys := { devState := 1, now := 1875000, sq := [(0, [0])], frames := [(0, some { port := 72, stage := .steered, ended := true, bytes := sq0Bytes })] }
def sq0Late : Sys := { sq0Sys with now := 0 }
def sq0Taken : Taken := { f := reqFrame 0 [], view := {}, at_ := 0 }

theorem crc_off (s : Sys) (n : Nat) (h : n = safetyCrc s + 1) : n ≠ safetyCrc s := by
  omega


def openSys : Sys := { devState := 1, sessions := [{ sid := 1, role := 3, txn := { st := .open_, num := 1 } }] }

/-- A session whose transaction is PENDING, for the next commit point and for a stated time that has come. -/
def pendSession (t : Option (Nat × Nat)) : Session :=
  { sid := 1, role := 3, txn := { st := .pending, num := 1, stated := t, staged := [{ ix := 0x0300, sub := 4, row := 0, col := 0, req := .num 7, val := .num 7 }] } }
def pendSys (t : Option (Nat × Nat)) : Sys := { devState := 1, sessions := [pendSession t] }

/-- The bits of a block with a good header of type 3 (idle), lane 0 and seq 0, and a payload without a run of 20 equal bits (Figure LAN-3). -/
def kngHead : Nat := 0xB3000000 + crc8 [0xB3, 0, 0]
def kngBits : List Bool := ((List.range 32).map (fun i => bit kngHead (31 - i))) ++ (List.range 992).map (fun i => i % 2 == 0)
def kngHeads : List (BitVec 32) := [kngHead, kngHead, kngHead, kngHead].map (BitVec.ofNat 32)

def recSys : Sys := { devState := 1, copies := [(0, some { port := 74, st := .queued, ready := true, sel := { queue := 592, tc := 0 } })], queues := [(592, [0])], frames := [(0, some { ended := true, verdict := some true, length := 64 })], dict := [(dkey 0x7810 1 0 0, .num 1)] }

/-- A firmware image without payload, whose header is sound. -/
def fwImage : List Byte := slotHeader 0 1 [] 1 0 0 0 ++ List.replicate 188 0xFF

/-- Start-up inputs of a good start without flash. -/
def bootIn : BootInput := { stepsUs := [], tempStart := 25, cold := true, flashPresent := false, jedecId := 0, sizeMib := 0, failA := false, failB := false, selfTestGood := true, testEn := false }

/-! ### For each statement with hypotheses, a state and operands that meet them -/

theorem met_headComplete : let t := 0; let port : Fin 76 := 3; let sfd : Nat := 0; let bytes : List Byte := [1, 2]; let cw : Codewords := (0, 0); let x := sysAt t (on { devState := 1, ports := [(3, { linkUp := true, speed := 1000 })] }); let y := farEnd port.val bytes (countCw port.val cw x); (fromBalls x port.val = true) ∧ (macAccept y port.val = .all) ∧ ((Machine.port y port.val).rx = none) ∧ (stagingUsed y (tileOf port.val) + bytes.length ≤ stagingBytes) := by decide +kernel

theorem met_headComplete_2 : let t := 0; let port : Fin 76 := 3; let sfd : Nat := 0; let bytes : List Byte := [1, 2]; let cw : Codewords := (0, 0); let x := sysAt t (on (fullStaging (List.replicate 524288 0))); let y := farEnd port.val bytes (countCw port.val cw x); (fromBalls x port.val = true) ∧ (macAccept y port.val = .all) ∧ ((Machine.port y port.val).rx = none) ∧ (stagingBytes < stagingUsed y (tileOf port.val) + bytes.length) := fullStaging_head (List.replicate 524288 0) (by rw [List.length_replicate])

theorem met_headComplete_3 : let t := 0; let port : Fin 76 := 3; let sfd : Nat := 0; let bytes : List Byte := [1, 2]; let cw : Codewords := (0, 0); let x := sysAt t (on { devState := 1, ports := [(3, { linkUp := true, speed := 1000 })] }); let y := farEnd port.val bytes (countCw port.val cw x); (fromBalls x port.val = true) := by decide +kernel

theorem met_headComplete_4 : let t := 0; let port : Fin 76 := 3; let sfd : Nat := 0; let bytes : List Byte := [1, 2]; let ended : Bool := true; let cw : Codewords := (0, 0); let x := sysAt t (on {}); let y := farEnd port.val bytes (countCw port.val cw x); (fromBalls x port.val = true) ∧ (macAccept y port.val = .deaf) := by decide +kernel

theorem met_headComplete_5 : let t := 0; let port : Fin 76 := 3; let sfd : Nat := 0; let bytes : List Byte := [1, 2]; let ended : Bool := true; let cw : Codewords := (0, 0); let x := sysAt t (on { devState := 1, dict := [(dkey 0x2030 1 0 0, .num 1), (dkey 0x2030 9 0 0, .num 1)] }); (fromBalls x port.val = false) := by decide +kernel

theorem met_frameTail : let t := 0; let port : Fin 76 := 3; let rest : List Byte := [1]; let partialOctet : Bool := false; let cw : Codewords := (0, 0); let id : Nat := 0; let x := sysAt t (on { devState := 1, ports := [(3, { linkUp := true, speed := 1000, rx := some 0 })] }); let y := farEnd port.val ((Machine.port x port.val).lastTx ++ rest) (countCw port.val cw x); (fromBalls x port.val = true) ∧ ((Machine.port y port.val).rx = some id) := by decide +kernel

theorem met_frameTail_2 : let t := 0; let port : Fin 76 := 3; let rest : List Byte := [1]; let partialOctet : Bool := false; let cw : Codewords := (0, 0); let x := sysAt t (on { devState := 1, ports := [(3, { linkUp := true, speed := 1000 })] }); let y := farEnd port.val ((Machine.port x port.val).lastTx ++ rest) (countCw port.val cw x); (fromBalls x port.val = true) ∧ ((Machine.port y port.val).rx = none) := by decide +kernel

theorem met_frameTail_3 : let t := 0; let port : Fin 76 := 3; let rest : List Byte := [1]; let partialOctet : Bool := false; let cw : Codewords := (0, 0); let x := sysAt t (on { devState := 1, dict := [(dkey 0x2030 1 0 0, .num 1), (dkey 0x2030 9 0 0, .num 1)] }); (fromBalls x port.val = false) := by decide +kernel

theorem met_mmFragmentRx : let t := 0; let port : Fin 76 := 3; let bytes : List Byte := [1]; let x := sysAt t (on { devState := 1, dict := [(dkey 0x106E 1 0 0, .num 1)], ports := [(3, { linkUp := true, speed := 1000, mmOpen := false })] }); (port.val < 64) ∧ (flag x (pix port.val 0x0E) 1 = true) ∧ (macAccept x port.val = .all) ∧ (fromBalls x port.val = true) ∧ ((Machine.port x port.val).mmOpen = false) := by decide +kernel

theorem met_mmFragmentRx_2 : let t := 0; let port : Fin 76 := 3; let bytes : List Byte := [1]; let x := sysAt t (on { devState := 1, dict := [(dkey 0x106E 1 0 0, .num 1)], ports := [(3, { linkUp := true, speed := 1000, mmOpen := true })] }); (port.val < 64) ∧ (flag x (pix port.val 0x0E) 1 = true) ∧ (macAccept x port.val = .all) ∧ (fromBalls x port.val = true) ∧ ((Machine.port x port.val).mmOpen = true) := by decide +kernel

theorem met_mmFragmentRx_3 : let t := 0; let port : Fin 76 := 3; let bytes : List Byte := [1]; let x := sysAt t (on { devState := 1, dict := [(dkey 0x106E 1 0 0, .num 1)], ports := [(3, { linkUp := true, speed := 1000, mmOpen := true })] }); (port.val < 64) ∧ (flag x (pix port.val 0x0E) 1 = true) ∧ (macAccept x port.val = .all) ∧ (fromBalls x port.val = true) ∧ ((Machine.port x port.val).mmOpen = true) := by decide +kernel

theorem met_mmFragmentRx_4 : let t := 0; let port : Fin 76 := 3; let bytes : List Byte := [1]; let x := sysAt t (on { devState := 1, dict := [(dkey 0x106E 1 0 0, .num 1)], ports := [(3, { linkUp := true, speed := 1000, mmOpen := true })] }); (port.val < 64) ∧ (flag x (pix port.val 0x0E) 1 = true) ∧ (macAccept x port.val = .all) ∧ (fromBalls x port.val = true) := by decide +kernel

theorem met_mmFragmentRx_5 : let t := 0; let port : Fin 76 := 3; let kind : MmKind := .badSmd; let bytes : List Byte := [1]; let x := sysAt t (on { devState := 1, dict := [(dkey 0x106E 1 0 0, .num 1)], ports := [(3, { linkUp := true, speed := 1000, mmOpen := true })] }); (port.val < 64) ∧ (flag x (pix port.val 0x0E) 1 = true) ∧ (macAccept x port.val = .all) ∧ (fromBalls x port.val = true) ∧ (kind = .badSmd ∨ (kind = .first ↔ (Machine.port x port.val).mmOpen = true) ∧ kind ≠ .bad ∧ kind ≠ .verify) := by decide +kernel

theorem met_mmFragmentRx_6 : let t := 0; let port : Fin 76 := 3; let bytes : List Byte := [1]; let x := sysAt t (on { devState := 1, dict := [(dkey 0x106E 1 0 0, .num 1)], ports := [(3, { linkUp := true, speed := 1000, mmOpen := false })] }); (port.val < 64) ∧ (flag x (pix port.val 0x0E) 1 = true) ∧ (macAccept x port.val = .all) ∧ (fromBalls x port.val = true) := by decide +kernel

theorem met_mmFragmentRx_7 : let t := 0; let port : Fin 76 := 3; let kind : MmKind := .first; let bytes : List Byte := [1]; let x := sysAt t (on { devState := 1 }); (64 ≤ port.val ∨ flag x (pix port.val 0x0E) 1 = false ∨ macAccept x port.val ≠ .all ∨ fromBalls x port.val = false) := by decide +kernel

theorem met_recircDraw : let t := 0; let id : Nat := 0; let y : Sys := (recircNext recircSys).1; let x := sysAt t (on recircSys); (x.recircFree ≤ x.now) ∧ (x.devState = 1) ∧ (recircNext x = (y, some id)) ∧ (y.rsRetired.contains (frame y (copy y id).frame).rsGen = false) := by decide +kernel

theorem met_recircDraw_2 : let t := 0; let id : Nat := 0; let y : Sys := (recircNext { recircSys with rsRetired := [0] }).1; let x := sysAt t (on { recircSys with rsRetired := [0] }); (x.recircFree ≤ x.now) ∧ (x.devState = 1) ∧ (recircNext x = (y, some id)) ∧ (y.rsRetired.contains (frame y (copy y id).frame).rsGen = true) := by decide +kernel

theorem met_recircDraw_3 : let t := 0; let y : Sys := (recircNext { devState := 1 }).1; let x := sysAt t (on { devState := 1 }); (x.recircFree ≤ x.now) ∧ (x.devState = 1) ∧ (recircNext x = (y, none)) := by decide +kernel

theorem met_recircDraw_4 : let t := 0; let x := sysAt t (on {}); (x.now < x.recircFree ∨ x.devState ≠ 1) := by decide +kernel

theorem met_pauseRx : let t := 0; let port : Fin 76 := 3; let dst : Nat := 0x0180C2000001; let quanta : Nat := 10; let x := sysAt t (on { devState := 1, ports := [(3, { linkUp := true, speed := 1000 })] }); (fromBalls x port.val = true) ∧ (macAccept x port.val = .all) := by decide +kernel

theorem met_pauseRx_2 : let t := 0; let port : Fin 76 := 72; let dst : Nat := 0x0180C2000001; let quanta : Nat := 10; let x := sysAt t (on bootMac); (fromBalls x port.val = true) ∧ (macAccept x port.val = .boot) := by decide +kernel

theorem met_pauseRx_3 : let t := 0; let port : Fin 76 := 3; let dst : Nat := 0x0180C2000001; let quanta : Nat := 10; let x := sysAt t (on { devState := 3, ports := [(3, { linkUp := true, speed := 1000 })] }); (fromBalls x port.val = true) ∧ (macAccept x port.val = .dormant) := by decide +kernel

theorem met_pauseRx_4 : let t := 0; let port : Fin 76 := 3; let dst : Nat := 0x0180C2000001; let quanta : Nat := 10; let x := sysAt t (on {}); (fromBalls x port.val = false ∨ macAccept x port.val = .deaf) := by decide +kernel

theorem met_pfcRx : let t := 0; let port : Fin 76 := 3; let dst : Nat := 0x0180C2000001; let enables : Nat := 255; let times : List Nat := [1]; let x := sysAt t (on { devState := 1, ports := [(3, { linkUp := true, speed := 1000 })] }); (fromBalls x port.val = true) ∧ (macAccept x port.val = .all) := by decide +kernel

theorem met_pfcRx_2 : let t := 0; let port : Fin 76 := 72; let dst : Nat := 0x0180C2000001; let enables : Nat := 255; let times : List Nat := [1]; let x := sysAt t (on bootMac); (fromBalls x port.val = true) ∧ (macAccept x port.val = .boot) := by decide +kernel

theorem met_pfcRx_3 : let t := 0; let port : Fin 76 := 3; let dst : Nat := 0x0180C2000001; let enables : Nat := 255; let times : List Nat := [1]; let x := sysAt t (on { devState := 3, ports := [(3, { linkUp := true, speed := 1000 })] }); (fromBalls x port.val = true) ∧ (macAccept x port.val = .dormant) := by decide +kernel

theorem met_pfcRx_4 : let t := 0; let port : Fin 76 := 3; let dst : Nat := 0x0180C2000001; let enables : Nat := 255; let times : List Nat := [1]; let x := sysAt t (on {}); (fromBalls x port.val = false ∨ macAccept x port.val = .deaf) := by decide +kernel

theorem met_pauseTimerExpiry : let t := 0; let port : Fin 76 := 3; let tc : Fin 8 := 2; let x := sysAt t (on { now := 9, ports := [(3, { pause := [(2, 7)] })] }); (SMap.get 0 (Machine.port x port.val).pause tc.val ≤ x.now) := by decide +kernel

theorem met_pauseTimerExpiry_2 : let t := 0; let port : Fin 76 := 3; let tc : Fin 8 := 2; let x := sysAt t (on { now := 5, ports := [(3, { pause := [(2, 7)] })] }); (x.now < SMap.get 0 (Machine.port x port.val).pause tc.val) := by decide +kernel

theorem met_fcRefreshExpiry : let t := 0; let port : Fin 76 := 3; let x := sysAt t (on { devState := 1, dict := [(dkey 0x1062 3 0 0, .num 1)], ports := [(3, { linkUp := true, speed := 1000, bp := 1, fcSent := 1 })], now := 10 ^ 12 }); (fcSends x port.val = true ∧ (Machine.port x port.val).fcSent ≠ 0 ∧ (Machine.port x port.val).fcAt + fcRefresh x port.val ≤ x.now) := by decide +kernel

theorem met_fcRefreshExpiry_2 : let t := 0; let port : Fin 76 := 3; let x := sysAt t (on {}); (¬(fcSends x port.val = true ∧ (Machine.port x port.val).fcSent ≠ 0 ∧ (Machine.port x port.val).fcAt + fcRefresh x port.val ≤ x.now)) := by decide +kernel

theorem met_parseClassify : let t := 0; let more : List Byte := []; let ended : Bool := true; let id : Nat := 0; let f : Frame := { ended := true }; let x := sysAt t (on { frames := [(0, some { ended := true })] }); ((headsIn x .numbered).head? = some (id, f)) ∧ (f.ended = true ∨ stagingFull x f more.length = false) := by decide +kernel

theorem met_parseClassify_2 : let t := 0; let more : List Byte := [1, 2]; let ended : Bool := false; let id : Nat := 0; let f : Frame := { port := 3, bytes := List.replicate 524288 0, stage := .numbered }; let x := sysAt t (on (fullStaging (List.replicate 524288 0))); ((headsIn x .numbered).head? = some (id, f)) ∧ (f.ended = false ∧ stagingFull x f more.length = true) := by
  generalize hl : List.replicate 524288 (0 : Byte) = l
  exact fullStaging_parse l (by rw [← hl, List.length_replicate])

theorem met_parseClassify_3 : let t := 0; let more : List Byte := []; let ended : Bool := true; let x := sysAt t (on {}); (headsIn x .numbered = []) := by decide +kernel

theorem met_fragEntryExpiry : let t := 0; let slot : Fin 1024 := 5; let e : FragEntry := { ver := 4, src := 1, dst := 2, ident := 3, proto := 17, vid := 0, sel := {}, h16 := [], l4src := 0, l4dst := 0, used := 0 }; let x := sysAt t (on { now := 1250000000000, frags := [(5, some { ver := 4, src := 1, dst := 2, ident := 3, proto := 17, vid := 0, sel := {}, h16 := [], l4src := 0, l4dst := 0, used := 0 })] }); (SMap.get none x.frags slot.val = some e) ∧ (e.used + obj x 0x3100 2 * Config.ticksPerMs ≤ x.now) := by decide +kernel

theorem met_rulesetLoadDone : let t := 0; let e : Session × Bool := (rsSession, false); let x := atTick t (on rsSys); (((dueTxns x.1 false) ++ (dueTxns x.1 true)).find? (fun e => changesRules x.1 e.1.txn.staged) = some e) := by decide +kernel

theorem met_rulesetForcedRetire : let t := 0; let w : RsWait := { sid := 1, direct := false, accepted := 0, loadEnd := none }; let x := sysAt t (on { now := 1250000, rsWait := some { sid := 1, direct := false, accepted := 0, loadEnd := none } }); (x.rsWait = some w) ∧ (w.loadEnd = none) ∧ (w.accepted + Config.ticksPerMs ≤ x.now) := by decide +kernel

theorem met_stewardInject : let t := 0; let p : Nat := 3; let tc : Nat := 7; let b : List Byte := [1]; let l : List (Nat × Nat × List Byte) := []; let x := sysAt t (on { devState := 1, outbox := [(3, 7, [1])] }); (stewardsRun x = true) ∧ (x.outbox = (p, tc, b) :: l) := by decide +kernel

theorem met_slowProtocolRx : let t := 0; let f : Frame := { stage := .steered, ended := true, bytes := List.replicate 60 0 }; let y : Sys := ((takeSq 2 slowSys).getD ({}, {})).2; let x := sysAt t (on slowSys); (stewardsRun x = true) ∧ (takeSq 2 x = some (f, y)) := by decide +kernel

theorem met_lacpduTx : let t := 0; let port : Fin 76 := 3; let body : List Byte := [1]; let x := sysAt t (on { devState := 1 }); (stewardsRun x = true) ∧ (port.val < 64) := by decide +kernel

theorem met_ptpMessageRx : let t := 0; let f : Frame := { stage := .steered, ended := true, bytes := List.replicate 60 0 }; let y : Sys := ((takeSq 1 slowSys).getD ({}, {})).2; let x := sysAt t (on slowSys); (stewardsRun x = true) ∧ ((x.ptpIn.turn x).count < 30000) ∧ (takeSq 1 x = some (f, y)) := by decide +kernel

theorem met_ptpMessageRx_2 : let t := 0; let x := sysAt t (on {}); (stewardsRun x = false ∨ 30000 ≤ (x.ptpIn.turn x).count ∨ takeSq 1 x = none) := by decide +kernel

theorem met_ptpMessageTx : let t := 0; let b : Fin 4 := 0; let port : Fin 76 := 3; let msgType : Fin 16 := 2; let x := sysAt t (on { devState := 1, dict := [(dkey 0x0900 1 0 0, .num 2), (dkey 0x0910 1 3 0, .num 1)] }); (stewardsRun x = true) ∧ (ptpMaySend x b.val port.val msgType.val = true) ∧ ((x.ptpOut.turn x).count < 30000) := by decide +kernel

theorem met_announceReceiptTimeout : let t := 0; let b : Fin 4 := 0; let port : Fin 76 := 3; let x := sysAt t (on { devState := 1, now := 10000000000, dict := [(dkey 0x0900 1 0 0, .num 2), (dkey 0x0910 1 3 0, .num 1)], ptpPorts := [(3, { state := 4 })] }); (stewardsRun x = true) ∧ (ptpRow x b.val port.val = true) ∧ ((ptpPort x b.val port.val).state ∈ [4, 7, 8, 9]) ∧ ((ptpPort x b.val port.val).announceAt + cell x 0x0910 1 (73 * b.val + port.val) 4 * logTicks (cellI x 0x0910 1 (73 * b.val + port.val) 1) ≤ x.now) := by decide +kernel

theorem met_decide : let t := 0; let d : DecId := .a; let lane : Fin 2 := 1; let id : Nat := 0; let f : Frame := { stage := .parsed, seq := 1 }; let x := sysAt t (on { devState := 1, decA := { st := .leading, started := true }, frames := [(0, some { stage := .parsed, seq := 1 })] }); ((decider x d).running = true) ∧ ((decider x d).started = true) ∧ ((decider x d).waking = none) ∧ ((nextVector (decider x d) lane.val).all (fun e => decide (f.seq ≤ e.1)) = true) ∧ (nextHead x (decider x d) lane.val = some (id, f)) ∧ (f.stage = .parsed) := by decide +kernel

theorem met_decide_2 : let t := 0; let d : DecId := .a; let lane : Fin 2 := 1; let n : Nat := 7; let k : Nat := 50; let x := sysAt t (on { decA := { st := .leading, started := true, vecs := [(7, 50)] } }); ((decider x d).running = true) ∧ ((decider x d).started = true) ∧ ((decider x d).waking = none) ∧ (nextVector (decider x d) lane.val = some (n, k)) ∧ ((nextHead x (decider x d) lane.val).all (fun e => decide (n < e.2.seq)) = true) := by decide +kernel

theorem met_decide_3 : let t := 0; let d : DecId := .a; let lane : Fin 2 := 1; let x := sysAt t (on { decA := { st := .leading, started := true } }); (nextVector (decider x d) lane.val = none) ∧ ((nextHead x (decider x d) lane.val).all (fun e => decide (e.2.stage ≠ .parsed)) = true) := by decide +kernel

theorem met_decide_4 : let t := 0; let d : DecId := .a; let lane : Fin 2 := 1; let id : Nat := 0; let f : Frame := { stage := .numbered, seq := 1 }; let x := sysAt t (on { devState := 1, decA := { st := .leading, started := true }, frames := [(0, some { stage := .numbered, seq := 1 })] }); (nextHead x (decider x d) lane.val = some (id, f)) ∧ (f.stage ≠ .parsed) ∧ ((nextVector (decider x d) lane.val).all (fun e => decide (f.seq ≤ e.1)) = true) := by decide +kernel

theorem met_decide_5 : let t := 0; let d : DecId := .a; let lane : Fin 2 := 1; let x := sysAt t (on {}); ((decider x d).running = false ∨ (decider x d).started = false ∨ (decider x d).waking.isSome = true) := by decide +kernel

theorem met_decisionRecordArrival : let t := 0; let d : DecId := .a; let lane : Fin 2 := 0; let skip : Nat := 0; let altered : Option (List Byte) := none; let i : InFlight := { head := none, bytes := [] }; let rest : List InFlight := []; let x := sysAt t (on { decA := { st := .leading, lane0 := [{ head := none, bytes := [] }] } }); let v := decider x d; let w := v.delivered lane.val rest (((v.inLane lane.val).take skip).any (·.head.isSome)) i; (((decider x d).inLane lane.val).drop skip = i :: rest) ∧ ((decider x d).running = true) := by decide +kernel

theorem met_decisionRecordArrival_2 : let t := 0; let d : DecId := .a; let lane : Fin 2 := 0; let skip : Nat := 0; let altered : Option (List Byte) := none; let i : InFlight := { head := none, bytes := [] }; let rest : List InFlight := []; let x := sysAt t (on { decA := { lane0 := [{ head := none, bytes := [] }] } }); let v := decider x d; let w := v.delivered lane.val rest (((v.inLane lane.val).take skip).any (·.head.isSome)) i; (((decider x d).inLane lane.val).drop skip = i :: rest) ∧ ((decider x d).running = false) := by decide +kernel

theorem met_decisionRecordArrival_3 : let t := 0; let d : DecId := .a; let lane : Fin 2 := 0; let skip : Nat := 1; let altered : Option (List Byte) := none; let x := sysAt t (on {}); (((decider x d).inLane lane.val).drop skip = []) := by decide +kernel

theorem met_comparisonWindowExpiry : let t := 0; let seq : Nat := 1; let id : Nat := 0; let w : Nat := 0; let f : Frame := { stage := .parsed, seq := 1, window := some 0 }; let x := sysAt t (on { now := 500, frames := [(0, some { stage := .parsed, seq := 1, window := some 0 })] }); ((openHeads x).find? (fun e => e.2.seq == seq && e.2.classified.isNone) = some (id, f)) ∧ (f.window = some w) ∧ (w + 490 ≤ x.now) := by decide +kernel

theorem met_comparisonWindowExpiry_2 : let t := 0; let seq : Nat := 1; let id : Nat := 0; let f : Frame := { stage := .parsed, seq := 1, window := some 20 }; let x := sysAt t (on { now := 500, frames := [(0, some { stage := .parsed, seq := 1, window := some 20 })] }); ((openHeads x).find? (fun e => e.2.seq == seq && e.2.classified.isNone) = some (id, f)) ∧ (f.window.all (fun w => decide (x.now < w + 490)) = true) := by decide +kernel

theorem met_comparisonWindowExpiry_3 : let t := 0; let seq : Nat := 1; let x := sysAt t (on {}); ((openHeads x).find? (fun e => e.2.seq == seq && e.2.classified.isNone) = none) := by decide +kernel

theorem met_nullRecordEmit : let t := 0; let d : DecId := .b; let x := sysAt t (on { decB := { st := .leading, started := true } }); ((decider x d).running = true) ∧ ((decider x d).started = true) := by decide +kernel

theorem met_armatureWord : let t := 0; let d : DecId := .b; let altered : Option (BitVec 16) := some 0x1D00; let w : Nat := 0x1D00; let x := sysAt t (on { decB := { st := .leading, started := true } }); ((decider x d).running = true) ∧ ((decider x d).started = true) ∧ ((altered.map (·.toNat)).or (decider x d).wire = some w) ∧ (oddParity 16 w = false ∧ bit w 11 ∧ bit w 10 ∧ bit w 8 ∧ bits w 15 12 = ((decider x d).lastArm + 1) % 16) := by decide +kernel

theorem met_armatureWord_2 : let t := 0; let d : DecId := .b; let altered : Option (BitVec 16) := some 0; let w : Nat := 0; let x := sysAt t (on { decB := { st := .leading, started := true } }); ((decider x d).running = true) ∧ ((decider x d).started = true) ∧ ((altered.map (·.toNat)).or (decider x d).wire = some w) ∧ (¬(oddParity 16 w = false ∧ bit w 11 ∧ bit w 10 ∧ bit w 8 ∧ bits w 15 12 = ((decider x d).lastArm + 1) % 16)) := by decide +kernel

theorem met_armatureWord_3 : let t := 0; let d : DecId := .b; let x := sysAt t (on { decB := { st := .leading, started := true } }); ((decider x d).wire = none) := by decide +kernel

theorem met_heartbeatTimeout : let t := 0; let d : DecId := .b; let x := sysAt t (on { now := 6000, decB := { st := .leading, started := true } }); ((decider x d).running = true) ∧ ((decider x d).started = true) ∧ ((decider x d).hbIn + heartbeatTicks ≤ x.now) := by decide +kernel

theorem met_heartbeatTimeout_2 : let t := 0; let d : DecId := .b; let x := sysAt t (on { now := 6000, decB := { st := .leading, started := true } }); ((decider x d).running = true) ∧ ((decider x d).started = true) ∧ ((decider x d).hbArm + heartbeatTicks ≤ x.now) := by decide +kernel

theorem met_goldenRun : let t := 0; let x := sysAt t (on { decB := { st := .leading, started := true } }); (x.golden = none) ∧ (x.runWanted = false) ∧ (runningDecs x ≠ []) ∧ (recentRuns x = []) := by decide +kernel

theorem met_goldenRun_2 : let t := 0; let x := sysAt t (on {}); (x.golden.isSome = true ∨ x.runWanted = true ∨ (runningDecs x).isEmpty = true ∨ (recentRuns x).isEmpty = false) := by decide +kernel

theorem met_triggeredGoldenRun : let t := 0; let x := sysAt t (on { runWanted := true, decB := { st := .leading, started := true } }); (x.runWanted = true) ∧ (x.golden = none) ∧ (runningDecs x ≠ []) ∧ ((recentRuns x).length < 2) := by decide +kernel

theorem met_goldenVerdict : let t := 0; let start : Nat := 0; let triggered : Bool := true; let x := sysAt t (on { golden := some (0, true), decB := { st := .leading, started := true } }); (x.golden = some (start, triggered)) ∧ (x.decA.vectorsOut = false) ∧ (x.decB.vectorsOut = false) := by decide +kernel

theorem met_goldenVerdict_2 : let t := 0; let x := sysAt t (on { golden := some (0, true), decB := { st := .leading, started := true, inRun := true, vecs := [(7, 50)] } }); (x.decA.vectorsOut = true ∨ x.decB.vectorsOut = true) := by decide +kernel

theorem met_unresolvedEnd : let t := 0; let x := sysAt t (on { now := 1250000000, unresolved := some 0 }); (x.unresolved ≠ none) ∧ (x.lastFault + Config.ticksPerS ≤ x.now) := by decide +kernel

theorem met_unresolvedLatch : let t := 0; let start : Nat := 0; let x := sysAt t (on { now := 1250000000000, unresolved := some 0 }); (x.unresolved = some start) ∧ (x.latch = false) ∧ (start + obj x 0x0500 6 * Config.ticksPerMs ≤ x.now) := by decide +kernel

theorem met_decUnresolvedClear : let t := 0; let sid : Nat := 1; let x := atTick t (on armedSys); (mayStage x.1 sid 0x0500 0x0F (1)) := by unfold mayStage; decide +kernel

theorem met_decReadmit : let t := 0; let sid : Nat := 1; let d : DecId := .b; let x := atTick t (on opSys); (mayCommand x.1 sid 0x0500 8 (dnat d + 1)) ∧ ((decider (commandPoint sid x).1 d).st = .deposed) := by unfold mayCommand; decide +kernel

theorem met_readmitLoadDone : let t := 0; let d : DecId := .b; let shown : List (Fin 96 × List Byte) := [(7, [0])]; let x := sysAt t (on { decB := { st := .loading } }); ((decider x d).st = .loading) := by decide +kernel

theorem met_shadowCleanExpiry : let t := 0; let d : DecId := .a; let x := sysAt t (on { now := 1250000000000000, decA := { st := .shadow } }); ((decider x d).st = .shadow) ∧ ((decider x d).clean + obj x 0x0500 7 * Config.ticksPerS ≤ x.now) := by decide +kernel

theorem met_decRaise : let t := 0; let sid : Nat := 1; let d : DecId := .b; let x := atTick t (on armedSys); (mayStage x.1 sid 0x0500 9 (dnat d + 1)) := by unfold mayStage; decide +kernel

theorem met_skewSweep : let t := 0; let group : Fin 64 := 0; let x := sysAt t (on { devState := 1, decA := { st := .leading }, decB := { st := .following } }); let w : Sweep := if group.val = 0 then {} else x.sweep.getD {}; (stewardsRun x = true) ∧ (x.devState ≠ 0) ∧ ((decider x .a).running = true) ∧ ((decider x .b).running = true) ∧ (traded x < 3) ∧ (w.next = group.val) ∧ (group.val ≠ 63) := by decide +kernel

theorem met_skewSweep_2 : let t := 0; let group : Fin 64 := 63; let x := sysAt t (on { devState := 1, decA := { st := .leading }, decB := { st := .following }, sweep := some { next := 63 } }); let w : Sweep := if group.val = 0 then {} else x.sweep.getD {}; (stewardsRun x = true) ∧ (x.devState ≠ 0) ∧ ((decider x .a).running = true) ∧ ((decider x .b).running = true) ∧ (traded x < 3) ∧ (w.next = group.val) ∧ (group.val = 63) := by decide +kernel

theorem met_skewSweep_3 : let t := 0; let group : Fin 64 := 7; let x := sysAt t (on { devState := 1, decA := { st := .leading }, decB := { st := .following } }); let w : Sweep := if group.val = 0 then {} else x.sweep.getD {}; (stewardsRun x = true) ∧ (x.devState ≠ 0) ∧ ((decider x .a).running = true) ∧ ((decider x .b).running = true) ∧ (traded x < 3) ∧ (w.next ≠ group.val) := by decide +kernel

theorem met_skewSweep_4 : let t := 0; let group : Fin 64 := 7; let x := sysAt t (on { devState := 1, decA := { st := .leading }, decB := { st := .following }, nrg := { plan := { level := 3 } } }); (stewardsRun x = true) ∧ (x.devState ≠ 0) ∧ ((decider x .a).running = true) ∧ ((decider x .b).running = true) ∧ (3 ≤ traded x) := by decide +kernel

theorem met_skewSweep_5 : let t := 0; let group : Fin 64 := 7; let x := sysAt t (on { devState := 1 }); (stewardsRun x = true) ∧ (x.devState ≠ 0) ∧ ((decider x .a).running = false ∨ (decider x .b).running = false) := by decide +kernel

theorem met_learnRequest : let t := 0; let d : DecId := .a; let r : LearnReq := { frame := 0, key := 5, lag := false, peer := false, target := 3, at_ := 0, verdict := some false }; let x := sysAt t (on { decA := { st := .leading, learn := [{ frame := 0, key := 5, lag := false, peer := false, target := 3, at_ := 0, verdict := some false }], emm := [] } }); let v : Decider := { decider x d with learn := (decider x d).learn.erase r }; let taken := (pendingRows x (decider x d)).map (·.2.2.2); (nextLearn x (decider x d) = some r) ∧ (r.verdict = some false) := by decide +kernel

theorem met_learnRequest_2 : let t := 0; let d : DecId := .a; let r : LearnReq := { frame := 0, key := 5, lag := false, peer := false, target := 3, at_ := 0, verdict := some true }; let slot : Nat := 0; let x := sysAt t (on { decA := { st := .leading, learn := [{ frame := 0, key := 5, lag := false, peer := false, target := 3, at_ := 0, verdict := some true }], emm := [] } }); let v : Decider := { decider x d with learn := (decider x d).learn.erase r }; let taken := (pendingRows x (decider x d)).map (·.2.2.2); (nextLearn x (decider x d) = some r) ∧ (r.verdict = some true) ∧ (v.find r.key = none) ∧ (v.freeIn taken false = some slot) := by decide +kernel

theorem met_learnRequest_3 : let t := 0; let d : DecId := .a; let r : LearnReq := { frame := 0, key := 5, lag := false, peer := false, target := 3, at_ := 0, verdict := some true }; let slot : Nat := 0; let x := sysAt t (on { decA := { st := .leading, learn := [{ frame := 0, key := 5, lag := false, peer := false, target := 3, at_ := 0, verdict := some true }], emm := [], gated := 255 } }); let v : Decider := { decider x d with learn := (decider x d).learn.erase r }; let taken := (pendingRows x (decider x d)).map (·.2.2.2); (nextLearn x (decider x d) = some r) ∧ (r.verdict = some true) ∧ (v.find r.key = none) ∧ (v.freeIn taken false = none) ∧ (v.freeIn taken true = some slot) := by decide +kernel

theorem met_learnRequest_4 : let t := 0; let d : DecId := .a; let r : LearnReq := { frame := 0, key := 5, lag := false, peer := false, target := 3, at_ := 0, verdict := some true }; let slot : Nat := 9; let e : Emm := { key := 5, target := 3 }; let x := sysAt t (on { decA := { st := .leading, learn := [{ frame := 0, key := 5, lag := false, peer := false, target := 3, at_ := 0, verdict := some true }], emm := [(9, some { key := 5, target := 3 })] } }); let v : Decider := { decider x d with learn := (decider x d).learn.erase r }; let taken := (pendingRows x (decider x d)).map (·.2.2.2); (nextLearn x (decider x d) = some r) ∧ (r.verdict = some true) ∧ (v.find r.key = some (slot, e)) ∧ (e.kind = boolNat r.lag ∧ e.peer = r.peer ∧ e.target = r.target) := by decide +kernel

theorem met_learnRequest_5 : let t := 0; let d : DecId := .a; let r : LearnReq := { frame := 0, key := 5, lag := false, peer := false, target := 3, at_ := 0, verdict := some true }; let slot : Nat := 9; let e : Emm := { key := 5, target := 4, kind := 0, isStatic := true }; let x := sysAt t (on { decA := { st := .leading, learn := [{ frame := 0, key := 5, lag := false, peer := false, target := 3, at_ := 0, verdict := some true }], emm := [(9, some { key := 5, target := 4, kind := 0, isStatic := true })] } }); let v : Decider := { decider x d with learn := (decider x d).learn.erase r }; let taken := (pendingRows x (decider x d)).map (·.2.2.2); (nextLearn x (decider x d) = some r) ∧ (r.verdict = some true) ∧ (v.find r.key = some (slot, e)) ∧ (¬(e.kind = boolNat r.lag ∧ e.peer = r.peer ∧ e.target = r.target)) ∧ (e.isStatic = true) := by decide +kernel

theorem met_learnRequest_6 : let t := 0; let d : DecId := .a; let r : LearnReq := { frame := 0, key := 5, lag := false, peer := false, target := 3, at_ := 0, verdict := some true }; let slot : Nat := 9; let e : Emm := { key := 5, target := 4, flapping := true }; let x := sysAt t (on { decA := { st := .leading, learn := [{ frame := 0, key := 5, lag := false, peer := false, target := 3, at_ := 0, verdict := some true }], emm := [(9, some { key := 5, target := 4, flapping := true })] } }); let v : Decider := { decider x d with learn := (decider x d).learn.erase r }; let taken := (pendingRows x (decider x d)).map (·.2.2.2); (nextLearn x (decider x d) = some r) ∧ (r.verdict = some true) ∧ (v.find r.key = some (slot, e)) ∧ (¬(e.kind = boolNat r.lag ∧ e.peer = r.peer ∧ e.target = r.target)) ∧ (e.isStatic = false) ∧ (e.flapping = true) := by decide +kernel

theorem met_learnRequest_7 : let t := 0; let d : DecId := .a; let r : LearnReq := { frame := 0, key := 5, lag := false, peer := false, target := 3, at_ := 0, verdict := some true }; let slot : Nat := 9; let e : Emm := { key := 5, target := 4 }; let x := sysAt t (on { now := 1250000000000, decA := { st := .leading, learn := [{ frame := 0, key := 5, lag := false, peer := false, target := 3, at_ := 0, verdict := some true }], emm := [(9, some { key := 5, target := 4 })] } }); let v : Decider := { decider x d with learn := (decider x d).learn.erase r }; let taken := (pendingRows x (decider x d)).map (·.2.2.2); (nextLearn x (decider x d) = some r) ∧ (r.verdict = some true) ∧ (v.find r.key = some (slot, e)) ∧ (e.isStatic = false ∧ e.flapping = false) ∧ (¬(e.kind = boolNat r.lag ∧ e.peer = r.peer ∧ e.target = r.target)) ∧ (e.born + obj x 0x4000 1 * Config.ticksPerMs ≤ x.now) ∧ (e.moves.length < 8) := by decide +kernel

theorem met_flapHoldExpiry : let t := 0; let d : DecId := .a; let slot : Nat := 9; let e : Emm := { key := 5, flapping := true }; let x := sysAt t (on { now := 1250000000000000, decA := { emm := [(9, some { key := 5, flapping := true })] } }); (SMap.get none (decider x d).emm slot = some e) ∧ (e.flapping = true) ∧ (obj x 0x4000 3 ≠ 0) ∧ (e.frozen + obj x 0x4000 3 * Config.ticksPerS ≤ x.now) := by decide +kernel

theorem met_ageingSweep : let t := 0; let x := sysAt t (on { devState := 1 }); (obj x 0x4000 2 ≠ 0) := by decide +kernel

theorem met_emmFlushSource : let t := 0; let sid : Nat := 1; let lag : Bool := true; let peer : Bool := false; let target : Nat := 3; let x := atTick t (on opSys); (mayCommand x.1 sid 0x4003 1 (flushWord 1 lag peer target 0)) ∧ ((commandPoint sid x).1.flush = none) := by unfold mayCommand; decide +kernel

theorem met_emmFlushVid : let t := 0; let sid : Nat := 1; let vid : Nat := 5; let x := atTick t (on opSys); (mayCommand x.1 sid 0x4003 1 (flushWord 2 false false 0 vid)) ∧ ((commandPoint sid x).1.flush = none) := by unfold mayCommand; decide +kernel

theorem met_emmFlushSourceVid : let t := 0; let sid : Nat := 1; let lag : Bool := true; let peer : Bool := false; let target : Nat := 3; let vid : Nat := 5; let x := atTick t (on opSys); (mayCommand x.1 sid 0x4003 1 (flushWord 3 lag peer target vid)) ∧ ((commandPoint sid x).1.flush = none) := by unfold mayCommand; decide +kernel

theorem met_emmFlushAll : let t := 0; let sid : Nat := 1; let x := atTick t (on opSys); (mayCommand x.1 sid 0x4003 1 (flushWord 4 false false 0 0)) ∧ ((commandPoint sid x).1.flush = none) := by unfold mayCommand; decide +kernel

theorem met_emmFlushEntry : let t := 0; let sid : Nat := 1; let x := atTick t (on opSys); (mayCommand x.1 sid 0x4003 1 (flushWord 5 false false 0 0)) ∧ ((commandPoint sid x).1.flush = none) := by unfold mayCommand; decide +kernel

theorem met_emmFlushDone : let t := 0; let u : Flush := { start := 0, word := 0x20000005, keys := [5] }; let x := sysAt t (on { flush := some { start := 0, word := 0x20000005, keys := [5] } }); (x.flush = some u) := by decide +kernel

theorem met_emmFind : let t := 0; let sid : Nat := 1; let row : Fin 16 := 0; let key : Nat := 5; let which : Fin 3 := 1; let x := atTick t (on opSys); let p : SysMem := onSys plinthFirst (onSys (fun s => touchTxn sid (findEntries sid row.val [.num (key : Nat), .num (which.val : Nat), .num 0, .num 0, .num 0] [0, 0, 5, 5, 5] (findFill sid row.val (key) which.val s))) x); (mayWrite x.1 sid 0x4002 = true) ∧ ((session? x.1 sid).any (fun v => v.row == row.val) = true) ∧ (inTxn x.1 sid = false) ∧ (key / 2 ^ 60 ≤ 3) := by decide +kernel

theorem met_emmFind_2 : let t := 0; let sid : Nat := 1; let row : Fin 16 := 0; let key : Nat := 5; let which : Fin 3 := 1; let x := atTick t (on armedSys); (mayWrite x.1 sid 0x4002 = true) ∧ ((session? x.1 sid).any (fun v => v.row == row.val) = true) ∧ (inTxn x.1 sid = true) ∧ (key / 2 ^ 60 ≤ 3) := by decide +kernel

theorem met_emmFind_3 : let t := 0; let sid : Nat := 1; let row : Fin 16 := 0; let key : Nat := 0x4000000000000000; let which : Fin 3 := 1; let x := atTick t (on armedSys); (mayWrite x.1 sid 0x4002 = true) ∧ ((session? x.1 sid).any (fun v => v.row == row.val) = true) ∧ (inTxn x.1 sid = true) ∧ (3 < key / 2 ^ 60) := by decide +kernel

theorem met_emmFind_4 : let t := 0; let sid : Nat := 1; let row : Fin 16 := 3; let key : Nat := 5; let which : Fin 3 := 1; let x := atTick t (on opSys); (mayWrite x.1 sid 0x4002 = true) ∧ ((session? x.1 sid).any (fun v => v.row == row.val) = false) := by decide +kernel

theorem met_cellArrival : let t := 0; let src : Fin 9 := 0; let dst : Fin 9 := 0; let tc : Fin 8 := 0; let altered : Option (List Byte) := some ([0, 0, 0, 0, 0, 0, 0, 0, 0, 0, 0, 0, 0, 0, 0] ++ [crc8 (List.replicate 15 0)].map (BitVec.ofNat 8)); let cell_ : XCell := { header := [], slots := [], parts := [] }; let rest : List XCell := []; let x := sysAt t (on { xcells := [(xkey 0 0 0, [{ header := [], slots := [], parts := [] }])] }); (SMap.get [] x.xcells (xkey src.val dst.val tc.val) = cell_ :: rest) ∧ (crc8 ((padRight 16 (altered.getD cell_.header)).take 15) = byteAt (padRight 16 (altered.getD cell_.header)) 15) ∧ (field (padRight 16 (altered.getD cell_.header)) 4 2 = SMap.get 0 x.xrx (xkey src.val dst.val tc.val)) := by decide +kernel

theorem met_cellArrival_2 : let t := 0; let src : Fin 9 := 0; let dst : Fin 9 := 0; let tc : Fin 8 := 0; let altered : Option (List Byte) := some (List.replicate 15 0 ++ [255]); let cell_ : XCell := { header := [], slots := [], parts := [] }; let rest : List XCell := []; let x := sysAt t (on { xcells := [(xkey 0 0 0, [{ header := [], slots := [], parts := [] }])] }); (SMap.get [] x.xcells (xkey src.val dst.val tc.val) = cell_ :: rest) ∧ (¬(crc8 ((padRight 16 (altered.getD cell_.header)).take 15) = byteAt (padRight 16 (altered.getD cell_.header)) 15 ∧ field (padRight 16 (altered.getD cell_.header)) 4 2 = SMap.get 0 x.xrx (xkey src.val dst.val tc.val))) := by decide +kernel

theorem met_cellArrival_3 : let t := 0; let src : Fin 9 := 0; let dst : Fin 9 := 0; let tc : Fin 8 := 0; let altered : Option (List Byte) := none; let x := sysAt t (on {}); (SMap.get [] x.xcells (xkey src.val dst.val tc.val) = []) := by decide +kernel

theorem met_copyEnqueue : let t := 0; let copy : Nat := 0; let x := sysAt t (on { devState := 1, bootSilent := false, ports := [(3, { linkUp := true, speed := 1000 })], copies := [(0, some { port := 3 })], dict := [(dkey 0x2030 1 0 0, .num 1)] }); (hasCopy x copy = true) ∧ ((Machine.copy x copy).st = .crossing) ∧ (silenced x (txPort x (Machine.copy x copy).port) (protects x (Machine.copy x copy).sel.tc) (match (Machine.copy x copy).kind with | .steward g => g | _ => false) = false ∨ (Machine.copy x copy).port = 74 ∨ (Machine.copy x copy).port = 75) ∧ ((Machine.copy x copy).port = 74 → traded x < 2) ∧ (admin x (Machine.copy x copy).port = true) ∧ (portTakes x (Machine.copy x copy).port = true) := by decide +kernel

theorem met_copyEnqueue_2 : let t := 0; let copy : Nat := 0; let x := sysAt t (on { devState := 1, bootSilent := false, copies := [(0, some { port := 3 })] }); (hasCopy x copy = true) ∧ ((Machine.copy x copy).st = .crossing) ∧ (silenced x (txPort x (Machine.copy x copy).port) (protects x (Machine.copy x copy).sel.tc) (match (Machine.copy x copy).kind with | .steward g => g | _ => false) = false ∨ (Machine.copy x copy).port = 74 ∨ (Machine.copy x copy).port = 75) ∧ ((Machine.copy x copy).port = 74 → traded x < 2) ∧ (admin x (Machine.copy x copy).port = false ∨ portTakes x (Machine.copy x copy).port = false) := by decide +kernel

theorem met_copyEnqueue_3 : let t := 0; let copy : Nat := 0; let x := sysAt t (on { devState := 1, bootSilent := true, copies := [(0, some { port := 3 })] }); (hasCopy x copy = true) ∧ ((Machine.copy x copy).st = .crossing) ∧ (silenced x (txPort x (Machine.copy x copy).port) (protects x (Machine.copy x copy).sel.tc) (match (Machine.copy x copy).kind with | .steward g => g | _ => false) = true) ∧ ((Machine.copy x copy).port ≠ 74 ∧ (Machine.copy x copy).port ≠ 75) := by decide +kernel

theorem met_copyEnqueue_4 : let t := 0; let copy : Nat := 0; let x := sysAt t (on { devState := 1, copies := [(0, some { port := 74 })], nrg := { plan := { level := 3 } } }); (hasCopy x copy = true) ∧ ((Machine.copy x copy).st = .crossing) ∧ ((Machine.copy x copy).port = 74) ∧ (2 ≤ traded x) := by decide +kernel

theorem met_copyEnqueue_5 : let t := 0; let copy : Nat := 0; let x := sysAt t (on { copies := [(0, some { port := 3, st := .queued })] }); ((Machine.copy x copy).st ≠ .crossing) := by decide +kernel

theorem met_deepWriteDone : let t := 0; let copy : Nat := 0; let k : Nat := 0; let b : Nat := 7; let x := sysAt t (on { copies := [(0, some { port := 3, buffer := some (0, 7) })] }); ((Machine.copy x copy).buffer = some (k, b)) ∧ ((Machine.copy x copy).written = false) ∧ (¬((Machine.frame x (Machine.copy x copy).frame).bad = true ∧ (Machine.copy x copy).body.isNone = true ∧ (Machine.copy x copy).isRecorder = false)) := by decide +kernel

theorem met_deepWriteDone_2 : let t := 0; let copy : Nat := 0; let k : Nat := 0; let b : Nat := 7; let x := sysAt t (on { frames := [(0, some { bad := true })], copies := [(0, some { port := 3, buffer := some (0, 7) })] }); ((Machine.copy x copy).buffer = some (k, b)) ∧ ((Machine.copy x copy).written = false) ∧ ((Machine.frame x (Machine.copy x copy).frame).bad = true ∧ (Machine.copy x copy).body.isNone = true ∧ (Machine.copy x copy).isRecorder = false) := by decide +kernel

theorem met_deepWriteDone_3 : let t := 0; let copy : Nat := 0; let x := sysAt t (on {}); ((Machine.copy x copy).buffer = none ∨ (Machine.copy x copy).written = true) := by decide +kernel

theorem met_bufferFree : let t := 0; let pool : Fin 3 := 0; let buffer : Nat := 7; let agent : Fin 16 := 3; let x := sysAt t (on { pool0 := { buffers := 100 } }); let y := scanNow pool.val x; let p := Machine.pool y pool.val; let own := if agent.val = 9 then 0xB else 1 + agent.val; (p.buffers ≤ buffer ∨ SMap.get 0 p.owner buffer ≠ own) := by decide +kernel

theorem met_bufferFree_2 : let t := 0; let pool : Fin 3 := 0; let buffer : Nat := 7; let agent : Fin 16 := 3; let x := sysAt t (on { pool0 := { buffers := 100, owner := [(7, 4)] } }); let y := scanNow pool.val x; let p := Machine.pool y pool.val; let own := if agent.val = 9 then 0xB else 1 + agent.val; (buffer < p.buffers) ∧ (SMap.get 0 p.owner buffer = own) := by decide +kernel

theorem met_poolRebuildCmd : let t := 0; let sid : Nat := 1; let pool : Fin 3 := 2; let x := atTick t (on opSys); (mayCommand x.1 sid 0x0680 4 (pool.val + 1)) := by unfold mayCommand; decide +kernel

theorem met_poolRebuildDone : let t := 0; let pool : Fin 3 := 1; let start : Nat := 5; let x := sysAt t (on { pool1 := { rebuild := some 5 } }); ((Machine.pool x pool.val).rebuild = some start) := by decide +kernel

theorem met_schedulerSelect : let t := 0; let port : Fin 76 := 3; let id : Nat := 0; let y : Sys := (select 3 (fun _ => true) (pruneAll 3 txSys)).1; let x := sysAt t (on txSys); (port.val < 73) ∧ (admin x port.val = true) ∧ ((Machine.port x port.val).linkUp = true) ∧ ((Machine.port x port.val).tx = none) ∧ ((Machine.port x port.val).free ≤ (pruneAll port.val x).now) ∧ ((Machine.port x port.val).lpiTx = false) ∧ (mediumBusy (pruneAll port.val x) port.val = false) ∧ (bit (fullSilent (pruneAll port.val x)) port.val = true ∨ (Machine.port x port.val).macCtl = []) ∧ ((Machine.port x port.val).retry = none) ∧ ((Machine.port x port.val).suspended = none) ∧ (select port.val (fun _ => true) (pruneAll port.val x) = (y, some id)) := by decide +kernel

theorem met_schedulerSelect_2 : let t := 0; let port : Fin 76 := 3; let b : List Byte := List.replicate 60 0; let rest : List (List Byte) := []; let x := sysAt t (on { devState := 1, bootSilent := false, ports := [(3, { linkUp := true, speed := 1000, macCtl := [List.replicate 60 0] })] }); (port.val < 73) ∧ (admin x port.val = true) ∧ ((Machine.port x port.val).linkUp = true) ∧ ((Machine.port x port.val).tx = none) ∧ ((Machine.port x port.val).free ≤ (pruneAll port.val x).now) ∧ ((Machine.port x port.val).lpiTx = false) ∧ (mediumBusy (pruneAll port.val x) port.val = false) ∧ (bit (fullSilent (pruneAll port.val x)) port.val = false) ∧ ((Machine.port x port.val).macCtl = b :: rest) := by decide +kernel

theorem met_cutThroughUnderrun : let t := 0; let port : Fin 76 := 3; let id : Nat := 0; let x := sysAt t (on { ports := [(3, { tx := some 0 })], copies := [(0, some { frame := 0, port := 3, xing := 1, st := .sending })], frames := [(0, some {})], xings := [(1, some {})] }); ((Machine.port x port.val).tx = some id) ∧ ((copy x id).st = .sending) ∧ ((copy x id).path = .cut) ∧ (inTile x (copy x id) = false) ∧ ((copy x id).stomped = false) := by decide +kernel

theorem met_frameTxEnd : let t := 0; let port : Fin 76 := 3; let id : Nat := 0; let x := sysAt t (on { now := 5000, ports := [(3, { linkUp := true, speed := 1000, tx := some 0 })], copies := [(0, some { frame := 0, port := 3, st := .sending, body := some [] })] }); ((Machine.port x port.val).tx = some id) ∧ ((copy x id).st = .sending) ∧ ((copy x id).stomped = true ∨ copyWhole x (copy x id) = true ∧ (copy x id).start + bitTicks (8 * (wireLen x (copy x id) - (copy x id).sent + 8)) (linkSpeed x port.val) ≤ x.now) := by decide +kernel

theorem met_expressLatencyFloor : let t := 0; let copy : Nat := 0; let x := sysAt t (on { devState := 1, bootSilent := false, now := 5000, ports := [(3, { tx := some 0, linkUp := true, speed := 1000 })], copies := [(0, some { port := 3, queue := 24, st := .held, path := .express, body := some [], kind := .steward false })], frames := [(0, some {})] }); let c := Machine.copy x copy; let port := txPort x c.port; let tc := queueTc x c.queue; (hasCopy x copy = true) ∧ (c.st = .held) ∧ (c.path ≠ .deep) ∧ ((Machine.port x port).tx = some copy) ∧ (floorAt x c * linkSpeed x port ≤ x.now * linkSpeed x port + 64 * 1250) ∧ (startDrop x c = none) ∧ (classOpen x port tc = true ∧ fits x port tc c = true) := by decide +kernel

theorem met_expressLatencyFloor_2 : let t := 0; let copy : Nat := 0; let x := sysAt t (on { devState := 1, bootSilent := false, now := 5000, ports := [(3, { tx := some 0, linkUp := true, speed := 1000, pause := [(0, 900000)] })], copies := [(0, some { port := 3, queue := 24, st := .held, path := .express, body := some [], kind := .steward false })], frames := [(0, some {})] }); let c := Machine.copy x copy; let port := txPort x c.port; let tc := queueTc x c.queue; (hasCopy x copy = true) ∧ (c.st = .held) ∧ (c.path ≠ .deep) ∧ ((Machine.port x port).tx = some copy) ∧ (floorAt x c * linkSpeed x port ≤ x.now * linkSpeed x port + 64 * 1250) ∧ (startDrop x c = none) ∧ (¬(classOpen x port tc = true ∧ fits x port tc c = true)) := by decide +kernel

theorem met_expressLatencyFloor_3 : let t := 0; let copy : Nat := 0; let ctr : Nat := Ctr.fabBadTailDrop 3; let x := sysAt t (on { devState := 1, bootSilent := false, now := 5000, ports := [(3, { tx := some 0, linkUp := true, speed := 1000 })], copies := [(0, some { port := 3, queue := 24, st := .held, path := .express, kind := .steward false })], frames := [(0, some { bad := true })] }); let c := Machine.copy x copy; let port := txPort x c.port; let tc := queueTc x c.queue; (hasCopy x copy = true) ∧ (c.st = .held) ∧ (c.path ≠ .deep) ∧ ((Machine.port x port).tx = some copy) ∧ (floorAt x c * linkSpeed x port ≤ x.now * linkSpeed x port + 64 * 1250) ∧ (startDrop x c = some ctr) := by decide +kernel

theorem met_expressLatencyFloor_4 : let t := 0; let copy : Nat := 0; let x := sysAt t (on {}); let c := Machine.copy x copy; let port := txPort x c.port; let tc := queueTc x c.queue; (c.st ≠ .held ∨ x.now * linkSpeed x port + 64 * 1250 < floorAt x c * linkSpeed x port) := by decide +kernel

theorem met_deepLatencyFloor : let t := 0; let copy : Nat := 0; let x := sysAt t (on { devState := 1, bootSilent := false, now := 5000, ports := [(3, { tx := some 0, linkUp := true, speed := 1000 })], copies := [(0, some { port := 3, queue := 24, st := .held, path := .deep, body := some [], kind := .steward false })], frames := [(0, some {})] }); let c := Machine.copy x copy; let port := txPort x c.port; let tc := queueTc x c.queue; (hasCopy x copy = true) ∧ (c.st = .held) ∧ (c.path = .deep) ∧ ((Machine.port x port).tx = some copy) ∧ (floorAt x c * linkSpeed x port ≤ x.now * linkSpeed x port + 64 * 1250) ∧ (startDrop x c = none) ∧ (classOpen x port tc = true ∧ fits x port tc c = true) := by decide +kernel

theorem met_deepLatencyFloor_2 : let t := 0; let copy : Nat := 0; let x := sysAt t (on { devState := 1, bootSilent := false, now := 5000, ports := [(3, { tx := some 0, linkUp := true, speed := 1000, pause := [(0, 900000)] })], copies := [(0, some { port := 3, queue := 24, st := .held, path := .deep, body := some [], kind := .steward false })], frames := [(0, some {})] }); let c := Machine.copy x copy; let port := txPort x c.port; let tc := queueTc x c.queue; (hasCopy x copy = true) ∧ (c.st = .held) ∧ (c.path = .deep) ∧ ((Machine.port x port).tx = some copy) ∧ (floorAt x c * linkSpeed x port ≤ x.now * linkSpeed x port + 64 * 1250) ∧ (startDrop x c = none) ∧ (¬(classOpen x port tc = true ∧ fits x port tc c = true)) := by decide +kernel

theorem met_deepLatencyFloor_3 : let t := 0; let copy : Nat := 0; let ctr : Nat := Ctr.fabBadTailDrop 3; let x := sysAt t (on { devState := 1, bootSilent := false, now := 5000, ports := [(3, { tx := some 0, linkUp := true, speed := 1000 })], copies := [(0, some { port := 3, queue := 24, st := .held, path := .deep, kind := .steward false })], frames := [(0, some { bad := true })] }); let c := Machine.copy x copy; let port := txPort x c.port; let tc := queueTc x c.queue; (hasCopy x copy = true) ∧ (c.st = .held) ∧ (c.path = .deep) ∧ ((Machine.port x port).tx = some copy) ∧ (floorAt x c * linkSpeed x port ≤ x.now * linkSpeed x port + 64 * 1250) ∧ (startDrop x c = some ctr) := by decide +kernel

theorem met_deepLatencyFloor_4 : let t := 0; let copy : Nat := 0; let x := sysAt t (on {}); let c := Machine.copy x copy; let port := txPort x c.port; let tc := queueTc x c.queue; (c.st ≠ .held ∨ x.now * linkSpeed x port + 64 * 1250 < floorAt x c * linkSpeed x port) := by decide +kernel

theorem met_gateChangeTime : let t := 0; let port : Fin 76 := 3; let c : GateCfg := { start := 0 }; let x := sysAt t (on { ports := [(3, { gate := { pend := some { start := 0 } } })], dict := [(dkey (glIx 3) 2 0 0, .num 4)] }); ((Machine.port x port.val).gate.pend = some c) ∧ (c.start ≤ clock x (obj x (glIx port.val) 2)) ∧ (baseRuns x (obj x (glIx port.val) 2) = true) ∧ (isKng x port.val = false) := by decide +kernel

theorem met_gateEvent : let t := 0; let port : Fin 76 := 3; let x := sysAt t (on { dict := [(dkey (glIx 3) 1 0 0, .num 1), (dkey (glIx 3) 2 0 0, .num 4)] }); (port.val < 73) ∧ (isKng x port.val = false) ∧ (flag x (glIx port.val) 1 = true) ∧ (baseRuns x (obj x (glIx port.val) 2) = true) := by decide +kernel

theorem met_preemptHoldAssert : let t := 0; let port : Fin 76 := 3; let x := sysAt t (on holdSys); (port.val < 64) ∧ (preemptActive x port.val = true) ∧ ((Machine.port x port.val).hold = false) ∧ (flag x (glIx port.val) 1 = true) ∧ (holdDue x port.val = true) := by decide +kernel

theorem met_preemptVerifyTx : let t := 0; let port : Fin 76 := 3; let x := sysAt t (on { now := 1250000000, dict := [(dkey (pix 3 0x0E) 1 0 0, .num 1), (dkey (pix 3 0x0E) 3 0 0, .num 1)], ports := [(3, { linkUp := true, verify := 2, verifies := 1 })] }); (port.val < 64) ∧ (flag x (pix port.val 0x0E) 1 = true) ∧ (flag x (pix port.val 0x0E) 3 = true) ∧ ((Machine.port x port.val).linkUp = true) ∧ ((Machine.port x port.val).verify = 1 ∨ (Machine.port x port.val).verify = 2) ∧ ((Machine.port x port.val).verifyAt + obj x (pix port.val 0x0E) 4 * Config.ticksPerMs ≤ x.now) ∧ ((Machine.port x port.val).verifies < 3) := by decide +kernel

theorem met_preemptVerifyTx_2 : let t := 0; let port : Fin 76 := 3; let x := sysAt t (on { now := 1250000000, dict := [(dkey (pix 3 0x0E) 1 0 0, .num 1), (dkey (pix 3 0x0E) 3 0 0, .num 1)], ports := [(3, { linkUp := true, verify := 2, verifies := 3 })] }); (port.val < 64) ∧ (flag x (pix port.val 0x0E) 1 = true) ∧ (flag x (pix port.val 0x0E) 3 = true) ∧ ((Machine.port x port.val).linkUp = true) ∧ ((Machine.port x port.val).verify = 1 ∨ (Machine.port x port.val).verify = 2) ∧ ((Machine.port x port.val).verifyAt + obj x (pix port.val 0x0E) 4 * Config.ticksPerMs ≤ x.now) ∧ (3 ≤ (Machine.port x port.val).verifies) := by decide +kernel

theorem met_preemptVerifyResponse : let t := 0; let port : Fin 76 := 3; let x := sysAt t (on { now := 1250000000, dict := [(dkey (pix 3 0x0E) 1 0 0, .num 1), (dkey (pix 3 0x0E) 3 0 0, .num 1)], ports := [(3, { linkUp := true, verify := 2, verifies := 1 })] }); (port.val ≤ 63) ∧ ((Machine.port x port.val).verify = 2) := by decide +kernel

theorem met_streamGateEvent : let t := 0; let gate : Fin 1024 := 3; let x := sysAt t (on { dict := [(dkey 0x6100 1 3 0, .num 1)], streamGates := [(3, { state := 2 })] }); (cellB x 0x6100 1 gate.val 0 = true) ∧ (2 ≤ (streamGate x gate.val).state) := by decide +kernel

theorem met_sessionClose : let t := 0; let f : Option GFrame := some (reqFrame 3 []); let g : Taken := { f := reqFrame 3 [], view := gmpState.sys, at_ := 0 }; let y : SysMem := (gmpState.sys, []); let v : Session := gmpSession; let x := atTick t (gmpState); (reaches f (fun g => g.opcode == 3) x g y) ∧ (ofSession y.1 v g.f) ∧ (newRequest v g.f) := by unfold reaches ofSession newRequest; decide +kernel

theorem met_keepalive : let t := 0; let f : Option GFrame := some (reqFrame 4 []); let g : Taken := { f := reqFrame 4 [], view := gmpState.sys, at_ := 0 }; let y : SysMem := (gmpState.sys, []); let v : Session := gmpSession; let x := atTick t (gmpState); (reaches f (fun g => g.opcode == 4) x g y) ∧ (ofSession y.1 v g.f) ∧ (newRequest v g.f) := by unfold reaches ofSession newRequest; decide +kernel

theorem met_read : let t := 0; let f : Option GFrame := some (reqFrame 0x10 []); let g : Taken := { f := reqFrame 0x10 [], view := gmpState.sys, at_ := 0 }; let y : SysMem := (gmpState.sys, []); let v : Session := gmpSession; let x := atTick t (gmpState); (reaches f (fun g => g.opcode == 0x10) x g y) ∧ (ofSession y.1 v g.f) ∧ (newRequest v g.f) := by unfold reaches ofSession newRequest; decide +kernel

theorem met_write : let t := 0; let f : Option GFrame := some (reqFrame 0x11 []); let g : Taken := { f := reqFrame 0x11 [], view := gmpState.sys, at_ := 0 }; let y : SysMem := (gmpState.sys, []); let v : Session := gmpSession; let x := atTick t (gmpState); (reaches f (fun g => g.opcode == 0x11) x g y) ∧ (ofSession y.1 v g.f) ∧ (newRequest v g.f) := by unfold reaches ofSession newRequest; decide +kernel

theorem met_readRows : let t := 0; let f : Option GFrame := some (reqFrame 0x12 []); let g : Taken := { f := reqFrame 0x12 [], view := gmpState.sys, at_ := 0 }; let y : SysMem := (gmpState.sys, []); let v : Session := gmpSession; let x := atTick t (gmpState); (reaches f (fun g => g.opcode == 0x12) x g y) ∧ (ofSession y.1 v g.f) ∧ (newRequest v g.f) := by unfold reaches ofSession newRequest; decide +kernel

theorem met_writeRows : let t := 0; let f : Option GFrame := some (reqFrame 0x13 []); let g : Taken := { f := reqFrame 0x13 [], view := gmpState.sys, at_ := 0 }; let y : SysMem := (gmpState.sys, []); let v : Session := gmpSession; let x := atTick t (gmpState); (reaches f (fun g => g.opcode == 0x13) x g y) ∧ (ofSession y.1 v g.f) ∧ (newRequest v g.f) := by unfold reaches ofSession newRequest; decide +kernel

theorem met_readSegment : let t := 0; let f : Option GFrame := some (reqFrame 0x14 []); let g : Taken := { f := reqFrame 0x14 [], view := gmpState.sys, at_ := 0 }; let y : SysMem := (gmpState.sys, []); let v : Session := gmpSession; let x := atTick t (gmpState); (reaches f (fun g => g.opcode == 0x14) x g y) ∧ (ofSession y.1 v g.f) ∧ (newRequest v g.f) := by unfold reaches ofSession newRequest; decide +kernel

theorem met_writeSegment : let t := 0; let f : Option GFrame := some (reqFrame 0x15 []); let g : Taken := { f := reqFrame 0x15 [], view := gmpState.sys, at_ := 0 }; let y : SysMem := (gmpState.sys, []); let v : Session := gmpSession; let x := atTick t (gmpState); (reaches f (fun g => g.opcode == 0x15) x g y) ∧ (ofSession y.1 v g.f) ∧ (newRequest v g.f) := by unfold reaches ofSession newRequest; decide +kernel

theorem met_unknownOpcode : let t := 0; let f : Option GFrame := some (reqFrame 0x50 []); let g : Taken := { f := reqFrame 0x50 [], view := gmpState.sys, at_ := 0 }; let y : SysMem := (gmpState.sys, []); let v : Session := gmpSession; let x := atTick t (gmpState); (reaches f (fun g => !knownOpcode g.opcode) x g y) ∧ (ofSession y.1 v g.f) ∧ (newRequest v g.f) := by unfold reaches ofSession newRequest; decide +kernel

theorem met_discover : let t := 0; let f : Option GFrame := some (reqFrame 1 [0]); let delay : Nat := 7; let g : Taken := { f := reqFrame 1 [0], view := gmpState.sys, at_ := 0 }; let y : SysMem := (gmpState.sys, []); let x := atTick t (gmpState); (reaches f (fun g => g.opcode == 1) x g y) ∧ (gfPayload g.f ≠ [] ∧ (gfPayload g.f).length = 1 + byteAt (gfPayload g.f) 0) ∧ (byteAt (gfPayload g.f) 0 = 0 ∨ (gfPayload g.f).drop 1 = Config.serial) := by unfold reaches; decide +kernel

theorem met_sessionOpen : let t := 0; let f : Option GFrame := some (reqFrame 2 (255 :: List.replicate 21 0)); let nonceD : List Byte := []; let g : Taken := { f := reqFrame 2 (255 :: List.replicate 21 0), view := gmpState.sys, at_ := 0 }; let y : SysMem := (gmpState.sys, []); let x := atTick t (gmpState); (reaches f (fun g => g.opcode == 2) x g y) ∧ (keysPending y.1 = false) ∧ ((gfPayload g.f).length = 22 ∧ byteAt (gfPayload g.f) 0 = 0xFF) ∧ (gfTagged g.f = false ∧ authActive y.1 = false ∧ g.f.port.val = 72) ∧ (y.1.nonces.contains (slice (gfPayload g.f) 6 16) = false) := by unfold reaches; decide +kernel

theorem met_sessionOpen_2 : let t := 0; let f : Option GFrame := some openFrame; let nonceD : List Byte := []; let g : Taken := { f := openFrame, view := keySys, at_ := 0 }; let y : SysMem := (keySys, []); let x := atTick t (on keySys); (reaches f (fun g => g.opcode == 2) x g y) ∧ (keysPending y.1 = false) ∧ ((gfPayload g.f).length = 22 ∧ byteAt (gfPayload g.f) 0 ≤ 3) ∧ (gfTagged g.f = true ∧ keyed y.1 (byteAt (gfPayload g.f) 0) = true) ∧ (gfTagGood g.f (val y.1 0x0300 9 (byteAt (gfPayload g.f) 0) 1).bytes = true) ∧ (y.1.nonces.contains (slice (gfPayload g.f) 6 16) = false) := by unfold reaches; decide +kernel

theorem met_eventAck : let t := 0; let f : Option GFrame := some (reqFrame 0xC0 [0, 0, 0, 1]); let g : Taken := { f := reqFrame 0xC0 [0, 0, 0, 1], view := ackSys, at_ := 0 }; let y : SysMem := (ackSys, []); let v : Session := { sid := 1, role := 3, evFrame := some (1, 1), evRid := 5 }; let first : Nat := 1; let last : Nat := 1; let x := atTick t (on ackSys); (reaches f (fun g => g.opcode == 0xC0) x g y) ∧ (ofSession y.1 v g.f) ∧ (v.sid = g.f.session ∧ v.evFrame = some (first, last) ∧ first ≤ field (gfPayload g.f) 0 4 ∧ (gfPayload g.f).length = 4) := by unfold reaches ofSession; decide +kernel

theorem met_discoverReplyDelay : let t := 0; let x := sysAt t (gmpState); (stewardsRun x = true) := by decide +kernel

theorem met_discoverAnnounce : let t := 0; let left : Nat := 2; let due : Nat := 0; let x := sysAt t (on { devState := 1, announce := some (2, 0) }); (stewardsRun x = true) ∧ (x.announce = some (left, due)) ∧ (due ≤ x.now) := by decide +kernel

theorem met_segmentWriteTimeout : let t := 0; let sid : Nat := 1; let x := sysAt t (gmpState); (stewardsRun x = true) := by decide +kernel

theorem met_requestStartTimeout : let t := 0; let x := atTick t (gmpState); (takeFrame none (fun g => g.opcode != 1 && g.opcode != 0xC0) (onSys busyLate x) = none) := by decide +kernel

theorem met_requestStartTimeout_2 : let t := 0; let g : Taken := ((takeFrame none (fun g => g.opcode != 1 && g.opcode != 0xC0) (onSys busyLate (sq0Late, []))).getD (sq0Taken, ({}, []))).1; let y : SysMem := ((takeFrame none (fun g => g.opcode != 1 && g.opcode != 0xC0) (onSys busyLate (sq0Late, []))).getD (sq0Taken, ({}, []))).2; let x := atTick t (on sq0Late); (takeFrame none (fun g => g.opcode != 1 && g.opcode != 0xC0) (onSys busyLate x) = some (g, y)) ∧ ((onSys busyLate x).1.now < sq0Since x.1 + startTicks) := by decide +kernel

theorem met_requestStartTimeout_3 : let t := 0; let g : Taken := ((takeFrame none (fun g => g.opcode != 1 && g.opcode != 0xC0) (onSys busyLate (sq0Sys, []))).getD (sq0Taken, ({}, []))).1; let y : SysMem := ((takeFrame none (fun g => g.opcode != 1 && g.opcode != 0xC0) (onSys busyLate (sq0Sys, []))).getD (sq0Taken, ({}, []))).2; let x := atTick t (on sq0Sys); (takeFrame none (fun g => g.opcode != 1 && g.opcode != 0xC0) (onSys busyLate x) = some (g, y)) ∧ (sq0Since x.1 + startTicks ≤ (onSys busyLate x).1.now) := by decide +kernel

theorem met_sessionIdleTimeout : let t := 0; let sid : Nat := 1; let v : Session := { sid := 1, role := 3 }; let x := sysAt t (on { devState := 1, now := 1250000000000000, sessions := [{ sid := 1, role := 3 }] }); (stewardsRun x = true) ∧ (session? x sid = some v) ∧ (v.last + obj x 0x0300 5 * Config.ticksPerS ≤ x.now) := by decide +kernel

theorem met_eventRetryExpiry : let t := 0; let sid : Nat := 1; let v : Session := { sid := 1, role := 3, evFrame := some (1, 1), evRid := 5 }; let x := sysAt t (on ackSys); (stewardsRun x = true) ∧ (session? x sid = some v) ∧ (v.evFrame ≠ none) ∧ (v.evAt ≤ x.now) := by decide +kernel

theorem met_txnOpen : let t := 0; let sid : Nat := 1; let x := atTick t (on opSys); (mayOwn x.1 sid 0x0200 3) ∧ ((txnOf x.1 sid).st = .idle) ∧ (((holders x.1).filter (fun v => v.txn.live && v.txn.num != 0)).length < 8) := by unfold mayOwn; decide +kernel

theorem met_txnOpen_2 : let t := 0; let f : Option GFrame := some (reqFrame 0x20 []); let g : Taken := { f := reqFrame 0x20 [], view := gmpState.sys, at_ := 0 }; let y : SysMem := (gmpState.sys, []); let v : Session := gmpSession; let x := atTick t (gmpState); (reaches f (fun g => g.opcode == 0x20 && true) x g y) ∧ (ofSession y.1 v g.f) ∧ (newRequest v g.f) := by unfold reaches ofSession newRequest; decide +kernel

theorem met_txnArm : let t := 0; let sid : Nat := 1; let crc : Nat := safetyCrc (sysAt 0 (on openSys)); let x := atTick t (on openSys); (mayOwn x.1 sid 0x0200 6) ∧ (roleOf x.1 sid = 3) ∧ ((txnOf x.1 sid).st = .open_) ∧ (crc = safetyCrc x.1) := ⟨by unfold mayOwn; decide +kernel, by decide +kernel, by decide +kernel, rfl⟩

theorem met_txnArm_2 : let t := 0; let sid : Nat := 1; let crc : Nat := safetyCrc (sysAt 0 (on openSys)) + 1; let x := atTick t (on openSys); (mayOwn x.1 sid 0x0200 6) ∧ (roleOf x.1 sid = 3) ∧ ((txnOf x.1 sid).st = .open_) ∧ (crc ≠ safetyCrc x.1) := ⟨by unfold mayOwn; decide +kernel, by decide +kernel, by decide +kernel, by
  intro h
  exact crc_off (sysAt 0 (on openSys)) _ rfl h⟩

theorem met_txnArm_3 : let t := 0; let f : Option GFrame := some (reqFrame 0x21 [0, 0, 0, 0]); let g : Taken := { f := reqFrame 0x21 [0, 0, 0, 0], view := gmpState.sys, at_ := 0 }; let y : SysMem := (gmpState.sys, []); let v : Session := gmpSession; let crc : Nat := 0; let x := atTick t (gmpState); (reaches f (fun g => g.opcode == 0x21 && true) x g y) ∧ (ofSession y.1 v g.f) ∧ (newRequest v g.f) := by unfold reaches ofSession newRequest; decide +kernel

theorem met_txnAbort : let t := 0; let sid : Nat := 1; let x := atTick t (on { devState := 1, sessions := [{ sid := 1, role := 3, txn := { st := .armed, num := 1 } }] }); (mayOwn x.1 sid 0x0200 7) ∧ ((txnOf x.1 sid).live = true) := by unfold mayOwn; decide +kernel

theorem met_txnAbort_2 : let t := 0; let f : Option GFrame := some (reqFrame 0x23 []); let g : Taken := { f := reqFrame 0x23 [], view := gmpState.sys, at_ := 0 }; let y : SysMem := (gmpState.sys, []); let v : Session := gmpSession; let x := atTick t (gmpState); (reaches f (fun g => g.opcode == 0x23 && true) x g y) ∧ (ofSession y.1 v g.f) ∧ (newRequest v g.f) := by unfold reaches ofSession newRequest; decide +kernel

theorem met_txnTimeoutExpiry : let t := 0; let sid : Nat := 1; let x := sysAt t (on { devState := 1, now := 1250000000000, sessions := [{ sid := 1, role := 3, txn := { st := .armed, num := 1 } }] }); (stewardsRun x = true) ∧ ((txnOf x sid).st = .open_ ∨ (txnOf x sid).st = .armed) ∧ ((txnOf x sid).last + obj x 0x0200 0x0D * Config.ticksPerS ≤ x.now) := by decide +kernel

theorem met_txnCommitNext : let t := 0; let sid : Nat := 1; let x := atTick t (on { devState := 1, sessions := [{ sid := 1, role := 3, txn := { st := .armed, num := 1 } }] }); (mayOwn x.1 sid 0x0200 7) ∧ ((txnOf x.1 sid).st = .open_ ∨ (txnOf x.1 sid).st = .armed) ∧ (changesRules x.1 (txnOf x.1 sid).staged = true → x.1.rsWait = none) := by unfold mayOwn; decide +kernel

theorem met_txnCommitNext_2 : let t := 0; let f : Option GFrame := some (reqFrame 0x22 (1 :: List.replicate 13 0)); let g : Taken := { f := reqFrame 0x22 (1 :: List.replicate 13 0), view := gmpState.sys, at_ := 0 }; let y : SysMem := (gmpState.sys, []); let v : Session := gmpSession; let x := atTick t (gmpState); (reaches f (fun g => g.opcode == 0x22 && byteAt (gfPayload g) 0 != 2) x g y) ∧ (ofSession y.1 v g.f) ∧ (newRequest v g.f) := by unfold reaches ofSession newRequest; decide +kernel

theorem met_txnCommitStated : let t := 0; let sid : Nat := 1; let base : Fin 5 := 4; let time : Nat := 2 ^ 48; let p : SysMem := preset 1 [(0x0200, 8, 2 ^ 48), (0x0200, 9, 4)] (armedSys, []); let x := atTick t (on armedSys); (p = preset sid [(0x0200, 8, time), (0x0200, 9, base.val)] x) ∧ (mayOwn p.1 sid 0x0200 7) ∧ ((commitWrite sid 2 p.1).1 ≠ 6) := by unfold mayOwn; decide +kernel

theorem met_txnCommitStated_2 : let t := 0; let f : Option GFrame := some (reqFrame 0x22 (2 :: List.replicate 13 0)); let g : Taken := { f := reqFrame 0x22 (2 :: List.replicate 13 0), view := gmpState.sys, at_ := 0 }; let y : SysMem := (gmpState.sys, []); let v : Session := gmpSession; let base : Fin 5 := 4; let time : Nat := 0; let x := atTick t (gmpState); (reaches f (fun g => g.opcode == 0x22 && byteAt (gfPayload g) 0 == 2) x g y) ∧ (ofSession y.1 v g.f) ∧ (newRequest v g.f) := by unfold reaches ofSession newRequest; decide +kernel

theorem met_commitPoint : let t := 0; let x := atTick t (on (pendSys none)); let p : SysMem := onSys plinthFirst x; (stewardsRun x.1 = true) ∧ (dueTxns p.1 false ≠ [] ∨ ((List.range 4).filter (fun i => snapDue p.1 false (snap p.1 i))) ≠ []) := by decide +kernel

theorem met_commitPoint_2 : let t := 0; let x := atTick t (on opSys); let p : SysMem := onSys plinthFirst x; (stewardsRun x.1 = true) ∧ (dueTxns p.1 false = []) ∧ (((List.range 4).filter (fun i => snapDue p.1 false (snap p.1 i))) = []) := by decide +kernel

theorem met_statedCommitTime : let t := 0; let sid : Nat := 1; let x := atTick t (on (pendSys (some (4, 0)))); let p : SysMem := onSys plinthFirst x; (stewardsRun x.1 = true) ∧ ((dueTxns x.1 true).any (fun e => e.1.sid == sid) = true) ∧ ((dueTxns p.1 true).any (fun e => e.1.sid == sid) = true) := by decide +kernel

theorem met_statedCommitTime_2 : let t := 0; let sid : Nat := 1; let x := atTick t (on opSys); (stewardsRun x.1 = true) ∧ ((dueTxns x.1 true).any (fun e => e.1.sid == sid) = false) ∧ ((List.range 4).any (fun i => snapDue x.1 true (snap x.1 i)) = false) := by decide +kernel

theorem met_store : let t := 0; let sid : Nat := 1; let x := atTick t (on opSys); (mayCommand x.1 sid 0x0200 0x0F (1)) ∧ (storing (commandPoint sid x).1 = false) := by unfold mayCommand; decide +kernel

theorem met_restoreDefaults : let t := 0; let sid : Nat := 1; let x := atTick t (on opSys); (mayCommand x.1 sid 0x0200 0x0F 2) ∧ (changesRules x.1 [{ stagedCommand 0x0200 0x0F 2 with codes := [0] }] = false) := by unfold mayCommand; decide +kernel

theorem met_restoreDefaults_2 : let t := 0; let sid : Nat := 1; let x := atTick t (on { opSys with dict := [(dkey 0x3000 1 0 0, .num 5)] }); (mayCommand x.1 sid 0x0200 0x0F 2) ∧ (changesRules x.1 [{ stagedCommand 0x0200 0x0F 2 with codes := [0] }] = true) ∧ (x.1.rsWait = none) := by unfold mayCommand; decide +kernel

theorem met_restoreDefaults_3 : let t := 0; let sid : Nat := 1; let x := atTick t (on { opSys with dict := [(dkey 0x3000 1 0 0, .num 5)], rsWait := some { sid := 2, direct := false, accepted := 0, loadEnd := none } }); (mayCommand x.1 sid 0x0200 0x0F 2) ∧ (changesRules x.1 [{ stagedCommand 0x0200 0x0F 2 with codes := [0] }] = true) ∧ (x.1.rsWait.isSome = true) := by unfold mayCommand; decide +kernel

theorem met_eraseStoredImage : let t := 0; let sid : Nat := 1; let x := atTick t (on opSys); (mayCommand x.1 sid 0x0200 0x0F (3)) ∧ (storing (commandPoint sid x).1 = false) := by unfold mayCommand; decide +kernel

theorem met_storeDone : let t := 0; let flashError : Bool := false; let slot : Nat := 2; let image : Option Slot := some {}; let x := sysAt t (on { devState := 1, flash := { present := true, store := some (2, some {}) } }); (stewardsRun x = true) ∧ (x.flash.store = some (slot, image)) := by decide +kernel

theorem met_slotEraseDone : let t := 0; let slot : FlashSlot := .ca; let x := sysAt t (on { flash := { erasing := [2] } }); (x.flash.erasing.contains (slotNo slot) = true) := by decide +kernel

theorem met_snapReqNext : let t := 0; let sid : Nat := 1; let slot : Fin 4 := 2; let p : SysMem := preset 1 [(0x0220, 5, 2)] (opSys, []); let x := atTick t (on opSys); (p = preset sid [(0x0220, 5, slot.val)] x) ∧ (mayOwn p.1 sid 0x0220 2) ∧ ((snap p.1 (ownVal p.1 sid 0x0220 5)).st = 0) := by unfold mayOwn; decide +kernel

theorem met_snapReqStated : let t := 0; let sid : Nat := 1; let slot : Fin 4 := 2; let base : Fin 5 := 4; let time : Nat := 2 ^ 48; let p : SysMem := preset 1 [(0x0220, 5, 2), (0x0220, 4, 4), (0x0220, 3, 2 ^ 48)] (opSys, []); let x := atTick t (on opSys); (p = preset sid [(0x0220, 5, slot.val), (0x0220, 4, base.val), (0x0220, 3, time)] x) ∧ (mayOwn p.1 sid 0x0220 2) ∧ ((snap p.1 (ownVal p.1 sid 0x0220 5)).st = 0) := by unfold mayOwn; decide +kernel

theorem met_snapRelease : let t := 0; let sid : Nat := 1; let slot : Fin 4 := 2; let p : SysMem := preset 1 [(0x0220, 5, 2)] (opSys, []); let x := atTick t (on opSys); (p = preset sid [(0x0220, 5, slot.val)] x) ∧ (mayOwn p.1 sid 0x0220 2) := by unfold mayOwn; decide +kernel

theorem met_snapshotSweepDone : let t := 0; let slot : Fin 4 := 1; let x := sysAt t (on { snaps := [(1, { st := 2 })] }); ((snap x slot.val).st = 2) := by decide +kernel

theorem met_laneTrainingRequest : let t := 0; let lane : Fin 64 := 3; let up : Bool := true; let a : Nat := 5; let x := sysAt t (on { lanes := [(3, { link := 1, taps := some (eqWord 4 40 4) })] }); ((Machine.lane x lane.val).link = 1) ∧ ((if up then a = eqPre (eqActive x lane.val) + 1 else a + 1 = eqPre (eqActive x lane.val))) := by decide +kernel

theorem met_laneTrainingRequest_2 : let t := 0; let lane : Fin 64 := 3; let x := sysAt t (on { lanes := [(3, { link := 1, taps := some (eqWord 0 40 4) })] }); ((Machine.lane x lane.val).link = 1) ∧ (eqPre (eqActive x lane.val) = 0) := by decide +kernel

theorem met_laneTrainingRequest_3 : let t := 0; let lane : Fin 64 := 3; let up : Bool := true; let a : Nat := 41; let x := sysAt t (on { lanes := [(3, { link := 1, taps := some (eqWord 4 40 4) })] }); ((Machine.lane x lane.val).link = 1) ∧ ((if up then a = eqMain (eqActive x lane.val) + 1 else a + 1 = eqMain (eqActive x lane.val))) := by decide +kernel

theorem met_laneTrainingRequest_4 : let t := 0; let lane : Fin 64 := 3; let x := sysAt t (on { lanes := [(3, { link := 1, taps := some (eqWord 4 0 4) })] }); ((Machine.lane x lane.val).link = 1) ∧ (eqMain (eqActive x lane.val) = 0) := by decide +kernel

theorem met_laneTrainingRequest_5 : let t := 0; let lane : Fin 64 := 3; let up : Bool := true; let a : Nat := 5; let x := sysAt t (on { lanes := [(3, { link := 1, taps := some (eqWord 4 40 4) })] }); ((Machine.lane x lane.val).link = 1) ∧ ((if up then a = eqPost (eqActive x lane.val) + 1 else a + 1 = eqPost (eqActive x lane.val))) := by decide +kernel

theorem met_laneTrainingRequest_6 : let t := 0; let lane : Fin 64 := 3; let x := sysAt t (on { lanes := [(3, { link := 1, taps := some (eqWord 4 40 0) })] }); ((Machine.lane x lane.val).link = 1) ∧ (eqPost (eqActive x lane.val) = 0) := by decide +kernel

theorem met_laneTrainingRequest_7 : let t := 0; let lane : Fin 64 := 3; let tap : Tap := .pre; let up : Bool := true; let x := sysAt t (on {}); ((Machine.lane x lane.val).link ≠ 1) := by decide +kernel

theorem met_laneTrainingDone : let t := 0; let lane : Fin 64 := 3; let x := sysAt t (on {}); ((Machine.lane x lane.val).link ≠ 1) := by decide +kernel

theorem met_laneTrainingTimeout : let t := 0; let lane : Fin 64 := 3; let x := sysAt t (on {}); ((Machine.lane x lane.val).link ≠ 1) := by decide +kernel

theorem met_laneTrainingDone_2 : let t := 0; let lane : Fin 64 := 3; let x := sysAt t (on { lanes := [(3, { link := 1 })] }); ((Machine.lane x lane.val).link = 1) := by decide +kernel

theorem met_laneTrainingTimeout_2 : let t := 0; let lane : Fin 64 := 3; let x := sysAt t (on { now := 625000000, lanes := [(3, { link := 1 })] }); ((Machine.lane x lane.val).link = 1) ∧ ((Machine.lane x lane.val).trainAt + 500 * Config.ticksPerMs ≤ x.now) := by decide +kernel

theorem met_rxEyeMeasure : let t := 0; let lane : Fin 64 := 3; let height : BitVec 16 := 5; let width : BitVec 16 := 7; let errors : Nat := 0; let x := sysAt t (on { lanes := [(3, { power := .active })] }); let y := adaptTurn lane.val x; let z := if (Machine.lane y lane.val).prbs then bumpBy (Ctr.lanePrbsErr lane.val) errors y else y; ((Machine.lane z lane.val).power = .active ∧ traded z < 3) := by decide +kernel

theorem met_rxEyeMeasure_2 : let t := 0; let lane : Fin 64 := 3; let height : BitVec 16 := 5; let width : BitVec 16 := 7; let errors : Nat := 0; let x := sysAt t (on { lanes := [(3, { power := .deep })] }); let y := adaptTurn lane.val x; let z := if (Machine.lane y lane.val).prbs then bumpBy (Ctr.lanePrbsErr lane.val) errors y else y; (¬((Machine.lane z lane.val).power = .active ∧ traded z < 3)) := by decide +kernel

theorem met_prbsLockAcquired : let t := 0; let lane : Fin 64 := 3; let x := sysAt t (on { dict := [(dkey 0x2030 11 0 0, .num 1)] }); (obj x (laneIx lane.val) 0x0B ≠ 0) := by decide +kernel

theorem met_prbsLockLoss : let t := 0; let lane : Fin 64 := 3; let errors : Nat := 16; let x := sysAt t (on { lanes := [(3, { prbs := true })] }); ((Machine.lane x lane.val).prbs = true) := by decide +kernel

theorem met_lanePowerCommand : let t := 0; let lane : Fin 64 := 3; let byManager : Bool := true; let target : LanePower := .deep; let x := sysAt t (on { devState := 1 }); (stepDone x 11 = true) := by decide +kernel

theorem met_lanePowerCommand_2 : let t := 0; let lane : Fin 64 := 3; let byManager : Bool := true; let target : LanePower := .deep; let x := sysAt t (on {}); (stepDone x 11 = false) := by decide +kernel

theorem met_lanePowerStateReached : let t := 0; let lane : Fin 64 := 3; let target : LanePower := .deep; let x := sysAt t (on { lanes := [(3, { target := some .deep })] }); ((Machine.lane x lane.val).target = some target) ∧ ((Machine.lane x lane.val).reachAt ≤ x.now) := by decide +kernel

theorem met_lanePowerStateReached_2 : let t := 0; let lane : Fin 64 := 3; let target : LanePower := .deep; let x := sysAt t (on { lanes := [(3, { target := some .deep, reachAt := 12500 })] }); ((Machine.lane x lane.val).target = some target) ∧ (x.now < (Machine.lane x lane.val).reachAt) := by decide +kernel

theorem met_lanePowerStateReached_3 : let t := 0; let lane : Fin 64 := 3; let x := sysAt t (on {}); ((Machine.lane x lane.val).target = none) := by decide +kernel

theorem met_laneCdrLoss : let t := 0; let lane : Fin 64 := 3; let x := sysAt t (on { lanes := [(3, { power := .active, signal := true })] }); ((Machine.lane x lane.val).power = .active) ∧ ((Machine.lane x lane.val).signal = true) := by decide +kernel

theorem met_kngBlockRx : let t := 0; let k : Fin 8 := 0; let bits : List Bool := kngBits; let last : Bool := false; let n : Nat := 1; let wrong : Nat := 0; let acc : List Bool := (kngBits.reverse); let x := sysAt t (on { devState := 1, kng := { st := 2, txWidth := 4, lanes := [(0, { locked := true })] }, dict := [(dkey 0x2800 1 0 0, .num 1)] }); let head := bitsNat (acc.reverse.take 32); let seq := Machine.bits head 20 9; let y := bumpBy (Ctr.kngStuffErr (kngFirst x + k.val)) wrong (updKngLane k.val (fun l => { l with last := last, run := n, seen := if l.seen ≥ 63 then 0 else l.seen + 1, seq := some seq, bad := if l.seen ≥ 63 then 0 else l.bad }) x); (flag x 0x2800 1 = true) ∧ (k.val < obj x 0x2800 3) ∧ (destuff bits (kngLane x k.val).last (kngLane x k.val).run 0 [] = (last, n, wrong, acc)) ∧ (headerGood head = true) ∧ (wrong = 0 ∧ acc.length = 1024) ∧ ((kngLane x k.val).locked = true) := by decide +kernel

theorem met_kngBlockRx_2 : let t := 0; let k : Fin 8 := 0; let bits : List Bool := kngBits.take 100; let last : Bool := false; let n : Nat := 1; let wrong : Nat := 0; let acc : List Bool := ((kngBits.take 100).reverse); let x := sysAt t (on { devState := 1, kng := { st := 2, txWidth := 4, lanes := [(0, { locked := true })] }, dict := [(dkey 0x2800 1 0 0, .num 1)] }); let head := bitsNat (acc.reverse.take 32); let seq := Machine.bits head 20 9; let y := bumpBy (Ctr.kngStuffErr (kngFirst x + k.val)) wrong (updKngLane k.val (fun l => { l with last := last, run := n, seen := if l.seen ≥ 63 then 0 else l.seen + 1, seq := some seq, bad := if l.seen ≥ 63 then 0 else l.bad }) x); (flag x 0x2800 1 = true) ∧ (k.val < obj x 0x2800 3) ∧ (destuff bits (kngLane x k.val).last (kngLane x k.val).run 0 [] = (last, n, wrong, acc)) ∧ (headerGood head = true) ∧ (wrong ≠ 0 ∨ acc.length ≠ 1024) ∧ ((kngLane x k.val).locked = true) := by decide +kernel

theorem met_kngBlockRx_3 : let t := 0; let k : Fin 8 := 0; let bits : List Bool := []; let last : Bool := false; let n : Nat := 0; let wrong : Nat := 0; let acc : List Bool := []; let x := sysAt t (on { devState := 1, kng := { st := 2, lanes := [(0, { locked := true })] }, dict := [(dkey 0x2800 1 0 0, .num 1)] }); let head := bitsNat (acc.reverse.take 32); let seq := (kngLane x k.val).seq.elim 0 (fun q => (q + 1) % 4096); let y := bumpBy (Ctr.kngStuffErr (kngFirst x + k.val)) wrong (updKngLane k.val (fun l => { l with last := last, run := n, seen := if l.seen ≥ 63 then 0 else l.seen + 1, seq := some seq, bad := if l.seen ≥ 63 then 0 else l.bad + 1 }) x); (flag x 0x2800 1 = true) ∧ (k.val < obj x 0x2800 3) ∧ (destuff bits (kngLane x k.val).last (kngLane x k.val).run 0 [] = (last, n, wrong, acc)) ∧ (headerGood head = false) ∧ ((kngLane x k.val).locked = true) := by decide +kernel

theorem met_kngBlockRx_4 : let t := 0; let k : Fin 8 := 0; let bits : List Bool := []; let last : Bool := false; let n : Nat := 0; let wrong : Nat := 0; let acc : List Bool := []; let x := sysAt t (on { devState := 1, kng := { st := 1 }, dict := [(dkey 0x2800 1 0 0, .num 1)] }); let head := bitsNat (acc.reverse.take 32); (flag x 0x2800 1 = true) ∧ (k.val < obj x 0x2800 3) ∧ (destuff bits (kngLane x k.val).last (kngLane x k.val).run 0 [] = (last, n, wrong, acc)) ∧ ((kngLane x k.val).locked = false) := by decide +kernel

theorem met_kngBlockRx_5 : let t := 0; let k : Fin 8 := 0; let bits : List Bool := []; let x := sysAt t (on {}); (flag x 0x2800 1 = false ∨ obj x 0x2800 3 ≤ k.val) := by decide +kernel

theorem met_kngHeaderLock : let t := 0; let k : Fin 8 := 0; let headers : List (BitVec 32) := kngHeads; let x := sysAt t (on { devState := 1, kng := { st := 1 }, dict := [(dkey 0x2800 1 0 0, .num 1)] }); (flag x 0x2800 1 = true) ∧ (k.val < obj x 0x2800 3) ∧ (4 ≤ headers.length) ∧ (((headers.map (·.toNat)).drop (headers.length - 4)).all headerGood = true) := by decide +kernel

theorem met_kngHeaderLock_2 : let t := 0; let k : Fin 8 := 0; let headers : List (BitVec 32) := []; let x := sysAt t (on { devState := 1, kng := { st := 1 }, dict := [(dkey 0x2800 1 0 0, .num 1)] }); (headers.length < 4 ∨ ((headers.map (·.toNat)).drop (headers.length - 4)).all headerGood = false) := by decide +kernel

theorem met_kngLockLoss : let t := 0; let k : Fin 8 := 1; let x := sysAt t (on { kng := { lanes := [(1, { locked := true })] } }); ((kngLane x k.val).locked = true) := by decide +kernel

theorem met_kngLockLoss_2 : let t := 0; let k : Fin 8 := 1; let x := sysAt t (on {}); ((kngLane x k.val).locked = false) := by decide +kernel

theorem met_kngIdleLaneDeep : let t := 0; let k : Fin 8 := 2; let x := sysAt t (on { devState := 1, now := 80000000, kng := { st := 2, txWidth := 2 }, dict := [(dkey 0x2800 1 0 0, .num 1)] }); (flag x 0x2800 1 = true ∧ x.kng.txWidth ≤ k.val ∧ k.val < obj x 0x2800 3 ∧ (kngLane x k.val).idleAt + 64 * Config.ticksPerMs ≤ x.now ∧ laneHeld x (kngFirst x + k.val) = false) := by decide +kernel

theorem met_kngIdleLaneDeep_2 : let t := 0; let k : Fin 8 := 2; let x := sysAt t (on {}); (¬(flag x 0x2800 1 = true ∧ x.kng.txWidth ≤ k.val ∧ k.val < obj x 0x2800 3 ∧ (kngLane x k.val).idleAt + 64 * Config.ticksPerMs ≤ x.now ∧ laneHeld x (kngFirst x + k.val) = false)) := by decide +kernel

theorem met_knaingFrameRx : let t := 0; let desc : List Byte := []; let bytes : List Byte := []; let segLost : Bool := true; let x := sysAt t (on { devState := 1, kng := { st := 2 }, dict := [(dkey 0x2800 1 0 0, .num 1)] }); (flag x 0x2800 1 = true) ∧ (x.kng.st = 2) ∧ (x.devState = 1) := by decide +kernel

theorem met_knaingFrameRx_2 : let t := 0; let desc : List Byte := []; let bytes : List Byte := []; let segLost : Bool := true; let x := sysAt t (on {}); (¬(flag x 0x2800 1 = true ∧ x.kng.st = 2 ∧ x.devState = 1)) := by decide +kernel

theorem met_kngControlBlockTx : let t := 0; let x := sysAt t (on { devState := 1, kng := { st := 2 }, dict := [(dkey 0x2800 1 0 0, .num 1)] }); (flag x 0x2800 1 = true) ∧ (x.devState ≠ 3) := by decide +kernel

theorem met_kngControlBlockTx_2 : let t := 0; let x := sysAt t (on {}); (flag x 0x2800 1 = false ∨ x.devState = 3) := by decide +kernel

theorem met_kngControlBlockRx : let t := 0; let payload : List Byte := []; let seq : Fin 4096 := 0; let x := sysAt t (on { devState := 1, kng := { st := 2 }, dict := [(dkey 0x2800 1 0 0, .num 1)] }); (flag x 0x2800 1 = true) := by decide +kernel

theorem met_kngControlBlockRx_2 : let t := 0; let payload : List Byte := []; let seq : Fin 4096 := 0; let x := sysAt t (on {}); (flag x 0x2800 1 = false) := by decide +kernel

theorem met_kngHeartbeatMiss : let t := 0; let x := sysAt t (on { now := 5120, kng := { st := 2 } }); (x.kng.st = 2) ∧ (x.kng.hbAt + 5120 ≤ x.now) := by decide +kernel

theorem met_kngWidthSwitch : let t := 0; let x := sysAt t (on { kng := { st := 2, nextWidth := 4, txWidth := 2 } }); (x.kng.st = 2) ∧ (x.kng.nextWidth ≠ x.kng.txWidth) ∧ (x.kng.switchAt ≤ x.now) := by decide +kernel

theorem met_linkUp : let t := 0; let port : Fin 76 := 72; let mbps : Nat := 1000; let rate : Nat := 1000; let half : Bool := false; let x := sysAt t (on { devState := 1 }); (stepDone x (if port.val = 72 then 6 else 11) = true) ∧ (linkCapable x port.val = true) ∧ (isKng x port.val = false) ∧ ((if 64 ≤ port.val ∧ port.val ≤ 71 then svcRate x port.val else some (typeSpeed x port.val mbps, false)) = some (rate, half)) ∧ (¬((Machine.port x port.val).linkUp = true ∧ (Machine.port x port.val).speed = rate)) := by decide +kernel

theorem met_linkUp_2 : let t := 0; let port : Fin 76 := 72; let mbps : Nat := 1000; let rate : Nat := 1000; let half : Bool := false; let x := sysAt t (on { devState := 1, ports := [(72, { linkUp := true, speed := 1000 })] }); (stepDone x (if port.val = 72 then 6 else 11) = true) ∧ (linkCapable x port.val = true) ∧ (isKng x port.val = false) ∧ ((if 64 ≤ port.val ∧ port.val ≤ 71 then svcRate x port.val else some (typeSpeed x port.val mbps, false)) = some (rate, half)) ∧ ((Machine.port x port.val).linkUp = true ∧ (Machine.port x port.val).speed = rate) := by decide +kernel

theorem met_linkUp_3 : let t := 0; let port : Fin 76 := 64; let mbps : Nat := 1000; let x := sysAt t (on { devState := 1, ports := [(64, { phyLink := true })] }); (stepDone x (if port.val = 72 then 6 else 11) = true) ∧ (linkCapable x port.val = true) ∧ (isKng x port.val = false) ∧ (64 ≤ port.val ∧ port.val ≤ 71) ∧ (svcRate x port.val = none) := by decide +kernel

theorem met_linkUp_4 : let t := 0; let port : Fin 76 := 3; let mbps : Nat := 1000; let x := sysAt t (on {}); (stepDone x (if port.val = 72 then 6 else 11) = false ∨ linkCapable x port.val = false ∨ isKng x port.val = true) := by decide +kernel

theorem met_linkDown : let t := 0; let port : Fin 76 := 3; let x := sysAt t (on { ports := [(3, { linkUp := true })] }); ((Machine.port x port.val).linkUp = true) := by decide +kernel

theorem met_holdExpiry : let t := 0; let port : Fin 76 := 3; let x := sysAt t (on { now := 4000000000000, ports := [(3, { held := true })] }); ((Machine.port x port.val).held = true) ∧ (holdEnd x port.val ≤ x.now) := by decide +kernel

theorem met_phyPoll : let t := 0; let port : Fin 76 := 3; let line : BitVec 16 := 4; let adv : BitVec 16 := 0; let lpa : BitVec 16 := 0; let clk : Bool := true; let x := sysAt t (on { devState := 1, dict := [(dkey 0x1066 1 0 0, .num 1), (dkey 0x1066 3 0 0, .num 1)] }); (stewardsRun x = true) ∧ (x.devState ≠ 0) ∧ (port.val < 73) ∧ (isKng x port.val = false) ∧ (obj x (pix port.val 6) 3 ≠ 0) ∧ (obj x (pix port.val 6) 1 ≠ 0) ∧ (port.val < 64 ∨ 71 < port.val) := by decide +kernel

theorem met_phyPoll_2 : let t := 0; let port : Fin 76 := 64; let line : BitVec 16 := 0; let adv : BitVec 16 := 0; let lpa : BitVec 16 := 0; let clk : Bool := true; let x := sysAt t (on { devState := 1 }); let y := updPort port.val (fun q => { q with refclkLost := !clk, resolved := if bit line.toNat 2 then phyResolve adv.toNat lpa.toNat else none }) (updPort port.val (fun q => { q with phyLink := bit line.toNat 2, pollAt := x.now }) x); (stewardsRun x = true) ∧ (x.devState ≠ 0) ∧ (port.val < 73) ∧ (isKng x port.val = false) ∧ (obj x (pix port.val 6) 3 ≠ 0) ∧ (obj x (pix port.val 6) 1 ≠ 0) ∧ (64 ≤ port.val ∧ port.val ≤ 71) ∧ (bit line.toNat 2 = false ∨ clk = false) := by decide +kernel

theorem met_phyPoll_3 : let t := 0; let port : Fin 76 := 64; let line : BitVec 16 := 4; let adv : BitVec 16 := 0; let lpa : BitVec 16 := 0; let clk : Bool := true; let rate : Nat := 100; let half : Bool := false; let x := sysAt t (on { devState := 1, dict := [(dkey 0x1803 1 0 0, .num 4)] }); let y := updPort port.val (fun q => { q with refclkLost := !clk, resolved := if bit line.toNat 2 then phyResolve adv.toNat lpa.toNat else none }) (updPort port.val (fun q => { q with phyLink := bit line.toNat 2, pollAt := x.now }) x); (stewardsRun x = true) ∧ (x.devState ≠ 0) ∧ (port.val < 73) ∧ (isKng x port.val = false) ∧ (obj x (pix port.val 6) 3 ≠ 0) ∧ (obj x (pix port.val 6) 1 ≠ 0) ∧ (64 ≤ port.val ∧ port.val ≤ 71) ∧ (bit line.toNat 2 = true ∧ clk = true) ∧ ((Machine.port y port.val).linkUp = false) ∧ (linkCapable y port.val = true) ∧ (svcRate y port.val = some (rate, half)) := by decide +kernel

theorem met_phyPoll_4 : let t := 0; let port : Fin 76 := 64; let line : BitVec 16 := 4; let adv : BitVec 16 := 0; let lpa : BitVec 16 := 0; let clk : Bool := true; let x := sysAt t (on { devState := 1, ports := [(64, { linkUp := true })] }); let y := updPort port.val (fun q => { q with refclkLost := !clk, resolved := if bit line.toNat 2 then phyResolve adv.toNat lpa.toNat else none }) (updPort port.val (fun q => { q with phyLink := bit line.toNat 2, pollAt := x.now }) x); (stewardsRun x = true) ∧ (x.devState ≠ 0) ∧ (port.val < 73) ∧ (isKng x port.val = false) ∧ (obj x (pix port.val 6) 3 ≠ 0) ∧ (obj x (pix port.val 6) 1 ≠ 0) ∧ (64 ≤ port.val ∧ port.val ≤ 71) ∧ (bit line.toNat 2 = true ∧ clk = true) ∧ ((Machine.port y port.val).linkUp = true) := by decide +kernel

theorem met_phyPoll_5 : let t := 0; let port : Fin 76 := 64; let line : BitVec 16 := 4; let adv : BitVec 16 := 0; let lpa : BitVec 16 := 0; let clk : Bool := true; let x := sysAt t (on { devState := 1 }); let y := updPort port.val (fun q => { q with refclkLost := !clk, resolved := if bit line.toNat 2 then phyResolve adv.toNat lpa.toNat else none }) (updPort port.val (fun q => { q with phyLink := bit line.toNat 2, pollAt := x.now }) x); (stewardsRun x = true) ∧ (x.devState ≠ 0) ∧ (port.val < 73) ∧ (isKng x port.val = false) ∧ (obj x (pix port.val 6) 3 ≠ 0) ∧ (obj x (pix port.val 6) 1 ≠ 0) ∧ (64 ≤ port.val ∧ port.val ≤ 71) ∧ (bit line.toNat 2 = true ∧ clk = true) ∧ (linkCapable y port.val = false ∨ svcRate y port.val = none) := by decide +kernel

theorem met_phyPoll_6 : let t := 0; let port : Fin 76 := 3; let line : BitVec 16 := 4; let adv : BitVec 16 := 0; let lpa : BitVec 16 := 0; let clk : Bool := true; let x := sysAt t (on { devState := 1 }); (stewardsRun x = true) ∧ (x.devState ≠ 0) ∧ (73 ≤ port.val ∨ isKng x port.val = true ∨ obj x (pix port.val 6) 3 = 0 ∨ obj x (pix port.val 6) 1 = 0) := by decide +kernel

theorem met_svcRefclkLoss : let t := 0; let port : Fin 76 := 64; let x := sysAt t (on {}); (64 ≤ port.val ∧ port.val ≤ 71) := by decide +kernel

theorem met_collision : let t := 0; let port : Fin 76 := 64; let bitTimes : Nat := 600; let draw : Nat := 0; let id : Nat := 0; let x := sysAt t (on { ports := [(64, { linkUp := true, half := true, speed := 10, tx := some 0 })], copies := [(0, some { port := 64, st := .sending })] }); ((Machine.port x port.val).tx = some id) ∧ ((Machine.port x port.val).half = true) ∧ ((copy x id).st = .sending) ∧ (512 < bitTimes) := by decide +kernel

theorem met_collision_2 : let t := 0; let port : Fin 76 := 64; let bitTimes : Nat := 5; let draw : Nat := 0; let id : Nat := 0; let x := sysAt t (on { ports := [(64, { linkUp := true, half := true, speed := 10, tx := some 0, attempts := 15 })], copies := [(0, some { port := 64, st := .sending })] }); ((Machine.port x port.val).tx = some id) ∧ ((Machine.port x port.val).half = true) ∧ ((copy x id).st = .sending) ∧ (bitTimes ≤ 512) ∧ (obj x (pix port.val 3) 2 ≤ (Machine.port x port.val).attempts + 1) := by decide +kernel

theorem met_collision_3 : let t := 0; let port : Fin 76 := 64; let bitTimes : Nat := 5; let draw : Nat := 3; let id : Nat := 0; let x := sysAt t (on { ports := [(64, { linkUp := true, half := true, speed := 10, tx := some 0 })], copies := [(0, some { port := 64, st := .sending })] }); ((Machine.port x port.val).tx = some id) ∧ ((Machine.port x port.val).half = true) ∧ ((copy x id).st = .sending) ∧ (bitTimes ≤ 512) ∧ ((Machine.port x port.val).attempts + 1 < obj x (pix port.val 3) 2) := by decide +kernel

theorem met_backoffExpiry : let t := 0; let port : Fin 76 := 64; let till : Nat := 0; let x := sysAt t (on { ports := [(64, { backoff := some 0 })] }); ((Machine.port x port.val).backoff = some till) ∧ (till ≤ x.now) := by decide +kernel

theorem met_plcaBeaconRx : let t := 0; let port : Fin 76 := 64; let x := sysAt t (on { now := 500000, ports := [(64, { plca := 2, plcaId := 3 })], dict := [(dkey 0x1803 1 0 0, .num 1), (dkey 0x1803 4 0 0, .num 1), (dkey 0x1803 5 0 0, .num 4)] }); (plcaOn x port.val = true) ∧ (obj x (pix port.val 3) 5 ≠ 0) := by decide +kernel

theorem met_plcaBeaconLoss : let t := 0; let port : Fin 76 := 64; let x := sysAt t (on { now := 500000, ports := [(64, { plca := 2, plcaId := 3 })], dict := [(dkey 0x1803 1 0 0, .num 1), (dkey 0x1803 4 0 0, .num 1), (dkey 0x1803 5 0 0, .num 4)] }); (plcaOn x port.val = true) ∧ (obj x (pix port.val 3) 5 ≠ 0) ∧ ((Machine.port x port.val).plca ≠ 1) ∧ ((Machine.port x port.val).plcaAt + bitTicks 4000 10 ≤ x.now) := by decide +kernel

theorem met_plcaToTimerExpiry : let t := 0; let port : Fin 76 := 64; let x := sysAt t (on { now := 500000, ports := [(64, { plca := 2, plcaId := 7 })], dict := [(dkey 0x1803 1 0 0, .num 1), (dkey 0x1803 4 0 0, .num 1), (dkey 0x1803 5 0 0, .num 0)] }); (plcaOn x port.val = true) ∧ ((Machine.port x port.val).plca = 2) ∧ ((Machine.port x port.val).tx = none) ∧ ((Machine.port x port.val).rx = none) ∧ ((Machine.port x port.val).plcaTimer + bitTicks (plcaTimerBits x port.val) 10 ≤ x.now) ∧ (obj x (pix port.val 3) 5 = 0 ∧ obj x (pix port.val 3) 6 ≤ (Machine.port x port.val).plcaId + 1) := by decide +kernel

theorem met_plcaToTimerExpiry_2 : let t := 0; let port : Fin 76 := 64; let x := sysAt t (on { now := 500000, ports := [(64, { plca := 2, plcaId := 3 })], dict := [(dkey 0x1803 1 0 0, .num 1), (dkey 0x1803 4 0 0, .num 1), (dkey 0x1803 5 0 0, .num 4)] }); (plcaOn x port.val = true) ∧ ((Machine.port x port.val).plca = 2) ∧ ((Machine.port x port.val).tx = none) ∧ ((Machine.port x port.val).rx = none) ∧ ((Machine.port x port.val).plcaTimer + bitTicks (plcaTimerBits x port.val) 10 ≤ x.now) ∧ (¬(obj x (pix port.val 3) 5 = 0 ∧ obj x (pix port.val 3) 6 ≤ (Machine.port x port.val).plcaId + 1)) := by decide +kernel

theorem met_plcaToTimerExpiry_3 : let t := 0; let port : Fin 76 := 64; let x := sysAt t (on {}); (plcaOn x port.val = false ∨ (Machine.port x port.val).plca ≠ 2 ∨ (Machine.port x port.val).tx.isSome = true ∨ (Machine.port x port.val).rx.isSome = true ∨ x.now < (Machine.port x port.val).plcaTimer + bitTicks (plcaTimerBits x port.val) 10) := by decide +kernel

theorem met_eeeIdleExpiry : let t := 0; let port : Fin 76 := 3; let x := sysAt t (on { now := 100000000, ports := [(3, { linkUp := true })], dict := [(dkey 0x1064 1 0 0, .num 1)] }); (port.val < 64) ∧ (isKng x port.val = false) ∧ (flag x (pix port.val 4) 1 = true) ∧ ((Machine.port x port.val).linkUp = true) ∧ ((Machine.port x port.val).lpiTx = false) ∧ (((Machine.port x port.val).tx = none ∧ (Machine.port x port.val).suspended = none ∧ (Machine.port x port.val).macCtl = [] ∧ (List.range 8).any (fun c => classWaits x port.val c) = false)) ∧ (windowSoon x port.val (wakeTime x port.val + Config.ticksPerUs) = false) ∧ ((portLanes x port.val).any (laneHeld x) = false) ∧ ((Machine.port x port.val).idleSince + obj x (pix port.val 4) 2 * Config.ticksPerUs ≤ x.now) := by decide +kernel

theorem met_eeeIdleExpiry_2 : let t := 0; let port : Fin 76 := 3; let x := sysAt t (on {}); (¬((port.val < 64) ∧ (isKng x port.val = false) ∧ (flag x (pix port.val 4) 1 = true) ∧ ((Machine.port x port.val).linkUp = true) ∧ ((Machine.port x port.val).lpiTx = false) ∧ (((Machine.port x port.val).tx = none ∧ (Machine.port x port.val).suspended = none ∧ (Machine.port x port.val).macCtl = [] ∧ (List.range 8).any (fun c => classWaits x port.val c) = false)) ∧ (windowSoon x port.val (wakeTime x port.val + Config.ticksPerUs) = false) ∧ ((portLanes x port.val).any (laneHeld x) = false) ∧ ((Machine.port x port.val).idleSince + obj x (pix port.val 4) 2 * Config.ticksPerUs ≤ x.now))) := by decide +kernel

theorem met_lpiWakeDone : let t := 0; let port : Fin 76 := 3; let start : Nat := 0; let x := sysAt t (on { now := 1000000000, ports := [(3, { lpiTx := true, lpiWake := some 0 })], dict := [(dkey 0x1064 3 0 0, .num 20)] }); ((Machine.port x port.val).lpiWake = some start) ∧ (start + wakeTime x port.val ≤ x.now) := by decide +kernel

theorem met_partnerLpi : let t := 0; let port : Fin 76 := 3; let on : Bool := true; let x := sysAt t (Sys2Proof.Tests.on { ports := [(3, { linkUp := true })] }); ((Machine.port x port.val).linkUp = true) := by decide +kernel

theorem met_mdioC22Read : let t := 0; let sid : Nat := 1; let port : Fin 76 := 3; let prtad : Fin 32 := 5; let devad : Fin 32 := 6; let x := atTick t (on opSys); (port.val ≤ 72) ∧ (mayCommand x.1 sid (pix port.val 6) 4 (0 * 2 ^ 60 + prtad.val * 2 ^ 48 + devad.val * 2 ^ 40)) ∧ ((Machine.port (commandPoint sid x).1 port.val).mdioBusy = false) ∧ ((commandPoint sid x).1.mdio.length < 16) := by unfold mayCommand; decide +kernel

theorem met_mdioC22Write : let t := 0; let sid : Nat := 1; let port : Fin 76 := 3; let prtad : Fin 32 := 5; let devad : Fin 32 := 6; let data : BitVec 16 := 7; let x := atTick t (on opSys); (port.val ≤ 72) ∧ (mayCommand x.1 sid (pix port.val 6) 4 (1 * 2 ^ 60 + prtad.val * 2 ^ 48 + devad.val * 2 ^ 40 + data.toNat)) ∧ ((Machine.port (commandPoint sid x).1 port.val).mdioBusy = false) ∧ ((commandPoint sid x).1.mdio.length < 16) := by unfold mayCommand; decide +kernel

theorem met_mdioC45Address : let t := 0; let sid : Nat := 1; let port : Fin 76 := 3; let prtad : Fin 32 := 5; let devad : Fin 32 := 6; let data : BitVec 16 := 7; let x := atTick t (on opSys); (port.val ≤ 72) ∧ (mayCommand x.1 sid (pix port.val 6) 4 (2 * 2 ^ 60 + prtad.val * 2 ^ 48 + devad.val * 2 ^ 40 + data.toNat)) ∧ ((Machine.port (commandPoint sid x).1 port.val).mdioBusy = false) ∧ ((commandPoint sid x).1.mdio.length < 16) := by unfold mayCommand; decide +kernel

theorem met_mdioC45Write : let t := 0; let sid : Nat := 1; let port : Fin 76 := 3; let prtad : Fin 32 := 5; let devad : Fin 32 := 6; let data : BitVec 16 := 7; let x := atTick t (on opSys); (port.val ≤ 72) ∧ (mayCommand x.1 sid (pix port.val 6) 4 (3 * 2 ^ 60 + prtad.val * 2 ^ 48 + devad.val * 2 ^ 40 + data.toNat)) ∧ ((Machine.port (commandPoint sid x).1 port.val).mdioBusy = false) ∧ ((commandPoint sid x).1.mdio.length < 16) := by unfold mayCommand; decide +kernel

theorem met_mdioC45Read : let t := 0; let sid : Nat := 1; let port : Fin 76 := 3; let prtad : Fin 32 := 5; let devad : Fin 32 := 6; let x := atTick t (on opSys); (port.val ≤ 72) ∧ (mayCommand x.1 sid (pix port.val 6) 4 (4 * 2 ^ 60 + prtad.val * 2 ^ 48 + devad.val * 2 ^ 40)) ∧ ((Machine.port (commandPoint sid x).1 port.val).mdioBusy = false) ∧ ((commandPoint sid x).1.mdio.length < 16) := by unfold mayCommand; decide +kernel

theorem met_mdioC45ReadInc : let t := 0; let sid : Nat := 1; let port : Fin 76 := 3; let prtad : Fin 32 := 5; let devad : Fin 32 := 6; let x := atTick t (on opSys); (port.val ≤ 72) ∧ (mayCommand x.1 sid (pix port.val 6) 4 (5 * 2 ^ 60 + prtad.val * 2 ^ 48 + devad.val * 2 ^ 40)) ∧ ((Machine.port (commandPoint sid x).1 port.val).mdioBusy = false) ∧ ((commandPoint sid x).1.mdio.length < 16) := by unfold mayCommand; decide +kernel

theorem met_mdioFrameDone : let t := 0; let line : BitVec 16 := 7; let c : MdioCmd := { port := 3, op := 0, prtad := 0, devad := 0, data := 0 }; let rest : List MdioCmd := []; let x := sysAt t (on { mdio := [{ port := 3, op := 0, prtad := 0, devad := 0, data := 0 }] }); (x.mdio = c :: rest) := by decide +kernel

theorem met_refRecovery : let t := 0; let x := sysAt t (on { fallback := true }); (x.fallback = true) := by decide +kernel

theorem met_tbOffsetMeasurement : let t := 0; let b : Fin 4 := 1; let source : Nat := 77; let x := sysAt t (on { devState := 1, now := 100, bases := [(1, { st := 1 })], ptpPorts := [(73, { state := 9 })], dict := [(dkey 0x0810 1 0 0, .num 1), (dkey 0x0810 2 0 0, .num 1), (dkey 0x0900 1 1 0, .num 1)] }); (stewardsRun x = true) ∧ (activeSource x b.val = 1) ∧ (inputPresent x b.val = true) ∧ ((base x b.val).st = 1) := by decide +kernel

theorem met_tbOffsetMeasurement_2 : let t := 0; let b : Fin 4 := 1; let source : Nat := 77; let x := sysAt t (on { devState := 1, now := 100, bases := [(1, { st := 2 })], ptpPorts := [(73, { state := 9 })], dict := [(dkey 0x0810 1 0 0, .num 1), (dkey 0x0810 2 0 0, .num 1), (dkey 0x0900 1 1 0, .num 1)] }); (stewardsRun x = true) ∧ (activeSource x b.val = 1) ∧ (inputPresent x b.val = true) ∧ ((base x b.val).st = 2 ∨ (base x b.val).st = 3) ∧ ((base x b.val).lastMeas < x.now) := by decide +kernel

theorem met_tbOffsetMeasurement_3 : let t := 0; let b : Fin 4 := 1; let source : Nat := 77; let x := sysAt t (on { devState := 1, now := 100, bases := [(1, { st := 2 })], kng := { st := 2 }, dict := [(dkey 0x0810 1 0 0, .num 1), (dkey 0x0810 2 0 0, .num 1), (dkey 0x2800 1 0 0, .num 1), (dkey 0x2800 12 0 0, .num 2)] }); (stewardsRun x = true) ∧ (activeSource x b.val = 3) ∧ (inputPresent x b.val = true) ∧ ((base x b.val).st = 2 ∨ (base x b.val).st = 3) ∧ ((base x b.val).lastMeas < x.now) := by decide +kernel

theorem met_tbOffsetMeasurement_4 : let t := 0; let b : Fin 4 := 1; let source : Nat := 77; let x := sysAt t (on { devState := 1 }); (stewardsRun x = true) ∧ (activeSource x b.val ≠ 1 ∧ activeSource x b.val ≠ 3) := by decide +kernel

theorem met_tbStepTo : let t := 0; let sid : Nat := 1; let b : Fin 4 := 1; let time : Nat := 2 ^ 48; let x := atTick t (on { opSys with bases := [(1, { st := 1 })], dict := [(dkey 0x0810 1 0 0, .num 1)] }); (bits time 47 16 ≤ 999999999) ∧ (mayCommand x.1 sid (tbIx b.val) 8 time) ∧ ((base (commandPoint sid x).1 b.val).st = 1) ∧ (activeSource (commandPoint sid x).1 b.val = 0) := by unfold mayCommand; decide +kernel

theorem met_tbStepTo_2 : let t := 0; let sid : Nat := 1; let b : Fin 4 := 1; let time : Nat := 2 ^ 48; let x := atTick t (on { opSys with bases := [(1, { st := 1 })], dict := [(dkey 0x0810 1 0 0, .num 1), (dkey 0x0810 2 0 0, .num 2)] }); (bits time 47 16 ≤ 999999999) ∧ (mayCommand x.1 sid (tbIx b.val) 8 time) ∧ ((base (commandPoint sid x).1 b.val).st = 1) ∧ (activeSource (commandPoint sid x).1 b.val = 2) := by unfold mayCommand; decide +kernel

theorem met_tbRestep : let t := 0; let sid : Nat := 1; let b : Fin 4 := 1; let x := atTick t (on armedSys); (mayStage x.1 sid (tbIx b.val) 0x0E (1)) := by unfold mayStage; decide +kernel

theorem met_tbInputLoss : let t := 0; let b : Fin 4 := 1; let x := sysAt t (on { devState := 1, now := 3750000000, bases := [(1, { st := 2 })], dict := [(dkey 0x0810 1 0 0, .num 1), (dkey 0x0810 2 0 0, .num 1), (dkey 0x0900 1 1 0, .num 1)] }); ((base x b.val).st = 2 ∨ (base x b.val).st = 3) ∧ ((base x b.val).lastMeas + obj x (tbIx b.val) 0x0C * Config.ticksPerMs ≤ x.now ∨ inputPresent x b.val = false) := by decide +kernel

theorem met_tbInputLoss_2 : let t := 0; let b : Fin 4 := 1; let x := sysAt t (on {}); (((base x b.val).st ≠ 2 ∧ (base x b.val).st ≠ 3) ∨ (x.now < (base x b.val).lastMeas + obj x (tbIx b.val) 0x0C * Config.ticksPerMs ∧ inputPresent x b.val = true)) := by decide +kernel

theorem met_refRecovery_2 : let t := 0; let x := sysAt t (on {}); (x.fallback = false) := by decide +kernel

theorem met_ppsEdge : let t := 0; let pin : Fin 4 := 2; let x := sysAt t (on { devState := 1 }); (stewardsRun x = true) ∧ (cell x 0x0841 1 pin.val 0 ≠ 4 ∨ activeSource x (cell x 0x0841 1 pin.val 1) ≠ 2 ∨ ppsPin x (cell x 0x0841 1 pin.val 1) ≠ some pin.val) := by decide +kernel

theorem met_ppsEdge_2 : let t := 0; let pin : Fin 4 := 2; let b : Nat := 1; let x := sysAt t (on { devState := 1, dict := [(dkey 0x0810 1 0 0, .num 1), (dkey 0x0810 2 0 0, .num 2), (dkey 0x0841 1 2 0, .num 4), (dkey 0x0841 1 2 1, .num 1)] }); (stewardsRun x = true) ∧ (cell x 0x0841 1 pin.val 0 = 4) ∧ (cell x 0x0841 1 pin.val 1 = b) ∧ (activeSource x b = 2) ∧ (ppsPin x b = some pin.val) := by decide +kernel

theorem met_tsQueueDrain : let t := 0; let port : Fin 76 := 3; let x := sysAt t (on { devState := 1 }); (stewardsRun x = true) := by decide +kernel

theorem met_tioEdge : let t := 0; let pin : Fin 4 := 2; let rising : Bool := true; let x := sysAt t (on { devState := 1, dict := [(dkey 0x0841 1 2 0, .num 3)] }); (stepDone x 11 = true) ∧ (cell x 0x0841 1 pin.val 0 = 3) ∧ (¬(cell x 0x0841 1 pin.val 6 = 1 ∧ rising = false) ∧ ¬(cell x 0x0841 1 pin.val 6 = 2 ∧ rising = true)) ∧ ((Machine.pin x pin.val).lastEdge.all (fun l => decide (l + 25 ≤ x.now)) = true) ∧ (((Machine.pin x pin.val).events.filter (fun e => decide (cell x 0x0841 3 pin.val 0 < e.1))).length < 16) := by decide +kernel

theorem met_tioEdge_2 : let t := 0; let pin : Fin 4 := 2; let rising : Bool := true; let x := sysAt t (on { devState := 1, pins := [(2, { lastEdge := some 0 })], dict := [(dkey 0x0841 1 2 0, .num 3)] }); (stepDone x 11 = true) ∧ (cell x 0x0841 1 pin.val 0 = 3) ∧ (¬(cell x 0x0841 1 pin.val 6 = 1 ∧ rising = false) ∧ ¬(cell x 0x0841 1 pin.val 6 = 2 ∧ rising = true)) ∧ ((Machine.pin x pin.val).lastEdge.any (fun l => decide (x.now < l + 25)) = true) := by decide +kernel

theorem met_tioEdge_3 : let t := 0; let pin : Fin 4 := 2; let rising : Bool := true; let x := sysAt t (on { devState := 1, pins := [(2, { events := (List.range 16).map (fun i => (i + 1, 1, 0)) })], dict := [(dkey 0x0841 1 2 0, .num 3)] }); (stepDone x 11 = true) ∧ (cell x 0x0841 1 pin.val 0 = 3) ∧ (¬(cell x 0x0841 1 pin.val 6 = 1 ∧ rising = false) ∧ ¬(cell x 0x0841 1 pin.val 6 = 2 ∧ rising = true)) ∧ ((Machine.pin x pin.val).lastEdge.any (fun l => decide (x.now < l + 25)) = false) ∧ (16 ≤ ((Machine.pin x pin.val).events.filter (fun e => decide (cell x 0x0841 3 pin.val 0 < e.1))).length) := by decide +kernel

theorem met_tioEdge_4 : let t := 0; let pin : Fin 4 := 2; let rising : Bool := true; let x := sysAt t (on {}); (stepDone x 11 = false ∨ cell x 0x0841 1 pin.val 0 ≠ 3 ∨ (cell x 0x0841 1 pin.val 6 = 1 ∧ rising = false) ∨ (cell x 0x0841 1 pin.val 6 = 2 ∧ rising = true)) := by decide +kernel

theorem met_actionExecute : let t := 0; let row : Fin 64 := 3; let x := sysAt t (on { actions := [(3, { state := 1 })] }); ((action x row.val).state = 1) ∧ ((action x row.val).due ≤ clock x (cell x 0x0842 1 row.val 1)) := by decide +kernel

theorem met_actionPulseEnd : let t := 0; let row : Fin 64 := 3; let u : Nat := 0; let x := sysAt t (on { actions := [(3, { pulseEnd := some 0 })] }); ((action x row.val).pulseEnd = some u) ∧ (u ≤ clock x (cell x 0x0842 1 row.val 1)) := by decide +kernel

theorem met_sfUnblock : let t := 0; let sid : Nat := 1; let h : Fin 4096 := 5; let x := atTick t (on opSys); (mayCommand x.1 sid 0x6000 3 (h.val)) := by unfold mayCommand; decide +kernel

theorem met_sgClear : let t := 0; let sid : Nat := 1; let gate : Fin 1024 := 5; let x := atTick t (on opSys); (mayCommand x.1 sid 0x6100 4 (gate.val)) := by unfold mayCommand; decide +kernel

theorem met_meterClearRed : let t := 0; let sid : Nat := 1; let meter : Fin 4096 := 5; let x := atTick t (on opSys); (mayCommand x.1 sid 0x6200 3 (meter.val)) := by unfold mayCommand; decide +kernel

theorem met_frerGenReset : let t := 0; let sid : Nat := 1; let fn : Fin 2048 := 5; let x := atTick t (on opSys); (mayCommand x.1 sid 0x6400 4 (fn.val)) := by unfold mayCommand; decide +kernel

theorem met_frerRcvyReset : let t := 0; let sid : Nat := 1; let fn : Fin 2048 := 5; let x := atTick t (on opSys); (mayCommand x.1 sid 0x6400 7 (fn.val)) := by unfold mayCommand; decide +kernel

theorem met_frerRecoveryTimeout : let t := 0; let fn : Fin 2048 := 7; let last : Nat := 0; let x := sysAt t (on { now := 200000000, rcvy := [(7, { lastPass := some 0 })], dict := [(dkey 0x6400 5 7 0, .num 1)] }); ((rcvy x fn.val).lastPass = some last) ∧ (cellB x 0x6400 5 fn.val 0 = true) ∧ (last + (rcvy x fn.val).resetMs * Config.ticksPerMs ≤ x.now) := by decide +kernel

theorem met_frerLatentTest : let t := 0; let fn : Fin 2048 := 7; let x := sysAt t (on { devState := 1, rcvy := [(7, { p := 100, x := 10 })], dict := [(dkey 0x6400 5 7 0, .num 1), (dkey 0x6400 5 7 11, .num 1)] }); (stewardsRun x = true) ∧ (cell x 0x6400 5 fn.val 0 ≠ 0) ∧ (cell x 0x6400 5 fn.val 11 ≠ 0) ∧ ((rcvy x fn.val).p * (cell x 0x6400 5 fn.val 12 - 1) > cell x 0x6400 5 fn.val 13 + (rcvy x fn.val).x) := by decide +kernel

theorem met_frerLatentTest_2 : let t := 0; let fn : Fin 2048 := 7; let x := sysAt t (on { devState := 1, rcvy := [(7, { p := 100, x := 50 })], dict := [(dkey 0x6400 5 7 0, .num 1), (dkey 0x6400 5 7 11, .num 1)] }); (stewardsRun x = true) ∧ (cell x 0x6400 5 fn.val 0 ≠ 0) ∧ (cell x 0x6400 5 fn.val 11 ≠ 0) ∧ ((rcvy x fn.val).p * (cell x 0x6400 5 fn.val 12 - 1) ≤ cell x 0x6400 5 fn.val 13 + (rcvy x fn.val).x) := by decide +kernel

theorem met_frerLatentPeriodReset : let t := 0; let fn : Fin 2048 := 7; let x := sysAt t (on { devState := 1, rcvy := [(7, { p := 100, x := 10 })], dict := [(dkey 0x6400 5 7 0, .num 1), (dkey 0x6400 5 7 11, .num 1)] }); (stewardsRun x = true) ∧ (cellB x 0x6400 5 fn.val 0 = true) ∧ (cellB x 0x6400 5 fn.val 11 = true) := by decide +kernel

theorem met_hbmBlockRead : let t := 0; let lba : Nat := 7; let owner : Fin 10 := 0; let noise : List Disturbance := []; let x := atTick t (on { devState := 1 }); let y := onSys (claim lba owner.val) x; (lba < Config.memBlocks) ∧ (stepDone x.1 8 = true) ∧ (touched y.1 lba = false) := by decide +kernel

theorem met_hbmBlockRead_2 : let t := 0; let lba : Nat := 7; let owner : Fin 10 := 0; let noise : List Disturbance := []; let x := atTick t (({ sys := { devState := 1, mem := { touched := [(0, true)] } }, hbm := putShares 7 (tagWord false 0 7) 0 (List.replicate 18 (List.replicate 32 0)) [] } : State)); let y := onSys (claim lba owner.val) x; (lba < Config.memBlocks) ∧ (stepDone x.1 8 = true) ∧ (touched y.1 lba = true) ∧ ((decodeAt lba noise y).verdict ≠ 4) := by unfold decodeAt; decide +kernel

theorem met_hbmBlockRead_3 : let t := 0; let lba : Nat := 7; let owner : Fin 10 := 0; let noise : List Disturbance := []; let x := atTick t (on { devState := 1, mem := { touched := [(0, true)] } }); let y := onSys (claim lba owner.val) x; (lba < Config.memBlocks) ∧ (stepDone x.1 8 = true) ∧ (touched y.1 lba = true) ∧ ((decodeAt lba noise y).verdict = 4) := by decide +kernel

theorem met_hbmBlockRead_4 : let t := 0; let lba : Nat := 7; let owner : Fin 10 := 0; let noise : List Disturbance := []; let x := atTick t (on {}); (lba < Config.memBlocks) ∧ (stepDone x.1 8 = false) := by decide +kernel

theorem met_hbmBlockWrite : let t := 0; let lba : Nat := 7; let owner : Fin 10 := 0; let data : List Byte := []; let x := atTick t (on { devState := 1 }); (lba < Config.memBlocks) ∧ (stepDone x.1 8 = true) := by decide +kernel

theorem met_hbmBlockWrite_2 : let t := 0; let lba : Nat := 7; let owner : Fin 10 := 0; let data : List Byte := []; let x := atTick t (on {}); (lba < Config.memBlocks) ∧ (stepDone x.1 8 = false) := by decide +kernel

theorem met_narrowWrite : let t := 0; let lba : Nat := 7; let owner : Fin 10 := 0; let words : List (Fin 64 × List Byte) := [(3, [])]; let e : MergeEntry := { lba := 7, mask := 0, data := [], at_ := 0 }; let x := atTick t (on { devState := 1, mem := { merge := [{ lba := 7, mask := 0, data := [], at_ := 0 }] } }); (lba < Config.memBlocks) ∧ (stepDone x.1 8 = true) ∧ (words ≠ []) ∧ (mergeOf x.1 lba = some e) ∧ ((e.puts words).mask ≠ 2 ^ 64 - 1) ∧ (obj x.1 0x0620 1 ≠ 0) := by decide +kernel

theorem met_narrowWrite_2 : let t := 0; let lba : Nat := 7; let owner : Fin 10 := 0; let words : List (Fin 64 × List Byte) := [(3, [])]; let x := atTick t (on { devState := 1 }); (lba < Config.memBlocks) ∧ (stepDone x.1 8 = true) ∧ (words ≠ []) ∧ (mergeOf x.1 lba = none) ∧ (x.1.mem.merge.length < 256) ∧ (obj x.1 0x0620 1 ≠ 0) ∧ ((({ lba := lba, mask := 0, data := List.replicate 512 0, at_ := x.1.now } : MergeEntry).puts words).mask ≠ 2 ^ 64 - 1) := by decide +kernel

theorem met_narrowWrite_3 : let t := 0; let lba : Nat := 7; let owner : Fin 10 := 0; let words : List (Fin 64 × List Byte) := [(3, [])]; let e : MergeEntry := ((mergeOf (mergeWords 7 [(3, [])] (onSys (claim 7 0) ({ devState := 1, dict := [(dkey 0x0620 1 0 0, .num 0)] }, []))).1 7).getD { lba := 0, mask := 0, data := [], at_ := 0 }); let x := atTick t (on { devState := 1, dict := [(dkey 0x0620 1 0 0, .num 0)] }); let y := mergeWords lba words (onSys (claim lba owner.val) x); (lba < Config.memBlocks) ∧ (stepDone x.1 8 = true) ∧ (words ≠ []) ∧ (mergeOf y.1 lba = some e) ∧ (e.mask = 2 ^ 64 - 1 ∨ obj y.1 0x0620 1 = 0) := by decide +kernel

theorem met_narrowWrite_4 : let t := 0; let lba : Nat := 7; let owner : Fin 10 := 0; let words : List (Fin 64 × List Byte) := []; let x := atTick t (on { devState := 1 }); (lba < Config.memBlocks) ∧ (stepDone x.1 8 = true) ∧ (words = []) := by decide +kernel

theorem met_narrowWrite_5 : let t := 0; let lba : Nat := 7; let owner : Fin 10 := 0; let words : List (Fin 64 × List Byte) := []; let x := atTick t (on {}); (lba < Config.memBlocks) ∧ (stepDone x.1 8 = false) := by decide +kernel

theorem met_mergeWindowExpiry : let t := 0; let lba : Nat := 7; let noise : List Disturbance := []; let e : MergeEntry := { lba := 7, mask := 1, data := [], at_ := 0 }; let x := atTick t (on { now := 10000000, mem := { merge := [{ lba := 7, mask := 1, data := [], at_ := 0 }] } }); (mergeOf x.1 lba = some e) ∧ (e.at_ * 4 + obj x.1 0x0620 1 * 5 ≤ x.1.now * 4) := by decide +kernel

theorem met_memDieFailCmd : let t := 0; let sid : Nat := 1; let die : Fin 24 := 5; let x := atTick t (on armedSys); (mayStage x.1 sid 0x0600 5 (256 + die.val)) := by unfold mayStage; decide +kernel

theorem met_memDieRestoreCmd : let t := 0; let sid : Nat := 1; let die : Fin 24 := 5; let x := atTick t (on armedSys); (mayStage x.1 sid 0x0600 5 (512 + die.val)) := by unfold mayStage; decide +kernel

theorem met_chiselPassStart : let t := 0; let base : Nat := 0; let x := sysAt t (on { devState := 1, now := 36000000000000, mem := { autoBase := some 0 } }); (x.mem.autoBase = some base) ∧ (x.devState = 1) ∧ (x.mem.auto = none) ∧ (base + obj x 0x0630 1 * 3600 * Config.ticksPerS ≤ x.now) := by decide +kernel

theorem met_chiselBlock : let t := 0; let requested : Bool := true; let noise : List Disturbance := []; let p : Pass := { cmd := 1, first := 0, count := 256, start := 0, pos := 0 }; let lba : Nat := 128; let x := atTick t (on { devState := 1, mem := { touched := [(1, true)], req := some { cmd := 1, first := 0, count := 256, start := 0, pos := 0 } } }); (passOf x.1 requested = some p) ∧ (mayChisel x.1 requested = true) ∧ (nextTouched x.1 p.pos = some lba) ∧ (lba < p.end_) := by decide +kernel

theorem met_chiselPassEnd : let t := 0; let requested : Bool := true; let p : Pass := { cmd := 1, first := 0, count := 256, start := 0, pos := 256 }; let x := sysAt t (on { devState := 1, mem := { touched := [(1, true)], req := some { cmd := 1, first := 0, count := 256, start := 0, pos := 256 } } }); (passOf x requested = some p) ∧ (mayChisel x requested = true) ∧ ((nextTouched x p.pos).all (fun l => decide (p.end_ ≤ l)) = true) := by decide +kernel

theorem met_chiselScrub : let t := 0; let sid : Nat := 1; let x := atTick t (on opSys); (mayCommand x.1 sid 0x0630 5 (1)) ∧ ((commandPoint sid x).1.mem.req = none) := by unfold mayCommand; decide +kernel

theorem met_chiselVerify : let t := 0; let sid : Nat := 1; let x := atTick t (on opSys); (mayCommand x.1 sid 0x0630 5 (2)) ∧ ((commandPoint sid x).1.mem.req = none) := by unfold mayCommand; decide +kernel

theorem met_chiselAbort : let t := 0; let sid : Nat := 1; let x := atTick t (on { opSys with mem := { req := some { cmd := 1, first := 0, count := 256, start := 0, pos := 0 } } }); (mayCommand x.1 sid 0x0630 5 (3)) ∧ ((commandPoint sid x).1.mem.req.isSome = true) := by unfold mayCommand; decide +kernel

theorem met_remapCmd : let t := 0; let sid : Nat := 1; let lba : Nat := 7; let x := atTick t (on opSys); (mayCommand x.1 sid 0x0610 3 (lba)) ∧ (lba < Config.memBlocks) := by unfold mayCommand; decide +kernel

theorem met_sramSweep : let t := 0; let mem : Fin 10 := 0; let hits : List SramHit := []; let x := atTick t (on { devState := 1 }); (stepDone x.1 3 = true) := by decide +kernel

theorem met_shadowRebuildDone : let t := 0; let index : Nat := 7; let x := sysAt t (on { devState := 1, mem := { rebuilds := 1 } }); (stewardsRun x = true) ∧ (x.mem.rebuilds ≠ 0) := by decide +kernel

theorem met_maquettePeriod : let t := 0; let spentUj : Nat := 7; let x := sysAt t (on { devState := 1, now := 1280000 }); (x.devState ≠ 0) ∧ (x.nrg.plan.period < periodOf x) := by decide +kernel

theorem met_maquettePeriod_2 : let t := 0; let spentUj : Nat := 7; let x := sysAt t (on {}); (x.devState = 0 ∨ periodOf x ≤ x.nrg.plan.period) := by decide +kernel

theorem met_maquettePlanLoad : let t := 0; let offer : PlanOffer := { demand := 5, steps := [], traded := [], floorSafety := 0, floorSched := 0, floorLinks := 0, clocks := 0, hbm := 0, emm := 0, tiles := 0, t8 := 0, lanes := [], wakes := [] }; let x := sysAt t (on { devState := 2 }); (stewardsRun x = true) ∧ (x.dcZero + 1280000 * (periodOf x + 1) - x.now < 12500 ∨ x.devState ≠ 1) := by decide +kernel

theorem met_maquettePlanLoad_2 : let t := 0; let offer : PlanOffer := { demand := 5, steps := [], traded := [], floorSafety := 0, floorSched := 0, floorLinks := 0, clocks := 0, hbm := 0, emm := 0, tiles := 0, t8 := 0, lanes := [], wakes := [] }; let x := sysAt t (on { devState := 1 }); (stewardsRun x = true) ∧ (x.devState = 1) ∧ (x.plinth.restart = none) ∧ (x.now + 12500 ≤ x.dcZero + 1280000 * (periodOf x + 1)) := by decide +kernel

theorem met_wakeListEntry : let t := 0; let x := sysAt t (on { devState := 1, nrg := { form := { wakes := [(0, 2, 0, 0)] } } }); (x.devState ≠ 0) := by decide +kernel

theorem met_surge : let t := 0; let x := sysAt t (on { devState := 1, decA := { st := .leading }, frames := (List.range 257).map (fun i => (i, some { stage := .numbered, seq := i + 1 })) }); (x.devState ≠ 0) ∧ (x.devState ≠ 3) ∧ ((List.range 8).any (fun t => decide (stagingBytes < 8 * stagingUsed x t)) = true ∨ 256 < waitingHeads x) ∧ (surging x (periodOf x) = false) := by decide +kernel

theorem met_surge_2 : let t := 0; let x := sysAt t (on {}); (x.devState = 0 ∨ x.devState = 3 ∨ ¬((List.range 8).any (fun t => decide (stagingBytes < 8 * stagingUsed x t)) = true ∨ 256 < waitingHeads x) ∨ surging x (periodOf x) = true) := by decide +kernel

theorem met_dormantEnterCmd : let t := 0; let sid : Nat := 1; let x := atTick t (on { opSys with dict := [(dkey 0x0420 2 0 0, .num 1)] }); (mayCommand x.1 sid 0x0420 1 (1)) ∧ (dormantRefusal (commandPoint sid x).1 = none) := by unfold mayCommand; decide +kernel

theorem met_dormantExitCmd : let t := 0; let sid : Nat := 1; let x := atTick t (on { opSys with devState := 3 }); (mayCommand x.1 sid 0x0420 1 (2)) ∧ ((commandPoint sid x).1.devState = 2 ∨ (commandPoint sid x).1.devState = 3) ∧ ((commandPoint sid x).1.nrg.pendingWake = none) := by unfold mayCommand; decide +kernel

theorem met_dormantDrainEnd : let t := 0; let x := atTick t (on { devState := 2 }); (x.1.devState = 2) ∧ (x.1.nrg.drainEnd ≤ x.1.now) := by decide +kernel

theorem met_dormantWakeTime : let t := 0; let x := sysAt t (on { devState := 3, dict := [(dkey 0x0420 4 0 0, .num 3), (dkey 0x0420 6 0 0, .num 4)] }); (bit (obj x 0x0420 4) 1 = true) ∧ (baseCounts x (obj x 0x0420 6) = true) ∧ (timeUnits (obj x 0x0420 5) ≤ clock x (obj x 0x0420 6)) ∧ (x.devState = 2 ∨ x.devState = 3) ∧ (x.nrg.pendingWake = none) := by decide +kernel

theorem met_dormantExitReady : let t := 0; let failA : Bool := false; let failB : Bool := true; let x := sysAt t (on { devState := 4 }); (x.devState = 4) := by decide +kernel

theorem met_clockMonitorWindow : let t := 0; let domain : Fin 25 := 1; let khz : Nat := 100000; let want : Nat := 100000; let locked : Bool := true; let x := sysAt t (on { devState := 1 }); (stepDone x (clockStep domain.val) = true) ∧ (planKhz x domain.val = some want) ∧ (domain.val ≤ 2) := by decide +kernel

theorem met_clockMonitorWindow_2 : let t := 0; let domain : Fin 25 := 4; let khz : Nat := 0; let want : Nat := 1250000; let locked : Bool := false; let x := sysAt t (on { devState := 1, decA := { st := .deposed } }); (stepDone x (clockStep domain.val) = true) ∧ (planKhz x domain.val = some want) ∧ (3 ≤ domain.val) ∧ (plannedStop x domain.val = true) := by decide +kernel

theorem met_clockMonitorWindow_3 : let t := 0; let domain : Fin 25 := 6; let khz : Nat := 1250000; let want : Nat := 1250000; let locked : Bool := true; let x := sysAt t (on { devState := 1 }); (stepDone x (clockStep domain.val) = true) ∧ (planKhz x domain.val = some want) ∧ (3 ≤ domain.val) ∧ (plannedStop x domain.val = false) ∧ (want * 95 ≤ khz * 100 ∧ khz * 100 ≤ want * 105) ∧ (locked = true) := by decide +kernel

theorem met_clockMonitorWindow_4 : let t := 0; let domain : Fin 25 := 6; let khz : Nat := 900000; let want : Nat := 1250000; let locked : Bool := true; let x := sysAt t (on { devState := 1 }); let v : ClockMon := SMap.get {} x.plinth.clocks domain.val; (stepDone x (clockStep domain.val) = true) ∧ (planKhz x domain.val = some want) ∧ (3 ≤ domain.val) ∧ (plannedStop x domain.val = false) ∧ (¬(want * 95 ≤ khz * 100 ∧ khz * 100 ≤ want * 105)) ∧ (locked = true) ∧ (v.bad = 0) := by decide +kernel

theorem met_clockMonitorWindow_5 : let t := 0; let domain : Fin 25 := 6; let khz : Nat := 900000; let want : Nat := 1250000; let locked : Bool := true; let x := sysAt t (on { devState := 1, plinth := { clocks := [(6, { bad := 1 })] } }); let v : ClockMon := SMap.get {} x.plinth.clocks domain.val; (stepDone x (clockStep domain.val) = true) ∧ (planKhz x domain.val = some want) ∧ (3 ≤ domain.val) ∧ (plannedStop x domain.val = false) ∧ (¬(want * 95 ≤ khz * 100 ∧ khz * 100 ≤ want * 105)) ∧ (1 ≤ v.bad) := by decide +kernel

theorem met_clockMonitorWindow_6 : let t := 0; let domain : Fin 25 := 6; let khz : Nat := 1250000; let want : Nat := 1250000; let locked : Bool := false; let x := sysAt t (on { devState := 1 }); let v : ClockMon := SMap.get {} x.plinth.clocks domain.val; (stepDone x (clockStep domain.val) = true) ∧ (planKhz x domain.val = some want) ∧ (3 ≤ domain.val) ∧ (plannedStop x domain.val = false) ∧ (locked = false) := by decide +kernel

theorem met_clockMonitorWindow_7 : let t := 0; let domain : Fin 25 := 6; let khz : Nat := 7; let locked : Bool := true; let x := sysAt t (on {}); (stepDone x (clockStep domain.val) = false) := by decide +kernel

theorem met_clockVote : let t := 0; let watch : Nat := 10; let ref : Nat := 10; let aon : Nat := 12; let x := sysAt t (on { devState := 1 }); (stepDone x 2 = true) := by decide +kernel

theorem met_voltageExcursion : let t := 0; let rail : Fin 10 := 0; let mv : Nat := 700; let lastedNs : Nat := 1500; let x := sysAt t (on { devState := 1 }); (stepDone x 3 = true) ∧ (mv < (railWindow rail.val).1 ∨ (railWindow rail.val).2.1 < mv) ∧ (1500 ≤ lastedNs) ∧ (monClocked x = true) := by decide +kernel

theorem met_voltageExcursion_2 : let t := 0; let rail : Fin 10 := 0; let mv : Nat := 800; let lastedNs : Nat := 9; let x := sysAt t (on { devState := 1 }); (stepDone x 3 = true) ∧ (((railWindow rail.val).1 ≤ mv ∧ mv ≤ (railWindow rail.val).2.1) ∨ lastedNs < 500) ∧ (monClocked x = true) := by decide +kernel

theorem met_voltageExcursion_3 : let t := 0; let rail : Fin 10 := 0; let mv : Nat := 700; let lastedNs : Nat := 900; let x := sysAt t (on { devState := 1 }); (stepDone x 3 = true) ∧ (mv < (railWindow rail.val).1 ∨ (railWindow rail.val).2.1 < mv) ∧ (500 ≤ lastedNs ∧ lastedNs < 1500) ∧ (monClocked x = true) := by decide +kernel

theorem met_voltageExcursion_4 : let t := 0; let rail : Fin 10 := 0; let mv : Nat := 700; let lastedNs : Nat := 1500; let x := sysAt t (on {}); (stepDone x 3 = false ∨ monClocked x = false) := by decide +kernel

theorem met_tempSample : let t := 0; let readings : List Int := [900]; let x := sysAt t (on { devState := 1 }); (stepDone x 3 = true) ∧ (monClocked x = true) := by decide +kernel

theorem met_marginRead : let t := 0; let readings : List Nat := [10]; let x := sysAt t (on { devState := 1 }); (stepDone x 3 = true) := by decide +kernel

theorem met_aonCrystalTimeout : let t := 0; let x := sysAt t (on { devState := 1, now := 2500000000 }); (x.boot.trigger + 2 * Config.ticksPerS ≤ x.now ∧ (2 ≤ x.devStep ∨ x.devState ≠ 0)) := by decide +kernel

theorem met_aonCrystalTimeout_2 : let t := 0; let x := sysAt t (on {}); (¬(x.boot.trigger + 2 * Config.ticksPerS ≤ x.now ∧ (2 ≤ x.devStep ∨ x.devState ≠ 0))) := by decide +kernel

theorem met_configCheckPass : let t := 0; let found : List Mismatch := []; let x := sysAt t (on { devState := 1 }); (stepDone x 9 = true) := by decide +kernel

theorem met_chunkReloadDone : let t := 0; let r : Reload := { index := 1, chunk := 2, prot := false }; let rest : List Reload := []; let x := sysAt t (on { reloads := [{ index := 1, chunk := 2, prot := false }] }); (x.reloads = r :: rest) := by decide +kernel

theorem met_faultPinReadback : let t := 0; let aHigh : Bool := true; let bHigh : Bool := false; let x := sysAt t (on { devState := 1 }); (stepDone x 2 = true) := by decide +kernel

theorem met_plinthMiscompare : let t := 0; let x := sysAt t (on { devState := 1 }); (stepDone x 1 = true) ∧ (bit x.faults 0 = false) := by decide +kernel

theorem met_plinthRomCheck : let t := 0; let x := sysAt t (on { devState := 1 }); (stepDone x 2 = true) ∧ (bit x.faults 0 = false) := by decide +kernel

theorem met_plinthRomCheck_2 : let t := 0; let x := sysAt t (on { devState := 1 }); (stepDone x 2 = true) := by decide +kernel

theorem met_keepSignalTimeout : let t := 0; let unit : Fin 10 := 9; let x := sysAt t (on { devState := 1 }); (stepDone x 2 = true) := by decide +kernel

theorem met_stewardHeartbeatMiss : let t := 0; let steward : Fin 4 := 2; let x := sysAt t (on { devState := 1 }); (x.devState ≠ 0) ∧ (x.plinth.restart = none) := by decide +kernel

theorem met_stewardHeartbeatMiss_2 : let t := 0; let steward : Fin 4 := 2; let x := sysAt t (on { devState := 1, plinth := { restart := some 0 } }); (x.devState ≠ 0) ∧ (x.plinth.restart.isSome = true) := by decide +kernel

theorem met_stewardHeartbeatMiss_3 : let t := 0; let steward : Fin 4 := 2; let x := sysAt t (on {}); (x.devState = 0) := by decide +kernel

theorem met_stewardRestartDone : let t := 0; let start : Nat := 0; let x := sysAt t (on { plinth := { restart := some 0 } }); (x.plinth.restart = some start) := by decide +kernel

theorem met_safClear : let t := 0; let sid : Nat := 1; let mask : BitVec 32 := 0x2000; let x := atTick t (on armedSys); (mayStage x.1 sid 0x0540 4 (mask.toNat)) := by unfold mayStage; decide +kernel

theorem met_safPinTestB : let t := 0; let sid : Nat := 1; let x := atTick t (on armedSys); (mayStage x.1 sid 0x0540 0x0A (1)) := by unfold mayStage; decide +kernel

theorem met_safPinTestA : let t := 0; let sid : Nat := 1; let x := atTick t (on armedSys); (mayStage x.1 sid 0x0540 0x0A (2)) := by unfold mayStage; decide +kernel

theorem met_pinTestEnd : let t := 0; let onA : Bool := true; let till : Nat := 0; let x := sysAt t (on { plinth := { pinTest := some (true, 0) } }); (x.plinth.pinTest = some (onA, till)) ∧ (till ≤ x.now) := by decide +kernel

theorem met_recorderDraw : let t := 0; let y : Sys := (drawFrom 74 8 (tidyDrr recSys)).1; let id : Nat := 0; let x := sysAt t (on recSys); (x.recFree ≤ x.now) ∧ (traded x < 2) ∧ (x.devState = 1) ∧ (drawFrom 74 8 (tidyDrr x) = (y, some id)) := by decide +kernel

theorem met_recorderDraw_2 : let t := 0; let x := sysAt t (on {}); (x.now < x.recFree ∨ 2 ≤ traded x ∨ x.devState ≠ 1 ∨ (drawFrom 74 8 (tidyDrr x)).2 = none) := by decide +kernel

theorem met_recOverrunReport : let t := 0; let x := sysAt t (on { now := 1250000000, recd := { overCount := 1 } }); (0 < x.recd.overCount) ∧ (x.recd.overTold + Config.ticksPerS ≤ x.now) := by decide +kernel

theorem met_recTriggerNow : let t := 0; let sid : Nat := 1; let x := atTick t (on opSys); (mayCommand x.1 sid 0x7810 0x0E (1)) := by unfold mayCommand; decide +kernel

theorem met_recTriggerAtTime : let t := 0; let sid : Nat := 1; let x := atTick t (on { opSys with dict := [(dkey 0x7810 8 0 0, .num 4)] }); (mayCommand x.1 sid 0x7810 0x0E (2)) := by unfold mayCommand; decide +kernel

theorem met_castFreeze : let t := 0; let i : Nat := 3; let x := sysAt t (on { now := 12500000000, recd := { casts := [(3, { st := 1 })] } }); (collecting x = some i) ∧ ((cast x i).at_ + obj x 0x7810 0x0A * 1000000 * nsUnits ≤ clock x (recClock x)) := by decide +kernel

theorem met_castRelease : let t := 0; let sid : Nat := 1; let cast : Fin 8 := 3; let x := atTick t (on { opSys with recd := { casts := [(3, { st := 2 })] } }); (mayCommand x.1 sid 0x7820 2 (256 + cast.val)) ∧ (castRefused (commandPoint sid x).1 1 cast.val = false) := by unfold mayCommand; decide +kernel

theorem met_castReplay : let t := 0; let sid : Nat := 1; let cast : Fin 8 := 3; let x := atTick t (on { opSys with recd := { casts := [(3, { st := 2 })] } }); (mayCommand x.1 sid 0x7820 2 (512 + cast.val)) ∧ (castRefused (commandPoint sid x).1 2 cast.val = false) := by unfold mayCommand; decide +kernel

theorem met_castStopReplay : let t := 0; let sid : Nat := 1; let cast : Fin 8 := 3; let x := atTick t (on { opSys with recd := { casts := [(3, { st := 3 })] } }); (mayCommand x.1 sid 0x7820 2 (768 + cast.val)) ∧ (castRefused (commandPoint sid x).1 3 cast.val = false) := by unfold mayCommand; decide +kernel

theorem met_castReplayFrame : let t := 0; let r : Replay := { cast := 3, start := 0, first := 0, left := [(0, 0)] }; let n : Nat := 0; let h : List Byte := List.replicate 32 0; let b : List Byte := []; let rest : List (Nat × Nat) := []; let x := atTick t (on { devState := 1, recd := { replay := some { cast := 3, start := 0, first := 0, left := [(0, 0)] } } }); (x.1.recd.replay = some r) ∧ (skipRecords x r.left 0 = (n, some (h, b, rest))) ∧ (replayDue (bumpBy Ctr.castReplaySkip n x.1) r h = true) ∧ (x.1.devState = 1) := by decide +kernel

theorem met_castReplayFrame_2 : let t := 0; let r : Replay := { cast := 3, start := 0, first := 0, left := [] }; let n : Nat := 0; let x := atTick t (on { recd := { replay := some { cast := 3, start := 0, first := 0, left := [] } } }); (x.1.recd.replay = some r) ∧ (skipRecords x r.left 0 = (n, none)) := by decide +kernel

theorem met_castExportSel : let t := 0; let sid : Nat := 1; let cast : Fin 8 := 3; let part : Nat := 0; let x := atTick t (on { opSys with recd := { casts := [(3, { st := 2 })] } }); (mayOwn x.1 sid 0x7820 4) ∧ ((Machine.cast x.1 cast.val).st = 2) := by unfold mayOwn; decide +kernel

theorem met_exportScanDone : let t := 0; let sid : Nat := 1; let v : Session := { sid := 1, exp := { st := 1 } }; let x := atTick t (on { sessions := [{ sid := 1, exp := { st := 1 } }] }); (session? x.1 sid = some v) ∧ (v.exp.st = 1) := by decide +kernel

theorem met_castDirectoryRebuilt : let t := 0; let x := sysAt t (on { devState := 1, mem := { castDirLost := true } }); (stewardsRun x = true) ∧ (x.mem.castDirLost = true) := by decide +kernel

theorem met_porstNAssert : let t := 0; let x := atTick t (on { boot := { porst := false } }); (x.1.boot.porst = false) := by decide +kernel

theorem met_porstNAssert_2 : let t := 0; let x := atTick t (on { boot := { porst := true } }); (x.1.boot.porst = true) := by decide +kernel

theorem met_powerOnDetectorAssert : let t := 0; let x := atTick t (on { boot := { detector := false } }); (x.1.boot.detector = false) := by decide +kernel

theorem met_powerOnDetectorAssert_2 : let t := 0; let x := atTick t (on { boot := { detector := true } }); (x.1.boot.detector = true) := by decide +kernel

theorem met_porstNRelease : let t := 0; let boot : BootInput := bootIn; let x := atTick t (on { boot := { porst := true } }); (x.1.boot.porst = true) := by decide +kernel

theorem met_porstNRelease_2 : let t := 0; let boot : BootInput := bootIn; let x := atTick t (on { boot := { porst := false } }); (x.1.boot.porst = false) := by decide +kernel

theorem met_powerOnDetectorRelease : let t := 0; let boot : BootInput := bootIn; let x := atTick t (on { boot := { detector := true } }); (x.1.boot.detector = true) := by decide +kernel

theorem met_powerOnDetectorRelease_2 : let t := 0; let boot : BootInput := bootIn; let x := atTick t (on { boot := { detector := false } }); (x.1.boot.detector = false) := by decide +kernel

theorem met_wrstNRelease : let t := 0; let boot : BootInput := bootIn; let x := atTick t (on { boot := { wrst := true } }); (x.1.boot.wrst = true) := by decide +kernel

theorem met_wrstNRelease_2 : let t := 0; let boot : BootInput := bootIn; let x := atTick t (on { boot := { wrst := false } }); (x.1.boot.wrst = false) := by decide +kernel

theorem met_boundaryScanRelease : let t := 0; let boot : BootInput := bootIn; let x := atTick t (on { boot := { scan := true } }); (x.1.boot.scan = true) := by decide +kernel

theorem met_boundaryScanRelease_2 : let t := 0; let boot : BootInput := bootIn; let x := atTick t (on { boot := { scan := false } }); (x.1.boot.scan = false) := by decide +kernel

theorem met_wrstNAssert : let t := 0; let x := atTick t (on { devState := 1, boot := { porst := false, wasReady := true } }); (x.1.boot.wrst = false) ∧ (inHold x.1 = false) := by decide +kernel

theorem met_wrstNAssert_2 : let t := 0; let x := atTick t (on {}); (x.1.boot.wrst = false) ∧ (inHold x.1 = true) := by decide +kernel

theorem met_wrstNAssert_3 : let t := 0; let x := atTick t (on { boot := { wrst := true } }); (x.1.boot.wrst = true) := by decide +kernel

theorem met_boundaryScanHold : let t := 0; let x := atTick t (on { boot := { scan := true } }); (x.1.boot.scan = true) := by decide +kernel

theorem met_boundaryScanHold_2 : let t := 0; let x := atTick t (on { devState := 1, boot := { porst := false } }); (x.1.boot.scan = false) := by decide +kernel

theorem met_devResetWarm : let t := 0; let sid : Nat := 1; let x := atTick t (on opSys); (mayCommand x.1 sid 0x0110 3 (0xA501)) ∧ ((commandPoint sid x).1.boot.delay = none) := by unfold mayCommand; decide +kernel

theorem met_devResetFull : let t := 0; let sid : Nat := 1; let x := atTick t (on opSys); (mayCommand x.1 sid 0x0110 3 (0xA502)) ∧ ((commandPoint sid x).1.boot.delay = none) := by unfold mayCommand; decide +kernel

theorem met_devResetDelayExpiry : let t := 0; let boot : BootInput := bootIn; let due : Nat := 0; let full : Bool := true; let x := atTick t (on { devState := 1, boot := { porst := false, delay := some (0, true) } }); (x.1.boot.delay = some (due, full)) ∧ (due ≤ x.1.now) := by decide +kernel

theorem met_firmwareBootTimeout : let t := 0; let boot : BootInput := bootIn; let x := atTick t (on { devStep := 6, flash := { fw := 1 }, boot := { porst := false, fwFailed := true } }); (x.1.devState = 0) ∧ (x.1.devStep ≠ 0) ∧ (x.1.flash.fw ≠ 0) ∧ (x.1.boot.fwFailed = true ∨ x.1.boot.trigger + 2 * Config.ticksPerS ≤ x.1.now) := by decide +kernel

theorem met_fwStage : let t := 0; let sid : Nat := 1; let image : List Byte := []; let x := atTick t (on opSys); (mayCommand x.1 sid 0x0110 4 (Value.octets image).toNat) ∧ (image.length ≤ 4194304) ∧ (storing (commandPoint sid x).1 = false) ∧ ((commandPoint sid x).1.flash.stage = none) ∧ (({ header := image.take 256, payload := image.drop 256 } : Slot).valid 0 = false) := by unfold mayCommand; decide +kernel

theorem met_fwStage_2 : let t := 0; let sid : Nat := 1; let image : List Byte := fwImage; let x := atTick t (on opSys); (mayCommand x.1 sid 0x0110 4 (Value.octets image).toNat) ∧ (image.length ≤ 4194304) ∧ (storing (commandPoint sid x).1 = false) ∧ ((commandPoint sid x).1.flash.stage = none) ∧ (({ header := image.take 256, payload := image.drop 256 } : Slot).valid 0 = true) := by unfold mayCommand; decide +kernel

theorem met_fwStageProgramDone : let t := 0; let flashError : Bool := false; let slot : Nat := 1; let v : Slot := {}; let x := sysAt t (on { flash := { present := true, stage := some (1, {}) } }); (x.flash.stage = some (slot, v)) := by decide +kernel

theorem met_flashIdleStop : let t := 0; let x := sysAt t (on { devState := 1, now := 1250000, flash := { present := true } }); (stepDone x 4 = true) ∧ (flashIdle x = true) ∧ (x.flash.present = true) ∧ (x.flash.used + Config.ticksPerMs ≤ x.now) := by decide +kernel

/-! A_step_runs_the_front_command -/
theorem met_front : ({ on {} with pending := [.commitPoint 0] } : State).pending = .commitPoint 0 :: [] := rfl

theorem met_idle : (on {}).pending = [] := rfl

/-! Commands_leave_the_queue_alone -/
theorem met_queue : (match exec (.commitPoint 0) (on {}) with | .next t => t.pending == [] | _ => false) = true := by decide +kernel

/-! Only_blocks_beyond_the_HBM_stop -/
theorem met_stop : exec (.hbmBlockWrite 0 89478420 0 []) (on {}) = .fault (.noSuchBlock 89478420) := rfl

theorem met_last_block : (match exec (.hbmBlockWrite 0 89478419 0 []) (on {}) with | .next _ => true | _ => false) = true := rfl

/-! HBM_keeps_its_canonical_form -/
theorem met_hbm_form : hbmOk (on {}) ∧ (match step { on { devState := 1 } with pending := [.hbmBlockRead 0 5 0 []] } with | .next _ => true | _ => false) = true := by
  constructor
  · rfl
  · rfl

/-! Shares_are_placed_on_eighteen_dies -/
theorem met_places : (3 < Config.memBlocks + Config.memSpares ∧ (17 : Nat) < 18 ∧ (16 : Nat) ≠ 17) ∧ sharePlace 89478483 17 = (23, 67108862)
    ∧ spareOf {} 5 = none ∧ spareOf { mem := { spares := [(2, { st := 1, block := 5 })] } } 5 = some 2 := by decide +kernel

/-! The_code_words_satisfy_both_checks -/
theorem met_block : (List.replicate 512 (7 : Byte)).length = 512 := by decide +kernel

/-! A_written_block_reads_back -/
theorem met_written_block : (5 : Nat) < Config.memBlocks ∧ (List.replicate 512 (1 : Byte)).length = 512 ∧ Memory.wf [] = true ∧ failedDie {} = none
    ∧ touched { mem := { touched := [(0, true)] } } 5 = true := by decide +kernel

/-! Damage_within_one_share_is_corrected -/
theorem met_damage : (1 : Nat) < 4 ∧ (5 : Nat) < 2 ^ 27 ∧ (List.replicate 512 (1 : Byte)).length = 512 ∧ (3 : Nat) < 18
    ∧ (List.replicate 32 (9 : Nat)).length = 32 ∧ (∀ b ∈ List.replicate 32 (9 : Nat), b < 256) ∧ oddParity 32 1 = true ∧ oddParity 32 0 = false := by decide +kernel

/-! Untouched_regions_read_as_zeros -/
theorem met_untouched : touched { mem := { touched := [(0, true)] } } 127 = true ∧ touched { mem := { touched := [(0, true)] } } 128 = false := by decide +kernel

/-! Decision_records_decode_as_encoded -/
theorem met_record : recFits { seq := 2 ^ 64 - 1, typ := 3, dec := 1, lane := 1, tc := 7, colour := 3, qsel := 3, prov := 7, member := 255, info := 2 ^ 32 - 1 } := by
  refine ⟨⟨?_, ?_, ?_, ?_, ?_, ?_, ?_, ?_⟩, ⟨?_, ?_, ?_, ?_, ?_, ?_, ?_⟩, ?_, ?_, ?_, ?_, ?_⟩ <;> decide

/-! Stuffed_bits_are_delivered -/
theorem met_stuff : (19 : Nat) < 20 ∧ stuff [true, true] true 19 [] = (true, 1, [true, false, true]) := by decide

/-! Numbers_are_clamped_to_their_range -/
theorem met_clamp : (0 : Int) < 4 ∧ (2 : Int) ≤ 10 ∧ ((10 : Int) - 2) % 4 = 0 ∧ clampStep 2 10 4 1 = (.num 2, 1) ∧ clampStep 2 10 4 11 = (.num 10, 2)
    ∧ clampStep 2 10 4 4 = (.num 2, 3) ∧ clampStep 2 10 4 5 = (.num 6, 3) ∧ clampStep 2 10 4 6 = (.num 6, 0) := by decide +kernel

/-! Times_and_lists_are_checked -/
theorem met_fields : ((ro .time).ty = .time ∧ (ro .time).fixed 0 = false) ∧ (fBool.ty = .bool ∧ fBool.fixed 0 = false)
    ∧ ((fEnum [0, 1, 3]).ty = .enum8 ∧ (fEnum [0, 1, 3]).fixed 0 = false ∧ ¬ (2 : Int) ∈ [(0 : Int), 1, 3])
    ∧ checkField (ro .time) 0 (.num 0) (.num ((1000000000 * 65536 : Nat) : Int)) = (.num ((999999999 * 65536 : Nat) : Int), [0, 2, 0]) := by decide +kernel

/-! The_match_algorithm -/
theorem met_match : ({ takeAny := true } : Rcvy).takeAny = true ∧ ({ takeAny := false, recov := 65535 } : Rcvy).takeAny = false
    ∧ (0 : Nat) = (65535 + 1) % 65536 := by decide

/-! Counters_wrap_and_stand_alone -/
theorem met_counter : SMap.wf 0 ({ ctr := [(3, 2 ^ 64 - 1)] } : Sys).ctr = true ∧ count (bumpBy 3 2 { ctr := [(3, 2 ^ 64 - 1)] }) 3 = 1 := by decide +kernel

/-! At_most_one_decider_leads -/
theorem met_election : (committing { st := .leading, claim := 5 } = true ∧ committing { st := .following, claim := 5 } = true) ∧ committing { st := .deposed } = false
    ∧ committer (elect { decA := { st := .leading, claim := 5 }, decB := { st := .following, claim := 6 } }) = 1 := by decide +kernel

/-! Requests_are_turned_away -/
theorem met_turned : listed 0x30 = false ∧ listed 0x12 = true ∧ (0x12 : Nat) ∈ [0x12, 0x13, 0x15, 0x20, 0x21, 0x22, 0x23]
    ∧ ({ devState := 3 } : Sys).devState = 3 ∧ roleOf { sessions := [{ sid := 4, role := 1 }] } 4 = 1 := by decide +kernel

/-! Waiting_requests_are_served_in_order -/
theorem met_waiting : session? { sessions := [{ sid := 4 }] } 4 = some { sid := 4 } ∧ ({ sid := 4 } : Session).held = none ∧ ({ sid := 4 } : Session).waitq = [] := by decide +kernel

/-! Unassigned_objects_are_refused -/
theorem met_unassigned : objAt 0x0130 1 = none ∧ objAt 0xF000 1 = none ∧ (0x0130 : Nat) < 0xF000 := by decide +kernel

/-! Lane_commands_leave_all_else -/
theorem met_quiet : quiet { devState := 1, bootSilent := false, boot := { porst := false } } := by unfold quiet; decide +kernel

/-! A_block_write_leaves_all_else -/
theorem met_block_write : quiet { devState := 1, bootSilent := false, mem := { touched := [(0, true)] } }
    ∧ touched { devState := 1, bootSilent := false, mem := { touched := [(0, true)] } } 5 = true := by unfold quiet; decide +kernel

end Sys2Proof.Tests
end

section
/-! PROOFS. The scope of the manual: how a TIME, a BOOL and an enumeration are checked when they are written, and the state that
power-on reset leaves. -/

namespace Sys2Proof.Proofs

open Sys2Proof.Machine Sys2Proof.Safety

/-! ### Times and lists -/

/-- The fields of the 96-bit number that encodes a TIME (Table DIC-1). -/
theorem timeWord_fields (sec ns fr : Nat) (hns : ns < 2 ^ 32) (hfr : fr < 2 ^ 16) :
    let w := sec * 2 ^ 48 + ns * 2 ^ 16 + fr
    w / 2 ^ 48 = sec ∧ bits w 47 16 = ns ∧ w % 65536 = fr := by
  simp only [bits]
  omega

/-- The check of a TIME looks at its nanoseconds only, and clamps them in place (R9). -/
theorem checkField_time (f : Field) (row w : Nat) (old : Value) (hty : f.ty = .time) (hfixed : f.fixed row = false) :
    checkField f row old (.num w) =
      if 999999999 < bits w 47 16 then
        (.num ((w / 2 ^ 48 * 2 ^ 48 + 999999999 * 2 ^ 16 + w % 65536 : Nat) : Int), [0, 2, 0])
      else (.num w, [0, 0, 0]) := by
  have hw : (Value.num (w : Int)).toNat = w := Int.toNat_natCast w
  simp only [checkField, hfixed, hty, hw]
  rfl

/-- A BOOL other than 0 and 1 is rejected (R38). -/
theorem checkField_bool_rejects (f : Field) (row : Nat) (old : Value) (v : Int) (hty : f.ty = .bool) (hfixed : f.fixed row = false)
    (h0 : v ≠ 0) (h1 : v ≠ 1) : checkField f row old (.num v) = (old, [4]) := by
  simp [checkField, hfixed, hty, Value.toInt, h0, h1]

/-- A value that the enumeration of an ENUM8 does not list is rejected (R38). -/
theorem checkField_enum_rejects (f : Field) (row : Nat) (old : Value) (v : Int) (l : List Int) (hty : f.ty = .enum8)
    (hrng : f.rng = .enum l) (hfixed : f.fixed row = false) (hv : v ∉ l) : checkField f row old (.num v) = (old, [4]) := by
  simp [checkField, hfixed, hty, hrng, Value.toInt, hv]

/-- Settles O51, from the fields of a TIME's encoding and the checks of a TIME, a BOOL and an enumeration. -/
theorem timesAndListsAreChecked : Obligations.Times_and_lists_are_checked := by
  refine ⟨fun f row sec ns fr old hty hfixed _ hns hfr => ?time, checkField_bool_rejects, checkField_enum_rejects⟩
  case time =>
    obtain ⟨hsec, hnanos, hfrac⟩ := timeWord_fields sec ns fr hns hfr
    rw [checkField_time f row _ old hty hfixed, hsec, hnanos, hfrac]

/-! ### The state that PORST_N holds -/

/-- Where nothing was written, an object reads as its default (R10). -/
theorem val_of_dict_nil (s : Sys) (h : s.dict = []) (ix sub row col : Nat) : val s ix sub row col = dfltVal ix sub row col := by
  simp [val, dictVal, h, SMap.get]

/-- Where no counter has counted, each reads 0 (R448). -/
theorem count_of_ctr_nil (s : Sys) (h : s.ctr = []) (n : Nat) : count s n = 0 := by
  simp [count, h, SMap.get]

/-- DC reads 0.0 while it stands (R289). -/
theorem dc_of_stands (s : Sys) (h : s.boot.dcStands = true) : dc s = 0 := by
  simp [dc, dcAt, h]

/-- An HBM that lists no byte has its canonical form. -/
theorem hbmOk_of_nil (s : State) (h : s.hbm = []) : hbmOk s := by
  simp [hbmOk, h, Memory.wf]

/-- Settles O42: the dictionary and the counters list nothing, DC stands, and every other field has its value by definition. -/
theorem resetState : Obligations.Reset_state :=
  ⟨val_of_dict_nil _ rfl, count_of_ctr_nil _ rfl, dc_of_stands _ rfl, rfl, rfl, rfl, rfl, rfl, rfl, rfl, rfl, rfl, rfl, rfl,
    hbmOk_of_nil _ rfl⟩

end Sys2Proof.Proofs
end

section
/-! PROOFS. The journey of a frame: how it is received, what the stewards make of the frames that are theirs, and how frames and
control blocks cross the Knaing link. -/

namespace Sys2Proof.Proofs

open Sys2Proof.Machine Sys2Proof.Safety Sys2Proof.Laws

/-! ### Heads and tails -/

/-- A MAC that accepts all frames takes a longer frame: full staging counts it, otherwise its head is passed on (R13, R16). -/
theorem beginFrame_all (p sfd : Nat) (b : List Byte) (marred : Bool) (s : Sys) (hacc : macAccept s p = .all) (hrx : (port s p).rx = none) :
    let taken := updPort p (fun q => { q with rx := some s.nextFrame }) (addFrame { newFrame p sfd b with marred := marred } s).2
    beginFrame p sfd b marred s =
      if stagingBytes < stagingUsed s (tileOf p) + b.length then bump (Ctr.rxStageDrop p) taken
      else passHead s.nextFrame .all taken := by
  simp [beginFrame, hacc, hrx, addFrame]

/-- A MAC that accepts nothing begins no frame. -/
theorem beginFrame_deaf (p sfd : Nat) (b : List Byte) (marred : Bool) (s : Sys) (hacc : macAccept s p = .deaf) :
    beginFrame p sfd b marred s = s := by
  simp [beginFrame, hacc]

/-- A MAC that accepts nothing takes no whole frame. -/
theorem wholeFrame_deaf (p sfd : Nat) (raw : List Byte) (partialOctet marred : Bool) (s : Sys) (hacc : macAccept s p = .deaf) :
    wholeFrame p sfd raw partialOctet marred s = s := by
  simp [wholeFrame, hacc]

/-- In a near-end loopback nothing comes from the balls (R104). -/
theorem headCompleteEffect_of_loop (p sfd : Nat) (b : List Byte) (ended : Bool) (cw : Codewords) (s : Sys) (hb : fromBalls s p = false) :
    headCompleteEffect p sfd b ended cw s = s := by
  simp [headCompleteEffect, hb]

/-- A whole shorter frame that comes from the balls. -/
theorem headCompleteEffect_ended (p sfd : Nat) (b : List Byte) (cw : Codewords) (s : Sys) (hb : fromBalls s p = true) :
    headCompleteEffect p sfd b true cw s = wholeFrame p sfd b false (marredBy s p cw) (farEnd p b (countCw p cw s)) := by
  simp [headCompleteEffect, hb]

/-- The head of a longer frame that comes from the balls. -/
theorem headCompleteEffect_open (p sfd : Nat) (b : List Byte) (cw : Codewords) (s : Sys) (hb : fromBalls s p = true) :
    headCompleteEffect p sfd b false cw s = beginFrame p sfd b (marredBy s p cw) (farEnd p b (countCw p cw s)) := by
  simp [headCompleteEffect, hb]

/-- A head that comes to a MAC that accepts nothing leaves only the codewords and the loopback. -/
theorem headCompleteEffect_deaf (p sfd : Nat) (b : List Byte) (ended : Bool) (cw : Codewords) (s : Sys) (hb : fromBalls s p = true)
    (hacc : macAccept (farEnd p b (countCw p cw s)) p = .deaf) :
    headCompleteEffect p sfd b ended cw s = farEnd p b (countCw p cw s) := by
  cases ended with
  | true => rw [headCompleteEffect_ended p sfd b cw s hb, wholeFrame_deaf p sfd b false _ _ hacc]
  | false => rw [headCompleteEffect_open p sfd b cw s hb, beginFrame_deaf p sfd b _ _ hacc]

/-- In a near-end loopback no tail comes from the balls (R104). -/
theorem frameTailEffect_of_loop (p : Nat) (rest : List Byte) (partialOctet : Bool) (cw : Codewords) (s : Sys) (hb : fromBalls s p = false) :
    frameTailEffect p rest partialOctet cw s = s := by
  simp [frameTailEffect, hb]

/-- A tail ends the frame under way. -/
theorem frameTailEffect_underWay (p : Nat) (rest : List Byte) (partialOctet : Bool) (cw : Codewords) (id : Nat) (s : Sys)
    (hb : fromBalls s p = true) (hrx : (port (farEnd p ((port s p).lastTx ++ rest) (countCw p cw s)) p).rx = some id) :
    frameTailEffect p rest partialOctet cw s =
      endFrame id rest partialOctet (marredBy s p cw) (farEnd p ((port s p).lastTx ++ rest) (countCw p cw s)) := by
  simp [frameTailEffect, hb, hrx]

/-- With no frame under way, a tail is a frame no longer than a head (log entry 25). -/
theorem frameTailEffect_whole (p : Nat) (rest : List Byte) (partialOctet : Bool) (cw : Codewords) (s : Sys)
    (hb : fromBalls s p = true) (hrx : (port (farEnd p ((port s p).lastTx ++ rest) (countCw p cw s)) p).rx = none) :
    let y := farEnd p ((port s p).lastTx ++ rest) (countCw p cw s)
    frameTailEffect p rest partialOctet cw s =
      wholeFrame p (y.now - bitTicks (8 * rest.length) (linkSpeed y p)) rest partialOctet (marredBy s p cw) y := by
  simp [frameTailEffect, hb, hrx]

/-! ### Preemption fragments -/

/-- Where preemption is off, or the MAC does not accept all frames, a fragment changes nothing (R346). -/
theorem mmFragmentEffect_off (p : Nat) (kind : MmKind) (b : List Byte) (s : Sys)
    (h : 64 ≤ p ∨ flag s (pix p 0x0E) 1 = false ∨ macAccept s p ≠ .all ∨ fromBalls s p = false) : mmFragmentEffect p kind b s = s := by
  have hoff : 64 ≤ p ∨ !flag s (pix p 0x0E) 1 ∨ macAccept s p ≠ .all ∨ !fromBalls s p := by
    simpa only [Bool.not_eq_true'] using h
  exact if_pos hoff

section
variable (p : Nat) (b : List Byte) (s : Sys)
variable (hp : p < 64) (hen : flag s (pix p 0x0E) 1 = true) (hacc : macAccept s p = .all) (hb : fromBalls s p = true)
include hp hen hacc hb

/-- A first fragment opens the reassembly. -/
theorem mmFragmentEffect_first (hq : (port s p).mmOpen = false) : mmFragmentEffect p .first b s =
    updPort p (fun q => { q with mmOpen := true, mmBytes := b }) (bump (Ctr.mmRxFrag p) s) := by
  simp [mmFragmentEffect, hp, hen, hacc, hb, hq]

/-- A continuation extends the frame under reassembly. -/
theorem mmFragmentEffect_continuation (hq : (port s p).mmOpen = true) : mmFragmentEffect p .continuation b s =
    updPort p (fun q => { q with mmBytes := q.mmBytes ++ b }) (bump (Ctr.mmRxFrag p) s) := by
  simp [mmFragmentEffect, hp, hen, hacc, hb, hq]

/-- The last fragment completes the frame, which arrives. -/
theorem mmFragmentEffect_final (hq : (port s p).mmOpen = true) : mmFragmentEffect p .final b s =
    arrive p (s.now - bitTicks (8 * ((port s p).mmBytes ++ b).length) (linkSpeed s p)) ((port s p).mmBytes ++ b)
      (bump (Ctr.mmAssyOk p) (updPort p (fun q => { q with mmOpen := false, mmBytes := [] }) (bump (Ctr.mmRxFrag p) s))) := by
  simp [mmFragmentEffect, hp, hen, hacc, hb, hq]

/-- A fragment with a bad mCRC ends the reassembly. -/
theorem mmFragmentEffect_bad : mmFragmentEffect p .bad b s =
    bump (Ctr.mmAssyErr p) (updPort p (fun q => { q with mmOpen := false, mmBytes := [] }) (bump (Ctr.mmRxFrag p) s)) := by
  simp [mmFragmentEffect, hp, hen, hacc, hb]

/-- A verify frame asks for a reply (R342). -/
theorem mmFragmentEffect_verify : mmFragmentEffect p .verify b s = updPort p (fun q => { q with verifyReplies := q.verifyReplies + 1 }) s := by
  simp [mmFragmentEffect, hp, hen, hacc, hb]

/-- A fragment out of place ends the reassembly: a bad SMD, a first fragment while a frame is open, another while none is. -/
theorem mmFragmentEffect_misplaced (kind : MmKind)
    (hk : kind = .badSmd ∨ (kind = .first ↔ (port s p).mmOpen = true) ∧ kind ≠ .bad ∧ kind ≠ .verify) :
    mmFragmentEffect p kind b s = bump (Ctr.mmSmdErr p) (updPort p (fun q => { q with mmOpen := false, mmBytes := [] }) s) := by
  have hon : ¬(64 ≤ p ∨ !flag s (pix p 0x0E) 1 ∨ macAccept s p ≠ .all ∨ !fromBalls s p) := by simp [hp, hen, hacc, hb]
  cases kind with
  | badSmd => exact if_neg hon
  | first =>
    have hq : (port s p).mmOpen = true := by simpa using hk
    simp [mmFragmentEffect, hp, hen, hacc, hb, hq]
  | continuation | final =>
    have hq : (port s p).mmOpen = false := by simpa using hk
    simp [mmFragmentEffect, hp, hen, hacc, hb, hq]
  | bad | verify => simp at hk

end

/-! ### Recirculation -/

/-- Before its time, or outside ACTIVE, port 75 draws nothing (R149). -/
theorem recircDrawEffect_early (s : Sys) (h : s.now < s.recircFree ∨ s.devState ≠ 1) : recircDrawEffect s = s := if_pos h

/-- Where port 75 has nothing to draw, nothing changes. -/
theorem recircDrawEffect_none (s y : Sys) (hnext : recircNext s = (y, none)) : recircDrawEffect s = s := by
  simp [recircDrawEffect, hnext]

/-- A frame drawn from port 75 re-enters, unless its rule set is retired by force (R149, R183). -/
theorem recircDrawEffect_some (s y : Sys) (id : Nat) (hfree : s.recircFree ≤ s.now) (hdev : s.devState = 1)
    (hnext : recircNext s = (y, some id)) : recircDrawEffect s =
      if y.rsRetired.contains (frame y (copy y id).frame).rsGen then dropAs false Ctr.rsGenDrop id y else recirculate id y := by
  simp [recircDrawEffect, hfree, hdev, hnext]

/-- Settles O1: each clause is the case of its command's effect that the hypotheses select. -/
theorem receivedFramesTakeEffect : Obligations.Received_frames_take_effect := by
  refine ⟨?headOpen, ?headStagingFull, ?headWhole, ?headDeaf, ?headLoop, ?tailUnderWay, ?tailWhole, ?tailLoop, ?mmFirst, ?mmContinuation,
    ?mmFinal, ?mmBad, ?mmMisplaced, ?mmVerify, ?mmOff, ?drawRecirculates, ?drawRetired, ?drawNothing, ?drawEarly⟩
  case headOpen =>
    intro t port sfd bytes cw s x y hb hacc hrx hroom
    refine run_eq t _ s x _ rfl ?_
    rw [headCompleteEffect_open _ _ _ _ _ hb, beginFrame_all _ _ _ _ _ hacc hrx, if_neg (Nat.not_lt.mpr hroom)]
  case headStagingFull =>
    intro t port sfd bytes cw s x y hb hacc hrx hfull
    refine run_eq t _ s x _ rfl ?_
    rw [headCompleteEffect_open _ _ _ _ _ hb, beginFrame_all _ _ _ _ _ hacc hrx, if_pos hfull]
  case headWhole => exact fun t port sfd bytes cw s hb => run_eq t _ s _ _ rfl (headCompleteEffect_ended _ _ _ _ _ hb)
  case headDeaf => exact fun t port sfd bytes ended cw s hb hacc => run_eq t _ s _ _ rfl (headCompleteEffect_deaf _ _ _ _ _ _ hb hacc)
  case headLoop => exact fun t port sfd bytes ended cw s hb => run_eq t _ s _ _ rfl (headCompleteEffect_of_loop _ _ _ _ _ _ hb)
  case tailUnderWay =>
    exact fun t port rest partialOctet cw id s hb hrx => run_eq t _ s _ _ rfl (frameTailEffect_underWay _ _ _ _ _ _ hb hrx)
  case tailWhole => exact fun t port rest partialOctet cw s hb hrx => run_eq t _ s _ _ rfl (frameTailEffect_whole _ _ _ _ _ hb hrx)
  case tailLoop => exact fun t port rest partialOctet cw s hb => run_eq t _ s _ _ rfl (frameTailEffect_of_loop _ _ _ _ _ hb)
  case mmFirst =>
    exact fun t port bytes s hp hen hacc hb hq => run_eq t _ s _ _ rfl (mmFragmentEffect_first _ _ _ hp hen hacc hb hq)
  case mmContinuation =>
    exact fun t port bytes s hp hen hacc hb hq => run_eq t _ s _ _ rfl (mmFragmentEffect_continuation _ _ _ hp hen hacc hb hq)
  case mmFinal =>
    exact fun t port bytes s hp hen hacc hb hq => run_eq t _ s _ _ rfl (mmFragmentEffect_final _ _ _ hp hen hacc hb hq)
  case mmBad => exact fun t port bytes s hp hen hacc hb => run_eq t _ s _ _ rfl (mmFragmentEffect_bad _ _ _ hp hen hacc hb)
  case mmMisplaced =>
    exact fun t port kind bytes s hp hen hacc hb hk => run_eq t _ s _ _ rfl (mmFragmentEffect_misplaced _ _ _ hp hen hacc hb kind hk)
  case mmVerify => exact fun t port bytes s hp hen hacc hb => run_eq t _ s _ _ rfl (mmFragmentEffect_verify _ _ _ hp hen hacc hb)
  case mmOff => exact fun t port kind bytes s h => run_eq t _ s _ _ rfl (mmFragmentEffect_off _ _ _ _ h)
  case drawRecirculates =>
    intro t id y s x hfree hdev hnext hlive
    refine run_eq t _ s x _ rfl ?_
    rw [recircDrawEffect_some x y id hfree hdev hnext, if_neg (Bool.eq_false_iff.mp hlive)]
  case drawRetired =>
    intro t id y s x hfree hdev hnext hretired
    refine run_eq t _ s x _ rfl ?_
    rw [recircDrawEffect_some x y id hfree hdev hnext, if_pos hretired]
  case drawNothing => exact fun t y s _ _ hnext => run_eq t _ s _ _ rfl (recircDrawEffect_none _ y hnext)
  case drawEarly => exact fun t s h => run_eq t _ s _ _ rfl (recircDrawEffect_early _ h)

/-! ### Frames of the stewards -/

/-- What a steward does, while the stewards run. -/
theorem bySteward_runs (f : Sys → Sys) (s : Sys) (h : stewardsRun s = true) : bySteward f s = f s := if_pos h

/-- What a steward does not do, while they are at rest. -/
theorem bySteward_rests (f : Sys → Sys) (s : Sys) (h : stewardsRun s = false) : bySteward f s = s := if_neg (Bool.eq_false_iff.mp h)

/-- A command whose effect `f` a running steward carries out. -/
theorem run_bySteward_eq (t : Nat) (f : Sys → Sys) (s : State) (y : Sys) (hrun : stewardsRun (sysAt t s) = true) (h : f (sysAt t s) = y) :
    run t (bySteward f) s = .next (leavesSys t s y) :=
  run_eq t _ s _ y rfl ((bySteward_runs f _ hrun).trans h)

/-- The first frame the stewards have to send meets the queue of its port (R18). -/
theorem stewardInjectEffect_cons (p tc : Nat) (b : List Byte) (l : List (Nat × Nat × List Byte)) (s : Sys) (h : s.outbox = (p, tc, b) :: l) :
    stewardInjectEffect s = injectFrame p tc b { s with outbox := l } := by
  simp [stewardInjectEffect, h]

/-- A slow-protocol frame is served by its subtype: 1 is LACP, 2 a marker PDU (R123, log entry 29). -/
theorem slowRxEffect_serves (f : Frame) (s y : Sys) (h : takeSq 2 s = some (f, y)) : slowRxEffect s =
    if byteAt f.bytes 14 = 1 then { y with lacp := SMap.set [] y.lacp f.port (f.bytes.drop 14) }
    else if byteAt f.bytes 14 = 2 then
      (if byteAt f.bytes 16 = 1 then sendSteward f.port 7 (slowHeader y ++ patch (f.bytes.drop 14) 2 [2]) y else y)
    else bump Ctr.stewSlowOther y := by
  simp only [slowRxEffect, h]
  split
  case h_1 hlacp => rw [if_pos hlacp]
  case h_2 hmarker => simp [hmarker]
  case h_3 hlacp hmarker => rw [if_neg hlacp, if_neg hmarker]

/-- An LACP frame of a lane port waits to be injected. -/
theorem lacpduTxEffect_lane (p : Nat) (body : List Byte) (s : Sys) (hp : p < 64) :
    lacpduTxEffect p body s = sendSteward p 7 (slowHeader s ++ body) s := if_neg (Nat.not_le.mpr hp)

/-- The message at the head of SQ1 goes to the row of PTP_INSTANCES that takes it, as one of the 30,000 of its second (R307, R308, log entry 87). -/
theorem ptpRxEffect_serves (f : Frame) (s z : Sys) (hcap : (s.ptpIn.turn s).count < 30000) (h : takeSq 1 s = some (f, z)) :
    let y := { z with ptpIn := { (s.ptpIn.turn s) with count := (s.ptpIn.turn s).count + 1 } }
    ptpRxEffect s = match ptpInstanceOf y f.port (ptpMessage y f.port f.bytes).1 (ptpMessage y f.port f.bytes).2 with
      | none => bump Ctr.ptpNoInstance y
      | some i => ptpReceive i f.port (ptpMessage y f.port f.bytes).2 (clockAt y i (y.dcZero + rxStamp y f * 5 / 262144)) y := by
  simp only [ptpRxEffect, hcap, h, if_true] <;> rfl

/-- Beyond the 30,000 of a second, or with an empty SQ1, nothing is served (R307). -/
theorem ptpRxEffect_waits (s : Sys) (h : 30000 ≤ (s.ptpIn.turn s).count ∨ takeSq 1 s = none) : ptpRxEffect s = s := by
  have hnone : (if (s.ptpIn.turn s).count < 30000 then takeSq 1 s else none) = none := by
    rcases h with hcap | hempty
    · exact if_neg (Nat.not_lt.mpr hcap)
    · rw [hempty, ite_self]
  simp only [ptpRxEffect, hnone]

/-- A message that its port may send leaves, as one of the 30,000 of its second (R307). -/
theorem ptpTxEffect_sends (i p ty : Nat) (s : Sys) (hmay : ptpMaySend s i p ty = true) (hcap : (s.ptpOut.turn s).count < 30000) :
    ptpTxEffect i p ty s = ptpSendNext i p ty { s with ptpOut := { (s.ptpOut.turn s) with count := (s.ptpOut.turn s).count + 1 } } :=
  if_pos ⟨hmay, hcap⟩

/-- A LISTENING, PASSIVE, UNCALIBRATED or SLAVE port that has heard no Announce for its time-out decides its state anew (R306). -/
theorem announceTimeoutEffect_due (i p : Nat) (s : Sys) (hrow : ptpRow s i p = true) (hst : (ptpPort s i p).state ∈ [4, 7, 8, 9])
    (hdue : (ptpPort s i p).announceAt + cell s 0x0910 1 (73 * i + p) 4 * logTicks (cellI s 0x0910 1 (73 * i + p) 1) ≤ s.now) :
    announceTimeoutEffect i p s = ptpDecide i p none s :=
  if_pos ⟨hrow, by simpa using hst, hdue⟩

/-- Settles O4: while the stewards run, each clause is the case of the command's effect that the hypotheses select. -/
theorem stewardFramesTakeEffect : Obligations.Steward_frames_take_effect := by
  refine ⟨?inject, ?slow, ?lacpdu, ?ptpServes, ?ptpWaits, ?ptpSends, ?announce⟩
  case inject => exact fun t p tc b l s hrun h => run_bySteward_eq t _ s _ hrun (stewardInjectEffect_cons p tc b l _ h)
  case slow => exact fun t f y s hrun h => run_bySteward_eq t _ s _ hrun (slowRxEffect_serves f _ y h)
  case lacpdu => exact fun t port body s hrun hp => run_bySteward_eq t _ s _ hrun (lacpduTxEffect_lane port.val body _ hp)
  case ptpServes => exact fun t f y s hrun hcap h => run_bySteward_eq t _ s _ hrun (ptpRxEffect_serves f _ y hcap h)
  case ptpWaits =>
    intro t s x h
    refine run_eq t _ s x x rfl ?_
    rcases h with hrest | hwait
    · exact bySteward_rests _ x hrest
    · rw [bySteward, ptpRxEffect_waits x hwait, ite_self]
  case ptpSends =>
    exact fun t b port ty s hrun hmay hcap => run_bySteward_eq t _ s _ hrun (ptpTxEffect_sends b.val port.val ty.val _ hmay hcap)
  case announce =>
    exact fun t b port s hrun hrow hst hdue => run_bySteward_eq t _ s _ hrun (announceTimeoutEffect_due b.val port.val _ hrow hst hdue)

/-! ### Frames and control blocks of the Knaing link -/

/-- A whole frame from the peer is forwarded while the link is up and the device is ACTIVE (R15). -/
theorem kngFrameEffect_up (desc b : List Byte) (lost : Bool) (s : Sys) (h : flag s 0x2800 1 = true ∧ s.kng.st = 2 ∧ s.devState = 1) :
    kngFrameEffect desc b lost s = kngFrameOp desc b lost s := if_pos h

/-- Over a link that is not up no frame comes (R15, R113). -/
theorem kngFrameEffect_down (desc b : List Byte) (lost : Bool) (s : Sys) (h : ¬(flag s 0x2800 1 = true ∧ s.kng.st = 2 ∧ s.devState = 1)) :
    kngFrameEffect desc b lost s = s := if_neg h

/-- The control block that is due takes the next heartbeat, the times of the bases and of the last arrival, and the width announced or,
where none stands, KNG_WIDTH_MAX (R113, log entry 44). -/
theorem kngControlTxEffect_sends (s : Sys) (hen : flag s 0x2800 1 = true) (hdev : s.devState ≠ 3) :
    let b := u32b (s.kng.hbTx + 1) ++ ((baseTimes s).map timeb).flatten ++ (s.kng.arrive.map timeb).flatten ++ u16b s.kng.arriveSeq
      ++ u8b (if s.kng.nextWidth = 0 then obj s 0x2800 3 else s.kng.nextWidth) ++ u8b 0 ++ u16b (kngSeq s.kng.switchAt)
      ++ Config.serial ++ u16b 0
    kngControlTxEffect s = kngSendBlock 2 0 (kngSeq s.now) b
      (updKng (fun g => { g with hbTx := (g.hbTx + 1) % 2 ^ 32, lastCtl := b, sent := (kngSeq s.now, baseTimes s) :: g.sent.take 7, txBlocks := [] }) s) :=
  if_neg (by simp [hen, hdev])

/-- A disabled link sends no control block, and none leaves a device in DORMANT (R113). -/
theorem kngControlTxEffect_silent (s : Sys) (h : flag s 0x2800 1 = false ∨ s.devState = 3) : kngControlTxEffect s = s :=
  if_pos (by simpa only [Bool.not_eq_true'] using h)

/-- A link that is disabled takes no control block (R114). -/
theorem kngControlRxEffect_disabled (b : List Byte) (seq : Nat) (s : Sys) (hen : flag s 0x2800 1 = false) : kngControlRxEffect b seq s = s :=
  if_pos (by simp [hen])

/-- A link that has heard no new heartbeat for 4.096 µs is declared down (R113). -/
theorem kngHeartbeatEffect_due (s : Sys) (hup : s.kng.st = 2) (hdue : s.kng.hbAt + 5120 ≤ s.now) :
    kngHeartbeatEffect s = bump Ctr.kngHeartbeatMiss (kngDown s) := if_pos ⟨hup, hdue⟩

/-- The announced width is in force from the announced block on (R115). -/
theorem kngSwitchEffect_due (s : Sys) (hup : s.kng.st = 2) (hnew : s.kng.nextWidth ≠ s.kng.txWidth) (hdue : s.kng.switchAt ≤ s.now) :
    kngSwitchEffect s = kngSetWidth s.kng.nextWidth s := if_pos ⟨hup, hnew, hdue⟩

/-- Settles O21: each clause is the case of its command's effect that the hypotheses select. -/
theorem knaingFramesAndControlTakeEffect : Obligations.Knaing_frames_and_control_take_effect := by
  refine ⟨?frame, ?frameDown, ?controlTx, ?controlSilent, ?controlRx, ?controlDisabled, ?heartbeat, ?switch⟩
  case frame =>
    exact fun t desc bytes lost s hen hup hdev => run_eq t _ s _ _ rfl (kngFrameEffect_up desc bytes lost _ ⟨hen, hup, hdev⟩)
  case frameDown => exact fun t desc bytes lost s h => run_eq t _ s _ _ rfl (kngFrameEffect_down desc bytes lost _ h)
  case controlTx => exact fun t s hen hdev => run_eq t _ s _ _ rfl (kngControlTxEffect_sends _ hen hdev)
  case controlSilent => exact fun t s h => run_eq t _ s _ _ rfl (kngControlTxEffect_silent _ h)
  case controlRx =>
    -- What an enabled link makes of the block is what the clause itself writes out.
    intro t payload seq s x hen
    exact run_eq t _ s x _ rfl (if_neg (by simp [hen]))
  case controlDisabled => exact fun t payload seq s hen => run_eq t _ s _ _ rfl (kngControlRxEffect_disabled payload seq.val _ hen)
  case heartbeat => exact fun t s hup hdue => run_eq t _ s _ _ rfl (kngHeartbeatEffect_due _ hup hdue)
  case switch => exact fun t s hup hnew hdue => run_eq t _ s _ _ rfl (kngSwitchEffect_due _ hup hnew hdue)

end Sys2Proof.Proofs
end

section
/-! PROOFS. The dictionary: how numbers and equaliser taps are clamped when they are written, how a transaction is opened, armed,
committed and aborted, and how images and snapshots are stored. -/

namespace Sys2Proof.Proofs

open Sys2Proof.Machine Sys2Proof.Safety Sys2Proof.Laws

/-! ### Numbers in a range with a step (R37) -/

/-- The whole number of steps `s` nearest to `d`, ties downward, as `clampStep` finds it. -/
def nearestSteps (d s : Int) : Int := (2 * d + s - 1) / (2 * s)

section
variable (d s : Int) (hs : 0 < s)
include hs

/-- The nearest number of steps leaves more than −s/2 and no more than s/2. -/
theorem nearestSteps_near : -s < 2 * (d - nearestSteps d s * s) ∧ 2 * (d - nearestSteps d s * s) ≤ s := by
  have hdiv := Int.mul_ediv_add_emod (2 * d + s - 1) (2 * s)
  have hlo := Int.emod_nonneg (2 * d + s - 1) (show 2 * s ≠ 0 by omega)
  have hhi := Int.emod_lt_of_pos (2 * d + s - 1) (show 0 < 2 * s by omega)
  have hmul : 2 * s * ((2 * d + s - 1) / (2 * s)) = 2 * (nearestSteps d s * s) := by rw [nearestSteps]; ring
  omega

/-- Of a distance that is not negative, the nearest number of steps is not negative. -/
theorem nearestSteps_nonneg (hd : 0 ≤ d) : 0 ≤ nearestSteps d s := Int.ediv_nonneg (by omega) (by omega)

/-- Within `q` steps, the nearest number of steps is at most `q`. -/
theorem nearestSteps_le (q : Int) (hd : d ≤ q * s) : nearestSteps d s ≤ q := by
  refine Int.lt_add_one_iff.mp (Int.ediv_lt_of_lt_mul (by omega) ?_)
  have hmul : (q + 1) * (2 * s) = 2 * (q * s) + 2 * s := by ring
  omega

end

/-- Below the minimum, the minimum is stored with code 1. -/
theorem clampStep_below (m M s v : Int) (h : v < m) : clampStep m M s v = (.num m, 1) := if_pos h

/-- Above the maximum, the maximum is stored with code 2. -/
theorem clampStep_above (m M s v : Int) (hm : m ≤ v) (h : M < v) : clampStep m M s v = (.num M, 2) := by
  rw [clampStep, if_neg (by omega), if_pos h]

/-- Off the grid, the nearest step is stored with code 3. -/
theorem clampStep_offGrid (m M s v : Int) (hm : m ≤ v) (hM : v ≤ M) (h : (v - m) % s ≠ 0) :
    clampStep m M s v = (.num (m + nearestSteps (v - m) s * s), 3) := by
  rw [clampStep, if_neg (by omega), if_neg (by omega), if_pos h]
  rfl

/-- A range of whole steps holds what is stored, on a step. -/
theorem clampStep_stored (m M s v : Int) (hs : 0 < s) (hmM : m ≤ M) (hgrid : (M - m) % s = 0) :
    m ≤ (clampStep m M s v).1.toInt ∧ (clampStep m M s v).1.toInt ≤ M ∧ ((clampStep m M s v).1.toInt - m) % s = 0 := by
  by_cases hlow : v < m
  · rw [clampStep_below m M s v hlow]
    exact ⟨le_refl m, hmM, by simp [Value.toInt]⟩
  by_cases hhigh : M < v
  · rw [clampStep_above m M s v (by omega) hhigh]
    exact ⟨hmM, le_refl M, hgrid⟩
  by_cases hon : (v - m) % s = 0
  · rw [clampStep_grid m M s v (by omega) (by omega) hon]
    exact ⟨not_lt.mp hlow, not_lt.mp hhigh, hon⟩
  · rw [clampStep_offGrid m M s v (by omega) (by omega) hon]
    -- The range is q steps long, and the nearest step is one of 0 to q.
    have hq : (M - m) / s * s = M - m := Int.ediv_mul_cancel_of_emod_eq_zero hgrid
    have hk := nearestSteps_le (v - m) s hs ((M - m) / s) (by omega)
    have hle := Int.mul_le_mul_of_nonneg_right hk hs.le
    have hnonneg := Int.mul_nonneg (nearestSteps_nonneg (v - m) s hs (by omega)) hs.le
    refine ⟨?_, ?_, ?_⟩
    · simp only [Value.toInt]; omega
    · simp only [Value.toInt]; omega
    · simp [Value.toInt]

/-- Settles O50, from the four cases of the numeric test and from the nearest step's place in the range. -/
theorem numbersAreClampedToTheirRange : Obligations.Numbers_are_clamped_to_their_range := by
  intro m M s v hs hmM hgrid
  refine ⟨clampStep_below m M s v, clampStep_above m M s v, fun hm hM hoff => ?_, clampStep_grid m M s v,
    clampStep_stored m M s v hs hmM hgrid⟩
  have hnear := nearestSteps_near (v - m) s hs
  exact ⟨nearestSteps (v - m) s, clampStep_offGrid m M s v hm hM hoff, by omega, by omega⟩

/-! ### The taps of TX_EQ (R100) -/

/-- By how much the side taps exceed the joint limits. -/
def eqExcess (pre main post : Nat) : Nat := max (pre + main + post - 63) (8 + pre + post - main)

/-- What of post stays: it gives way first. -/
def eqPostKept (pre main post : Nat) : Nat := post - eqExcess pre main post

/-- What of pre stays: it gives what post could not. -/
def eqPreKept (pre main post : Nat) : Nat := pre - (eqExcess pre main post - (post - eqPostKept pre main post))

/-- The code of a tap that was asked for as `was` and is stored as `now_` (R36). -/
def tapCode (was now_ : Nat) : Nat := if now_ < was then 2 else if was < now_ then 1 else 0

/-- The check of TX_EQ in these words, of the three taps clamped to their ranges. -/
theorem eqCheck_eq (v pre main post : Nat) (hpre : pre = min 15 (eqPre v)) (hmain : main = max 16 (min 63 (eqMain v)))
    (hpost : post = min 31 (eqPost v)) :
    eqCheck v = (eqWord (eqPreKept pre main post) main (eqPostKept pre main post),
      [tapCode (eqPre v) (eqPreKept pre main post), tapCode (eqMain v) main, tapCode (eqPost v) (eqPostKept pre main post)]) := by
  subst hpre hmain hpost
  rfl

/-- A side tap is only ever reduced. -/
theorem eqKept_le (pre main post : Nat) : eqPreKept pre main post ≤ pre ∧ eqPostKept pre main post ≤ post :=
  ⟨Nat.sub_le _ _, Nat.sub_le _ _⟩

/-- Pre gives way only where nothing of post stays. -/
theorem eqPreKept_of_post (pre main post : Nat) (h : 0 < eqPostKept pre main post) : eqPreKept pre main post = pre := by
  simp only [eqPreKept, eqPostKept] at h ⊢
  omega

/-- With main in its range, what stays meets both joint limits, and one of them exactly where anything was reduced. -/
theorem eqKept_limits (pre main post : Nat) (hlo : 16 ≤ main) (hhi : main ≤ 63) :
    let a := eqPreKept pre main post
    let b := eqPostKept pre main post
    a + main + b ≤ 63 ∧ 8 + a + b ≤ main ∧ ((a, b) = (pre, post) ∨ a + main + b = 63 ∨ 8 + a + b = main) := by
  simp only [eqPreKept, eqPostKept, eqExcess, Prod.mk.injEq]
  omega

/-- A tap that is not raised has code 2 if it is reduced, else 0. -/
theorem tapCode_of_le (was now_ : Nat) (h : now_ ≤ was) : tapCode was now_ = if now_ < was then 2 else 0 := by
  rw [tapCode, if_neg (Nat.not_lt.mpr h)]

/-- Settles O52: what stays of pre and post are the taps whose existence is claimed. -/
theorem equaliserTapsStayWithinTheirLimits : Obligations.Equaliser_taps_stay_within_their_limits := by
  refine ⟨fun v => ?taps, by decide⟩
  case taps =>
    intro pre main post
    obtain ⟨hpre, hpost⟩ := eqKept_le pre main post
    obtain ⟨hsum, hdiff, htight⟩ := eqKept_limits pre main post (by omega) (by omega)
    refine ⟨eqPreKept pre main post, eqPostKept pre main post, hpre, hpost, eqPreKept_of_post pre main post, hsum, hdiff, htight, ?_⟩
    have hpreCode := tapCode_of_le (eqPre v) _ (hpre.trans (Nat.min_le_right 15 _))
    have hpostCode := tapCode_of_le (eqPost v) _ (hpost.trans (Nat.min_le_right 31 _))
    rw [eqCheck_eq v pre main post rfl rfl rfl, hpreCode, hpostCode]
    rfl

/-! ### The states of a transaction (Table DIC-6) -/

/-- An IDLE session's transaction opens with a number of its own, while fewer than eight are live (R45). -/
theorem txnOpen_idle (sid : Nat) (s : Sys) (hidle : (txnOf s sid).st = .idle)
    (hroom : ((holders s).filter (fun v => v.txn.live && v.txn.num != 0)).length < 8) :
    txnOpen sid s = (0, updTxn sid (fun _ => { st := .open_, num := (free s).1 % 65535 + 1, last := s.now }) (free s).2) :=
  if_neg (by simp [hidle, hroom])

/-- The right crc arms an OPEN transaction (R47). -/
theorem txnArm_match (sid crc now_ : Nat) (by79 : Bool) (s : Sys) (hopen : (txnOf s sid).st = .open_) (hcrc : crc = now_) :
    txnArm sid crc now_ true by79 s = (0, updTxn sid (fun x => { x with st := .armed, last := s.now, by79 := by79 }) s) := by
  simp [txnArm, hopen, hcrc]

/-- Another crc aborts it with cause 3 (R47). -/
theorem txnArm_mismatch (sid crc now_ : Nat) (by79 : Bool) (s : Sys) (hopen : (txnOf s sid).st = .open_) (hcrc : crc ≠ now_) :
    txnArm sid crc now_ true by79 s = (6, abortTxn sid 3 s) := by
  simp [txnArm, hopen, hcrc]

/-- A written 3 aborts a live transaction with cause 1 (R44). -/
theorem commitWrite_abort (sid : Nat) (s : Sys) (hlive : (txnOf s sid).live = true) : commitWrite sid 3 s = (0, abortTxn sid 1 s) := by
  simp [commitWrite, txnAbort, hlive]

/-- A written 1 accepts an OPEN or ARMED transaction for the next commit point, unless it changes rules while another commit that does
waits (R49, R184). -/
theorem commitWrite_next (sid : Nat) (s : Sys) (hst : (txnOf s sid).st = .open_ ∨ (txnOf s sid).st = .armed)
    (hrules : changesRules s (txnOf s sid).staged = true → s.rsWait = none) : commitWrite sid 1 s = (0, acceptCommit sid none false s) := by
  have hst' : ((txnOf s sid).st == .open_ || (txnOf s sid).st == .armed) = true := by simpa using hst
  have hfree : ¬(changesRules s (txnOf s sid).staged = true ∧ s.rsWait.isSome = true) := by
    rintro ⟨hchanges, hwaits⟩
    simp [hrules hchanges] at hwaits
  simp [commitWrite, txnCommit, hst', hfree]

/-- An OPEN or ARMED transaction that was idle for TXN_TIMEOUT is aborted with cause 2 (R48). -/
theorem txnTimeoutEffect_due (sid : Nat) (s : Sys) (hst : (txnOf s sid).st = .open_ ∨ (txnOf s sid).st = .armed)
    (hdue : (txnOf s sid).last + obj s 0x0200 0x0D * Config.ticksPerS ≤ s.now) :
    txnTimeoutEffect sid s = abortTxn sid 2 (bump Ctr.dicTxnTimeout s) := if_pos ⟨hst, hdue⟩

/-! ### Writes of the objects that open, arm and commit -/

/-- A write of a session's own object, but for an arm, counts against the time-out of its transaction (R48). -/
theorem touchFor_other (sid ix sub : Nat) (s : Sys) (h : (ix, sub) ≠ (0x0200, 6)) : touchFor sid ix sub s = touchTxn sid s := if_neg h

/-- The 1 that TXN_OPEN takes passes its checks, and does what `txnOpen` says where that does not refuse. -/
theorem writeOwn_open (sid c : Nat) (s y : Sys) (hr : txnOpen sid s = (c, y)) (hc : c ≠ 6) :
    writeOwn sid 0x0200 3 (fld .u8 (.enum [1])) (.num 1) s = (y, [c], []) := by
  have hck (old : Value) : checkField (fld .u8 (.enum [1])) 0 old (.num 1) = (.num 1, [0]) := rfl
  have hsp (old n : Nat) : checkSpecial 0x0200 3 old n = none := rfl
  simp [writeOwn, hck, hsp, hr, hc]

/-- A safety session's arm does what `txnArm` says, and enters code 6 where that refuses. -/
theorem writeOwn_arm (sid crc c : Nat) (s y : Sys) (hrole : roleOf s sid = 3) (hr : txnArm sid crc (safetyCrc s) true false s = (c, y)) :
    writeOwn sid 0x0200 6 (ro .u32) (.num crc) s =
      (if c = 6 then enterCodes sid (txnNo s sid) 0x0200 6 0 0 (0, 0) [6] (.num crc) (inForce s sid 0x0200 6 0 0) y else y, [c], []) := by
  have hck (old : Value) : checkField (ro .u32) 0 old (.num crc) = (.num crc, [0]) := rfl
  have hsp (old n : Nat) : checkSpecial 0x0200 6 old n = none := rfl
  have hn : (Value.num (crc : Int)).toNat = crc := Int.toNat_natCast crc
  simp [writeOwn, hck, hsp, hn, hrole, hr]

/-- Each of the values 1 to 3 passes the check of an object that takes them. -/
theorem checkField_oneToThree (v : Nat) (hv : v = 1 ∨ v = 2 ∨ v = 3) (old : Value) :
    checkField (fEnum [1, 2, 3]) 0 old (.num v) = (.num v, [0]) := by
  rcases hv with rfl | rfl | rfl <;> rfl

/-- A commit or an abort that is not refused does what `commitWrite` says. -/
theorem writeOwn_commit (sid v c : Nat) (s y : Sys) (hv : v = 1 ∨ v = 2 ∨ v = 3) (hr : commitWrite sid v s = (c, y)) (hc : c ≠ 6) :
    writeOwn sid 0x0200 7 (fEnum [1, 2, 3]) (.num v) s = (y, [c], []) := by
  have hsp (old n : Nat) : checkSpecial 0x0200 7 old n = none := rfl
  have hn : (Value.num (v : Int)).toNat = v := Int.toNat_natCast v
  simp [writeOwn, checkField_oneToThree v hv, hsp, hn, hr, hc]

/-- A snapshot request that is not refused does what `snapRequest` says. -/
theorem writeOwn_snap (sid v c : Nat) (s y : Sys) (l : List Staged) (hv : v = 1 ∨ v = 2 ∨ v = 3) (hr : snapRequest sid v s = (y, c, l))
    (hc : c ≠ 6) : writeOwn sid 0x0220 2 (fEnum [1, 2, 3]) (.num v) s = (y, [c], l) := by
  have hsp (old n : Nat) : checkSpecial 0x0220 2 old n = none := rfl
  have hn : (Value.num (v : Int)).toNat = v := Int.toNat_natCast v
  simp [writeOwn, checkField_oneToThree v hv, hsp, hn, hr, hc]

/-- TXN_OPEN by its object. -/
theorem writes_open (sid c : Nat) (x : SysMem) (y : Sys) (h : mayOwn x.1 sid 0x0200 3) (hr : txnOpen sid x.1 = (c, y)) (hc : c ≠ 6) :
    writes sid 0x0200 3 1 x = (touchTxn sid y, x.2) := by
  rw [← touchFor_other sid 0x0200 3 y (by decide)]
  exact writes_own_now sid 0x0200 3 1 x y _ _ _ [c] h (by rfl) rfl rfl (.inl rfl) rfl (writeOwn_open sid c x.1 y hr hc)

/-- TXN_ARM of a safety session by its object; it leaves the time-out to the arming itself (R47). -/
theorem writes_arm (sid crc c : Nat) (x : SysMem) (y : Sys) (h : mayOwn x.1 sid 0x0200 6) (hrole : roleOf x.1 sid = 3)
    (hr : txnArm sid crc (safetyCrc x.1) true false x.1 = (c, y)) :
    writes sid 0x0200 6 crc x =
      (if c = 6 then enterCodes sid (txnNo x.1 sid) 0x0200 6 0 0 (0, 0) [6] (.num crc) (inForce x.1 sid 0x0200 6 0 0) y else y, x.2) :=
  writes_own_now sid 0x0200 6 crc x _ _ _ _ [c] h (by rfl) rfl rfl (.inl rfl) rfl (writeOwn_arm sid crc c x.1 y hrole hr)

/-- The commits and the abort by their object. -/
theorem writes_commit (sid v c : Nat) (x : SysMem) (y : Sys) (hv : v = 1 ∨ v = 2 ∨ v = 3) (h : mayOwn x.1 sid 0x0200 7)
    (hr : commitWrite sid v x.1 = (c, y)) (hc : c ≠ 6) : writes sid 0x0200 7 v x = (touchTxn sid y, x.2) := by
  rw [← touchFor_other sid 0x0200 7 y (by decide)]
  exact writes_own_now sid 0x0200 7 v x y _ _ _ [c] h (by rfl) rfl rfl (.inl rfl) rfl (writeOwn_commit sid v c x.1 y hv hr hc)

/-- SNAP_REQ by its object: what awaits a commit point is committed. -/
theorem writes_snap (sid v c : Nat) (x : SysMem) (y : Sys) (l : List Staged) (hv : v = 1 ∨ v = 2 ∨ v = 3) (h : mayOwn x.1 sid 0x0220 2)
    (hr : snapRequest sid v x.1 = (y, c, l)) (hc : c ≠ 6) : writes sid 0x0220 2 v x = (directCommit sid l (touchTxn sid y, x.2)).1 := by
  rw [← touchFor_other sid 0x0220 2 y (by decide)]
  exact writes_own sid 0x0220 2 v x y _ _ _ [c] l h (by rfl) rfl rfl (.inl rfl) rfl (writeOwn_snap sid v c x.1 y l hv hr hc)

/-- With nothing to commit, SNAP_REQ only counts against the time-out. -/
theorem writes_snap_now (sid v c : Nat) (x : SysMem) (y : Sys) (hv : v = 1 ∨ v = 2 ∨ v = 3) (h : mayOwn x.1 sid 0x0220 2)
    (hr : snapRequest sid v x.1 = (y, c, [])) (hc : c ≠ 6) : writes sid 0x0220 2 v x = (touchTxn sid y, x.2) :=
  writes_snap sid v c x y [] hv h hr hc

/-- Settles O16: by its object each command does what the transaction's state allows, by its opcode it is a request. -/
theorem transactionsOpenAndArm : Obligations.Transactions_open_and_arm := by
  refine ⟨?openWrite, ?openRequest, ?armRight, ?armWrong, ?armRequest, ?abortWrite, ?abortRequest, ?timeout⟩
  case openWrite =>
    intro t sid s x hmay hidle hroom
    exact runMem_eq t _ s x _ rfl (writes_open sid 0 x _ hmay (txnOpen_idle sid x.1 hidle hroom) (by decide))
  case openRequest =>
    exact fun t f g y v s hreach hof hnew => runMem_eq t _ s _ _ rfl (txn_request 0x20 f _ _ _ y g v hreach hof hnew rfl)
  case armRight =>
    intro t sid crc s x hmay hrole hopen hcrc
    exact runMem_eq t _ s x _ rfl (writes_arm sid crc 0 x _ hmay hrole (txnArm_match sid crc _ false x.1 hopen hcrc))
  case armWrong =>
    intro t sid crc s x hmay hrole hopen hcrc
    exact runMem_eq t _ s x _ rfl (writes_arm sid crc 6 x _ hmay hrole (txnArm_mismatch sid crc _ false x.1 hopen hcrc))
  case armRequest =>
    exact fun t f g y v crc s hreach hof hnew => runMem_eq t _ s _ _ rfl (txn_request 0x21 f _ _ _ y g v hreach hof hnew rfl)
  case abortWrite =>
    intro t sid s x hmay hlive
    exact runMem_eq t _ s x _ rfl (writes_commit sid 3 0 x _ (by decide) hmay (commitWrite_abort sid x.1 hlive) (by decide))
  case abortRequest =>
    exact fun t f g y v s hreach hof hnew => runMem_eq t _ s _ _ rfl (txn_request 0x23 f _ _ _ y g v hreach hof hnew rfl)
  case timeout =>
    exact fun t sid s hrun hst hdue => run_bySteward_eq t _ s _ hrun (txnTimeoutEffect_due sid _ hst hdue)

/-! ### Commit points (R49, R51, R254) -/

/-- What a steward does to the block and the HBM, while the stewards run. -/
theorem byStewardMem_runs (f : SysMem → SysMem) (x : SysMem) (h : stewardsRun x.1 = true) : byStewardMem f x = f x := if_pos h

/-- A command with an effect `f` on the HBM that a running steward carries out. -/
theorem runMem_bySteward_eq (t : Nat) (f : SysMem → SysMem) (s : State) (y : SysMem) (hrun : stewardsRun (atTick t s).1 = true)
    (h : f (atTick t s) = y) : runMem t (byStewardMem f) s = .next (leaves s y) :=
  runMem_eq t _ s _ y rfl ((byStewardMem_runs f _ hrun).trans h)

/-- The SCHEDULED slots that flip at a commit point which releases none. -/
theorem dueSlots_nil (timed : Bool) (s : Sys) :
    (List.range 4).filter (fun i => snapDue s timed (snap s i) && !([] : List Nat).contains i) =
      (List.range 4).filter (fun i => snapDue s timed (snap s i)) := by
  simp

/-- Where anything is due, the commits follow the flips, in the order of acceptance, at one new generation. -/
theorem commitAll_due (timed : Bool) (x : SysMem)
    (h : dueTxns x.1 timed ≠ [] ∨ (List.range 4).filter (fun i => snapDue x.1 timed (snap x.1 i)) ≠ []) :
    commitAll [] timed x = (dueTxns x.1 timed).foldl (fun y e => commitTxn e.1 e.2 y)
      (onSys (fun s => ((List.range 4).filter (fun i => snapDue x.1 timed (snap x.1 i))).foldl flipSnap (nextGen s)) x) := by
  rw [← dueSlots_nil] at h ⊢
  refine if_neg ?_
  rintro ⟨htxns, hslots⟩
  exact h.elim (fun hne => hne (List.isEmpty_iff.mp htxns)) (fun hne => hne (List.isEmpty_iff.mp hslots))

/-- Where nothing is due, nothing commits. -/
theorem commitAll_none (timed : Bool) (x : SysMem) (htxns : dueTxns x.1 timed = [])
    (hslots : (List.range 4).filter (fun i => snapDue x.1 timed (snap x.1 i)) = []) : commitAll [] timed x = x := by
  rw [← dueSlots_nil] at hslots
  exact if_pos ⟨List.isEmpty_iff.mpr htxns, List.isEmpty_iff.mpr hslots⟩

/-- A commit point is what is due at it, behind the Plinth's part and before the claims settle (R228, R254). -/
theorem commitDue_eq (timed : Bool) (x : SysMem) :
    commitDue timed x = onSys (settleClaims (onSys plinthFirst x).1) (commitAll [] timed (onSys plinthFirst x)) := rfl

/-- A stated time that no commit of the session and no snapshot has reached makes no commit point. -/
theorem statedCommitEffect_early (sid : Nat) (x : SysMem) (htxn : (dueTxns x.1 true).any (fun e => e.1.sid == sid) = false)
    (hsnap : (List.range 4).any (fun i => snapDue x.1 true (snap x.1 i)) = false) : statedCommitEffect sid x = x := by
  simp only [statedCommitEffect, htxn, hsnap]
  rfl

/-- A stated time that a commit of the session has reached makes one. -/
theorem statedCommitEffect_due (sid : Nat) (x : SysMem) (htxn : (dueTxns x.1 true).any (fun e => e.1.sid == sid) = true) :
    statedCommitEffect sid x = commitDue true x := by
  simp only [statedCommitEffect, htxn]
  rfl

/-- A write behind those of other objects of the session, which give `p`. -/
theorem runMem_preset (t sid ix sub v : Nat) (l : List (Nat × Nat × Nat)) (s : State) (p y : SysMem) (hp : p = preset sid l (atTick t s))
    (h : writes sid ix sub v p = y) : runMem t (fun x => writes sid ix sub v (preset sid l x)) s = .next (leaves s y) := by
  subst hp h
  rfl

/-- Settles O17: an accepted commit is what `commitWrite` makes of it, and a commit point is `commitAll` at it. -/
theorem transactionsCommit : Obligations.Transactions_commit := by
  refine ⟨?nextWrite, ?nextRequest, ?statedWrite, ?statedRequest, ?point, ?pointIdle, ?time, ?timeEarly⟩
  case nextWrite =>
    intro t sid s x hmay hst hrules
    exact runMem_eq t _ s x _ rfl (writes_commit sid 1 0 x _ (by decide) hmay (commitWrite_next sid x.1 hst hrules) (by decide))
  case nextRequest =>
    exact fun t f g y v s hreach hof hnew => runMem_eq t _ s _ _ rfl (txn_request 0x22 f _ _ _ y g v hreach hof hnew rfl)
  case statedWrite =>
    exact fun t sid base time p s hp hmay hc =>
      runMem_preset t sid 0x0200 7 2 _ s p _ hp (writes_commit sid 2 _ p _ (by decide) hmay rfl hc)
  case statedRequest =>
    exact fun t f g y v base time s hreach hof hnew => runMem_eq t _ s _ _ rfl (txn_request 0x22 f _ _ _ y g v hreach hof hnew rfl)
  case point =>
    intro t s x p hrun hdue
    refine runMem_bySteward_eq t _ s _ hrun ?_
    rw [commitPointEffect, commitDue_eq, commitAll_due false p hdue]
  case pointIdle =>
    intro t s x p hrun htxns hslots
    refine runMem_bySteward_eq t _ s _ hrun ?_
    rw [commitPointEffect, commitDue_eq, commitAll_none false p htxns hslots]
  case time =>
    intro t sid s x p hrun hnamed hstill
    refine runMem_bySteward_eq t _ s _ hrun ?_
    have hne : dueTxns p.1 true ≠ [] := by
      intro hnil
      simp [hnil] at hstill
    rw [statedCommitEffect_due sid _ hnamed, commitDue_eq, commitAll_due true p (.inl hne)]
  case timeEarly =>
    exact fun t sid s hrun htxn hsnap => runMem_bySteward_eq t _ s _ hrun (statedCommitEffect_early sid _ htxn hsnap)

/-! ### Stores and snapshots (R35, R58 to R60, R484, R486) -/

/-- A value of STORE that its enumeration lists passes the checks. -/
theorem checkValue_store (s : Sys) (v : Nat) (hv : v = 1 ∨ v = 2 ∨ v = 3) :
    checkValue s 0x0200 0x0F 0 0 (fEnum [1, 2, 3]) (.num v) = (.num v, [0]) := by
  rcases hv with rfl | rfl | rfl <;> rfl

/-- A value of STORE that is no restore has its effect at the commit point of its write. -/
theorem writes_store (sid v : Nat) (f : Sys → Sys) (x : SysMem) (hv : v = 1 ∧ f = storeStart ∨ v = 3 ∧ f = eraseImage)
    (h : mayCommand x.1 sid 0x0200 0x0F v) (hidle : storing (commandPoint sid x).1 = false) :
    writes sid 0x0200 0x0F v x = settled sid x (onSys f (commandPoint sid x)) := by
  have hlisted : v = 1 ∨ v = 2 ∨ v = 3 := by omega
  have hn : (Value.num (v : Int)).toNat = v := Int.toNat_natCast v
  refine writes_command sid 0x0200 0x0F v x _ _ _ _ h (by rfl) rfl rfl rfl rfl (checkValue_store x.1 v hlisted) rfl (by simp; omega)
    (by decide) (by decide) ?_
  rcases hv with ⟨rfl, rfl⟩ | ⟨rfl, rfl⟩
  · simp [commandEffect, hidle, onSys, Value.toNat, Value.toInt]
  · simp [commandEffect, hidle, onSys, Value.toNat, Value.toInt]

/-- A store is no more under way. -/
def storeEnded (s : Sys) : Sys := useFlash (updFlash (fun f => { f with store := none }) s)

/-- A store to slot `i` has failed for `cause` (R484). -/
def storeFailed (i cause : Nat) (s : Sys) : Sys := raise 0x0104 2 (u8b i ++ u8b cause) (updFlash (fun f => { f with storeState := 3 }) s)

/-- A store to a flash that is not present fails with cause 4. -/
theorem storeDoneEffect_absent (flashError : Bool) (i : Nat) (image : Option Slot) (s : Sys) (hstore : s.flash.store = some (i, image))
    (hp : (storeEnded s).flash.present = false) : storeDoneEffect flashError s = storeFailed i 4 (storeEnded s) := by
  simp only [storeEnded] at hp
  simp [storeDoneEffect, hstore, hp, storeFailed, storeEnded]

/-- A store of an image that its slot has no room for fails with cause 2. -/
theorem storeDoneEffect_tooLong (flashError : Bool) (i : Nat) (s : Sys) (hstore : s.flash.store = some (i, none))
    (hp : (storeEnded s).flash.present = true) : storeDoneEffect flashError s = storeFailed i 2 (storeEnded s) := by
  simp only [storeEnded] at hp
  simp [storeDoneEffect, hstore, hp, storeFailed, storeEnded]

/-- A store that the flash does not program leaves its payload without a header, and fails with cause 1 (log entry 67). -/
theorem storeDoneEffect_flashError (i : Nat) (v : Slot) (s : Sys) (hstore : s.flash.store = some (i, some v))
    (hp : (storeEnded s).flash.present = true) :
    storeDoneEffect true s = storeFailed i 1 (setSlot i { v with header := [] } (storeEnded s)) := by
  simp only [storeEnded] at hp
  simp [storeDoneEffect, hstore, hp, storeFailed, storeEnded]

/-- A store that succeeds leaves its image in its slot, and the other slot erasing. -/
theorem storeDoneEffect_complete (i : Nat) (v : Slot) (s : Sys) (hstore : s.flash.store = some (i, some v))
    (hp : (storeEnded s).flash.present = true) :
    storeDoneEffect false s =
      eraseSlots [5 - i] (raise 0x0103 0 (u8b i) (updFlash (fun f => { f with storeState := 2 }) (setSlot i v (storeEnded s)))) := by
  simp only [storeEnded] at hp
  simp [storeDoneEffect, hstore, hp, storeEnded]

/-- A slot that is erasing is empty once its erase is done. -/
theorem slotEraseEffect_erasing (i : Nat) (s : Sys) (h : s.flash.erasing.contains i = true) :
    slotEraseEffect i s = useFlash (updFlash (fun f => { f with erasing := f.erasing.filter (· != i) }) (setSlot i {} s)) := if_pos h

/-- SNAP_REQ value 1 of a FREE slot asks for a snapshot at the next commit point (R58). -/
theorem snapRequest_next (sid : Nat) (s : Sys) (h : (snap s (ownVal s sid 0x0220 5)).st = 0) :
    snapRequest sid 1 s = (setSnap (ownVal s sid 0x0220 5) { st := 1, base := ownVal s sid 0x0220 4 } s, 0, []) := by
  simp [snapRequest, h]

/-- SNAP_REQ value 2 of a FREE slot leaves nothing to commit. -/
theorem snapRequest_stated (sid : Nat) (s : Sys) (h : (snap s (ownVal s sid 0x0220 5)).st = 0) :
    let r := snapStated sid (ownVal s sid 0x0220 5) (ownVal s sid 0x0220 4) (statedTime s (ownVal s sid 0x0220 4) (timeUnits (ownVal s sid 0x0220 3))) s
    snapRequest sid 2 s = (r.1, r.2.1, []) := by
  rw [snapRequest_codes sid s h]
  exact Prod.ext rfl (Prod.ext rfl (snapStated_codes sid _ _ _ s).1)

/-- SNAP_REQ value 3 releases the slot at the commit point of its write. -/
theorem snapRequest_release (sid : Nat) (s : Sys) :
    snapRequest sid 3 s = (s, 0, [{ ix := 0x0220, sub := 2, row := ownVal s sid 0x0220 5, col := 0, req := .num 3, val := .num 3, codes := [0] }]) := rfl

/-- A snapshot that is being swept is READY once the sweep is done (R60). -/
theorem sweepEffect_sweeping (i : Nat) (s : Sys) (h : (snap s i).st = 2) :
    sweepEffect i s = raise 0x0209 0 (u8b i ++ u32b (snap s i).gen) (setSnap i { snap s i with st := 3, swept := true } s) := if_pos h

/-- Settles O18: each clause is the case of its command's effect that the hypotheses select. -/
theorem storesAndSnapshotsTakeEffect : Obligations.Stores_and_snapshots_take_effect := by
  refine ⟨?store, ?restore, ?restoreRules, ?restoreRefused, ?erase, ?storeDone, ?slotErased, ?snapNext, ?snapStated, ?snapRelease, ?swept⟩
  case store => exact fun t sid s hmay hidle => runMem_eq t _ s _ _ rfl (writes_store sid 1 _ _ (.inl ⟨rfl, rfl⟩) hmay hidle)
  case restore => exact fun t sid s hmay hrules => runMem_eq t _ s _ _ rfl (restore_direct sid _ hmay hrules)
  case restoreRules => exact fun t sid s hmay hrules hfree => runMem_eq t _ s _ _ rfl (restore_waits sid _ hmay hrules hfree)
  case restoreRefused => exact fun t sid s hmay hrules hwaits => runMem_eq t _ s _ _ rfl (restore_refused sid _ hmay hrules hwaits)
  case erase => exact fun t sid s hmay hidle => runMem_eq t _ s _ _ rfl (writes_store sid 3 _ _ (.inr ⟨rfl, rfl⟩) hmay hidle)
  case storeDone =>
    intro t flashError slot image s x hrun hstore
    refine run_bySteward_eq t _ s _ hrun ?_
    cases hp : (storeEnded x).flash.present with
    | false => exact (storeDoneEffect_absent flashError slot image x hstore hp).trans (if_pos hp).symm
    | true =>
      refine Eq.trans ?_ (if_neg (Bool.ne_false_iff.mpr hp)).symm
      cases image with
      | none => exact storeDoneEffect_tooLong flashError slot x hstore hp
      | some v =>
        cases flashError with
        | false => exact storeDoneEffect_complete slot v x hstore hp
        | true => exact storeDoneEffect_flashError slot v x hstore hp
  case slotErased => exact fun t slot s h => run_eq t _ s _ _ rfl (slotEraseEffect_erasing (slotNo slot) _ h)
  case snapNext =>
    exact fun t sid slot p s hp hmay hfree =>
      runMem_preset t sid 0x0220 2 1 _ s p _ hp (writes_snap_now sid 1 0 p _ (by decide) hmay (snapRequest_next sid p.1 hfree) (by decide))
  case snapStated =>
    exact fun t sid slot base time p s hp hmay hfree =>
      runMem_preset t sid 0x0220 2 2 _ s p _ hp
        (writes_snap_now sid 2 _ p _ (by decide) hmay (snapRequest_stated sid p.1 hfree) (snapStated_codes sid _ _ _ p.1).2)
  case snapRelease =>
    exact fun t sid slot p s hp hmay =>
      runMem_preset t sid 0x0220 2 3 _ s p _ hp
        ((writes_snap sid 3 0 p _ _ (by decide) hmay (snapRequest_release sid p.1) (by decide)).trans (release_commit sid _ p))
  case swept => exact fun t slot s h => run_eq t _ s _ _ rfl (sweepEffect_sweeping slot.val _ h)

end Sys2Proof.Proofs
end

section
/-! PROOFS. Gramus: how requests reach the queue of their session and are served in order, how discovery, the opening of sessions and
acknowledgements are served, and what the time-outs of chapter 03 do. -/

namespace Sys2Proof.Proofs

open Sys2Proof.Machine Sys2Proof.Safety Sys2Proof.Laws

/-! ### Serving the requests that wait (R74, R84) -/

/-- A response that must wait keeps its session from being served. -/
theorem pumpSession_held_waits (sid n : Nat) (x : SysMem) (v : Session) (h : Held) (hs : session? x.1 sid = some v) (hheld : v.held = some h)
    (hready : heldReady x.1 v h = false) : pumpSession sid n x = x := by
  cases n with
  | zero => rfl
  | succ n => simp [pumpSession, hs, hheld, hready]

/-- A session with nothing that waits is left alone. -/
theorem pumpSession_idle (sid n : Nat) (x : SysMem) (v : Session) (hs : session? x.1 sid = some v) (hheld : v.held = none)
    (hwaitq : v.waitq = []) : pumpSession sid n x = x := by
  cases n with
  | zero => rfl
  | succ n => simp [pumpSession, hs, hheld, hwaitq]

/-- The oldest request is executed, and the rest served after it. -/
theorem pumpSession_oldest (sid n at_ : Nat) (r : Reply) (f : GFrame) (l : List (Nat × Reply × GFrame)) (x : SysMem) (v : Session)
    (hs : session? x.1 sid = some v) (hheld : v.held = none) (hwaitq : v.waitq = (at_, r, f) :: l) (hstays : x.1.ending.contains sid = false) :
    pumpSession sid (n + 1) x = pumpSession sid n (execute r f (onSys (updSession sid (fun w => { w with waitq := l })) x)) := by
  simp only [pumpSession, hs, hheld, hwaitq, hstays, onSys, Bool.false_eq_true, if_false]

/-- A session that ends at the commit point being carried out executes nothing more (R77, R78). -/
theorem pumpSession_ending (sid n : Nat) (x : SysMem) (v : Session) (hs : session? x.1 sid = some v) (hheld : v.held = none)
    (hends : x.1.ending.contains sid = true) : pumpSession sid n x = x := by
  cases n with
  | zero => rfl
  | succ n =>
    cases hwaitq : v.waitq with
    | nil => exact pumpSession_idle sid (n + 1) x v hs hheld hwaitq
    | cons e l => simp only [pumpSession, hs, hheld, hwaitq, hends, if_true]

/-- Settles O57, by what holds the session back: a held response, an empty queue, its end, or nothing. -/
theorem waitingRequestsAreServedInOrder : Obligations.Waiting_requests_are_served_in_order :=
  fun sid n x v hs =>
    ⟨fun at_ r f l => pumpSession_oldest sid n at_ r f l x v hs,
      fun h => pumpSession_held_waits sid n x v h hs,
      pumpSession_idle sid n x v hs,
      pumpSession_ending sid n x v hs⟩

/-! ### Frames that reach a steward (R64, R68) -/

/-- A command brings the frame that it takes to a steward. -/
theorem gmpEffect_taken (op : Nat) (f : Option GFrame) (delay : Nat) (n : List Byte) (x y : SysMem) (g : Taken)
    (h : takeFrame f (fun g => g.opcode == op) x = some (g, y)) : gmpEffect op f delay n x = serve g delay n false y := by
  simp only [gmpEffect, h]

/-- A request with an opcode of sessions joins its session's queue, and the sessions are served (R83, R84). -/
theorem run_gmpRequest (op : Nat) (hop : (op == 1 || op == 2 || op == 0xC0) = false) (t : Nat) (f : Option GFrame) (g : Taken) (y : SysMem)
    (v : Session) (s : State) (hreach : reaches f (fun g => g.opcode == op) (atTick t s) g y) (hof : ofSession y.1 v g.f)
    (hnew : newRequest v g.f) : runMem t (gmpEffect op f 0 []) s = .next (leaves s (pump (onSys (withRequest v g) y))) :=
  runMem_eq t _ s _ _ rfl (gmp_request op f _ y g v hreach hof hnew hop)

/-- So does a request with an opcode that Table GMP-5 does not list (R70). -/
theorem unknownEffect_request (f : Option GFrame) (x y : SysMem) (g : Taken) (v : Session)
    (hreach : reaches f (fun g => !knownOpcode g.opcode) x g y) (hof : ofSession y.1 v g.f) (hnew : newRequest v g.f) :
    unknownEffect f x = pump (onSys (withRequest v g) y) := by
  obtain ⟨htake, hrun, hlisten, hgood, hversion⟩ := hreach
  have hunlisted := takeFrame_want _ _ _ _ _ htake
  simp only [knownOpcode, Bool.not_eq_true', Bool.or_eq_false_iff, beq_eq_false_iff_ne] at hunlisted
  obtain ⟨⟨⟨hdiscover, hopen⟩, hack⟩, -⟩ := hunlisted
  simp only [unknownEffect, htake]
  exact receive_request g 0 [] y v hrun hlisten hgood hversion hof hnew ⟨hdiscover, hopen⟩ hack

/-- A command that brings any frame of its opcode has it served; with no such frame it has no effect. -/
theorem run_gmpFrame (op t : Nat) (f : Option GFrame) (s : State) :
    runMem t (gmpEffect op f 0 []) s = .next (leaves s (gmpEffect op f 0 [] (atTick t s))) :=
  runMem_eq t _ s _ _ rfl rfl

/-- Settles O14: each clause is `run_gmpRequest` or `run_gmpFrame` at its command's opcode, but for the opcodes that are not listed. -/
theorem gramusRequestsReachTheirSession : Obligations.Gramus_requests_reach_their_session :=
  ⟨run_gmpRequest 3 rfl, run_gmpRequest 4 rfl, run_gmpRequest 0x10 rfl, run_gmpRequest 0x11 rfl, run_gmpRequest 0x12 rfl,
    run_gmpRequest 0x13 rfl, run_gmpRequest 0x14 rfl, run_gmpRequest 0x15 rfl,
    fun t f g y v s hreach hof hnew => runMem_eq t _ s _ _ rfl (unknownEffect_request f _ y g v hreach hof hnew),
    run_gmpFrame 3, run_gmpFrame 4, run_gmpFrame 0x10, run_gmpFrame 0x11, run_gmpFrame 0x12, run_gmpFrame 0x13, run_gmpFrame 0x14,
    run_gmpFrame 0x15⟩

/-! ### Discovery and the opening of sessions (R75, R80, R88) -/

/-- A DISCOVER frame that reaches a steward is served outside any session. -/
theorem gmpEffect_discover (f : Option GFrame) (delay : Nat) (x y : SysMem) (g : Taken) (hreach : reaches f (fun g => g.opcode == 1) x g y) :
    gmpEffect 1 f delay [] x = onSys (discoverEffect g.view g.f delay) y := by
  obtain ⟨htake, hrun, hlisten, hgood, hversion⟩ := hreach
  have hop : g.f.opcode = 1 := by simpa using takeFrame_want _ _ _ _ _ htake
  rw [gmpEffect_taken 1 f delay [] x y g htake]
  simp [serve, receive, hrun, hlisten, hgood, hversion, hop]

/-- A SESSION_OPEN frame that reaches a steward is served outside any session. -/
theorem gmpEffect_open (f : Option GFrame) (nonceD : List Byte) (x y : SysMem) (g : Taken) (hreach : reaches f (fun g => g.opcode == 2) x g y) :
    gmpEffect 2 f 0 nonceD x = onSys (openEffect g.view g.f nonceD) y := by
  obtain ⟨htake, hrun, hlisten, hgood, hversion⟩ := hreach
  have hop : g.f.opcode = 2 := by simpa using takeFrame_want _ _ _ _ _ htake
  rw [gmpEffect_taken 2 f 0 nonceD x y g htake]
  simp [serve, receive, hrun, hlisten, hgood, hversion, hop]

/-- A DISCOVER of every device, or of this one by its serial, is answered after the delay drawn (R88). -/
theorem discoverEffect_accepts (view : Sys) (f : GFrame) (delay : Nat) (s : Sys)
    (hwhole : gfPayload f ≠ [] ∧ (gfPayload f).length = 1 + byteAt (gfPayload f) 0)
    (hthis : byteAt (gfPayload f) 0 = 0 ∨ (gfPayload f).drop 1 = Config.serial) :
    discoverEffect view f delay s =
      { s with discovers := s.discovers ++ [(s.now + min delay (obj s 0x0300 7 * Config.ticksPerMs), replyTo view f false 0)] } := by
  obtain ⟨hsome, hlen⟩ := hwhole
  have hmalformed : ¬((gfPayload f).isEmpty = true ∨ (gfPayload f).length ≠ 1 + byteAt (gfPayload f) 0) := by simp [hsome, hlen]
  have hother : ¬(byteAt (gfPayload f) 0 ≠ 0 ∧ (gfPayload f).drop 1 ≠ Config.serial) := by tauto
  simp only [discoverEffect, if_neg hmalformed, if_neg hother]

/-- In open mode an untagged SESSION_OPEN on port 72 starts an operator's session (R75). -/
theorem openEffect_openMode (view : Sys) (f : GFrame) (nonceD : List Byte) (s : Sys) (hkeys : keysPending s = false)
    (hform : (gfPayload f).length = 22 ∧ byteAt (gfPayload f) 0 = 0xFF)
    (hmode : gfTagged f = false ∧ authActive s = false ∧ f.port.val = 72) (hnonce : s.nonces.contains (slice (gfPayload f) 6 16) = false) :
    openEffect view f nonceD s = openStart view f nonceD 2 0xFF [] s := by
  obtain ⟨hlen, hrow⟩ := hform
  obtain ⟨huntagged, hopen, hport⟩ := hmode
  simp only [openEffect, hkeys, hlen, hrow, huntagged, hopen, hport, hnonce]
  simp

/-- A SESSION_OPEN with a good tag under a key row that is set starts a session with the role of the row (R80). -/
theorem openEffect_keyed (view : Sys) (f : GFrame) (nonceD : List Byte) (s : Sys) (hkeys : keysPending s = false)
    (hform : (gfPayload f).length = 22 ∧ byteAt (gfPayload f) 0 ≤ 3)
    (hkey : gfTagged f = true ∧ keyed s (byteAt (gfPayload f) 0) = true)
    (htag : gfTagGood f (val s 0x0300 9 (byteAt (gfPayload f) 0) 1).bytes = true)
    (hnonce : s.nonces.contains (slice (gfPayload f) 6 16) = false) :
    openEffect view f nonceD s = openStart view f nonceD (cell s 0x0300 9 (byteAt (gfPayload f) 0) 0) (byteAt (gfPayload f) 0)
      (val s 0x0300 9 (byteAt (gfPayload f) 0) 1).bytes s := by
  obtain ⟨hlen, hrow⟩ := hform
  obtain ⟨htagged, hset⟩ := hkey
  have hlisted : ¬(3 < byteAt (gfPayload f) 0 ∨ (!keyed s (byteAt (gfPayload f) 0)) = true) := by simp [hrow, hset]
  simp only [openEffect, hkeys, hlen, htagged, if_neg hlisted, htag, hnonce]
  simp

/-! ### Acknowledgements of events (R91) -/

/-- An acknowledgement of a record of the outstanding EVENT frame, or of a later one, ends its repeats. -/
theorem ackEffect_outstanding (sid : Nat) (f : GFrame) (s : Sys) (v : Session) (first last : Nat) (hs : session? s sid = some v)
    (hframe : v.evFrame = some (first, last)) (hfirst : first ≤ field (gfPayload f) 0 4) (hlen : (gfPayload f).length = 4) :
    ackEffect sid f s = reportLoss sid (updSession sid (fun w =>
      { w with evFrame := none, last := s.now, acked := max w.acked (min (field (gfPayload f) 0 4) s.evSeq) }) s) := by
  have hnames : ¬((gfPayload f).length ≠ 4 ∨ field (gfPayload f) 0 4 < first) := by omega
  simp only [ackEffect, hs, hframe, if_neg hnames]

/-- An EVENT_ACK of a session acts on the session as it is once it has heard the frame (R68, R81). -/
theorem gmpEffect_ack (f : Option GFrame) (x y : SysMem) (g : Taken) (v : Session) (hreach : reaches f (fun g => g.opcode == 0xC0) x g y)
    (hof : ofSession y.1 v g.f) : gmpEffect 0xC0 f 0 [] x = onSys (fun s => ackEffect v.sid g.f (heard v g.f s)) y := by
  obtain ⟨htake, hrun, hlisten, hgood, hversion⟩ := hreach
  have hop : g.f.opcode = 0xC0 := by simpa using takeFrame_want _ _ _ _ _ htake
  rw [gmpEffect_taken 0xC0 f 0 [] x y g htake, receive_session g 0 [] y v hrun hlisten hgood hversion hof (by simp [hop]), if_pos hop]
  rfl

/-! ### Time-outs (R73, R75, R85, R91) -/

/-- The answers to DISCOVER whose delay has ended are sent, while the stewards run (R88). -/
theorem discoverReplyEffect_runs (s : Sys) (hrun : stewardsRun s = true) :
    discoverReplyEffect s = (s.discovers.filter (fun e => decide (e.1 ≤ s.now))).foldl (fun y e => respond e.2 0 false (identityBlock y) y)
      { s with discovers := s.discovers.filter (fun e => decide (s.now < e.1)) } :=
  if_neg (by simp [hrun])

/-- An announcement that is due is sent, while the stewards run (R88). -/
theorem announceEffect_due (left due : Nat) (s : Sys) (hrun : stewardsRun s = true) (hleft : s.announce = some (left, due)) (hdue : due ≤ s.now) :
    announceEffect s = announceNow left due s := by
  have hnow : ¬(s.now < due ∨ (!stewardsRun s) = true) := by simp [hrun, hdue]
  simp only [announceEffect, hleft, if_neg hnow]

/-- A session keeps its segmented write only while the write has not been idle for TXN_TIMEOUT (R73). -/
theorem segTimeoutEffect_eq (sid : Nat) (s : Sys) : segTimeoutEffect sid s =
    updSession sid (fun v => { v with seg := v.seg.filter (fun g => decide (s.now < g.at_ + obj s 0x0200 0x0D * Config.ticksPerS)) }) s := by
  refine congrArg (fun f => updSession sid f s) (funext fun v => ?_)
  split
  case h_1 g hseg =>
    rw [hseg, Option.filter_some]
    by_cases hidle : g.at_ + obj s 0x0200 0x0D * Config.ticksPerS ≤ s.now
    · rw [if_pos hidle, if_neg (by simp [hidle])]
    · rw [if_neg hidle, if_pos (by simpa using hidle), ← hseg]
  case h_2 hseg => rw [hseg, Option.filter_none, ← hseg]

/-- With no request at the front of SQ0, only the requests of sessions can be late (R85). -/
theorem startTimeoutEffect_empty (x : SysMem) (h : takeFrame none (fun g => g.opcode != 1 && g.opcode != 0xC0) (onSys busyLate x) = none) :
    startTimeoutEffect x = onSys busyLate x := by
  simp only [startTimeoutEffect, h]

/-- A request at the front of SQ0 is answered as late once it has waited 1.5 ms there (R85). -/
theorem startTimeoutEffect_taken (x y : SysMem) (g : Taken)
    (h : takeFrame none (fun g => g.opcode != 1 && g.opcode != 0xC0) (onSys busyLate x) = some (g, y)) :
    startTimeoutEffect x = if sq0Since x.1 + startTicks ≤ (onSys busyLate x).1.now then serve g 0 [] true y else onSys busyLate x := by
  simp only [startTimeoutEffect, h]

/-- A session that had no accepted request for SESSION_IDLE ends, and is reported (R75). -/
theorem idleEffect_due (sid : Nat) (v : Session) (s : Sys) (hs : session? s sid = some v)
    (hdue : v.last + obj s 0x0300 5 * Config.ticksPerS ≤ s.now) :
    idleEffect sid s = raise 0x0206 0 (u16b sid) (endSession sid (bump Ctr.gmpSessionTimeout s)) := by
  simp only [idleEffect, hs, if_pos hdue]

/-- An EVENT frame that is due again is sent again, at a doubled interval of at most eight times EVENT_RETRY (R91). -/
theorem eventRetryEffect_due (sid : Nat) (v : Session) (s : Sys) (hrun : stewardsRun s = true) (hs : session? s sid = some v)
    (hframe : v.evFrame ≠ none) (hdue : v.evAt ≤ s.now) :
    eventRetryEffect sid s =
      (let ivl := min (2 * v.evIvl) (8 * obj s 0x0300 8 * Config.ticksPerMs)
       sendEvents v true v.evRid v.evBytes (bump Ctr.gmpEventRetx (updSession sid (fun w => { w with evIvl := ivl, evAt := s.now + ivl }) s))) := by
  have hretry : ¬(v.evFrame.isNone = true ∨ s.now < v.evAt ∨ (!stewardsRun s) = true) := by simp [hframe, hdue, hrun]
  simp only [eventRetryEffect, hs, if_neg hretry]

/-- Settles O15: each clause is the case of its command's effect that the hypotheses select. -/
theorem gramusSessionsAndTimersTakeEffect : Obligations.Gramus_sessions_and_timers_take_effect := by
  refine ⟨?discover, ?openMode, ?openKeyed, ?ack, ?reply, ?announce, ?segment, ?startEmpty, ?startEarly, ?startLate, ?idle, ?retry⟩
  case discover =>
    intro t f delay g y s x hreach hwhole hthis
    refine runMem_eq t _ s x _ rfl ?_
    rw [gmpEffect_discover f delay x y g hreach, onSys, discoverEffect_accepts g.view g.f delay y.1 hwhole hthis]
    rfl
  case openMode =>
    intro t f nonceD g y s x hreach hkeys hform hmode hnonce
    refine runMem_eq t _ s x _ rfl ?_
    rw [gmpEffect_open f nonceD x y g hreach, onSys, openEffect_openMode g.view g.f nonceD y.1 hkeys hform hmode hnonce]
    rfl
  case openKeyed =>
    intro t f nonceD g y s x hreach hkeys hform hkey htag hnonce
    refine runMem_eq t _ s x _ rfl ?_
    rw [gmpEffect_open f nonceD x y g hreach, onSys, openEffect_keyed g.view g.f nonceD y.1 hkeys hform hkey htag hnonce]
    rfl
  case ack =>
    intro t f g y v first last s x hreach hof hack
    obtain ⟨hsid, hframe, hfirst, hlen⟩ := hack
    have hheard := heard_session v g.f y.1 hof hsid
    refine runMem_eq t _ s x _ rfl ?_
    rw [gmpEffect_ack f x y g v hreach hof, onSys, ackEffect_outstanding v.sid g.f _ _ first last hheard hframe hfirst hlen]
    rfl
  case reply => exact fun t s hrun => run_eq t _ s _ _ rfl (discoverReplyEffect_runs _ hrun)
  case announce => exact fun t left due s hrun hleft hdue => run_eq t _ s _ _ rfl (announceEffect_due left due _ hrun hleft hdue)
  case segment => exact fun t sid s hrun => run_bySteward_eq t _ s _ hrun (segTimeoutEffect_eq sid _)
  case startEmpty => exact fun t s hnone => runMem_eq t _ s _ _ rfl (startTimeoutEffect_empty _ hnone)
  case startEarly =>
    exact fun t g y s htake hearly =>
      runMem_eq t _ s _ _ rfl ((startTimeoutEffect_taken _ y g htake).trans (if_neg (Nat.not_le.mpr hearly)))
  case startLate =>
    exact fun t g y s htake hlate => runMem_eq t _ s _ _ rfl ((startTimeoutEffect_taken _ y g htake).trans (if_pos hlate))
  case idle => exact fun t sid v s hrun hs hdue => run_bySteward_eq t _ s _ hrun (idleEffect_due sid v _ hs hdue)
  case retry => exact fun t sid v s hrun hs hframe hdue => run_eq t _ s _ _ rfl (eventRetryEffect_due sid v _ hrun hs hframe hdue)

end Sys2Proof.Proofs
end


section
/-! PROOFS. The Knaing link's line code and receivers, and the serial lanes: what is stuffed is delivered, what each command of a Knaing
receiver and of a lane does, and that training, eye and PRBS commands leave all but their lane alone. -/

namespace Sys2Proof.Proofs

open Sys2Proof.Machine Sys2Proof.Safety Sys2Proof.Laws

/-! ### Stuffing (R110) -/

/-- The length of the run that a bit ends, behind a last bit and its run. -/
def runWith (last : Bool) (run : Nat) (b : Bool) : Nat := if b == last then run + 1 else 1

/-- A bit behind a run below 20 ends a run of at most 20. -/
theorem runWith_le (last : Bool) (run : Nat) (b : Bool) (h : run < 20) : runWith last run b ≤ 20 := by
  unfold runWith
  split <;> omega

/-- One bit is stuffed by the run that it ends. -/
theorem stuff_cons (b : Bool) (l : List Bool) (last : Bool) (run : Nat) (acc : List Bool) :
    stuff (b :: l) last run acc =
      if runWith last run b = 20 then stuff l (!b) 1 ((!b) :: b :: acc) else stuff l b (runWith last run b) (b :: acc) := rfl

/-- The bits that the stuffer already holds stay in front of those it sends. -/
theorem stuff_held (l : List Bool) (last : Bool) (run : Nat) (acc : List Bool) :
    stuff l last run acc = ((stuff l last run []).1, (stuff l last run []).2.1, (stuff l last run []).2.2 ++ acc) := by
  induction l generalizing last run acc with
  | nil => rfl
  | cons b l ih =>
    simp only [stuff_cons]
    by_cases hfull : runWith last run b = 20
    · simp only [if_pos hfull, ih (!b) 1 (_ :: _)]
      simp
    · simp only [if_neg hfull, ih b _ (_ :: _)]
      simp

/-- A bit that ends a run of 20 is sent with its inverse behind it, whose run is 1. -/
theorem stuff_cons_full (b : Bool) (l : List Bool) (last : Bool) (run : Nat) (h : runWith last run b = 20) :
    stuff (b :: l) last run [] =
      ((stuff l (!b) 1 []).1, (stuff l (!b) 1 []).2.1, (stuff l (!b) 1 []).2.2 ++ [!b, b]) :=
  (if_pos h).trans (stuff_held l (!b) 1 [!b, b])

/-- Any other bit is sent alone. -/
theorem stuff_cons_short (b : Bool) (l : List Bool) (last : Bool) (run : Nat) (h : runWith last run b ≠ 20) :
    stuff (b :: l) last run [] =
      ((stuff l b (runWith last run b) []).1, (stuff l b (runWith last run b) []).2.1, (stuff l b (runWith last run b) []).2.2 ++ [b]) :=
  (if_neg h).trans (stuff_held l b (runWith last run b) [b])

/-- Behind a run below 20 the receiver delivers the bit. -/
theorem destuff_cons_short (b : Bool) (r : List Bool) (last : Bool) (run bad : Nat) (out : List Bool) (h : run ≠ 20) :
    destuff (b :: r) last run bad out = destuff r b (runWith last run b) bad (b :: out) := if_neg h

/-- Behind a run of 20 the receiver drops the inverse of the last bit, and finds no fault in it. -/
theorem destuff_cons_full (last : Bool) (r : List Bool) (bad : Nat) (out : List Bool) :
    destuff ((!last) :: r) last 20 bad out = destuff r (!last) 1 bad out := by
  simp [destuff, boolNat]

/-- What is stuffed is delivered, and transmitter and receiver end at the same bit and run. -/
theorem destuff_stuff (l : List Bool) (last : Bool) (run bad : Nat) (out : List Bool) (h : run < 20) :
    destuff (stuff l last run []).2.2.reverse last run bad out =
      ((stuff l last run []).1, (stuff l last run []).2.1, bad, l.reverse ++ out) := by
  induction l generalizing last run out with
  | nil => rfl
  | cons b l ih =>
    by_cases hfull : runWith last run b = 20
    · rw [stuff_cons_full b l last run hfull]
      simp only [List.reverse_append, List.reverse_cons, List.reverse_nil, List.nil_append, List.cons_append]
      rw [destuff_cons_short b _ last run bad out h.ne, hfull, destuff_cons_full, ih (!b) 1 (b :: out) (by decide)]
      simp
    · have hle := runWith_le last run b h
      rw [stuff_cons_short b l last run hfull]
      simp only [List.reverse_append, List.reverse_cons, List.reverse_nil, List.nil_append, List.cons_append]
      rw [destuff_cons_short b _ last run bad out h.ne, ih b _ (b :: out) (by omega)]
      simp

/-- The transmitter ends at a run below 20, since a run of 20 is broken at once. -/
theorem stuff_run_lt (l : List Bool) (last : Bool) (run : Nat) (h : run < 20) : (stuff l last run []).2.1 < 20 := by
  induction l generalizing last run with
  | nil => exact h
  | cons b l ih =>
    by_cases hfull : runWith last run b = 20
    · rw [stuff_cons_full b l last run hfull]
      exact ih (!b) 1 (by decide)
    · have hle := runWith_le last run b h
      rw [stuff_cons_short b l last run hfull]
      exact ih b _ (by omega)

/-- Settles O49, by induction on the bits: a bit that ends a run of 20 travels with its inverse, which the receiver drops. -/
theorem stuffedBitsAreDelivered : Obligations.Stuffed_bits_are_delivered :=
  fun l last run bad out h => ⟨destuff_stuff l last run bad out h, stuff_run_lt l last run h⟩

/-! ### Blocks of the Knaing link (R110 to R112) -/

/-- The header of a received block, from its delivered bits in reverse. -/
def blockHead (acc : List Bool) : Nat := bitsNat (acc.reverse.take 32)

/-- The seq of a block on lane `k`: what a good header carries, else the one behind the last. -/
def blockSeq (k head : Nat) (s : Sys) : Nat :=
  if headerGood head then bits head 20 9 else (kngLane s k).seq.elim 0 (fun q => (q + 1) % 4096)

/-- A block is noted whatever becomes of it: where its bits end, its seq, and its stuff and header errors. -/
def blockNoted (k : Nat) (last : Bool) (run wrong head : Nat) (s : Sys) : Sys :=
  bumpIf (!headerGood head) (Ctr.kngHdrErr (kngFirst s + k)) (bumpBy (Ctr.kngStuffErr (kngFirst s + k)) wrong
    (updKngLane k (fun l => { l with last := last, run := run, seen := if l.seen ≥ 63 then 0 else l.seen + 1, seq := some (blockSeq k head s),
                                      bad := if l.seen ≥ 63 then 0 else l.bad + boolNat (!headerGood head) }) s))

/-- A block arrives with or without payload while the link is up. -/
def blockArrives (k seq : Nat) (pay : Option (List Byte)) (s : Sys) : Sys := if s.kng.st = 2 then kngArrive k seq pay s else s

/-- What becomes of a good block, by the type in its header: 2 control, 1 data, others idle. -/
def blockTaken (k seq : Nat) (acc : List Bool) (s : Sys) : Sys :=
  let pay := bytesOfBits 124 (scramble (acc.reverse.drop 32) (kngSeed (bits (blockHead acc) 23 21) seq))
  match bits (blockHead acc) 25 24 with
  | 2 => kngControlRxEffect pay seq (blockArrives k seq (some []) s)
  | 1 => if s.kng.st = 2 ∧ s.devState = 1 then kngArrive k seq (some pay) s else s
  | _ => blockArrives k seq (some []) s

/-- A link that is disabled, or narrower than the lane, takes no block. -/
theorem kngBlockEffect_off (k : Nat) (rx : List Bool) (s : Sys) (h : flag s 0x2800 1 = false ∨ obj s 0x2800 3 ≤ k) :
    kngBlockEffect k rx s = s := if_pos (by simpa only [Bool.not_eq_true'] using h)

section
variable (k : Nat) (rx : List Bool) (last : Bool) (run wrong : Nat) (acc : List Bool) (s : Sys)
variable (hen : flag s 0x2800 1 = true) (hk : k < obj s 0x2800 3)
variable (hrx : destuff rx (kngLane s k).last (kngLane s k).run 0 [] = (last, run, wrong, acc))
include hen hk hrx

/-- A received block is noted; a locked receiver then loses lock at the eighth bad header, passes on that a spoiled block is lost, and
takes a good one. -/
theorem kngBlockEffect_received :
    let seq := blockSeq k (blockHead acc) s
    let y := blockNoted k last run wrong (blockHead acc) s
    kngBlockEffect k rx s =
      if (!(kngLane s k).locked) = true then y
      else if (!headerGood (blockHead acc)) = true ∧ (kngLane s k).bad + 1 ≥ 8 then kngLockLossEffect k y
      else if (!headerGood (blockHead acc)) = true ∨ wrong ≠ 0 ∨ acc.reverse.length ≠ 1024 then blockArrives k seq none y
      else blockTaken k seq acc y := by
  have htakes : ¬((!flag s 0x2800 1) = true ∨ obj s 0x2800 3 ≤ k) := by simp [hen, hk]
  simp only [kngBlockEffect, if_neg htakes, hrx]
  rfl

/-- A receiver without lock only notes the block (R111). -/
theorem kngBlockEffect_unlocked (hlock : (kngLane s k).locked = false) :
    kngBlockEffect k rx s = blockNoted k last run wrong (blockHead acc) s := by
  rw [kngBlockEffect_received k rx last run wrong acc s hen hk hrx, if_pos (by simp [hlock])]

/-- A good block is taken (R112). -/
theorem kngBlockEffect_good (hgood : headerGood (blockHead acc) = true) (hwhole : wrong = 0 ∧ acc.length = 1024)
    (hlock : (kngLane s k).locked = true) :
    kngBlockEffect k rx s = blockTaken k (blockSeq k (blockHead acc) s) acc (blockNoted k last run wrong (blockHead acc) s) := by
  rw [kngBlockEffect_received k rx last run wrong acc s hen hk hrx, if_neg (by simp [hlock]), if_neg (by simp [hgood]),
    if_neg (by simp [hgood, hwhole])]

/-- A block with a wrong stuff bit or of another length is lost (R112). -/
theorem kngBlockEffect_spoiled (hgood : headerGood (blockHead acc) = true) (hspoiled : wrong ≠ 0 ∨ acc.length ≠ 1024)
    (hlock : (kngLane s k).locked = true) :
    kngBlockEffect k rx s = blockArrives k (blockSeq k (blockHead acc) s) none (blockNoted k last run wrong (blockHead acc) s) := by
  rw [kngBlockEffect_received k rx last run wrong acc s hen hk hrx, if_neg (by simp [hlock]), if_neg (by simp [hgood]),
    if_pos (.inr (by simpa using hspoiled))]

/-- A block with a bad header is lost, and the eighth takes the lock (R111). -/
theorem kngBlockEffect_badHeader (hbad : headerGood (blockHead acc) = false) (hlock : (kngLane s k).locked = true) :
    let y := blockNoted k last run wrong (blockHead acc) s
    kngBlockEffect k rx s =
      if 7 ≤ (kngLane s k).bad then kngLockLossEffect k y else blockArrives k (blockSeq k (blockHead acc) s) none y := by
  intro y
  rw [kngBlockEffect_received k rx last run wrong acc s hen hk hrx, if_neg (by simp [hlock])]
  by_cases heighth : 7 ≤ (kngLane s k).bad
  · rw [if_pos ⟨by simp [hbad], by omega⟩, if_pos heighth]
  · rw [if_neg (fun h => heighth (by omega)), if_pos (.inl (by simp [hbad])), if_neg heighth]

end

/-- A good header carries the seq of its block. -/
theorem blockSeq_good (k head : Nat) (s : Sys) (h : headerGood head = true) : blockSeq k head s = bits head 20 9 := if_pos h

/-- Behind a bad header the seq is counted on. -/
theorem blockSeq_bad (k head : Nat) (s : Sys) (h : headerGood head = false) :
    blockSeq k head s = (kngLane s k).seq.elim 0 (fun q => (q + 1) % 4096) := if_neg (Bool.eq_false_iff.mp h)

/-- A block with a good header is noted without a header error. -/
theorem blockNoted_good (k : Nat) (last : Bool) (run wrong head : Nat) (s : Sys) (h : headerGood head = true) :
    blockNoted k last run wrong head s = bumpBy (Ctr.kngStuffErr (kngFirst s + k)) wrong
      (updKngLane k (fun l => { l with last := last, run := run, seen := if l.seen ≥ 63 then 0 else l.seen + 1, seq := some (bits head 20 9),
                                        bad := if l.seen ≥ 63 then 0 else l.bad }) s) := by
  simp only [blockNoted, blockSeq_good k head s h, h]
  rfl

/-- A bad header is counted, toward lock loss too. -/
theorem blockNoted_bad (k : Nat) (last : Bool) (run wrong head : Nat) (s : Sys) (h : headerGood head = false) :
    blockNoted k last run wrong head s = bump (Ctr.kngHdrErr (kngFirst s + k)) (bumpBy (Ctr.kngStuffErr (kngFirst s + k)) wrong
      (updKngLane k (fun l => { l with last := last, run := run, seen := if l.seen ≥ 63 then 0 else l.seen + 1,
                                        seq := some ((kngLane s k).seq.elim 0 (fun q => (q + 1) % 4096)),
                                        bad := if l.seen ≥ 63 then 0 else l.bad + 1 }) s)) := by
  simp only [blockNoted, blockSeq_bad k head s h, h]
  rfl

/-! ### Lock and sleep of Knaing lanes (R111, R115) -/

/-- Four good headers in a row lock a receiver of an enabled link. -/
theorem kngLockEffect_locks (k : Nat) (headers : List Nat) (s : Sys) (hen : flag s 0x2800 1 = true) (hk : k < obj s 0x2800 3)
    (hfour : 4 ≤ headers.length) (hgood : (headers.drop (headers.length - 4)).all headerGood = true) :
    kngLockEffect k headers s =
      (let y := updKngLane k (fun l => { l with locked := true, failed := false, seen := 0, bad := 0,
                                                seq := headers.getLast?.map (fun h => bits h 20 9) }) s
       kngUp (updLane (kngFirst s + k) (fun l => { l with link := if s.kng.st = 2 then 3 else 2, cdr := true, signal := true }) y)) := by
  have hlocks : ¬((!flag s 0x2800 1) = true ∨ obj s 0x2800 3 ≤ k ∨ headers.length < 4
      ∨ (!(headers.drop (headers.length - 4)).all headerGood) = true) := by
    simp only [hen, hgood, Bool.not_true, Bool.false_eq_true, false_or, or_false]
    omega
  exact if_neg hlocks

/-- Fewer, or a bad one among the last four, lock nothing. -/
theorem kngLockEffect_not (k : Nat) (headers : List Nat) (s : Sys)
    (h : headers.length < 4 ∨ (headers.drop (headers.length - 4)).all headerGood = false) : kngLockEffect k headers s = s :=
  if_pos (.inr (.inr (by simpa only [Bool.not_eq_true'] using h)))

/-- A locked receiver that loses lock has the loss counted, and its lane fails. -/
theorem kngLockLossEffect_locked (k : Nat) (s : Sys) (h : (kngLane s k).locked = true) :
    kngLockLossEffect k s = kngLaneFails k (updLane (kngFirst s + k) (fun l => { l with link := 0, cdr := false })
      (bump (Ctr.kngLockLoss (kngFirst s + k)) (updKngLane k (fun l => { l with locked := false, seen := 0, bad := 0, seq := none }) s))) :=
  if_neg (by simp [h])

/-- A receiver without lock has none to lose. -/
theorem kngLockLossEffect_unlocked (k : Nat) (s : Sys) (h : (kngLane s k).locked = false) : kngLockLossEffect k s = s :=
  if_pos (by simp [h])

/-- A lane goes into Deep once it has been idle outside the width for 64 ms and nothing holds it. -/
theorem kngIdleDeepEffect_eq (k : Nat) (s : Sys) :
    kngIdleDeepEffect k s =
      if flag s 0x2800 1 = true ∧ s.kng.txWidth ≤ k ∧ k < obj s 0x2800 3 ∧ (kngLane s k).idleAt + 64 * Config.ticksPerMs ≤ s.now
          ∧ laneHeld s (kngFirst s + k) = false then
        aimLane (kngFirst s + k) .deep s
      else s := by
  simp only [kngIdleDeepEffect, Bool.not_eq_true']

/-- Settles O20: each clause is the case of its command's effect that the hypotheses select. -/
theorem knaingBlocksAndLocksTakeEffect : Obligations.Knaing_blocks_and_locks_take_effect := by
  refine ⟨?good, ?spoiled, ?badHeader, ?unlocked, ?off, ?lock, ?noLock, ?loss, ?noLoss, ?deep, ?noDeep⟩
  case good =>
    intro t k rx last n wrong acc s x head seq y hen hk hrx hgood hwhole hlock
    refine run_eq t _ s x _ rfl ?_
    rw [kngBlockEffect_good k.val rx last n wrong acc x hen hk hrx hgood hwhole hlock, blockSeq_good k.val (blockHead acc) x hgood,
      blockNoted_good k.val last n wrong (blockHead acc) x hgood]
    rfl
  case spoiled =>
    intro t k rx last n wrong acc s x head seq y hen hk hrx hgood hspoiled hlock
    refine run_eq t _ s x _ rfl ?_
    rw [kngBlockEffect_spoiled k.val rx last n wrong acc x hen hk hrx hgood hspoiled hlock, blockSeq_good k.val (blockHead acc) x hgood,
      blockNoted_good k.val last n wrong (blockHead acc) x hgood]
    rfl
  case badHeader =>
    intro t k rx last n wrong acc s x head seq y hen hk hrx hbad hlock
    refine run_eq t _ s x _ rfl ?_
    rw [kngBlockEffect_badHeader k.val rx last n wrong acc x hen hk hrx hbad hlock, blockSeq_bad k.val (blockHead acc) x hbad,
      blockNoted_bad k.val last n wrong (blockHead acc) x hbad]
    rfl
  case unlocked =>
    exact fun t k rx last n wrong acc s hen hk hrx hlock =>
      run_eq t _ s _ _ rfl (kngBlockEffect_unlocked k.val rx last n wrong acc _ hen hk hrx hlock)
  case off => exact fun t k rx s h => run_eq t _ s _ _ rfl (kngBlockEffect_off k.val rx _ h)
  case lock =>
    intro t k headers s x hen hk hfour hgood
    have hlen : (headers.map (·.toNat)).length = headers.length := List.length_map _
    exact run_eq t _ s x _ rfl (kngLockEffect_locks k.val _ x hen hk (hlen ▸ hfour) (hlen ▸ hgood))
  case noLock =>
    intro t k headers s x h
    have hlen : (headers.map (·.toNat)).length = headers.length := List.length_map _
    exact run_eq t _ s x _ rfl (kngLockEffect_not k.val _ x (hlen ▸ h))
  case loss => exact fun t k s h => run_eq t _ s _ _ rfl (kngLockLossEffect_locked k.val _ h)
  case noLoss => exact fun t k s h => run_eq t _ s _ _ rfl (kngLockLossEffect_unlocked k.val _ h)
  case deep => exact fun t k s h => run_eq t _ s _ _ rfl ((kngIdleDeepEffect_eq k.val _).trans (if_pos h))
  case noDeep => exact fun t k s h => run_eq t _ s _ _ rfl ((kngIdleDeepEffect_eq k.val _).trans (if_neg h))

/-! ### Training (R101) -/

/-- The value of a tap in a TX_EQ word. -/
def tapValue (tap : Tap) (v : Nat) : Nat :=
  match tap with
  | .pre => eqPre v
  | .main => eqMain v
  | .post => eqPost v

/-- The taps pre, main and post of a TX_EQ word, one of them replaced. -/
def withTap (tap : Tap) (a v : Nat) : Nat × Nat × Nat :=
  match tap with
  | .pre => (a, eqMain v, eqPost v)
  | .main => (eqPre v, a, eqPost v)
  | .post => (eqPre v, eqMain v, a)

/-- One step of a tap, upward or downward; there is none below 0. -/
def tapStep (up : Bool) (x : Nat) : Option Nat := if up then some (x + 1) else if x = 0 then none else some (x - 1)

/-- The answer to a training request: the new taps where they are legal, else the limit that was met. -/
def answerTaps (n : Nat) (up : Bool) (new : Option (Nat × Nat × Nat)) (s : Sys) : Sys :=
  match new.filter (fun x => eqLegal x.1 x.2.1 x.2.2) with
  | some (a, b, c) => updLane n (fun l => { l with taps := some (eqWord a b c), answer := 1 }) s
  | none => updLane n (fun l => { l with answer := if up then 3 else 2 }) s

/-- A training request asks for one step of its tap. -/
theorem trainingRequestEffect_trains (n : Nat) (tap : Tap) (up : Bool) (s : Sys) (h : (lane s n).link = 1) :
    trainingRequestEffect n tap up s =
      answerTaps n up ((tapStep up (tapValue tap (eqActive s n))).map (fun a => withTap tap a (eqActive s n))) s := by
  have htrains : ¬((lane s n).link ≠ 1) := not_not_intro h
  cases tap <;> exact if_neg htrains

/-- A lane that does not train answers no request. -/
theorem trainingRequestEffect_idle (n : Nat) (tap : Tap) (up : Bool) (s : Sys) (h : (lane s n).link ≠ 1) :
    trainingRequestEffect n tap up s = s := if_pos h

/-- A step upward or downward leads from a value to its neighbour. -/
theorem tapStep_eq_some (up : Bool) (x a : Nat) (h : if up then a = x + 1 else a + 1 = x) : tapStep up x = some a := by
  cases up with
  | true =>
    have ha : a = x + 1 := h
    rw [ha]
    rfl
  | false =>
    have hx : a + 1 = x := h
    rw [← hx]
    rfl

/-- New taps are answered by whether they are legal. -/
theorem answerTaps_some (n : Nat) (up : Bool) (x : Nat × Nat × Nat) (s : Sys) :
    answerTaps n up (some x) s =
      if eqLegal x.1 x.2.1 x.2.2 = true then updLane n (fun l => { l with taps := some (eqWord x.1 x.2.1 x.2.2), answer := 1 }) s
      else updLane n (fun l => { l with answer := if up then 3 else 2 }) s := by
  unfold answerTaps
  by_cases h : eqLegal x.1 x.2.1 x.2.2 = true
  · rw [if_pos h, Option.filter_some, if_pos h]
  · rw [if_neg h, Option.filter_some, if_neg h]

/-- A request moves its tap to the next value, where that is legal. -/
theorem trainingRequestEffect_step (n : Nat) (tap : Tap) (up : Bool) (a : Nat) (s : Sys) (h : (lane s n).link = 1)
    (ha : if up then a = tapValue tap (eqActive s n) + 1 else a + 1 = tapValue tap (eqActive s n)) :
    let x := withTap tap a (eqActive s n)
    trainingRequestEffect n tap up s =
      if eqLegal x.1 x.2.1 x.2.2 = true then updLane n (fun l => { l with taps := some (eqWord x.1 x.2.1 x.2.2), answer := 1 }) s
      else updLane n (fun l => { l with answer := if up then 3 else 2 }) s := by
  rw [trainingRequestEffect_trains n tap up s h, tapStep_eq_some up _ a ha]
  exact answerTaps_some n up _ s

/-- A request to lower a tap that stands at 0 is answered with minimum. -/
theorem trainingRequestEffect_atZero (n : Nat) (tap : Tap) (s : Sys) (h : (lane s n).link = 1) (h0 : tapValue tap (eqActive s n) = 0) :
    trainingRequestEffect n tap false s = updLane n (fun l => { l with answer := 2 }) s := by
  rw [trainingRequestEffect_trains n tap false s h, h0]
  rfl

/-- Training of a lane that trains is done. -/
theorem trainingDoneEffect_trains (n : Nat) (s : Sys) (h : (lane s n).link = 1) :
    trainingDoneEffect n s = updLane n (fun l => { l with link := 2, trainOk := true }) s := if_pos h

/-- A lane that does not train has no training to end. -/
theorem trainingDoneEffect_idle (n : Nat) (s : Sys) (h : (lane s n).link ≠ 1) : trainingDoneEffect n s = s := if_neg h

/-- Training that lasts 500 ms fails, and the lane goes on untrained. -/
theorem trainingTimeoutEffect_due (n : Nat) (s : Sys) (h : (lane s n).link = 1)
    (hdue : (lane s n).trainAt + 500 * Config.ticksPerMs ≤ s.now) :
    trainingTimeoutEffect n s = raise 0x0404 2 (u8b n) (bump (Ctr.laneTrainFail n)
      (updLane n (fun l => { l with link := 2, trainOk := false, taps := none }) s)) := if_pos ⟨h, hdue⟩

/-- A lane that does not train has no training to give up. -/
theorem trainingTimeoutEffect_idle (n : Nat) (s : Sys) (h : (lane s n).link ≠ 1) : trainingTimeoutEffect n s = s :=
  if_neg (fun htrains => h htrains.1)

/-! ### The eye and the PRBS checker (R102, R103) -/

/-- What a measurement of the eye does first: the receiver adapts, and a locked checker reports its bit errors. -/
def eyePrepared (n errors : Nat) (s : Sys) : Sys :=
  if (lane (adaptTurn n s) n).prbs then bumpBy (Ctr.lanePrbsErr n) errors (adaptTurn n s) else adaptTurn n s

/-- The eye is kept of an Active lane, outside a brown-out (R102, R433). -/
theorem eyeEffect_eq (n h w errors : Nat) (s : Sys) :
    eyeEffect n h w errors s =
      if (lane (eyePrepared n errors s) n).power = .active ∧ traded (eyePrepared n errors s) < 3 then
        updLane n (fun l => { l with eye := h * 65536 + w }) (eyePrepared n errors s)
      else eyePrepared n errors s := rfl

/-- The checker locks while PRBS_RX is on. -/
theorem prbsLockEffect_on (n : Nat) (s : Sys) (h : obj s (laneIx n) 0x0B ≠ 0) :
    prbsLockEffect n s = updLane n (fun l => { l with prbs := true }) s := if_pos h

/-- A checker that loses lock has its errors and the loss counted. -/
theorem prbsLossEffect_locked (n errors : Nat) (s : Sys) (h : (lane s n).prbs = true) :
    prbsLossEffect n errors s =
      bump (Ctr.lanePrbsLockLoss n) (bumpBy (Ctr.lanePrbsErr n) errors (updLane n (fun l => { l with prbs := false }) s)) := if_pos h

/-! ### Power states (R105, R106) -/

/-- A command that needs a start-up step has its effect once the step is complete. -/
theorem fromStep_done (k : Nat) (f : Sys → Sys) (s : Sys) (h : stepDone s k = true) : fromStep k f s = f s := if_pos h

/-- Before the step it has none. -/
theorem fromStep_before (k : Nat) (f : Sys → Sys) (s : Sys) (h : stepDone s k = false) : fromStep k f s = s :=
  if_neg (Bool.eq_false_iff.mp h)

/-- A lane without a target reaches no power state. -/
theorem powerReachedEffect_none (n : Nat) (s : Sys) (h : (lane s n).target = none) : powerReachedEffect n s = s := by
  simp only [powerReachedEffect, h]

/-- A lane reaches no power state before its time. -/
theorem powerReachedEffect_early (n : Nat) (x : LanePower) (s : Sys) (h : (lane s n).target = some x) (hearly : s.now < (lane s n).reachAt) :
    powerReachedEffect n s = s := by
  simp only [powerReachedEffect, h, if_pos hearly]

/-- At its time the target is in force, and a lane that leaves Deep or Off for it is brought up. -/
theorem powerReachedEffect_due (n : Nat) (x : LanePower) (s : Sys) (h : (lane s n).target = some x) (hdue : (lane s n).reachAt ≤ s.now) :
    powerReachedEffect n s =
      (let y := updLane n (enterPower x) s
       if powerDepth (lane s n).power ≥ 2 ∧ powerDepth x ≤ 1 then bringUp n y else y) := by
  simp only [powerReachedEffect, h, if_neg (Nat.not_lt.mpr hdue)]

/-- An Active lane with signal loses it, and CDR lock with it. -/
theorem cdrLossEffect_active (n : Nat) (s : Sys) (hactive : (lane s n).power = .active) (hsignal : (lane s n).signal = true) :
    cdrLossEffect n s = bump (Ctr.laneCdrLoss n) (updLane n (fun l => { l with cdr := false, signal := false }) s) :=
  if_pos ⟨hactive, hsignal⟩

/-- Settles O19: each clause is the case of its command's effect that the hypotheses select. -/
theorem serialLanesTakeEffect : Obligations.Serial_lanes_take_effect := by
  refine ⟨?pre, ?preZero, ?main, ?mainZero, ?post, ?postZero, ?request, ?done, ?timeout, ?trained, ?untrained, ?eye, ?noEye, ?locked,
    ?lost, ?power, ?noPower, ?reached, ?early, ?untargeted, ?cdr⟩
  case pre => exact fun t lane up a s h ha => run_eq t _ s _ _ rfl (trainingRequestEffect_step lane.val .pre up a _ h ha)
  case preZero => exact fun t lane s h h0 => run_eq t _ s _ _ rfl (trainingRequestEffect_atZero lane.val .pre _ h h0)
  case main => exact fun t lane up a s h ha => run_eq t _ s _ _ rfl (trainingRequestEffect_step lane.val .main up a _ h ha)
  case mainZero => exact fun t lane s h h0 => run_eq t _ s _ _ rfl (trainingRequestEffect_atZero lane.val .main _ h h0)
  case post => exact fun t lane up a s h ha => run_eq t _ s _ _ rfl (trainingRequestEffect_step lane.val .post up a _ h ha)
  case postZero => exact fun t lane s h h0 => run_eq t _ s _ _ rfl (trainingRequestEffect_atZero lane.val .post _ h h0)
  case request => exact fun t lane tap up s h => run_eq t _ s _ _ rfl (trainingRequestEffect_idle lane.val tap up _ h)
  case done => exact fun t lane s h => run_eq t _ s _ _ rfl (trainingDoneEffect_idle lane.val _ h)
  case timeout => exact fun t lane s h => run_eq t _ s _ _ rfl (trainingTimeoutEffect_idle lane.val _ h)
  case trained => exact fun t lane s h => run_eq t _ s _ _ rfl (trainingDoneEffect_trains lane.val _ h)
  case untrained => exact fun t lane s h hdue => run_eq t _ s _ _ rfl (trainingTimeoutEffect_due lane.val _ h hdue)
  case eye =>
    exact fun t lane height width errors s h =>
      run_eq t _ s _ _ rfl ((eyeEffect_eq lane.val height.toNat width.toNat errors _).trans (if_pos h))
  case noEye =>
    exact fun t lane height width errors s h =>
      run_eq t _ s _ _ rfl ((eyeEffect_eq lane.val height.toNat width.toNat errors _).trans (if_neg h))
  case locked => exact fun t lane s h => run_eq t _ s _ _ rfl (prbsLockEffect_on lane.val _ h)
  case lost => exact fun t lane errors s h => run_eq t _ s _ _ rfl (prbsLossEffect_locked lane.val errors _ h)
  case power =>
    exact fun t lane byManager target s h =>
      run_eq t _ s _ _ rfl (fromStep_done 11 (powerCommandEffect lane.val byManager target) _ h)
  case noPower =>
    exact fun t lane byManager target s h =>
      run_eq t _ s _ _ rfl (fromStep_before 11 (powerCommandEffect lane.val byManager target) _ h)
  case reached => exact fun t lane target s h hdue => run_eq t _ s _ _ rfl (powerReachedEffect_due lane.val target _ h hdue)
  case early => exact fun t lane target s h hearly => run_eq t _ s _ _ rfl (powerReachedEffect_early lane.val target _ h hearly)
  case untargeted => exact fun t lane s h => run_eq t _ s _ _ rfl (powerReachedEffect_none lane.val _ h)
  case cdr => exact fun t lane s hactive hsignal => run_eq t _ s _ _ rfl (cdrLossEffect_active lane.val _ hactive hsignal)

/-! ### A command on a ready and idle device -/

/-- Where no start-up step is left, none falls due. -/
theorem bootDue_of_left_nil (t : Nat) (s : Sys) (h : s.boot.left = []) : bootDue t s = none := by
  simp [bootDue, h, sortBy]

/-- Where no start-up step falls due, none is carried out. -/
theorem bootTurns_of_none (n t : Nat) (x : SysMem) (h : bootDue t x.1 = none) : bootTurns n t x = x := by
  cases n with
  | zero => rfl
  | succ n => simp [bootTurns, h]

/-- A command finds a ready and idle device as it was, but for the time that has run. -/
theorem atTick_quiet (t : Nat) (s : State) (h : quiet s.sys) : atTick t s = (setNow t s.sys, s.hbm) := by
  obtain ⟨⟨-, hleft, -, -, -⟩, -⟩ := h
  have hdue : bootDue t (s.sys, s.hbm).1 = none := bootDue_of_left_nil t s.sys hleft
  simp only [atTick, advance, bootTurns_of_none 12 t _ hdue, onSys]

/-- Where no block write waits, none is made. -/
theorem flushWrites_of_wq_nil (x : SysMem) (h : x.1.wq = []) : flushWrites x = x := by
  obtain ⟨s, m⟩ := x
  have hwq : s.wq = [] := h
  simp only [flushWrites, hwq, List.foldl_nil]
  rw [← hwq]

/-- A command that leaves the device ready and idle is followed by nothing but the upkeep of rule-set banks and tiles. -/
theorem leaves_quiet (s : State) (x : SysMem) (h : quiet x.1) :
    ∃ a b c, leaves s x = { s with sys := { x.1 with rsBank := a, rsRetired := b, nrg := c }, hbm := x.2 } := by
  obtain ⟨a, b, c, haftermath⟩ := aftermath_quiet x h
  obtain ⟨-, -, ⟨hwq, -⟩, -⟩ := h
  exact ⟨a, b, c, by simp only [leaves, flushWrites_of_wq_nil x hwq, haftermath]⟩

/-! ### Changes to one lane -/

/-- `y` is `x` but for lane `n`, counters, events and the free values used. -/
def LaneOnly (n : Nat) (x y : Sys) : Prop :=
  ∃ l c e q f, y = { x with lanes := l, ctr := c, events := e, evSeq := q, freeCtr := f } ∧ ∀ m, m ≠ n → SMap.get {} l m = lane x m

/-- No change is a change to one lane only. -/
theorem LaneOnly.refl (n : Nat) (x : Sys) : LaneOnly n x x := ⟨_, _, _, _, _, rfl, fun _ _ => rfl⟩

/-- Two changes to the same lane only are one. -/
theorem LaneOnly.trans {n : Nat} {x y z : Sys} (hxy : LaneOnly n x y) (hyz : LaneOnly n y z) : LaneOnly n x z := by
  obtain ⟨l, c, e, q, f, rfl, hl⟩ := hxy
  obtain ⟨l', c', e', q', f', rfl, hl'⟩ := hyz
  exact ⟨l', c', e', q', f', rfl, fun m hm => (hl' m hm).trans (hl m hm)⟩

/-- A ready and idle device stays so. -/
theorem LaneOnly.keeps_quiet {n : Nat} {x y : Sys} (h : LaneOnly n x y) (hx : quiet x) : quiet y := by
  obtain ⟨l, c, e, q, f, rfl, -⟩ := h
  exact hx

/-- An update of a lane leaves the others alone. -/
theorem laneOnly_updLane (n : Nat) (f : Lane → Lane) (s : Sys) : LaneOnly n s (updLane n f s) :=
  ⟨_, _, _, _, _, rfl, fun m hm => smap_get_set_other {} s.lanes n m _ hm⟩

/-- A counter that counts is no other change. -/
theorem laneOnly_bumpBy (n i k : Nat) (s : Sys) : LaneOnly n s (bumpBy i k s) := ⟨_, _, _, _, _, rfl, fun _ _ => rfl⟩

/-- Nor is one that counts 1. -/
theorem laneOnly_bump (n i : Nat) (s : Sys) : LaneOnly n s (bump i s) := laneOnly_bumpBy n i 1 s

/-- Where there is no session, none can lose the record that a new one overwrites. -/
theorem writeEvent_of_no_sessions (e : Event) (s : Sys) (h : s.sessions = []) :
    writeEvent e s = { s with events := e :: s.events.take 1023 } := by
  cases hlost : (s.events.drop 1023).head? with
  | none => simp only [writeEvent, hlost]
  | some o => simp only [writeEvent, hlost, h, List.any_nil, List.map_nil, bumpIf, Bool.false_eq_true, if_false]

/-- Without sessions a new record only enters the ring. -/
theorem laneOnly_writeEvent (n : Nat) (e : Event) (s : Sys) (h : s.sessions = []) : LaneOnly n s (writeEvent e s) := by
  rw [writeEvent_of_no_sessions e s h]
  exact ⟨_, _, _, _, _, rfl, fun _ _ => rfl⟩

/-- An event merges into a record or makes a new one. -/
theorem laneOnly_record (n code sev : Nat) (params : List Byte) (only : List Nat) (s : Sys) (h : s.sessions = []) :
    LaneOnly n s (record code sev params only s) := by
  unfold record
  split
  · exact ⟨_, _, _, _, _, rfl, fun _ _ => rfl⟩
  · have hseq : LaneOnly n s { s with evSeq := s.evSeq + 1 } := ⟨_, _, _, _, _, rfl, fun _ _ => rfl⟩
    exact hseq.trans (laneOnly_writeEvent n _ _ h)

/-- Without sessions an event that is raised is only recorded. -/
theorem laneOnly_raise (n code sev : Nat) (params : List Byte) (s : Sys) (h : s.sessions = []) : LaneOnly n s (raise code sev params s) := by
  have hrecord := laneOnly_record n code sev params [] s h
  have hnone : (record code sev params [] s).sessions = [] := by
    obtain ⟨l, c, e, q, f, heq, -⟩ := hrecord
    rw [heq]
    exact h
  simpa only [raise, hnone, List.filter_nil, List.map_nil, List.foldl_nil] using hrecord

/-! ### The six commands of training, eye and PRBS -/

/-- A training request changes the taps and the answer of its lane. -/
theorem laneOnly_trainingRequest (n : Nat) (tap : Tap) (up : Bool) (s : Sys) : LaneOnly n s (trainingRequestEffect n tap up s) := by
  by_cases h : (lane s n).link = 1
  · rw [trainingRequestEffect_trains n tap up s h]
    unfold answerTaps
    split
    · exact laneOnly_updLane n _ s
    · exact laneOnly_updLane n _ s
  · rw [trainingRequestEffect_idle n tap up s h]
    exact .refl n s

/-- The end of training changes the link state of its lane. -/
theorem laneOnly_trainingDone (n : Nat) (s : Sys) : LaneOnly n s (trainingDoneEffect n s) := by
  unfold trainingDoneEffect
  split
  · exact laneOnly_updLane n _ s
  · exact .refl n s

/-- Training that fails changes its lane, is counted and is reported. -/
theorem laneOnly_trainingTimeout (n : Nat) (s : Sys) (h : s.sessions = []) : LaneOnly n s (trainingTimeoutEffect n s) := by
  unfold trainingTimeoutEffect
  dsimp only
  split
  · exact ((laneOnly_updLane n _ s).trans (laneOnly_bump n _ _)).trans (laneOnly_raise n _ _ _ _ h)
  · exact .refl n s

/-- One free value more is collected. -/
def collectFree (a : List Nat × Sys) : List Nat × Sys := (a.1 ++ [(free a.2).1], (free a.2).2)

/-- A fold that collects free values uses up one for each turn. -/
theorem foldl_collectFree_uses (l : List Nat) (a : List Nat × Sys) :
    (l.foldl (fun a _ => collectFree a) a).2 = { a.2 with freeCtr := a.2.freeCtr + l.length } := by
  induction l generalizing a with
  | nil => rfl
  | cons i l ih =>
    rw [List.foldl_cons, ih, List.length_cons, ← Nat.add_assoc, Nat.add_right_comm]
    rfl

/-- Six free values are used up as coefficients (log entry 81). -/
theorem freeCoeffs_uses (s : Sys) : (freeCoeffs s).2 = { s with freeCtr := s.freeCtr + 6 } :=
  foldl_collectFree_uses (List.range 6) ([], s)

/-- A receiver that adapts changes the coefficients of its lane. -/
theorem laneOnly_adaptTurn (n : Nat) (s : Sys) : LaneOnly n s (adaptTurn n s) := by
  unfold adaptTurn
  split
  · have hfree : LaneOnly n s (freeCoeffs s).2 := by
      rw [freeCoeffs_uses]
      exact ⟨_, _, _, _, _, rfl, fun _ _ => rfl⟩
    exact hfree.trans (laneOnly_updLane n _ _)
  · exact .refl n s

/-- A measurement of the eye changes its lane and may count bit errors. -/
theorem laneOnly_eye (n h w errors : Nat) (s : Sys) : LaneOnly n s (eyeEffect n h w errors s) := by
  have hprepared : LaneOnly n s (eyePrepared n errors s) := by
    unfold eyePrepared
    split
    · exact (laneOnly_adaptTurn n s).trans (laneOnly_bumpBy n _ _ _)
    · exact laneOnly_adaptTurn n s
  rw [eyeEffect_eq]
  split
  · exact hprepared.trans (laneOnly_updLane n _ _)
  · exact hprepared

/-- A checker that locks changes its lane. -/
theorem laneOnly_prbsLock (n : Nat) (s : Sys) : LaneOnly n s (prbsLockEffect n s) := by
  unfold prbsLockEffect
  split
  · exact laneOnly_updLane n _ s
  · exact .refl n s

/-- A checker that loses lock changes its lane and is counted. -/
theorem laneOnly_prbsLoss (n errors : Nat) (s : Sys) : LaneOnly n s (prbsLossEffect n errors s) := by
  unfold prbsLossEffect
  split
  · exact ((laneOnly_updLane n _ s).trans (laneOnly_bumpBy n _ _ _)).trans (laneOnly_bump n _ _)
  · exact .refl n s

/-- From `s` to `u` every lane but `n`, the dictionary, the generation, the queues, copies and frames, the flash and every HBM byte
are kept. -/
def KeepsButLane (n : Nat) (s u : State) : Prop :=
  (∀ m, m ≠ n → lane u.sys m = lane s.sys m) ∧ u.sys.dict = s.sys.dict ∧ u.sys.gen = s.sys.gen ∧
    u.sys.queues = s.sys.queues ∧ u.sys.copies = s.sys.copies ∧ u.sys.frames = s.sys.frames ∧ u.sys.flash = s.sys.flash ∧
    (∀ a, Memory.read u.hbm a = Memory.read s.hbm a)

/-- On a ready and idle device a command whose effect changes one lane only keeps all else. -/
theorem run_laneOnly (n t : Nat) (f : Sys → Sys) (s : State) (hq : quiet s.sys) (hf : ∀ x : Sys, x.sessions = [] → LaneOnly n x (f x)) :
    ∃ u, run t f s = .next u ∧ KeepsButLane n s u := by
  obtain ⟨hfound, _, _, _, _, _, hnow⟩ := setNow_quiet t s.sys hq
  have hsessions : (setNow t s.sys).sessions = [] := by
    obtain ⟨-, ⟨hsessions, -⟩, -⟩ := hfound
    exact hsessions
  have honly : LaneOnly n (setNow t s.sys) (f (setNow t s.sys)) := hf _ hsessions
  have hrun : run t f s = .next (leaves s (f (setNow t s.sys), s.hbm)) := runMem_eq t (onSys f) s _ _ (atTick_quiet t s hq) rfl
  obtain ⟨_, _, _, hleaves⟩ := leaves_quiet s (f (setNow t s.sys), s.hbm) (honly.keeps_quiet hfound)
  refine ⟨_, hrun, ?_⟩
  obtain ⟨_, _, _, _, _, heffect, hother⟩ := honly
  rw [hnow] at hother
  rw [hleaves, heffect, hnow]
  exact ⟨hother, rfl, rfl, rfl, rfl, rfl, rfl, fun _ => rfl⟩

/-- Settles O59: each of the six commands changes its lane, counters and events only, and nothing follows from that. -/
theorem laneCommandsLeaveAllElse : Obligations.Lane_commands_leave_all_else := by
  intro t lane tap up height width errors c s hq hc
  simp only [List.mem_cons, List.not_mem_nil, or_false] at hc
  obtain rfl | rfl | rfl | rfl | rfl | rfl := hc
  · exact run_laneOnly lane.val t _ s hq (fun x _ => laneOnly_trainingRequest lane.val tap up x)
  · exact run_laneOnly lane.val t _ s hq (fun x _ => laneOnly_trainingDone lane.val x)
  · exact run_laneOnly lane.val t _ s hq (fun x hx => laneOnly_trainingTimeout lane.val x hx)
  · exact run_laneOnly lane.val t _ s hq (fun x _ => laneOnly_eye lane.val height.toNat width.toNat errors x)
  · exact run_laneOnly lane.val t _ s hq (fun x _ => laneOnly_prbsLock lane.val x)
  · exact run_laneOnly lane.val t _ s hq (fun x _ => laneOnly_prbsLoss lane.val errors x)

end Sys2Proof.Proofs
end

section
/-! PROOFS. The ports: flow-control frames, links and the PHYs behind them, half duplex, PLCA and low-power idle, and MDIO frames. -/

namespace Sys2Proof.Proofs

open Sys2Proof.Machine Sys2Proof.Safety Sys2Proof.Laws

/-- A counter leaves every object. -/
@[simp] theorem obj_bump (n : Nat) (s : Sys) (ix sub : Nat) : obj (bump n s) ix sub = obj s ix sub := obj_dict _ _ rfl ix sub

/-! ### PAUSE and PFC frames (R119, R128 to R131, R145) -/

section
variable (p : Nat) (f : Sys → Sys) (s : Sys)

/-- Where no frame comes from the balls, or the MAC accepts nothing, a MAC control frame changes nothing. -/
theorem macCtlRx_deaf (h : fromBalls s p = false ∨ macAccept s p = .deaf) : macCtlRx p f s = s := by
  rcases h with hloop | hdeaf
  · simp [macCtlRx, hloop]
  · simp [macCtlRx, hdeaf]

variable (hb : fromBalls s p = true)
include hb

/-- A MAC that accepts all frames counts a MAC control frame of 64 bytes before the frame acts (log entry 37). -/
theorem macCtlRx_all (hacc : macAccept s p = .all) : macCtlRx p f s = f (countGood p 64 s) := by
  simp [macCtlRx, hb, hacc]

/-- At start-up port 72 counts a MAC control frame and nothing more. -/
theorem macCtlRx_boot (hacc : macAccept s p = .boot) : macCtlRx p f s = countGood p 64 s := by
  simp [macCtlRx, hb, hacc]

/-- DORMANT drops a MAC control frame and counts the drop. -/
theorem macCtlRx_dormant (hacc : macAccept s p = .dormant) : macCtlRx p f s = bump (Ctr.dormantRxDrop p) s := by
  simp [macCtlRx, hb, hacc]

end

/-- A PAUSE frame to another address, or in half duplex, is dropped; FC_RX 1 honours it for all eight classes (R129). -/
theorem pauseOp_eq (p dst quanta : Nat) (s : Sys) : pauseOp p dst quanta s =
    if (port s p).half = true ∨ dst ≠ 0x0180C2000001 then bump (Ctr.rxMacctlDrop p) s
    else if obj s (pix p 2) 1 = 1 then loop (fun c => stopClass p c quanta) 0 8 (bump (Ctr.rxPause p) s)
    else bump (Ctr.rxPause p) s := by
  simp only [pauseOp, obj_bump]

/-- A PFC frame to another address, or in half duplex, is dropped; FC_RX 2 honours it for the classes that it and the port enable
(R129). -/
theorem pfcOp_eq (p dst enables : Nat) (times : List Nat) (s : Sys) : pfcOp p dst enables times s =
    if (port s p).half = true ∨ dst ≠ 0x0180C2000001 then bump (Ctr.rxMacctlDrop p) s
    else if obj s (pix p 2) 1 = 2 then
      loop (fun c s => if bit enables c ∧ bit (obj s (pix p 2) 2) c then stopClass p c (times.getD c 0) s else s) 0 8 (bump (Ctr.rxPfc p) s)
    else bump (Ctr.rxPfc p) s := by
  simp only [pfcOp, obj_bump]

/-- A pause time that has run out releases its class. -/
theorem pauseExpiryEffect_due (p c : Nat) (s : Sys) (h : SMap.get 0 (port s p).pause c ≤ s.now) :
    pauseExpiryEffect p c s = updPort p (fun q => { q with pause := SMap.set 0 q.pause c 0 }) s := if_pos h

/-- A pause time that runs keeps its class stopped. -/
theorem pauseExpiryEffect_early (p c : Nat) (s : Sys) (h : s.now < SMap.get 0 (port s p).pause c) : pauseExpiryEffect p c s = s :=
  if_neg (Nat.not_le.mpr h)

/-- A flow-control frame is repeated while the back-pressure that it told of lasts and its refresh time is over (R131). -/
theorem fcRefreshEffect_due (p : Nat) (s : Sys)
    (h : fcSends s p = true ∧ (port s p).fcSent ≠ 0 ∧ (port s p).fcAt + fcRefresh s p ≤ s.now) : fcRefreshEffect p s =
      updPort p (fun q => { q with macCtl := q.macCtl ++ [fcFrame s p q.bp 0], fcAt := s.now, fcSent := q.bp }) s := if_pos h

/-- Otherwise none is repeated. -/
theorem fcRefreshEffect_idle (p : Nat) (s : Sys)
    (h : ¬(fcSends s p = true ∧ (port s p).fcSent ≠ 0 ∧ (port s p).fcAt + fcRefresh s p ≤ s.now)) : fcRefreshEffect p s = s := if_neg h

/-- Settles O2: each clause is the case of its command's effect that the hypotheses select. -/
theorem flowControlFramesTakeEffect : Obligations.Flow_control_frames_take_effect := by
  refine ⟨?pauseAll, ?pauseBoot, ?pauseDormant, ?pauseDeaf, ?pfcAll, ?pfcBoot, ?pfcDormant, ?pfcDeaf, ?timerDue, ?timerEarly, ?refreshDue,
    ?refreshIdle⟩
  case pauseAll =>
    exact fun t port dst quanta s hb hacc => run_eq t _ s _ _ rfl ((macCtlRx_all _ _ _ hb hacc).trans (pauseOp_eq _ dst quanta _))
  case pauseBoot => exact fun t port dst quanta s hb hacc => run_eq t _ s _ _ rfl (macCtlRx_boot _ _ _ hb hacc)
  case pauseDormant => exact fun t port dst quanta s hb hacc => run_eq t _ s _ _ rfl (macCtlRx_dormant _ _ _ hb hacc)
  case pauseDeaf => exact fun t port dst quanta s h => run_eq t _ s _ _ rfl (macCtlRx_deaf _ _ _ h)
  case pfcAll =>
    exact fun t port dst enables times s hb hacc =>
      run_eq t _ s _ _ rfl ((macCtlRx_all _ _ _ hb hacc).trans (pfcOp_eq _ dst enables times _))
  case pfcBoot => exact fun t port dst enables times s hb hacc => run_eq t _ s _ _ rfl (macCtlRx_boot _ _ _ hb hacc)
  case pfcDormant => exact fun t port dst enables times s hb hacc => run_eq t _ s _ _ rfl (macCtlRx_dormant _ _ _ hb hacc)
  case pfcDeaf => exact fun t port dst enables times s h => run_eq t _ s _ _ rfl (macCtlRx_deaf _ _ _ h)
  case timerDue => exact fun t port tc s h => run_eq t _ s _ _ rfl (pauseExpiryEffect_due port.val tc.val _ h)
  case timerEarly => exact fun t port tc s h => run_eq t _ s _ _ rfl (pauseExpiryEffect_early port.val tc.val _ h)
  case refreshDue => exact fun t port s h => run_eq t _ s _ _ rfl (fcRefreshEffect_due port.val _ h)
  case refreshIdle => exact fun t port s h => run_eq t _ s _ _ rfl (fcRefreshEffect_idle port.val _ h)

/-! ### Links and holds (R138 to R142, R498) -/

/-- Speed and duplex of a link that comes up: a service port's PHYs resolve them, elsewhere the port's type fixes them (R132). -/
def linkMode (s : Sys) (p mbps : Nat) : Option (Nat × Bool) :=
  if 64 ≤ p ∧ p ≤ 71 then svcRate s p else some (typeSpeed s p mbps, false)

/-- A service port has the mode of its PHYs. -/
theorem linkMode_service (s : Sys) (p mbps : Nat) (hp : 64 ≤ p ∧ p ≤ 71) : linkMode s p mbps = svcRate s p := if_pos hp

section
variable (p mbps rate : Nat) (half : Bool) (s : Sys)

/-- A port that cannot have a link, and the Knaing port, have none brought up. -/
theorem linkUpEffect_incapable (h : linkCapable s p = false ∨ isKng s p = true) : linkUpEffect p mbps s = s :=
  if_pos (by simpa only [Bool.not_eq_true'] using h)

/-- Without a mode no link comes up. -/
theorem linkUpEffect_noMode (hmode : linkMode s p mbps = none) : linkUpEffect p mbps s = s := by
  simp only [linkMode] at hmode
  simp only [linkUpEffect, hmode, ite_self]

/-- A link that is up at its speed stays as it is. -/
theorem linkUpEffect_same (hmode : linkMode s p mbps = some (rate, half)) (hup : (port s p).linkUp = true ∧ (port s p).speed = rate) :
    linkUpEffect p mbps s = s := by
  simp only [linkMode] at hmode
  simp only [linkUpEffect, hmode, if_pos hup, ite_self]

/-- A port that can have a link has it started in its mode. -/
theorem linkUpEffect_starts (hcap : linkCapable s p = true) (hkng : isKng s p = false) (hmode : linkMode s p mbps = some (rate, half))
    (hnew : ¬((port s p).linkUp = true ∧ (port s p).speed = rate)) : linkUpEffect p mbps s = linkUpPort p rate half s := by
  simp only [linkMode] at hmode
  simp only [linkUpEffect, hcap, hkng, hmode, if_neg hnew]
  rfl

end

/-- A command that waits for a start-up step and changes nothing behind it changes nothing. -/
theorem fromStep_same (k : Nat) (f : Sys → Sys) (s : Sys) (h : f s = s) : fromStep k f s = s := by
  rw [fromStep, h, ite_self]

/-- A link has ended: the frames under way in both directions are lost, and what the port and its lanes kept of the link is gone (R130,
R139, R330). -/
def linkEnded (p : Nat) (s : Sys) : Sys :=
  let y := clearCredits p (abortTx p (cutRx p s))
  let y := updPort p (fun q => { q with
    linkUp := false, downAt := y.now, linkAt := y.now, lastChange := dc y, pause := [], lpiTx := false, lpiRx := false, lpiWake := none,
    verify := 0, hold := false, mmOpen := false, mmBytes := [], fcSent := 0, plca := 0, macCtl := [], backoff := none }) y
  (portLanes y p).foldl (fun y n => updLane n (fun l => { l with link := 0, fec := false }) y) y

/-- A link that was up goes down: what is queued is dropped at once without a hold or with ADMIN false, and otherwise held (R139). -/
theorem linkDownEffect_up (p : Nat) (s : Sys) (hup : (port s p).linkUp = true) :
    let y := linkEnded p s
    linkDownEffect p s =
      if obj y (pix p 5) 1 = 0 ∨ admin y p = false then raise 0x0402 1 (u8b p ++ u32b 0) (dropQueued p (Ctr.linkDownDrop p) y).1
      else raise 0x0402 1 (u8b p ++ u32b (queuedFor y p).length) (updPort p (fun q => { q with held := true })
        ((queuedFor y p).foldl (fun y c => updCopy c.1 (fun c => { c with wasHeld := true }) y) y)) := by
  simp only [← Bool.not_eq_true']
  exact if_neg (by simp [hup])

/-- A hold whose time is over drops what is still queued (R141). -/
theorem holdExpiryEffect_due (p : Nat) (s : Sys) (hheld : (port s p).held = true) (hdue : holdEnd s p ≤ s.now) :
    let y := dropQueued p (Ctr.linkDownDrop p) s
    holdExpiryEffect p s = raise 0x0403 1 (u8b p ++ u32b y.2) (updPort p (fun q => { q with held := false }) y.1) :=
  if_pos ⟨hheld, hdue⟩

/-- A service port that loses its reference clock loses its link (R498). -/
theorem refclkLossEffect_service (p : Nat) (s : Sys) (hp : 64 ≤ p ∧ p ≤ 71) :
    refclkLossEffect p s = linkDownEffect p (updPort p (fun q => { q with refclkLost := true }) s) := if_pos hp

/-! ### Polls of the PHYs (R144) -/

/-- A poll keeps the PHY's link status. -/
def phyKept (p line : Nat) (s : Sys) : Sys := updPort p (fun q => { q with phyLink := bit line 2, pollAt := s.now }) s

/-- On a service port it also keeps what the PHYs resolved and whether the reference clock runs (log entry 80). -/
def phyFollowed (p line adv lpa : Nat) (clk : Bool) (s : Sys) : Sys :=
  updPort p (fun q => { q with refclkLost := !clk, resolved := if bit line 2 then phyResolve adv lpa else none }) (phyKept p line s)

/-- What a poll keeps moves the Knaing link to no other port. -/
theorem isKng_phyFollowed (p line adv lpa : Nat) (clk : Bool) (s : Sys) (n : Nat) :
    isKng (phyFollowed p line adv lpa clk s) n = isKng s n := rfl

section
variable (p line adv lpa : Nat) (clk : Bool) (s : Sys)

/-- Ports past 72, the Knaing port and ports whose PHY is not polled are left alone. -/
theorem phyPollEffect_unpolled (h : 73 ≤ p ∨ isKng s p = true ∨ obj s (pix p 6) 3 = 0 ∨ obj s (pix p 6) 1 = 0) :
    phyPollEffect p line adv lpa clk s = s := if_pos h

variable (hp : p < 73) (hkng : isKng s p = false) (hpoll : obj s (pix p 6) 3 ≠ 0) (hphy : obj s (pix p 6) 1 ≠ 0)
include hp hkng hpoll hphy

/-- A polled port keeps the status, and the link of a service port follows its PHY and its clock. -/
theorem phyPollEffect_polled : phyPollEffect p line adv lpa clk s =
    if p < 64 ∨ 71 < p then phyKept p line s
    else if !bit line 2 ∨ !clk then linkDownEffect p (phyFollowed p line adv lpa clk s)
    else if (port (phyFollowed p line adv lpa clk s) p).linkUp then phyFollowed p line adv lpa clk s
    else linkUpEffect p 0 (phyFollowed p line adv lpa clk s) :=
  if_neg (by simp [hp, hkng, hpoll, hphy])

/-- A polled port that is no service port keeps the status alone. -/
theorem phyPollEffect_other (hport : p < 64 ∨ 71 < p) : phyPollEffect p line adv lpa clk s = phyKept p line s := by
  rw [phyPollEffect_polled p line adv lpa clk s hp hkng hpoll hphy, if_pos hport]

variable (hport : 64 ≤ p ∧ p ≤ 71)
include hport

/-- Without a PHY link, or without a clock, the link goes down. -/
theorem phyPollEffect_down (h : bit line 2 = false ∨ clk = false) :
    phyPollEffect p line adv lpa clk s = linkDownEffect p (phyFollowed p line adv lpa clk s) := by
  rw [phyPollEffect_polled p line adv lpa clk s hp hkng hpoll hphy, if_neg (by omega)]
  exact if_pos (by simpa only [Bool.not_eq_true'] using h)

/-- With a PHY link and a clock, a link that is up stays. -/
theorem phyPollEffect_up (hphyUp : bit line 2 = true ∧ clk = true) (hup : (port (phyFollowed p line adv lpa clk s) p).linkUp = true) :
    phyPollEffect p line adv lpa clk s = phyFollowed p line adv lpa clk s := by
  rw [phyPollEffect_polled p line adv lpa clk s hp hkng hpoll hphy, if_neg (by omega), if_neg (by simp [hphyUp]), if_pos hup]

/-- With a PHY link and a clock, a link that is not up is brought up as LINK_UP brings it up. -/
theorem phyPollEffect_linkUp (hphyUp : bit line 2 = true ∧ clk = true) (hup : (port (phyFollowed p line adv lpa clk s) p).linkUp = false) :
    phyPollEffect p line adv lpa clk s = linkUpEffect p 0 (phyFollowed p line adv lpa clk s) := by
  rw [phyPollEffect_polled p line adv lpa clk s hp hkng hpoll hphy, if_neg (by omega), if_neg (by simp [hphyUp]), if_neg (Bool.eq_false_iff.mp hup)]

/-- It starts in the mode that the PHYs resolved. -/
theorem phyPollEffect_starts (hphyUp : bit line 2 = true ∧ clk = true) (hup : (port (phyFollowed p line adv lpa clk s) p).linkUp = false)
    (hcap : linkCapable (phyFollowed p line adv lpa clk s) p = true) (rate : Nat) (half : Bool)
    (hmode : svcRate (phyFollowed p line adv lpa clk s) p = some (rate, half)) :
    phyPollEffect p line adv lpa clk s = linkUpPort p rate half (phyFollowed p line adv lpa clk s) := by
  rw [phyPollEffect_linkUp p line adv lpa clk s hp hkng hpoll hphy hport hphyUp hup]
  exact linkUpEffect_starts p 0 rate half _ hcap ((isKng_phyFollowed ..).trans hkng) ((linkMode_service _ p 0 hport).trans hmode)
    (fun hsame => Bool.eq_false_iff.mp hup hsame.1)

/-- A port that can have no link, or whose PHYs agree on no mode, only keeps what the poll brought. -/
theorem phyPollEffect_noLink (hphyUp : bit line 2 = true ∧ clk = true)
    (hnone : linkCapable (phyFollowed p line adv lpa clk s) p = false ∨ svcRate (phyFollowed p line adv lpa clk s) p = none) :
    phyPollEffect p line adv lpa clk s = phyFollowed p line adv lpa clk s := by
  cases hup : (port (phyFollowed p line adv lpa clk s) p).linkUp with
  | true => exact phyPollEffect_up p line adv lpa clk s hp hkng hpoll hphy hport hphyUp hup
  | false =>
    rw [phyPollEffect_linkUp p line adv lpa clk s hp hkng hpoll hphy hport hphyUp hup]
    rcases hnone with hcap | hmode
    · exact linkUpEffect_incapable p 0 _ (.inl hcap)
    · exact linkUpEffect_noMode p 0 _ ((linkMode_service _ p 0 hport).trans hmode)

end

/-- A poll that a running steward of a device out of start-up makes. -/
theorem run_phyPoll (t p line adv lpa : Nat) (clk : Bool) (s : State) (y : Sys) (hrun : stewardsRun (sysAt t s) = true)
    (hready : (sysAt t s).devState ≠ 0) (h : phyPollEffect p line adv lpa clk (sysAt t s) = y) :
    run t (bySteward (onceReady (phyPollEffect p line adv lpa clk))) s = .next (leavesSys t s y) :=
  run_bySteward_eq t _ s y hrun ((if_neg hready).trans h)

/-- Settles O22: each clause is the case of its command's effect that the hypotheses select. -/
theorem linksTakeEffect : Obligations.Links_take_effect := by
  refine ⟨?upStarts, ?upSame, ?upNoMode, ?upIncapable, ?down, ?hold, ?pollOther, ?pollDown, ?pollStarts, ?pollUp, ?pollNoLink, ?pollNone,
    ?refclk⟩
  case upStarts =>
    exact fun t port mbps rate half s hstep hcap hkng hmode hnew =>
      run_eq t _ s _ _ rfl ((fromStep_done _ _ _ hstep).trans (linkUpEffect_starts _ mbps rate half _ hcap hkng hmode hnew))
  case upSame =>
    exact fun t port mbps rate half s _ _ _ hmode hup =>
      run_eq t _ s _ _ rfl (fromStep_same _ _ _ (linkUpEffect_same _ mbps rate half _ hmode hup))
  case upNoMode =>
    exact fun t port mbps s _ _ _ hport hnone =>
      run_eq t _ s _ _ rfl (fromStep_same _ _ _ (linkUpEffect_noMode _ mbps _ ((linkMode_service _ _ mbps hport).trans hnone)))
  case upIncapable =>
    intro t port mbps s x h
    refine run_eq t _ s x x rfl ?_
    rcases h with hstep | hcap
    · exact fromStep_before _ _ x hstep
    · exact fromStep_same _ _ x (linkUpEffect_incapable _ mbps x hcap)
  case down => exact fun t port s hup => run_eq t _ s _ _ rfl (linkDownEffect_up port.val _ hup)
  case hold => exact fun t port s hheld hdue => run_eq t _ s _ _ rfl (holdExpiryEffect_due port.val _ hheld hdue)
  case pollOther =>
    exact fun t port line adv lpa clk s hrun hready hp hkng hpoll hphy hport =>
      run_phyPoll t _ _ _ _ clk s _ hrun hready (phyPollEffect_other _ _ _ _ _ _ hp hkng hpoll hphy hport)
  case pollDown =>
    exact fun t port line adv lpa clk s hrun hready hp hkng hpoll hphy hport hdown =>
      run_phyPoll t _ _ _ _ clk s _ hrun hready (phyPollEffect_down _ _ _ _ _ _ hp hkng hpoll hphy hport hdown)
  case pollStarts =>
    exact fun t port line adv lpa clk rate half s hrun hready hp hkng hpoll hphy hport hphyUp hup hcap hmode =>
      run_phyPoll t _ _ _ _ clk s _ hrun hready
        (phyPollEffect_starts _ _ _ _ _ _ hp hkng hpoll hphy hport hphyUp hup hcap rate half hmode)
  case pollUp =>
    exact fun t port line adv lpa clk s hrun hready hp hkng hpoll hphy hport hphyUp hup =>
      run_phyPoll t _ _ _ _ clk s _ hrun hready (phyPollEffect_up _ _ _ _ _ _ hp hkng hpoll hphy hport hphyUp hup)
  case pollNoLink =>
    exact fun t port line adv lpa clk s hrun hready hp hkng hpoll hphy hport hphyUp hnone =>
      run_phyPoll t _ _ _ _ clk s _ hrun hready (phyPollEffect_noLink _ _ _ _ _ _ hp hkng hpoll hphy hport hphyUp hnone)
  case pollNone =>
    exact fun t port line adv lpa clk s hrun hready h =>
      run_phyPoll t _ _ _ _ clk s _ hrun hready (phyPollEffect_unpolled _ _ _ _ _ _ h)
  case refclk => exact fun t port s hport => run_eq t _ s _ _ rfl (refclkLossEffect_service port.val _ hport)

/-! ### Half duplex (R133, R134) -/

section
variable (p bits draw id : Nat) (s : Sys)
variable (htx : (port s p).tx = some id) (hhalf : (port s p).half = true) (hst : (copy s id).st = .sending)
include htx hhalf hst

/-- A collision after 512 bit times drops the frame as late. -/
theorem collisionEffect_late (hlate : 512 < bits) :
    collisionEffect p bits draw s = collisionDrop p id (Ctr.txLateColl p) (bump (Ctr.txCollision p) s) := by
  simp [collisionEffect, htx, hhalf, hst, hlate]

/-- An earlier collision drops the frame at the attempt limit. -/
theorem collisionEffect_limit (hearly : bits ≤ 512) (hlimit : obj s (pix p 3) 2 ≤ (port s p).attempts + 1) :
    collisionEffect p bits draw s = collisionDrop p id (Ctr.txExcessColl p) (bump (Ctr.txCollision p) s) := by
  simp [collisionEffect, htx, hhalf, hst, Nat.not_lt.mpr hearly, hlimit]

/-- Below the limit, the frame waits as many slots as the truncated exponential draw says, behind the jam. -/
theorem collisionEffect_retry (hearly : bits ≤ 512) (hlimit : (port s p).attempts + 1 < obj s (pix p 3) 2) :
    let n := (port s p).attempts + 1
    let till := s.now + bitTicks (32 + 512 * (draw % 2 ^ (min n 10))) (linkSpeed s p)
    let gap := s.now + bitTicks (32 + obj s (pix p 3) 3) (linkSpeed s p)
    collisionEffect p bits draw s =
      updPort p (fun q => { q with tx := none, txClass := none, retry := some id, attempts := n, backoff := some till, free := max till gap })
        (updCopy id (fun c => { c with st := .held }) (bump (Ctr.txCollision p) s)) := by
  have hspeed : linkSpeed (bump (Ctr.txCollision p) s) p = linkSpeed s p := rfl
  simp [collisionEffect, htx, hhalf, hst, Nat.not_lt.mpr hearly, Nat.not_le.mpr hlimit, hspeed]

end

/-- A back-off that is over starts the frame anew. -/
theorem backoffEffect_due (p till : Nat) (s : Sys) (h : (port s p).backoff = some till) (hdue : till ≤ s.now) :
    backoffEffect p s = schedulerEffect p (updPort p (fun q => { q with backoff := none }) s) := by
  simp only [backoffEffect, h, if_pos hdue]

/-! ### PLCA (R135) -/

/-- A follower that hears a BEACON begins the cycle with node 0. -/
theorem beaconEffect_follower (p : Nat) (s : Sys) (hon : plcaOn s p = true) (hnode : obj s (pix p 3) 5 ≠ 0) : beaconEffect p s =
    updPort p (fun q => { q with plca := 2, plcaId := 0, plcaBurst := 0, plcaAt := s.now, plcaTimer := s.now }) s := if_pos ⟨hon, hnode⟩

/-- A follower that has heard none for 4,000 bit times falls back to CSMA/CD. -/
theorem beaconLossEffect_due (p : Nat) (s : Sys) (hon : plcaOn s p = true) (hnode : obj s (pix p 3) 5 ≠ 0) (hst : (port s p).plca ≠ 1)
    (hdue : (port s p).plcaAt + bitTicks 4000 10 ≤ s.now) :
    beaconLossEffect p s = bump (Ctr.svcPlcaBeaconLoss p) (updPort p (fun q => { q with plca := 1 }) s) := if_pos ⟨hon, hnode, hst, hdue⟩

/-- While PLCA is off, the medium is used or the timer runs, no opportunity ends. -/
theorem plcaTimerEffect_idle (p : Nat) (s : Sys) (h : plcaOn s p = false ∨ (port s p).plca ≠ 2 ∨ (port s p).tx.isSome = true ∨
    (port s p).rx.isSome = true ∨ s.now < (port s p).plcaTimer + bitTicks (plcaTimerBits s p) 10) : plcaTimerEffect p s = s :=
  if_pos (by simpa only [Bool.not_eq_true'] using h)

/-- A timer that has run out on an idle medium moves the opportunity on. -/
theorem plcaTimerEffect_due (p : Nat) (s : Sys) (hon : plcaOn s p = true) (hst : (port s p).plca = 2) (htx : (port s p).tx = none)
    (hrx : (port s p).rx = none) (hdue : (port s p).plcaTimer + bitTicks (plcaTimerBits s p) 10 ≤ s.now) :
    plcaTimerEffect p s = plcaNext p s :=
  if_neg (by simp [hon, hst, htx, hrx, hdue])

/-- Behind the last opportunity the coordinator begins a new cycle with a BEACON. -/
theorem plcaNext_cycleEnd (p : Nat) (s : Sys) (h : obj s (pix p 3) 5 = 0 ∧ obj s (pix p 3) 6 ≤ (port s p).plcaId + 1) : plcaNext p s =
    updPort p (fun q => { q with plca := 2, plcaId := 0, plcaBurst := 0, plcaAt := s.now, plcaTimer := s.now }) s := if_pos h

/-- Within the cycle, and at a follower, the next node has its opportunity. -/
theorem plcaNext_within (p : Nat) (s : Sys) (h : ¬(obj s (pix p 3) 5 = 0 ∧ obj s (pix p 3) 6 ≤ (port s p).plcaId + 1)) : plcaNext p s =
    updPort p (fun q => { q with plcaId := min 255 (q.plcaId + 1), plcaBurst := 0, plcaTimer := s.now }) s := if_neg h

/-! ### Low-power idle (R106, R137) -/

/-- A lane port whose link is up may enter low-power idle: EEE is enabled, nothing is sent or waits, no window opens soon, no lane is held,
and EEE_IDLE is over. -/
def LpiMayBegin (s : Sys) (p : Nat) : Prop :=
  p < 64 ∧ isKng s p = false ∧ flag s (pix p 4) 1 = true ∧ (port s p).linkUp = true ∧ (port s p).lpiTx = false ∧
    ((port s p).tx = none ∧ (port s p).suspended = none ∧ (port s p).macCtl = [] ∧ (List.range 8).any (fun c => classWaits s p c) = false) ∧
    windowSoon s p (wakeTime s p + Config.ticksPerUs) = false ∧ (portLanes s p).any (laneHeld s) = false ∧
    (port s p).idleSince + obj s (pix p 4) 2 * Config.ticksPerUs ≤ s.now

/-- A port that may enter low-power idle does, with its lanes, and is counted. -/
theorem eeeIdleEffect_begins (p : Nat) (s : Sys) (h : LpiMayBegin s p) :
    let y := bump (Ctr.eeeLpiEntry p) (updPort p (fun q => { q with lpiTx := true, lpiWake := none }) s)
    eeeIdleEffect p s = (portLanes y p).foldl (fun y n => aimLane n .quietLpi y) y := by
  obtain ⟨hp, hkng, heee, hup, hlpi, ⟨htx, hsusp, hctl, hqueues⟩, hwindow, hlanes, hidle⟩ := h
  exact if_neg (by simp [hp, hkng, heee, hup, hlpi, htx, hsusp, hctl, hqueues, hwindow, hlanes, hidle])

/-- Any other port stays as it is. -/
theorem eeeIdleEffect_stays (p : Nat) (s : Sys) (h : ¬LpiMayBegin s p) : eeeIdleEffect p s = s := by
  refine if_pos ?_
  by_contra hfree
  refine h ?_
  simpa [LpiMayBegin, and_assoc] using hfree

/-- A port whose wake time is over leaves low-power idle, with its lanes. -/
theorem lpiWakeEffect_due (p start : Nat) (s : Sys) (h : (port s p).lpiWake = some start) (hdue : start + wakeTime s p ≤ s.now) :
    let y := updPort p (fun q => { q with lpiTx := false, lpiWake := none, idleSince := s.now }) s
    lpiWakeEffect p s = (portLanes y p).foldl (fun y n => updLane n (enterPower .active) y) y := by
  simp only [lpiWakeEffect, h, if_pos hdue]

/-- While the link is up, the partner's low-power idle is kept. -/
theorem partnerLpiEffect_up (p : Nat) (on : Bool) (s : Sys) (hup : (port s p).linkUp = true) :
    partnerLpiEffect p on s = updPort p (fun q => { q with lpiRx := on }) s := if_pos hup

/-- Settles O23: each clause is the case of its command's effect that the hypotheses select. -/
theorem halfDuplexAndLowPowerTakeEffect : Obligations.Half_duplex_and_low_power_take_effect := by
  refine ⟨?late, ?limit, ?retry, ?backoff, ?beacon, ?beaconLoss, ?cycleEnd, ?cycleWithin, ?timerIdle, ?lpiBegins, ?lpiStays, ?wake, ?partner⟩
  case late =>
    exact fun t port bitTimes draw id s htx hhalf hst hlate =>
      run_eq t _ s _ _ rfl (collisionEffect_late _ bitTimes draw id _ htx hhalf hst hlate)
  case limit =>
    exact fun t port bitTimes draw id s htx hhalf hst hearly hlimit =>
      run_eq t _ s _ _ rfl (collisionEffect_limit _ bitTimes draw id _ htx hhalf hst hearly hlimit)
  case retry =>
    exact fun t port bitTimes draw id s htx hhalf hst hearly hlimit =>
      run_eq t _ s _ _ rfl (collisionEffect_retry _ bitTimes draw id _ htx hhalf hst hearly hlimit)
  case backoff => exact fun t port till s h hdue => run_eq t _ s _ _ rfl (backoffEffect_due _ till _ h hdue)
  case beacon => exact fun t port s hon hnode => run_eq t _ s _ _ rfl (beaconEffect_follower _ _ hon hnode)
  case beaconLoss => exact fun t port s hon hnode hst hdue => run_eq t _ s _ _ rfl (beaconLossEffect_due _ _ hon hnode hst hdue)
  case cycleEnd =>
    exact fun t port s hon hst htx hrx hdue hend =>
      run_eq t _ s _ _ rfl ((plcaTimerEffect_due _ _ hon hst htx hrx hdue).trans (plcaNext_cycleEnd _ _ hend))
  case cycleWithin =>
    exact fun t port s hon hst htx hrx hdue hwithin =>
      run_eq t _ s _ _ rfl ((plcaTimerEffect_due _ _ hon hst htx hrx hdue).trans (plcaNext_within _ _ hwithin))
  case timerIdle => exact fun t port s h => run_eq t _ s _ _ rfl (plcaTimerEffect_idle _ _ h)
  case lpiBegins =>
    exact fun t port s hp hkng heee hup hlpi hquiet hwindow hlanes hidle =>
      run_eq t _ s _ _ rfl (eeeIdleEffect_begins _ _ ⟨hp, hkng, heee, hup, hlpi, hquiet, hwindow, hlanes, hidle⟩)
  case lpiStays => exact fun t port s h => run_eq t _ s _ _ rfl (eeeIdleEffect_stays _ _ h)
  case wake => exact fun t port start s h hdue => run_eq t _ s _ _ rfl (lpiWakeEffect_due _ start _ h hdue)
  case partner => exact fun t port on s hup => run_eq t _ s _ _ rfl (partnerLpiEffect_up _ on _ hup)

/-! ### MDIO (R143) -/

/-- The frame of an MDIO command is queued, and the MDIO of its port is busy. -/
def queueMdio (c : MdioCmd) (s : Sys) : Sys := updPort c.port (fun q => { q with mdioBusy := true }) { s with mdio := s.mdio ++ [c] }

/-- An MDIO command that carries data, written by a session that may to a port whose MDIO is free, queues its frame at its commit point. -/
theorem writes_mdio (sid op prtad devad data : Nat) (p : Fin 76) (x : SysMem) (hop : op ≤ 5) (hprtad : prtad < 32) (hdevad : devad < 32)
    (hdata : data < 65536) (hp : p.val ≤ 72)
    (hmay : mayCommand x.1 sid (pix p.val 6) 4 (op * 2 ^ 60 + prtad * 2 ^ 48 + devad * 2 ^ 40 + data))
    (hfree : (port (commandPoint sid x).1 p.val).mdioBusy = false) (hroom : (commandPoint sid x).1.mdio.length < 16) :
    writes sid (pix p.val 6) 4 (op * 2 ^ 60 + prtad * 2 ^ 48 + devad * 2 ^ 40 + data) x =
      settled sid x (onSys (queueMdio { port := p.val, op := op, prtad := prtad, devad := devad, data := data }) (commandPoint sid x)) := by
  obtain ⟨hwop, hwprtad, hwdevad, hwdata⟩ := mdio_word op prtad devad data hop hprtad hdevad hdata
  rw [mdio_command sid _ ⟨p.val, Nat.lt_succ_of_le hp⟩ x (by rw [hwop]; exact hop) hmay hfree hroom, hwop, hwprtad, hwdevad, hwdata]
  rfl

/-- The same for a read, which carries none. -/
theorem writes_mdioRead (sid op prtad devad : Nat) (p : Fin 76) (x : SysMem) (hop : op ≤ 5) (hprtad : prtad < 32) (hdevad : devad < 32)
    (hp : p.val ≤ 72) (hmay : mayCommand x.1 sid (pix p.val 6) 4 (op * 2 ^ 60 + prtad * 2 ^ 48 + devad * 2 ^ 40))
    (hfree : (port (commandPoint sid x).1 p.val).mdioBusy = false) (hroom : (commandPoint sid x).1.mdio.length < 16) :
    writes sid (pix p.val 6) 4 (op * 2 ^ 60 + prtad * 2 ^ 48 + devad * 2 ^ 40) x =
      settled sid x (onSys (queueMdio { port := p.val, op := op, prtad := prtad, devad := devad, data := 0 }) (commandPoint sid x)) := by
  rw [← Nat.add_zero (op * 2 ^ 60 + prtad * 2 ^ 48 + devad * 2 ^ 40)] at hmay ⊢
  exact writes_mdio sid op prtad devad 0 p x hop hprtad hdevad (by decide) hp hmay hfree hroom

/-- The oldest frame ends, and a read keeps what the line carried. -/
theorem mdioDoneEffect_cons (line : Nat) (c : MdioCmd) (rest : List MdioCmd) (s : Sys) (h : s.mdio = c :: rest) : mdioDoneEffect line s =
    updPort c.port (fun q => { q with mdioBusy := false, mdioDone := true, mdioSeq := (q.mdioSeq + 1) % 256,
                                      mdioData := if c.op = 0 ∨ c.op = 4 ∨ c.op = 5 then line else q.mdioData }) { s with mdio := rest } := by
  simp only [mdioDoneEffect, h, Bool.or_eq_true, beq_iff_eq, or_assoc]

/-- Settles O24: each of the six commands is a word of MDIO_CMD with its op, and the frame that is done is the oldest. -/
theorem mdioCommandsTakeEffect : Obligations.MDIO_commands_take_effect := by
  refine ⟨?c22Read, ?c22Write, ?c45Address, ?c45Write, ?c45Read, ?c45ReadInc, ?done⟩
  case c22Read =>
    exact fun t sid port prtad devad s hp hmay hfree hroom =>
      runMem_eq t _ s _ _ rfl (writes_mdioRead sid 0 _ _ port _ (by decide) prtad.isLt devad.isLt hp hmay hfree hroom)
  case c22Write =>
    exact fun t sid port prtad devad data s hp hmay hfree hroom =>
      runMem_eq t _ s _ _ rfl (writes_mdio sid 1 _ _ _ port _ (by decide) prtad.isLt devad.isLt data.isLt hp hmay hfree hroom)
  case c45Address =>
    exact fun t sid port prtad devad data s hp hmay hfree hroom =>
      runMem_eq t _ s _ _ rfl (writes_mdio sid 2 _ _ _ port _ (by decide) prtad.isLt devad.isLt data.isLt hp hmay hfree hroom)
  case c45Write =>
    exact fun t sid port prtad devad data s hp hmay hfree hroom =>
      runMem_eq t _ s _ _ rfl (writes_mdio sid 3 _ _ _ port _ (by decide) prtad.isLt devad.isLt data.isLt hp hmay hfree hroom)
  case c45Read =>
    exact fun t sid port prtad devad s hp hmay hfree hroom =>
      runMem_eq t _ s _ _ rfl (writes_mdioRead sid 4 _ _ port _ (by decide) prtad.isLt devad.isLt hp hmay hfree hroom)
  case c45ReadInc =>
    exact fun t sid port prtad devad s hp hmay hfree hroom =>
      runMem_eq t _ s _ _ rfl (writes_mdioRead sid 5 _ _ port _ (by decide) prtad.isLt devad.isLt hp hmay hfree hroom)
  case done => exact fun t line c rest s h => run_eq t _ s _ _ rfl (mdioDoneEffect_cons line.toNat c rest _ h)

end Sys2Proof.Proofs
end


section
/-! PROOFS. Parsing: what PARSE_CLASSIFY makes of the first numbered head, when an entry of the fragment table expires, and how a
rule-set commit gets its bank. -/

namespace Sys2Proof.Proofs

open Sys2Proof.Machine Sys2Proof.Safety Sys2Proof.Laws

/-! ### The head to parse (R153) -/

/-- Bytes that staging can take join the first numbered head, and so do none where the head has ended. -/
theorem parseClassifyEffect_takes (more : List Byte) (ended : Bool) (id : Nat) (f : Frame) (s : Sys)
    (hhead : (headsIn s .numbered).head? = some (id, f)) (hroom : f.ended = true ∨ stagingFull s f more.length = false) :
    parseClassifyEffect more ended s = parseHead id (updFrame id (moreBytes more ended) s) := by
  have hfits : ¬((!f.ended) = true ∧ stagingFull s f more.length = true) := by
    rcases hroom with hended | hfree
    · simp [hended]
    · simp [hfree]
  simp only [parseClassifyEffect, hhead, if_neg hfits]

/-- Bytes that find staging full spoil the frame, which counts once, and its head is parsed with what it has (R16, log entry 79). -/
theorem parseClassifyEffect_full (more : List Byte) (ended : Bool) (id : Nat) (f : Frame) (s : Sys)
    (hhead : (headsIn s .numbered).head? = some (id, f)) (hended : f.ended = false) (hfull : stagingFull s f more.length = true) :
    parseClassifyEffect more ended s =
      parseHead id (updFrame id (fun f => { f with bad := true, overrun := true }) (bumpIf (!f.overrun) (Ctr.rxStageDrop f.port) s)) := by
  simp [parseClassifyEffect, hhead, hended, hfull]

/-- Without a numbered head there is nothing to parse. -/
theorem parseClassifyEffect_idle (more : List Byte) (ended : Bool) (s : Sys) (hnone : headsIn s .numbered = []) :
    parseClassifyEffect more ended s = s := by
  simp [parseClassifyEffect, hnone]

/-! ### The fragment table (R167) -/

/-- An entry that no fragment has used for FRAG_TIMEOUT expires. -/
theorem fragExpiryEffect_due (slot : Nat) (e : FragEntry) (s : Sys) (hentry : SMap.get none s.frags slot = some e)
    (hdue : e.used + obj s 0x3100 2 * Config.ticksPerMs ≤ s.now) :
    fragExpiryEffect slot s = bump Ctr.fragExpire { s with frags := SMap.set none s.frags slot none } := by
  simp only [fragExpiryEffect, hentry, if_pos hdue]

/-! ### Rule-set banks (R181, R183) -/

/-- The due commit that stages rule objects has a commit point of its own once its bank is loaded. -/
theorem rulesetLoadEffect_due (e : Session × Bool) (x : SysMem)
    (hfirst : ((dueTxns x.1 false) ++ (dueTxns x.1 true)).find? (fun e => changesRules x.1 e.1.txn.staged) = some e) :
    rulesetLoadEffect x = atPoint (commitTxn e.1 e.2) x := by
  simp only [rulesetLoadEffect, hfirst]

/-- A commit that has waited 1 ms for a bank retires every older generation and loads. -/
theorem forcedRetireEffect_due (w : RsWait) (s : Sys) (hwait : s.rsWait = some w) (hbank : w.loadEnd = none)
    (hdue : w.accepted + Config.ticksPerMs ≤ s.now) :
    forcedRetireEffect s =
      { s with rsRetired := s.rsRetired ++ s.rsBank.map (·.1), rsBank := [],
               rsWait := some { w with loadEnd := some (s.now + bankTicks), forced := true, delay := Config.ticksPerMs } } := by
  simp [forcedRetireEffect, hwait, hbank, hdue]

/-- Settles O3: each clause is the case of its command's effect that the hypotheses select. -/
theorem parsingAndRuleSetsTakeEffect : Obligations.Parsing_and_rule_sets_take_effect := by
  refine ⟨?parseTakes, ?parseFull, ?parseIdle, ?fragExpires, ?loadDone, ?forcedRetire⟩
  case parseTakes =>
    exact fun t more ended id f s hhead hroom => run_eq t _ s _ _ rfl (parseClassifyEffect_takes more ended id f _ hhead hroom)
  case parseFull =>
    exact fun t more ended id f s hhead ⟨hended, hfull⟩ =>
      run_eq t _ s _ _ rfl (parseClassifyEffect_full more ended id f _ hhead hended hfull)
  case parseIdle => exact fun t more ended s hnone => run_eq t _ s _ _ rfl (parseClassifyEffect_idle more ended _ hnone)
  case fragExpires =>
    exact fun t slot e s hentry hdue => run_eq t _ s _ _ rfl (fragExpiryEffect_due slot.val e _ hentry hdue)
  case loadDone => exact fun t e s hfirst => runMem_eq t _ s _ _ rfl (rulesetLoadEffect_due e _ hfirst)
  case forcedRetire =>
    exact fun t w s hwait hbank hdue => run_eq t _ s _ _ rfl (forcedRetireEffect_due w _ hwait hbank hdue)

end Sys2Proof.Proofs
end

section
/-! PROOFS. The tables: how heads are decided and what becomes of their records, how the learn engine keeps the entries of the EMM, and
how entries are flushed and searched. -/

namespace Sys2Proof.Proofs

open Sys2Proof.Machine Sys2Proof.Safety Sys2Proof.Laws

/-! ### Decisions (R185, R194, R245) -/

/-- A decider decides while it runs, has started, and no bank of its tables wakes. -/
def Deciding (v : Decider) : Prop := v.running = true ∧ v.started = true ∧ v.waking = none

section
variable (d : DecId) (lane : Nat) (s : Sys)

/-- A decider that is not deciding leaves everything as it is. -/
theorem decideEffect_of_not_deciding (h : ¬Deciding (decider s d)) : decideEffect d lane s = s := by
  refine if_pos ?_
  by_contra hready
  simp only [not_or, Bool.not_eq_true', Bool.not_eq_false, Bool.not_eq_true, Option.isSome_eq_false_iff, Option.isNone_iff_eq_none] at hready
  exact h hready

/-- A head that no golden vector of its lane precedes is decided if it is parsed. -/
theorem decideEffect_head (id : Nat) (f : Frame) (hready : Deciding (decider s d)) (hhead : nextHead s (decider s d) lane = some (id, f))
    (hfirst : (nextVector (decider s d) lane).all (fun e => decide (f.seq ≤ e.1)) = true) :
    decideEffect d lane s = if f.stage ≠ .parsed then s else decideHead d lane id f s := by
  obtain ⟨hrun, hstart, hwake⟩ := hready
  cases hvec : nextVector (decider s d) lane with
  | none => simp [decideEffect, hrun, hstart, hwake, hvec, hhead]
  | some e =>
    have hle : ¬e.1 < f.seq := by simpa [hvec] using hfirst
    simp [decideEffect, hrun, hstart, hwake, hvec, hhead, hle]

/-- A golden vector that precedes the next head of its lane is decided. -/
theorem decideEffect_vector (n k : Nat) (hready : Deciding (decider s d)) (hvec : nextVector (decider s d) lane = some (n, k))
    (hfirst : (nextHead s (decider s d) lane).all (fun e => decide (n < e.2.seq)) = true) :
    decideEffect d lane s = decideVector d lane n k s := by
  obtain ⟨hrun, hstart, hwake⟩ := hready
  cases hhead : nextHead s (decider s d) lane with
  | none => simp [decideEffect, hrun, hstart, hwake, hvec, hhead]
  | some e =>
    have hlt : n < e.2.seq := by simpa [hhead] using hfirst
    simp [decideEffect, hrun, hstart, hwake, hvec, hhead, hlt]

/-- A head that is not parsed waits, whatever its decider does. -/
theorem decideEffect_unparsed (id : Nat) (f : Frame) (hhead : nextHead s (decider s d) lane = some (id, f)) (hstage : f.stage ≠ .parsed)
    (hfirst : (nextVector (decider s d) lane).all (fun e => decide (f.seq ≤ e.1)) = true) : decideEffect d lane s = s := by
  by_cases hready : Deciding (decider s d)
  · rw [decideEffect_head d lane s id f hready hhead hfirst, if_pos hstage]
  · exact decideEffect_of_not_deciding d lane s hready

/-- With neither a vector nor a parsed head in its lane, a decider has nothing to decide. -/
theorem decideEffect_idle (hvec : nextVector (decider s d) lane = none)
    (hheads : (nextHead s (decider s d) lane).all (fun e => decide (e.2.stage ≠ .parsed)) = true) : decideEffect d lane s = s := by
  cases hhead : nextHead s (decider s d) lane with
  | none => simp [decideEffect, hvec, hhead]
  | some e => exact decideEffect_unparsed d lane s e.1 e.2 hhead (by simpa [hhead] using hheads) (by rw [hvec]; rfl)

end

/-! ### Records at the commit stage (R233, R241) -/

section
variable (d : DecId) (lane skip : Nat) (altered : Option (List Byte)) (i : InFlight) (rest : List InFlight) (s : Sys)

/-- The record of a running decider leaves its lane and is delivered; it is out of order behind a gap or a lost record of a head. -/
theorem recordArrivalEffect_delivers (hlane : ((decider s d).inLane lane).drop skip = i :: rest) (hrun : (decider s d).running = true) :
    let lost := (((decider s d).inLane lane).take skip).any (·.head.isSome)
    recordArrivalEffect d lane skip altered s =
      deliver d lane ((decider s d).gapOn lane || lost) i altered (setDecider d ((decider s d).delivered lane rest lost i) s) := by
  simp [recordArrivalEffect, hlane, hrun]

/-- The record of a decider that no longer runs only leaves its lane. -/
theorem recordArrivalEffect_stopped (hlane : ((decider s d).inLane lane).drop skip = i :: rest) (hrun : (decider s d).running = false) :
    recordArrivalEffect d lane skip altered s =
      setDecider d ((decider s d).delivered lane rest ((((decider s d).inLane lane).take skip).any (·.head.isSome)) i) s := by
  simp [recordArrivalEffect, hlane, hrun]

/-- From a lane that holds no record there, none arrives. -/
theorem recordArrivalEffect_empty (hlane : ((decider s d).inLane lane).drop skip = []) : recordArrivalEffect d lane skip altered s = s := by
  simp [recordArrivalEffect, hlane]

end

section
variable (seq : Nat) (s : Sys)

/-- The pair of a head is classified once its window has run out: 392 ns are 490 ticks. -/
theorem windowExpiryEffect_due (id w : Nat) (f : Frame)
    (hpair : (openHeads s).find? (fun e => e.2.seq == seq && e.2.classified.isNone) = some (id, f))
    (hwin : f.window = some w) (hdue : w + 490 ≤ s.now) : windowExpiryEffect seq s = settle id s := by
  simp only [windowExpiryEffect, hpair, hwin, if_pos hdue]

/-- A pair whose window is closed, or has not run out, is not classified. -/
theorem windowExpiryEffect_early (id : Nat) (f : Frame)
    (hpair : (openHeads s).find? (fun e => e.2.seq == seq && e.2.classified.isNone) = some (id, f))
    (hwin : f.window.all (fun w => decide (s.now < w + 490)) = true) : windowExpiryEffect seq s = s := by
  cases hw : f.window with
  | none => simp only [windowExpiryEffect, hpair, hw]
  | some w =>
    have hearly : ¬w + 490 ≤ s.now := by simpa [hw] using hwin
    simp only [windowExpiryEffect, hpair, hw, if_neg hearly]

/-- Without a pair of that number that awaits classification, nothing is classified. -/
theorem windowExpiryEffect_none (hpair : (openHeads s).find? (fun e => e.2.seq == seq && e.2.classified.isNone) = none) :
    windowExpiryEffect seq s = s := by
  simp only [windowExpiryEffect, hpair]

end

/-- Settles O5: each clause is the case of its command's effect that the hypotheses select. -/
theorem decisionsAndTheirRecordsTakeEffect : Obligations.Decisions_and_their_records_take_effect := by
  refine ⟨?head, ?vector, ?nothing, ?unparsed, ?atRest, ?arrival, ?arrivalStopped, ?arrivalEmpty, ?windowDue, ?windowEarly, ?windowNone⟩
  case head =>
    intro t d lane id f s x hrun hstart hwake hfirst hhead hstage
    refine run_eq t _ s x _ rfl ?_
    rw [decideEffect_head d lane.val x id f ⟨hrun, hstart, hwake⟩ hhead hfirst, if_neg (not_not_intro hstage)]
  case vector =>
    exact fun t d lane n k s hrun hstart hwake hvec hfirst =>
      run_eq t _ s _ _ rfl (decideEffect_vector d lane.val _ n k ⟨hrun, hstart, hwake⟩ hvec hfirst)
  case nothing => exact fun t d lane s hvec hheads => run_eq t _ s _ _ rfl (decideEffect_idle d lane.val _ hvec hheads)
  case unparsed =>
    exact fun t d lane id f s hhead hstage hfirst =>
      run_eq t _ s _ _ rfl (decideEffect_unparsed d lane.val _ id f hhead hstage hfirst)
  case atRest =>
    intro t d lane s x h
    refine run_eq t _ s x _ rfl (decideEffect_of_not_deciding d lane.val x ?_)
    rintro ⟨hrun, hstart, hwake⟩
    simp [x, hrun, hstart, hwake] at h
  case arrival =>
    exact fun t d lane skip altered i rest s hlane hrun =>
      run_eq t _ s _ _ rfl (recordArrivalEffect_delivers d lane.val skip altered i rest _ hlane hrun)
  case arrivalStopped =>
    exact fun t d lane skip altered i rest s hlane hrun =>
      run_eq t _ s _ _ rfl (recordArrivalEffect_stopped d lane.val skip altered i rest _ hlane hrun)
  case arrivalEmpty =>
    exact fun t d lane skip altered s hlane => run_eq t _ s _ _ rfl (recordArrivalEffect_empty d lane.val skip altered _ hlane)
  case windowDue =>
    exact fun t seq id w f s hpair hwin hdue => run_eq t _ s _ _ rfl (windowExpiryEffect_due seq _ id w f hpair hwin hdue)
  case windowEarly => exact fun t seq id f s hpair hwin => run_eq t _ s _ _ rfl (windowExpiryEffect_early seq _ id f hpair hwin)
  case windowNone => exact fun t seq s hpair => run_eq t _ s _ _ rfl (windowExpiryEffect_none seq _ hpair)

/-! ### The learn engine (R198, R200, R201) -/

/-- A decider whose learn engine has taken request `r`. -/
def withoutRequest (r : LearnReq) (v : Decider) : Decider := { v with learn := v.learn.erase r }

/-- The slots that pending rows of EMM_STATIC hold in a decider (R196). -/
def pendingSlots (s : Sys) (v : Decider) : List Nat := (pendingRows s v).map (·.2.2.2)

/-- An entry stands on the source that request `r` names. -/
def sameSource (r : LearnReq) (e : Emm) : Prop := e.kind = boolNat r.lag ∧ e.peer = r.peer ∧ e.target = r.target

/-- A request of a bad frame is discarded (R198). -/
theorem learnTake_bad (d : DecId) (r : LearnReq) (s : Sys) (hnext : nextLearn s (decider s d) = some r) (hbad : r.verdict = some false) :
    learnTake d s = learnBump d Ctr.learnFcsDiscard (setDecider d (withoutRequest r (decider s d)) s) := by
  simp [learnTake, hnext, hbad, withoutRequest]

section
variable (d : DecId) (r : LearnReq) (slot : Nat) (s : Sys)
variable (hnext : nextLearn s (decider s d) = some r) (hgood : r.verdict = some true)
include hnext hgood

/-- A new key takes the free slot that is awake. -/
theorem learnTake_new (hkey : (withoutRequest r (decider s d)).find r.key = none)
    (hfree : (withoutRequest r (decider s d)).freeIn (pendingSlots s (decider s d)) false = some slot) :
    learnTake d s = learnBump d Ctr.learnNew (setDecider d ((withoutRequest r (decider s d)).put slot
      (({ key := r.key, made := s.now } : Emm).on s.now (boolNat r.lag) r.target r.peer)) s) := by
  rw [withoutRequest] at hkey hfree ⊢
  rw [pendingSlots] at hfree
  simp [learnTake, hnext, hgood, hkey, hfree]

/-- A new key whose only free slot is in a gated group of banks wakes the group, and its request waits (R194). -/
theorem learnTake_gated (hkey : (withoutRequest r (decider s d)).find r.key = none)
    (hawake : (withoutRequest r (decider s d)).freeIn (pendingSlots s (decider s d)) false = none)
    (hgated : (withoutRequest r (decider s d)).freeIn (pendingSlots s (decider s d)) true = some slot) :
    learnTake d s = setDecider d { decider s d with waking := some (slot / 16384) } s := by
  rw [withoutRequest] at hkey hawake hgated
  rw [pendingSlots] at hawake hgated
  simp [learnTake, hnext, hgood, hkey, hawake, hgated]

section
variable (e : Emm) (hkey : (withoutRequest r (decider s d)).find r.key = some (slot, e))
include hkey

/-- A key seen again on its source is refreshed. -/
theorem learnTake_refresh (hsame : sameSource r e) :
    learnTake d s = setDecider d ((withoutRequest r (decider s d)).put slot (some { e with hit := true, seen := s.now })) s := by
  rw [withoutRequest] at hkey ⊢
  obtain ⟨hkind, hpeer, htarget⟩ := hsame
  simp [learnTake, hnext, hgood, hkey, hkind, hpeer, htarget]

section
variable (hother : ¬sameSource r e)
include hother

/-- A static entry does not move. -/
theorem learnTake_static (hstatic : e.isStatic = true) :
    learnTake d s = learnBump d Ctr.learnStaticConflict (setDecider d (withoutRequest r (decider s d)) s) := by
  rw [withoutRequest] at hkey ⊢
  rw [sameSource] at hother
  simp [learnTake, hnext, hgood, hkey, hother, hstatic]

/-- A frozen entry does not move (R201). -/
theorem learnTake_frozen (hlearned : e.isStatic = false) (hflap : e.flapping = true) :
    learnTake d s = learnBump d Ctr.learnFlapHeld (setDecider d (withoutRequest r (decider s d)) s) := by
  rw [withoutRequest] at hkey ⊢
  rw [sameSource] at hother
  simp [learnTake, hnext, hgood, hkey, hother, hlearned, hflap]

/-- After SETTLE_WINDOW a learned entry moves to the source on which its key is seen, while it has moved fewer than eight times. -/
theorem learnTake_move (hlearned : e.isStatic = false) (hflap : e.flapping = false)
    (hsettled : e.born + obj s 0x4000 1 * Config.ticksPerMs ≤ s.now) (hmoves : e.moves.length < 8) :
    learnTake d s = learnBump d Ctr.learnMove (setDecider d ((withoutRequest r (decider s d)).put slot
      (some { e.on s.now (boolNat r.lag) r.target r.peer with contested := false, moves := (s.now :: e.moves).take 8 })) s) := by
  rw [withoutRequest] at hkey ⊢
  rw [sameSource] at hother
  simp [learnTake, hnext, hgood, hkey, hother, hlearned, hflap, Nat.not_lt.mpr hsettled, Nat.not_le.mpr hmoves]

end
end
end

/-! ### Thawing and ageing (R201, R205) -/

/-- FLAP_HOLD after the freeze, a frozen entry is thawed and its moves are forgotten. -/
theorem flapHoldEffect_due (d : DecId) (slot : Nat) (e : Emm) (s : Sys) (hentry : SMap.get none (decider s d).emm slot = some e)
    (hflap : e.flapping = true) (hhold : obj s 0x4000 3 ≠ 0) (hdue : e.frozen + obj s 0x4000 3 * Config.ticksPerS ≤ s.now) :
    flapHoldEffect d slot s = setDecider d ((decider s d).put slot (some { e with flapping := false, moves := [] })) s := by
  simp [flapHoldEffect, hentry, hflap, hhold, hdue]

/-- Where AGE_TIME is not 0, both deciders age. -/
theorem ageingEffect_runs (s : Sys) (hage : obj s 0x4000 2 ≠ 0) : ageingEffect s = ageOne .b (ageOne .a s) := if_neg hage

/-- Settles O8: each clause is the case of its command's effect that the hypotheses select. -/
theorem learningTakesEffect : Obligations.Learning_takes_effect := by
  refine ⟨?bad, ?new, ?gated, ?refresh, ?static, ?frozen, ?move, ?thaw, ?ageing, ?wake⟩
  case bad => exact fun t d r s hnext hbad => run_eq t _ s _ _ rfl (learnTake_bad d r _ hnext hbad)
  case new =>
    exact fun t d r slot s hnext hgood hkey hfree => run_eq t _ s _ _ rfl (learnTake_new d r slot _ hnext hgood hkey hfree)
  case gated =>
    exact fun t d r slot s hnext hgood hkey hawake hgated =>
      run_eq t _ s _ _ rfl (learnTake_gated d r slot _ hnext hgood hkey hawake hgated)
  case refresh =>
    exact fun t d r slot e s hnext hgood hkey hsame => run_eq t _ s _ _ rfl (learnTake_refresh d r slot _ hnext hgood e hkey hsame)
  case static =>
    exact fun t d r slot e s hnext hgood hkey hother hstatic =>
      run_eq t _ s _ _ rfl (learnTake_static d r slot _ hnext hgood e hkey hother hstatic)
  case frozen =>
    exact fun t d r slot e s hnext hgood hkey hother hlearned hflap =>
      run_eq t _ s _ _ rfl (learnTake_frozen d r slot _ hnext hgood e hkey hother hlearned hflap)
  case move =>
    exact fun t d r slot e s hnext hgood hkey ⟨hlearned, hflap⟩ hother hsettled hmoves =>
      run_eq t _ s _ _ rfl (learnTake_move d r slot _ hnext hgood e hkey hother hlearned hflap hsettled hmoves)
  case thaw =>
    exact fun t d slot e s hentry hflap hhold hdue => run_eq t _ s _ _ rfl (flapHoldEffect_due d slot e _ hentry hflap hhold hdue)
  case ageing => exact fun t s hage => run_eq t _ s _ _ rfl (ageingEffect_runs _ hage)
  -- The clause writes out what the command does.
  case wake => exact fun t d group s => run_eq t _ s _ _ rfl rfl

/-! ### Flushes (R206) -/

/-- A flush in one of the five modes of Table TAB-6 starts at its commit point, with its entries. -/
theorem writes_flush (sid mode : Nat) (lag peer : Bool) (target vid : Nat) (x : SysMem) (hmode : 1 ≤ mode ∧ mode ≤ 5)
    (hmay : mayCommand x.1 sid 0x4003 1 (flushWord mode lag peer target vid)) (hidle : (commandPoint sid x).1.flush = none) :
    writes sid 0x4003 1 (flushWord mode lag peer target vid) x =
      settled sid x (onSys (startFlush (flushWord mode lag peer target vid) (findKey (commandPoint sid x).1 sid)) (commandPoint sid x)) :=
  flush_command sid _ x (by rwa [flushWord_mode mode lag peer target vid (by omega)]) hmay hidle

/-- A flush that is done has removed its entries from both deciders. -/
theorem flushDoneEffect_running (u : Flush) (s : Sys) (h : s.flush = some u) :
    flushDoneEffect s = { s with flush := none, decA := flushKeys u s.decA, decB := flushKeys u s.decB } := by
  simp only [flushDoneEffect, h]

/-! ### Searches (R33, R41, R222) -/

/-- The row that EMM_FIND writes: the key, the decider, and three columns that the device fills. -/
def findRow (key which : Nat) : List Value := [.num key, .num which, .num 0, .num 0, .num 0]

/-- The write of an EMM_FIND row as it meets its commit point: it stores nothing there. -/
def findStaged (row key : Nat) : Staged := { ix := 0x4002, sub := 4, row := row, col := 0, req := .num key, val := .num key, codes := [0] }

/-- With nothing left for a commit point, none falls. -/
theorem directCommit_nil (sid : Nat) (x : SysMem) : (directCommit sid [] x).1 = x := by simp [directCommit]

/-- A direct write of an EMM_FIND row has a commit point, with all that is pending for it (R72). -/
theorem directCommit_find (sid row key : Nat) (x : SysMem) :
    let p := onSys plinthFirst x
    (directCommit sid [findStaged row key] x).1 =
      onSys (settleClaims p.1) (commitStaged sid 0 [findStaged row key] (commitAll [] false p)).1 := by
  have hrules : changesRules x.1 [findStaged row key] = false := changesRules_one x.1 _ rfl rfl
  have hrel : releases [findStaged row key] = [] := rfl
  simp [directCommit, hrules, hrel]

section
variable (sid row key which : Nat)

/-- The session has written its row of EMM_FIND: key `k` is searched at once, and the write's columns answer their codes. -/
def searched (code k : Nat) (s : Sys) : Sys :=
  touchTxn sid (findEntries sid row (findRow key which) [code, 0, 5, 5, 5] (findFill sid row k which s))

/-- The key that stands in a row of EMM_FIND. -/
def keptKey (s : Sys) : Nat := (dictVal ((session? s sid).getD {}).own 0x4002 4 row 0).toNat

variable (x : SysMem) (hmay : mayWrite x.1 sid 0x4002 = true)
include hmay

/-- A row of another session is not searched, and each of its columns answers code 5 (R33). -/
theorem findEffect_foreign (hforeign : (session? x.1 sid).any (fun v => v.row == row) = false) :
    findEffect sid row key which x =
      onSys (fun s => touchTxn sid (findEntries sid row (findRow key which) [5, 5, 5, 5, 5] s)) x := by
  simp [findEffect, hmay, writeFind, hforeign, directCommit, onSys, findRow]

section
variable (hown : (session? x.1 sid).any (fun v => v.row == row) = true) (hwhich : which ≤ 2)
include hown hwhich

/-- The session's own row is searched, for the key it holds where the written key's type is reserved (R7, R41); only outside a
transaction is anything left for a commit point (R72, log entry 14). -/
theorem findEffect_own :
    findEffect sid row key which x =
      (directCommit sid (if inTxn x.1 sid then [] else [findStaged row key])
        (onSys (searched sid row key which (if 3 < key / 2 ^ 60 then 4 else 0) (if 3 < key / 2 ^ 60 then keptKey sid row x.1 else key)) x)).1 := by
  have hnum (n : Nat) : (Value.num (n : Int)).toNat = n := Int.toNat_natCast n
  have hwhichOk : ¬2 < which := Nat.not_lt.mpr hwhich
  cases hin : inTxn x.1 sid with
  | true => simp [findEffect, hmay, writeFind, hown, hin, onSys, searched, keptKey, findRow, hnum, hwhichOk]
  | false => simp [findEffect, hmay, writeFind, hown, hin, onSys, searched, keptKey, findRow, findStaged, hnum, hwhichOk]

/-- Outside a transaction the write has its commit point. -/
theorem findEffect_direct (hout : inTxn x.1 sid = false) (hkey : key / 2 ^ 60 ≤ 3) :
    let p := onSys plinthFirst (onSys (searched sid row key which 0 key) x)
    findEffect sid row key which x = onSys (settleClaims p.1) (commitStaged sid 0 [findStaged row key] (commitAll [] false p)).1 := by
  have hkeyOk : ¬3 < key / 2 ^ 60 := Nat.not_lt.mpr hkey
  rw [findEffect_own sid row key which x hmay hown hwhich, if_neg (Bool.eq_false_iff.mp hout), if_neg hkeyOk, if_neg hkeyOk,
    directCommit_find]

section
variable (hin : inTxn x.1 sid = true)
include hin

/-- In a transaction nothing is left for a commit point. -/
theorem findEffect_inTxn (hkey : key / 2 ^ 60 ≤ 3) : findEffect sid row key which x = onSys (searched sid row key which 0 key) x := by
  have hkeyOk : ¬3 < key / 2 ^ 60 := Nat.not_lt.mpr hkey
  rw [findEffect_own sid row key which x hmay hown hwhich, if_pos hin, if_neg hkeyOk, if_neg hkeyOk,
    directCommit_nil]

/-- A key whose type is reserved answers code 4. -/
theorem findEffect_reserved (hkey : 3 < key / 2 ^ 60) :
    findEffect sid row key which x = onSys (fun s => searched sid row key which 4 (keptKey sid row s) s) x := by
  rw [findEffect_own sid row key which x hmay hown hwhich, if_pos hin, if_pos hkey, if_pos hkey, directCommit_nil]
  simp only [onSys]

end
end
end

/-- Settles O9: each mode is a word of EMM_FLUSH, and EMM_FIND does what the owner of the row and its key allow. -/
theorem flushesAndSearchesTakeEffect : Obligations.Flushes_and_searches_take_effect := by
  refine ⟨?source, ?vid, ?sourceVid, ?all, ?entry, ?done, ?findDirect, ?findInTxn, ?findReserved, ?findForeign⟩
  case source =>
    exact fun t sid lag peer target s hmay hidle => runMem_eq t _ s _ _ rfl (writes_flush sid 1 lag peer target 0 _ (by decide) hmay hidle)
  case vid =>
    exact fun t sid vid s hmay hidle => runMem_eq t _ s _ _ rfl (writes_flush sid 2 false false 0 vid _ (by decide) hmay hidle)
  case sourceVid =>
    exact fun t sid lag peer target vid s hmay hidle =>
      runMem_eq t _ s _ _ rfl (writes_flush sid 3 lag peer target vid _ (by decide) hmay hidle)
  case all => exact fun t sid s hmay hidle => runMem_eq t _ s _ _ rfl (writes_flush sid 4 false false 0 0 _ (by decide) hmay hidle)
  case entry => exact fun t sid s hmay hidle => runMem_eq t _ s _ _ rfl (writes_flush sid 5 false false 0 0 _ (by decide) hmay hidle)
  case done => exact fun t u s h => run_eq t _ s _ _ rfl (flushDoneEffect_running u _ h)
  case findDirect =>
    exact fun t sid row key which s hmay hown hout hkey =>
      runMem_eq t _ s _ _ rfl (findEffect_direct sid row.val key which.val _ hmay hown (by omega) hout hkey)
  case findInTxn =>
    exact fun t sid row key which s hmay hown hin hkey =>
      runMem_eq t _ s _ _ rfl (findEffect_inTxn sid row.val key which.val _ hmay hown (by omega) hin hkey)
  case findReserved =>
    exact fun t sid row key which s hmay hown hin hkey =>
      runMem_eq t _ s _ _ rfl (findEffect_reserved sid row.val key which.val _ hmay hown (by omega) hin hkey)
  case findForeign =>
    exact fun t sid row key which s hmay hforeign =>
      runMem_eq t _ s _ _ rfl (findEffect_foreign sid row.val key which.val _ hmay hforeign)

end Sys2Proof.Proofs
end

section
/-! PROOFS. The deciders: decision records read as they were written, elections, heartbeats and golden-vector runs, the unresolved
state, re-admission, and the skew sweep. -/

namespace Sys2Proof.Proofs

open Sys2Proof.Machine Sys2Proof.Safety Sys2Proof.Laws

/-! ### Numbers in bytes (R5) -/

/-- A number is read back from its bytes, behind bytes that were read before. -/
theorem foldl_toBE (n a v : Nat) : (toBE n v).foldl (fun a b => a * 256 + b.toNat) a = a * 256 ^ n + v % 256 ^ n := by
  induction n generalizing a with
  | zero => simp [toBE, Nat.mod_one]
  | succ n ih =>
    have hsplit : v % 256 ^ (n + 1) = v % 256 ^ n + 256 ^ n * (v / 256 ^ n % 256) := Nat.mod_pow_succ
    rw [hsplit]
    simp only [toBE, List.foldl_cons, BitVec.toNat_ofNat, ih]
    ring

/-- A number of `n` bytes is read back from them. -/
theorem beNat_toBE (n v : Nat) (h : v < 256 ^ n) : beNat (toBE n v) = v := by
  rw [beNat, foldl_toBE, Nat.mod_eq_of_lt h, Nat.zero_mul, Nat.zero_add]

@[simp] theorem length_toBE (n v : Nat) : (toBE n v).length = n := by
  induction n with
  | zero => rfl
  | succ n ih => rw [toBE, List.length_cons, ih]

/-- A byte is a field of one byte. -/
theorem byteAt_eq_field (b : List Byte) (i : Nat) : byteAt b i = field b i 1 := by
  unfold byteAt field slice
  cases b.drop i with
  | nil => rfl
  | cons x l => simp [beNat]

/-! ### Packed fields: numbers, each with its length in bytes, one behind the other -/

/-- The bytes of a list of lengths and numbers. -/
def packed (l : List (Nat × Nat)) : List Byte := (l.map (fun e => toBE e.1 e.2)).flatten

/-- How many bytes they take. -/
def packedLength (l : List (Nat × Nat)) : Nat := (l.map (·.1)).sum

@[simp] theorem length_packed (l : List (Nat × Nat)) : (packed l).length = packedLength l := by
  simp [packed, packedLength, Function.comp_def]

theorem packed_append (l m : List (Nat × Nat)) : packed (l ++ m) = packed l ++ packed m := by simp [packed]

/-- The number that stands behind those of `l` is read at the offset where they end. -/
theorem field_packed (l m : List (Nat × Nat)) (n v : Nat) (h : v < 256 ^ n) : field (packed (l ++ (n, v) :: m)) (packedLength l) n = v := by
  have hbytes : packed (l ++ (n, v) :: m) = packed l ++ (toBE n v ++ packed m) := packed_append l _
  rw [field, slice, hbytes, List.drop_left' (length_packed l), List.take_left' (length_toBE n v), beNat_toBE n v h]

/-! ### The checksum of a record -/

theorem crcBit_lt (poly c : Nat) (hpoly : poly < 2 ^ 32) (hc : c < 2 ^ 32) : crcBit poly c < 2 ^ 32 := by
  unfold crcBit
  split
  · exact Nat.xor_lt_two_pow (by omega) hpoly
  · omega

/-- What every application of a function keeps, its iteration keeps. -/
theorem iter_keeps {α : Type} (P : α → Prop) (f : α → α) (hf : ∀ a, P a → P (f a)) (n : Nat) (a : α) (ha : P a) : P (iter f n a) := by
  induction n generalizing a with
  | zero => exact ha
  | succ n ih => exact ih (f a) (hf a ha)

theorem crcByte_lt (poly c : Nat) (b : Byte) (hpoly : poly < 2 ^ 32) (hc : c < 2 ^ 32) : crcByte poly c b < 2 ^ 32 :=
  iter_keeps (· < 2 ^ 32) _ (fun c hc => crcBit_lt poly c hpoly hc) 8 _ (Nat.xor_lt_two_pow hc (by omega))

theorem crc32cRaw_lt (init : Nat) (bs : List Byte) (h : init < 2 ^ 32) : crc32cRaw init bs < 2 ^ 32 := by
  unfold crc32cRaw
  induction bs generalizing init with
  | nil => exact h
  | cons b bs ih => exact ih _ (crcByte_lt _ _ b (by decide) h)

/-- The checksum is a number of four bytes. -/
theorem crc32c_lt (bs : List Byte) : crc32c bs < 2 ^ 32 := Nat.xor_lt_two_pow (crc32cRaw_lt _ bs (by decide)) (by decide)

/-! ### Decision records (Table DEC-1) -/

theorem boolNat_lt (b : Bool) : boolNat b < 2 := by cases b <;> decide

/-- A bit that was written as the number of a BOOL reads as that BOOL. -/
theorem bit_eq (n i : Nat) (b : Bool) (h : n / 2 ^ i % 2 = boolNat b) : bit n i = b := by
  rw [bit, h]
  cases b <;> rfl

/-- The byte of type, decider, lane and test. -/
def kindByte (r : Rec) : Nat := r.typ * 64 + r.dec * 32 + r.lane * 16 + boolNat r.test * 8

/-- The byte of flags. -/
def flagByte (r : Rec) : Nat :=
  boolNat r.peer * 128 + boolNat r.hostCopy * 64 + boolNat r.routed * 32 + boolNat r.encap * 16 + boolNat r.terminate * 8
    + boolNat r.ttlDec * 4 + boolNat r.streamValid * 2 + boolNat r.learnReq

/-- The byte of traffic class, colour, protection and queue selection. -/
def classByte (r : Rec) : Nat := r.tc * 32 + r.colour * 8 + boolNat r.prot * 4 + r.qsel

theorem kindByte_fields (r : Rec) (htyp : r.typ < 4) (hdec : r.dec < 2) (hlane : r.lane < 2) :
    kindByte r < 256 ∧ bits (kindByte r) 7 6 = r.typ ∧ bits (kindByte r) 5 5 = r.dec ∧ bits (kindByte r) 4 4 = r.lane
      ∧ bit (kindByte r) 3 = r.test := by
  have htest := boolNat_lt r.test
  refine ⟨?_, ?_, ?_, ?_, bit_eq _ _ _ ?_⟩ <;> simp only [kindByte, bits] <;> omega

theorem flagByte_fields (r : Rec) :
    flagByte r < 256 ∧ bit (flagByte r) 7 = r.peer ∧ bit (flagByte r) 6 = r.hostCopy ∧ bit (flagByte r) 5 = r.routed
      ∧ bit (flagByte r) 4 = r.encap ∧ bit (flagByte r) 3 = r.terminate ∧ bit (flagByte r) 2 = r.ttlDec
      ∧ bit (flagByte r) 1 = r.streamValid ∧ bit (flagByte r) 0 = r.learnReq := by
  have h7 := boolNat_lt r.peer
  have h6 := boolNat_lt r.hostCopy
  have h5 := boolNat_lt r.routed
  have h4 := boolNat_lt r.encap
  have h3 := boolNat_lt r.terminate
  have h2 := boolNat_lt r.ttlDec
  have h1 := boolNat_lt r.streamValid
  have h0 := boolNat_lt r.learnReq
  refine ⟨?_, bit_eq _ _ _ ?_, bit_eq _ _ _ ?_, bit_eq _ _ _ ?_, bit_eq _ _ _ ?_, bit_eq _ _ _ ?_, bit_eq _ _ _ ?_, bit_eq _ _ _ ?_,
    bit_eq _ _ _ ?_⟩ <;> simp only [flagByte] <;> omega

theorem classByte_fields (r : Rec) (htc : r.tc < 8) (hcolour : r.colour < 4) (hqsel : r.qsel < 4) :
    classByte r < 256 ∧ bits (classByte r) 7 5 = r.tc ∧ bits (classByte r) 4 3 = r.colour ∧ bit (classByte r) 2 = r.prot
      ∧ bits (classByte r) 1 0 = r.qsel := by
  have hprot := boolNat_lt r.prot
  refine ⟨?_, ?_, ?_, bit_eq _ _ _ ?_, ?_⟩ <;> simp only [classByte, bits] <;> omega

/-- The rows of Table DEC-1 ahead of the crc: the length of each, and what it holds. -/
def recRows (r : Rec) : List (Nat × Nat) :=
  [(8, r.seq), (4, r.gen), (4, r.rsGen), (1, kindByte r), (1, r.action), (2, r.target), (1, flagByte r), (1, classByte r), (2, r.queue),
   (2, r.stream), (2, r.nextHop), (2, r.vidOut), (1, r.dropReason), (1, r.prov * 32), (4, r.keyCrc), (1, r.member), (3, 0), (4, r.info)]

/-- The lengths of these rows. -/
def recLengths : List Nat := [8, 4, 4, 1, 1, 2, 1, 1, 2, 2, 2, 2, 1, 1, 4, 1, 3, 4]

theorem map_recRows (r : Rec) : (recRows r).map (·.1) = recLengths := rfl

theorem body_eq_packed (r : Rec) : r.body = packed (recRows r) := by
  simp [Rec.body, packed, recRows, kindByte, flagByte, classByte, u8b, u16b, u32b, u64b]

theorem encode_eq_packed (r : Rec) : r.encode = packed (recRows r ++ [(4, crc32c r.body)]) := by
  rw [packed_append, ← body_eq_packed]
  simp [Rec.encode, packed, u32b]

theorem packedLength_recRows (r : Rec) : packedLength (recRows r) = 44 := by
  rw [packedLength, map_recRows]
  decide

theorem length_body (r : Rec) : r.body.length = 44 := by rw [body_eq_packed, length_packed, packedLength_recRows]

theorem length_encode (r : Rec) : r.encode.length = 48 := by
  rw [Rec.encode, List.length_append, length_body, u32b, length_toBE]

theorem crcGood_encode (r : Rec) : crcGood r.encode = true := by
  have hcrc : field r.encode 44 4 = crc32c r.body := by
    rw [encode_eq_packed, ← packedLength_recRows r, field_packed (recRows r) [] 4 _ (crc32c_lt _)]
  have hbody : r.encode.take 44 = r.body := List.take_left' (length_body r)
  simp [crcGood, length_encode, hcrc, hbody]

/-- Row `k` of Table DEC-1 is read at its offset. -/
theorem row_encode (r : Rec) (k off n v : Nat) (hrow : (recRows r)[k]? = some (n, v)) (hoff : (recLengths.take k).sum = off)
    (h : v < 256 ^ n) : field r.encode off n = v := by
  obtain ⟨hk, hget⟩ := List.getElem?_eq_some_iff.mp hrow
  have hsplit : recRows r = (recRows r).take k ++ (n, v) :: (recRows r).drop (k + 1) := by
    rw [← hget, List.getElem_cons_drop, List.take_append_drop]
  have hstart : packedLength ((recRows r).take k) = off := by rw [packedLength, List.map_take, map_recRows, hoff]
  rw [encode_eq_packed, hsplit, List.append_assoc, List.cons_append, ← hstart]
  exact field_packed _ _ n v h

theorem decodeRec_encode (r : Rec) (h : recFits r) : decodeRec r.encode = r := by
  obtain ⟨⟨hseq, hgen, hrsGen, htyp, hdec, hlane, haction, htarget⟩, ⟨htc, hcolour, hqsel, hqueue, hstream, hnextHop, hvidOut⟩,
    hdrop, hprov, hkeyCrc, hmember, hinfo⟩ := h
  obtain ⟨hkind, ktyp, kdec, klane, ktest⟩ := kindByte_fields r htyp hdec hlane
  obtain ⟨hflag, peer, hostCopy, routed, encap, terminate, ttlDec, streamValid, learnReq⟩ := flagByte_fields r
  obtain ⟨hclass, ctc, ccolour, cprot, cqsel⟩ := classByte_fields r htc hcolour hqsel
  have readSeq : field r.encode 0 8 = r.seq := row_encode r 0 _ _ _ rfl rfl hseq
  have readGen : field r.encode 8 4 = r.gen := row_encode r 1 _ _ _ rfl rfl hgen
  have readRsGen : field r.encode 12 4 = r.rsGen := row_encode r 2 _ _ _ rfl rfl hrsGen
  have readKind : field r.encode 16 1 = kindByte r := row_encode r 3 _ _ _ rfl rfl hkind
  have readAction : field r.encode 17 1 = r.action := row_encode r 4 _ _ _ rfl rfl haction
  have readTarget : field r.encode 18 2 = r.target := row_encode r 5 _ _ _ rfl rfl htarget
  have readFlags : field r.encode 20 1 = flagByte r := row_encode r 6 _ _ _ rfl rfl hflag
  have readClass : field r.encode 21 1 = classByte r := row_encode r 7 _ _ _ rfl rfl hclass
  have readQueue : field r.encode 22 2 = r.queue := row_encode r 8 _ _ _ rfl rfl hqueue
  have readStream : field r.encode 24 2 = r.stream := row_encode r 9 _ _ _ rfl rfl hstream
  have readNextHop : field r.encode 26 2 = r.nextHop := row_encode r 10 _ _ _ rfl rfl hnextHop
  have readVidOut : field r.encode 28 2 = r.vidOut := row_encode r 11 _ _ _ rfl rfl hvidOut
  have readDrop : field r.encode 30 1 = r.dropReason := row_encode r 12 _ _ _ rfl rfl hdrop
  have readProv : field r.encode 31 1 = r.prov * 32 := row_encode r 13 _ _ _ rfl rfl (by omega)
  have readKeyCrc : field r.encode 32 4 = r.keyCrc := row_encode r 14 _ _ _ rfl rfl hkeyCrc
  have readMember : field r.encode 36 1 = r.member := row_encode r 15 _ _ _ rfl rfl hmember
  have readInfo : field r.encode 40 4 = r.info := row_encode r 17 _ _ _ rfl rfl hinfo
  have hprovBits : bits (r.prov * 32) 7 5 = r.prov := by simp only [bits]; omega
  simp only [decodeRec, byteAt_eq_field, readSeq, readGen, readRsGen, readKind, readAction, readTarget, readFlags, readClass, readQueue,
    readStream, readNextHop, readVidOut, readDrop, readProv, readKeyCrc, readMember, readInfo, hprovBits, ktyp, kdec, klane, ktest,
    peer, hostCopy, routed, encap, terminate, ttlDec, streamValid, learnReq, ctc, ccolour, cprot, cqsel]

/-- Settles O48: each row of Table DEC-1 is read at its offset, and the crc behind the body is the crc of the body. -/
theorem decisionRecordsDecodeAsEncoded : Obligations.Decision_records_decode_as_encoded :=
  fun r h => ⟨length_encode r, crcGood_encode r, decodeRec_encode r h⟩

/-! ### Elections (R227, R230, R231) -/

section
variable (d : DecId) (st : DecState) (s : Sys)

/-- A decider that is in the state already is left alone. -/
theorem enterState_cases :
    (decider s d).st = st ∧ enterState d st s = s ∨ enterState d st s = setDecider d { decider s d with st := st, since := dc s } s := by
  by_cases h : (decider s d).st = st
  · exact .inl ⟨h, if_pos h⟩
  · exact .inr (if_neg h)

theorem enterState_st : (decider (enterState d st s) d).st = st := by
  obtain ⟨hst, h⟩ | h := enterState_cases d st s
  · rw [h, hst]
  · rw [h, setDecider_self]

/-- Entering a state gives a decider no other claim, and leaves the other decider, the dictionary and the frames. -/
theorem enterState_keeps :
    (decider (enterState d st s) d).claim = (decider s d).claim ∧ decider (enterState d st s) (dother d) = decider s (dother d)
      ∧ (enterState d st s).dict = s.dict ∧ (enterState d st s).frames = s.frames := by
  obtain ⟨-, h⟩ | h := enterState_cases d st s
  · simp only [h, and_self]
  · simp only [h, setDecider_self, setDecider_dother, setDecider_dict, setDecider_frames, and_self]

end

/-- A decider that does not lead or follow is not LEADING. -/
theorem not_leading_of_not_committing (v : Decider) (h : committing v = false) : v.st ≠ .leading := by
  intro hst
  simp [committing, hst] at h

theorem committer_a (s : Sys) (ha : s.decA.st = .leading) : committer s = 0 := if_pos ha

theorem committer_b (s : Sys) (ha : s.decA.st ≠ .leading) (hb : s.decB.st = .leading) : committer s = 1 :=
  (if_neg ha).trans (if_pos hb)

theorem committer_none (s : Sys) (ha : s.decA.st ≠ .leading) (hb : s.decB.st ≠ .leading) : committer s = 2 :=
  (if_neg ha).trans (if_neg hb)

section
variable (s : Sys)

/-- A has the higher claim, or an equal one and DEC_PREFER names it. -/
def PrefersA : Prop := s.decB.claim < s.decA.claim ∨ s.decA.claim = s.decB.claim ∧ obj s 0x0500 3 = 0

/-- B has the higher claim, or an equal one and DEC_PREFER names it. -/
def PrefersB : Prop := s.decA.claim < s.decB.claim ∨ s.decA.claim = s.decB.claim ∧ obj s 0x0500 3 ≠ 0

theorem prefersB_iff : PrefersB s ↔ ¬PrefersA s := by
  unfold PrefersA PrefersB
  omega

section
variable (ha : committing s.decA = true) (hb : committing s.decB = true)
include ha hb

theorem elect_prefersA (h : PrefersA s) : elect s = enterState .b .following (enterState .a .leading s) := by
  have hleads : (decide (s.decB.claim < s.decA.claim) || (s.decA.claim == s.decB.claim && obj s 0x0500 3 == 0)) = true := by
    simpa [PrefersA] using h
  simp only [elect, ha, hb, hleads, if_true]

theorem elect_prefersB (h : PrefersB s) : elect s = enterState .b .leading (enterState .a .following s) := by
  have hleads : (decide (s.decB.claim < s.decA.claim) || (s.decA.claim == s.decB.claim && obj s 0x0500 3 == 0)) = false := by
    rw [← Bool.not_eq_true]
    simpa [PrefersA] using (prefersB_iff s).mp h
  simp only [elect, ha, hb, hleads, Bool.false_eq_true, if_false]

end

theorem elect_onlyA (ha : committing s.decA = true) (hb : committing s.decB = false) : elect s = enterState .a .leading s := by
  simp only [elect, ha, hb]

theorem elect_onlyB (ha : committing s.decA = false) (hb : committing s.decB = true) : elect s = enterState .b .leading s := by
  simp only [elect, ha, hb]

theorem elect_noClaim (ha : committing s.decA = false) (hb : committing s.decB = false) : elect s = s := by
  simp only [elect, ha, hb]

/-- An election does nothing but give deciders their states. -/
theorem elect_keeps (P : Sys → Prop) (hP : ∀ d st u, P u → P (enterState d st u)) (h : P s) : P (elect s) := by
  cases ha : committing s.decA <;> cases hb : committing s.decB
  · rwa [elect_noClaim s ha hb]
  · rw [elect_onlyB s ha hb]
    exact hP _ _ _ h
  · rw [elect_onlyA s ha hb]
    exact hP _ _ _ h
  · by_cases hpref : PrefersA s
    · rw [elect_prefersA s ha hb hpref]
      exact hP _ _ _ (hP _ _ _ h)
    · rw [elect_prefersB s ha hb ((prefersB_iff s).mpr hpref)]
      exact hP _ _ _ (hP _ _ _ h)

end

/-- A takes state `a`, then B state `b`. -/
theorem enterState_both (a b : DecState) (s : Sys) :
    (enterState .b b (enterState .a a s)).decA.st = a ∧ (enterState .b b (enterState .a a s)).decB.st = b := by
  obtain ⟨-, hother, -⟩ := enterState_keeps .b b (enterState .a a s)
  exact ⟨(congrArg Decider.st hother).trans (enterState_st .a a s), enterState_st .b b _⟩

section
variable (s : Sys)

/-- Of two deciders with a claim, A leads where it is preferred. -/
theorem elect_states_prefersA (ha : committing s.decA = true) (hb : committing s.decB = true) (h : PrefersA s) :
    (elect s).decA.st = .leading ∧ (elect s).decB.st = .following := by
  rw [elect_prefersA s ha hb h]
  exact enterState_both _ _ s

/-- Of two deciders with a claim, B leads where it is preferred. -/
theorem elect_states_prefersB (ha : committing s.decA = true) (hb : committing s.decB = true) (h : PrefersB s) :
    (elect s).decA.st = .following ∧ (elect s).decB.st = .leading := by
  rw [elect_prefersB s ha hb h]
  exact enterState_both _ _ s

/-- A leads where it alone has a claim. -/
theorem elect_states_onlyA (ha : committing s.decA = true) (hb : committing s.decB = false) :
    (elect s).decA.st = .leading ∧ (elect s).decB.st ≠ .leading := by
  rw [elect_onlyA s ha hb]
  obtain ⟨-, hother, -⟩ := enterState_keeps .a .leading s
  exact ⟨enterState_st .a .leading s, fun h => not_leading_of_not_committing _ hb ((congrArg Decider.st hother).symm.trans h)⟩

/-- B leads where it alone has a claim. -/
theorem elect_states_onlyB (ha : committing s.decA = false) (hb : committing s.decB = true) :
    (elect s).decA.st ≠ .leading ∧ (elect s).decB.st = .leading := by
  rw [elect_onlyB s ha hb]
  obtain ⟨-, hother, -⟩ := enterState_keeps .b .leading s
  exact ⟨fun h => not_leading_of_not_committing _ ha ((congrArg Decider.st hother).symm.trans h), enterState_st .b .leading s⟩

/-- Where no decider has a claim none leads. -/
theorem elect_states_noClaim (ha : committing s.decA = false) (hb : committing s.decB = false) :
    (elect s).decA.st ≠ .leading ∧ (elect s).decB.st ≠ .leading := by
  rw [elect_noClaim s ha hb]
  exact ⟨not_leading_of_not_committing _ ha, not_leading_of_not_committing _ hb⟩

theorem elect_not_both_leading : ¬((elect s).decA.st = .leading ∧ (elect s).decB.st = .leading) := by
  rintro ⟨hleadsA, hleadsB⟩
  cases ha : committing s.decA <;> cases hb : committing s.decB
  · exact (elect_states_noClaim s ha hb).1 hleadsA
  · exact (elect_states_onlyB s ha hb).1 hleadsA
  · exact (elect_states_onlyA s ha hb).2 hleadsB
  · by_cases hpref : PrefersA s
    · have hfollows := (elect_states_prefersA s ha hb hpref).2
      simp [hfollows] at hleadsB
    · have hfollows := (elect_states_prefersB s ha hb ((prefersB_iff s).mpr hpref)).1
      simp [hfollows] at hleadsA

/-- An election changes no claim and neither the dictionary nor the frames. -/
theorem elect_leaves :
    (elect s).decA.claim = s.decA.claim ∧ (elect s).decB.claim = s.decB.claim ∧ (elect s).dict = s.dict ∧ (elect s).frames = s.frames := by
  refine elect_keeps s (fun u => u.decA.claim = s.decA.claim ∧ u.decB.claim = s.decB.claim ∧ u.dict = s.dict ∧ u.frames = s.frames) ?_
    ⟨rfl, rfl, rfl, rfl⟩
  rintro d st u ⟨hclaimA, hclaimB, hdict, hframes⟩
  obtain ⟨hown, hother, hdict', hframes'⟩ := enterState_keeps d st u
  cases d
  case a => exact ⟨hown.trans hclaimA, (congrArg Decider.claim hother).trans hclaimB, hdict'.trans hdict, hframes'.trans hframes⟩
  case b => exact ⟨(congrArg Decider.claim hother).trans hclaimA, hown.trans hclaimB, hdict'.trans hdict, hframes'.trans hframes⟩

end

/-- Settles O55: each clause is one of the outcomes of an election. -/
theorem atMostOneDeciderLeads : Obligations.At_most_one_decider_leads := by
  intro s
  refine ⟨elect_not_both_leading s, fun ha hb => ⟨fun h => ?prefersA, fun h => ?prefersB⟩, fun ha hb => ?onlyA, fun ha hb => ?onlyB,
    fun ha hb => ?noClaim, elect_leaves s⟩
  case prefersA =>
    obtain ⟨hleads, hfollows⟩ := elect_states_prefersA s ha hb h
    exact ⟨hleads, hfollows, committer_a _ hleads⟩
  case prefersB =>
    obtain ⟨hfollows, hleads⟩ := elect_states_prefersB s ha hb h
    exact ⟨hfollows, hleads, committer_b _ (by simp [hfollows]) hleads⟩
  case onlyA => exact committer_a _ (elect_states_onlyA s ha hb).1
  case onlyB => exact committer_b _ (elect_states_onlyB s ha hb).1 (elect_states_onlyB s ha hb).2
  case noClaim => exact committer_none _ (elect_states_noClaim s ha hb).1 (elect_states_noClaim s ha hb).2

/-! ### Heartbeats (R241 to R243) -/

/-- A decider is rewritten: what was written before is gone. -/
@[simp] theorem setDecider_setDecider (d : DecId) (v w : Decider) (s : Sys) : setDecider d v (setDecider d w s) = setDecider d v s := by
  cases d <;> rfl

/-- An Armature word that restarts the timer: its parity and its signs of life hold, and it is the next in order (Table DEC-7). -/
def GoodWord (v : Decider) (w : Nat) : Prop :=
  oddParity 16 w = false ∧ bit w 11 ∧ bit w 10 ∧ bit w 8 ∧ bits w 15 12 = (v.lastArm + 1) % 16

theorem armatureCheck_good (d : DecId) (w : Nat) (s : Sys) (h : GoodWord (decider s d) w) :
    armatureCheck d w s = bumpBy (Ctr.decHbMissArmature (dnat d)) (missedPeriods s (decider s d).hbArm)
      (setDecider d { decider s d with lastArm := bits w 15 12, hbArm := s.now } s) := if_pos h

theorem armatureCheck_bad (d : DecId) (w : Nat) (s : Sys) (h : ¬GoodWord (decider s d) w) :
    armatureCheck d w s = bump (Ctr.decHbBad (dnat d)) s := if_neg h

section
variable (d : DecId) (s : Sys)

/-- The word on the wire of a decider is taken from it. -/
def takeWord : Sys := setDecider d { decider s d with wire := none } s

theorem decider_takeWord : decider (takeWord d s) d = { decider s d with wire := none } := setDecider_self s d _

/-- Without a word on the wire, none is received. -/
theorem armatureEffect_noWord (hwire : (decider s d).wire = none) : armatureEffect d none s = s := by
  simp [armatureEffect, hwire]

section
variable (hrun : (decider s d).running = true) (hstart : (decider s d).started = true)
include hrun hstart

/-- What a decider at work does not meet: the test that spares one that does not run or has not started. -/
theorem not_at_rest : ¬((!(decider s d).running) = true ∨ (!(decider s d).started) = true) := by
  simp [hrun, hstart]

section
variable (altered : Option Nat) (w : Nat) (hword : altered.or (decider s d).wire = some w)
include hword

/-- A word that is received is checked. -/
theorem armatureEffect_word : armatureEffect d altered s = armatureCheck d w (takeWord d s) := by
  simp only [armatureEffect, if_neg (not_at_rest d s hrun hstart), hword, takeWord]

theorem armatureEffect_good (hgood : GoodWord (decider s d) w) :
    armatureEffect d altered s = bumpBy (Ctr.decHbMissArmature (dnat d)) (missedPeriods s (decider s d).hbArm)
      (setDecider d { decider s d with wire := none, lastArm := bits w 15 12, hbArm := s.now } s) := by
  have htaken : GoodWord (decider (takeWord d s) d) w := by rwa [decider_takeWord]
  rw [armatureEffect_word d s hrun hstart altered w hword, armatureCheck_good d w _ htaken, decider_takeWord]
  simp only [takeWord, setDecider_setDecider, setDecider_now, missedPeriods]

theorem armatureEffect_bad (hbad : ¬GoodWord (decider s d) w) :
    armatureEffect d altered s = bump (Ctr.decHbBad (dnat d)) (setDecider d { decider s d with wire := none } s) := by
  have htaken : ¬GoodWord (decider (takeWord d s) d) w := by rwa [decider_takeWord]
  rw [armatureEffect_word d s hrun hstart altered w hword, armatureCheck_bad d w _ htaken, takeWord]

end

/-- A decider at work whose in-band heartbeats have stayed away for the limit of the timer is deposed with cause 1. -/
theorem heartbeatTimeoutEffect_inBand (hdue : (decider s d).hbIn + heartbeatTicks ≤ s.now) :
    heartbeatTimeoutEffect d .inBand s =
      depose d 1 (bumpBy (Ctr.decHbMissInband (dnat d)) (missedPeriods s (decider s d).hbIn) s) := by
  simp [heartbeatTimeoutEffect, hrun, hstart, Nat.not_lt.mpr hdue]

/-- A decider at work whose Armature words have stayed away for the limit of the timer is deposed with cause 2. -/
theorem heartbeatTimeoutEffect_armature (hdue : (decider s d).hbArm + heartbeatTicks ≤ s.now) :
    heartbeatTimeoutEffect d .armature s =
      depose d 2 (bumpBy (Ctr.decHbMissArmature (dnat d)) (missedPeriods s (decider s d).hbArm) s) := by
  simp [heartbeatTimeoutEffect, hrun, hstart, Nat.not_lt.mpr hdue]

end
end

/-! ### Golden vectors (R245 to R248) -/

section
variable (s : Sys)

/-- A regular run starts where none is under way or wanted, some decider is at work, and none started within 1 ms. -/
theorem goldenRunEffect_starts (hidle : s.golden = none) (hnone : s.runWanted = false) (hsome : runningDecs s ≠ [])
    (hrecent : recentRuns s = []) : goldenRunEffect s = startRun false s := by
  simp [goldenRunEffect, hidle, hnone, hsome, hrecent]

/-- Otherwise it is skipped. -/
theorem goldenRunEffect_skipped
    (h : s.golden.isSome = true ∨ s.runWanted = true ∨ (runningDecs s).isEmpty = true ∨ (recentRuns s).isEmpty = false) :
    goldenRunEffect s = s := if_pos (by simpa using h)

/-- A run that is wanted starts where none is under way, some decider is at work, and fewer than two started within 1 ms. -/
theorem triggeredRunEffect_starts (hwanted : s.runWanted = true) (hidle : s.golden = none) (hsome : runningDecs s ≠ [])
    (hrecent : (recentRuns s).length < 2) : triggeredRunEffect s = startRun true s := by
  simp [triggeredRunEffect, hwanted, hidle, hsome, hrecent]

/-- While vectors of the run are out it is not judged. -/
theorem goldenVerdictEffect_waits (h : s.decA.vectorsOut = true ∨ s.decB.vectorsOut = true) : goldenVerdictEffect s = s := by
  cases hgolden : s.golden with
  | none => simp only [goldenVerdictEffect, hgolden]
  | some e => simp only [goldenVerdictEffect, hgolden, if_pos h]

end

/-- Settles O6: each clause is the case of its command's effect that the hypotheses select. -/
theorem heartbeatsAndGoldenVectorsTakeEffect : Obligations.Heartbeats_and_golden_vectors_take_effect := by
  refine ⟨?null, ?good, ?bad, ?noWord, ?inBand, ?armature, ?run, ?skipped, ?triggered, ?verdict, ?waits⟩
  case null => exact fun t d s hrun hstart => run_eq t _ s _ _ rfl (if_neg (not_at_rest d _ hrun hstart))
  case good =>
    exact fun t d altered w s hrun hstart hword hgood => run_eq t _ s _ _ rfl (armatureEffect_good d _ hrun hstart _ w hword hgood)
  case bad =>
    exact fun t d altered w s hrun hstart hword hbad => run_eq t _ s _ _ rfl (armatureEffect_bad d _ hrun hstart _ w hword hbad)
  case noWord => exact fun t d s hwire => run_eq t _ s _ _ rfl (armatureEffect_noWord d _ hwire)
  case inBand =>
    exact fun t d s hrun hstart hdue => run_eq t _ s _ _ rfl (heartbeatTimeoutEffect_inBand d _ hrun hstart hdue)
  case armature =>
    exact fun t d s hrun hstart hdue => run_eq t _ s _ _ rfl (heartbeatTimeoutEffect_armature d _ hrun hstart hdue)
  case run =>
    exact fun t s hidle hnone hsome hrecent => run_eq t _ s _ _ rfl (goldenRunEffect_starts _ hidle hnone hsome hrecent)
  case skipped => exact fun t s h => run_eq t _ s _ _ rfl (goldenRunEffect_skipped _ h)
  case triggered =>
    exact fun t s hwanted hidle hsome hrecent => run_eq t _ s _ _ rfl (triggeredRunEffect_starts _ hwanted hidle hsome hrecent)
  case verdict =>
    intro t start triggered s x hgolden hA hB
    refine run_eq t _ s x _ rfl ?_
    have hin : ¬(x.decA.vectorsOut = true ∨ x.decB.vectorsOut = true) := by simp [hA, hB]
    simp only [goldenVerdictEffect, hgolden, if_neg hin]
  case waits => exact fun t s h => run_eq t _ s _ _ rfl (goldenVerdictEffect_waits _ h)

/-! ### The unresolved state (R248, R249) -/

theorem unresolvedEndEffect_due (s : Sys) (h : s.unresolved ≠ none) (hdue : s.lastFault + Config.ticksPerS ≤ s.now) :
    unresolvedEndEffect s = { s with unresolved := none } := if_pos ⟨Option.isSome_iff_ne_none.mpr h, hdue⟩

theorem unresolvedLatchEffect_due (start : Nat) (s : Sys) (h : s.unresolved = some start) (hlatch : s.latch = false)
    (hdue : start + obj s 0x0500 6 * Config.ticksPerMs ≤ s.now) :
    unresolvedLatchEffect s = setCause 2 0 allPorts { s with latch := true } := by
  simp [unresolvedLatchEffect, h, hlatch, hdue]

/-- DEC_UNRESOLVED_CLEAR is staged. -/
theorem writes_unresolvedClear (sid : Nat) (x : SysMem) (h : mayStage x.1 sid 0x0500 0x0F 1) :
    writes sid 0x0500 0x0F 1 x = onSys (withStaged sid 0x0500 0x0F 1) x :=
  writes_stage sid 0x0500 0x0F 1 x _ _ _ h (by rfl) rfl rfl rfl rfl rfl rfl (by decide)

/-! ### Re-admission (R251 to R253) -/

/-- A number that names a decider passes the check of DEC_READMIT. -/
theorem checkValue_readmit (s : Sys) (d : DecId) :
    checkValue s 0x0500 8 0 0 (fEnum [1, 2]) (.num (dnat d + 1 : Nat)) = (.num (dnat d + 1 : Nat), [0]) := by
  cases d <;> rfl

/-- A number that names a decider passes the check of DEC_RAISE. -/
theorem checkValue_raise (s : Sys) (d : DecId) :
    checkValue s 0x0500 9 0 0 (fEnum [0, 1, 2]) (.num (dnat d + 1 : Nat)) = (.num (dnat d + 1 : Nat), [0]) := by
  cases d <;> rfl

/-- DEC_READMIT at its commit point. -/
theorem commandEffect_readmit (sid txn : Nat) (d : DecId) (x : SysMem) (h : (decider x.1 d).st = .deposed) :
    commandEffect sid txn 0x0500 8 (.num (dnat d + 1 : Nat)) x = (onSys (readmit d) x, none) := by
  cases d <;> simp [commandEffect, Value.toNat, Value.toInt, dnat, h, onSys]

theorem writes_readmit (sid : Nat) (d : DecId) (x : SysMem) (hmay : mayCommand x.1 sid 0x0500 8 (dnat d + 1))
    (hst : (decider (commandPoint sid x).1 d).st = .deposed) :
    writes sid 0x0500 8 (dnat d + 1) x = settled sid x (onSys (readmit d) (commandPoint sid x)) :=
  writes_command sid 0x0500 8 _ x _ _ _ _ hmay (by rfl) rfl rfl rfl rfl (checkValue_readmit x.1 d) rfl (by simp) (by decide) (by decide)
    (commandEffect_readmit sid 0 d _ hst)

/-- DEC_RAISE is staged. -/
theorem writes_raise (sid : Nat) (d : DecId) (x : SysMem) (h : mayStage x.1 sid 0x0500 9 (dnat d + 1)) :
    writes sid 0x0500 9 (dnat d + 1) x = onSys (withStaged sid 0x0500 9 (dnat d + 1)) x :=
  writes_stage sid 0x0500 9 _ x _ _ _ h (by rfl) rfl rfl rfl rfl rfl (checkValue_raise x.1 d) (by decide)

/-- A decider that has loaded starts in SHADOW with its numbers at 0 (Table DEC-8). -/
def enterShadow (d : DecId) (s : Sys) : Sys :=
  setDecider d { (decider s d).begin s.now with st := .shadow, since := dc s, eligible := false, lastNull := 0, nullCount := 0, lastArm := 0,
                                                armSent := 0, done0 := 0, done1 := 0, got0 := 0, got1 := 0 } s

/-- The run of a decider that has loaded decides between SHADOW and DEPOSED with cause 3. -/
theorem readmitDoneEffect_loading (d : DecId) (shown : List (Nat × List Byte)) (s : Sys) (hst : (decider s d).st = .loading) :
    readmitDoneEffect d shown s =
      let j := judge d (shownFail shown 0) (shownFail shown 1) (syncStatic d s)
      if j.2 then claimPoint (enterShadow d) j.1 else depose d 3 j.1 := by
  have hpasses (b : Bool) (u v : Sys) : (if (!b) = true then u else v) = if b then v else u := by cases b <;> rfl
  exact (if_neg (not_not_intro hst)).trans (hpasses _ _ _)

theorem shadowCleanEffect_due (d : DecId) (s : Sys) (hst : (decider s d).st = .shadow)
    (hdue : (decider s d).clean + obj s 0x0500 7 * Config.ticksPerS ≤ s.now) :
    shadowCleanEffect d s = setDecider d { decider s d with eligible := true } s := if_pos ⟨hst, hdue⟩

/-! ### The skew sweep (R257) -/

/-- The sweep that group `g` joins: the first group starts one. -/
def sweepAt (s : Sys) (g : Nat) : Sweep := if g = 0 then {} else s.sweep.getD {}

section
variable (g : Nat) (s : Sys)

/-- A sweep ends where a decider does not run. -/
theorem skewSweepEffect_stopped (h : s.decA.running = false ∨ s.decB.running = false) :
    skewSweepEffect g s = { s with sweep := none } := if_pos (by simpa using h)

section
variable (ha : s.decA.running = true) (hb : s.decB.running = true)
include ha hb

theorem sweep_not_stopped : ¬((!s.decA.running) = true ∨ (!s.decB.running) = true) := by simp [ha, hb]

/-- A sweep pauses while maintenance is traded away (Table NRG-2). -/
theorem skewSweepEffect_paused (h : 3 ≤ traded s) : skewSweepEffect g s = s := (if_neg (sweep_not_stopped s ha hb)).trans (if_pos h)

section
variable (htraded : traded s < 3)
include htraded

/-- Else it is the turn of one group. -/
theorem skewSweepEffect_goesOn :
    skewSweepEffect g s =
      if (sweepAt s g).next ≠ g then s
      else if g = 63 then skewEnd ((sweepAt s g).take s g) { s with sweep := none }
      else { s with sweep := some ((sweepAt s g).take s g) } :=
  (if_neg (sweep_not_stopped s ha hb)).trans (if_neg (Nat.not_le.mpr htraded))

/-- A group out of its turn is not compared. -/
theorem skewSweepEffect_outOfTurn (hturn : (sweepAt s g).next ≠ g) : skewSweepEffect g s = s := by
  rw [skewSweepEffect_goesOn g s ha hb htraded, if_pos hturn]

section
variable (hturn : (sweepAt s g).next = g)
include hturn

/-- A group in its turn is compared. -/
theorem skewSweepEffect_group (hmore : g ≠ 63) : skewSweepEffect g s = { s with sweep := some ((sweepAt s g).take s g) } := by
  rw [skewSweepEffect_goesOn g s ha hb htraded, if_neg (not_not_intro hturn), if_neg hmore]

/-- The last group ends the sweep. -/
theorem skewSweepEffect_last (hlast : g = 63) : skewSweepEffect g s = skewEnd ((sweepAt s g).take s g) { s with sweep := none } := by
  rw [skewSweepEffect_goesOn g s ha hb htraded, if_neg (not_not_intro hturn), if_pos hlast]

end
end
end
end

/-- A sweep of a group that a running steward of a device out of start-up makes. -/
theorem run_skewSweep (t g : Nat) (s : State) (y : Sys) (hrun : stewardsRun (sysAt t s) = true) (hready : (sysAt t s).devState ≠ 0)
    (h : skewSweepEffect g (sysAt t s) = y) : run t (bySteward (onceReady (skewSweepEffect g))) s = .next (leavesSys t s y) :=
  run_bySteward_eq t _ s y hrun ((if_neg hready).trans h)

/-- Settles O7: each clause is the case of its command's effect that the hypotheses select. -/
theorem unresolvedStateAndReadmissionTakeEffect : Obligations.Unresolved_state_and_readmission_take_effect := by
  refine ⟨?ends, ?latch, ?clear, ?readmit, ?loadDone, ?clean, ?raise, ?group, ?last, ?outOfTurn, ?paused, ?stopped⟩
  case ends => exact fun t s h hdue => run_eq t _ s _ _ rfl (unresolvedEndEffect_due _ h hdue)
  case latch => exact fun t start s h hlatch hdue => run_eq t _ s _ _ rfl (unresolvedLatchEffect_due start _ h hlatch hdue)
  case clear => exact fun t sid s h => runMem_eq t _ s _ _ rfl (writes_unresolvedClear sid _ h)
  case readmit => exact fun t sid d s hmay hst => runMem_eq t _ s _ _ rfl (writes_readmit sid d _ hmay hst)
  case loadDone => exact fun t d shown s hst => run_eq t _ s _ _ rfl (readmitDoneEffect_loading d _ _ hst)
  case clean => exact fun t d s hst hdue => run_eq t _ s _ _ rfl (shadowCleanEffect_due d _ hst hdue)
  case raise => exact fun t sid d s h => runMem_eq t _ s _ _ rfl (writes_raise sid d _ h)
  case group =>
    exact fun t g s hrun hready ha hb htraded hturn hmore =>
      run_skewSweep t g.val s _ hrun hready (skewSweepEffect_group g.val _ ha hb htraded hturn hmore)
  case last =>
    exact fun t g s hrun hready ha hb htraded hturn hlast =>
      run_skewSweep t g.val s _ hrun hready (skewSweepEffect_last g.val _ ha hb htraded hturn hlast)
  case outOfTurn =>
    exact fun t g s hrun hready ha hb htraded hturn =>
      run_skewSweep t g.val s _ hrun hready (skewSweepEffect_outOfTurn g.val _ ha hb htraded hturn)
  case paused =>
    exact fun t g s hrun hready ha hb htraded => run_skewSweep t g.val s _ hrun hready (skewSweepEffect_paused g.val _ ha hb htraded)
  case stopped => exact fun t g s hrun hready h => run_skewSweep t g.val s _ hrun hready (skewSweepEffect_stopped g.val _ h)

end Sys2Proof.Proofs
end

section
/-! PROOFS. The fabric: cells and copies that cross, the deep store, and the buffer pools. -/

namespace Sys2Proof.Proofs

open Sys2Proof.Machine Sys2Proof.Safety Sys2Proof.Laws

/-! ### Cells that arrive (R261) -/

/-- The frames of the parts of a cell that failed: each crossing lost bytes, and a frame that starts in the cell is lost. -/
def loseParts (parts : List CellPart) (s : Sys) : Sys :=
  parts.foldl (fun y e =>
    let z := xing y e.xing
    let y := loseXing e.xing y
    reap z.frame (if e.starts then bump Ctr.xbarFrameLost (setXing e.xing { z with lost := true } y) else y)) s

section
variable (i o c : Nat) (altered : Option (List Byte)) (s : Sys)

/-- Where no cell is under way, none arrives. -/
theorem cellArrivalEffect_none (hnone : SMap.get [] s.xcells (xkey i o c) = []) : cellArrivalEffect i o c altered s = s := by
  simp only [cellArrivalEffect, hnone]

section
variable (cell_ : XCell) (rest : List XCell) (hcell : SMap.get [] s.xcells (xkey i o c) = cell_ :: rest)
include hcell

/-- A cell whose hcrc and cseq are good hands its parts over, and the next one of its crossing queue is expected. -/
theorem cellArrivalEffect_good
    (hcrc : crc8 ((padRight 16 (altered.getD cell_.header)).take 15) = byteAt (padRight 16 (altered.getD cell_.header)) 15)
    (hseq : field (padRight 16 (altered.getD cell_.header)) 4 2 = SMap.get 0 s.xrx (xkey i o c)) :
    cellArrivalEffect i o c altered s = takeParts cell_.parts
      { s with xcells := SMap.set [] s.xcells (xkey i o c) rest,
               xrx := SMap.set 0 s.xrx (xkey i o c) ((SMap.get 0 s.xrx (xkey i o c) + 1) % 65536) } := by
  simp only [cellArrivalEffect, hcell]
  exact if_pos ⟨beq_iff_eq.mpr hcrc, hseq⟩

/-- Any other cell is counted and its parts are lost; behind a good hcrc its cseq says which cell is next. -/
theorem cellArrivalEffect_failed
    (hfail : ¬(crc8 ((padRight 16 (altered.getD cell_.header)).take 15) = byteAt (padRight 16 (altered.getD cell_.header)) 15
      ∧ field (padRight 16 (altered.getD cell_.header)) 4 2 = SMap.get 0 s.xrx (xkey i o c))) :
    let h := padRight 16 (altered.getD cell_.header)
    cellArrivalEffect i o c altered s = loseParts cell_.parts (bump Ctr.xbarCellErr
      { s with xcells := SMap.set [] s.xcells (xkey i o c) rest,
               xrx := SMap.set 0 s.xrx (xkey i o c)
                 (if crc8 (h.take 15) = byteAt h 15 then (field h 4 2 + 1) % 65536 else SMap.get 0 s.xrx (xkey i o c)) }) := by
  simp only [cellArrivalEffect, hcell, beq_iff_eq, if_neg hfail, loseParts]

end
end

/-! ### Copies that meet their queue (R325) -/

/-- Whether a copy is a Gramus frame of a steward. -/
def ofGramus (c : Copy) : Bool := match c.kind with | .steward g => g | _ => false

/-- Whether the silence of its port refuses a copy; ports 74 and 75 are never silent (R440). -/
abbrev Silent (s : Sys) (c : Copy) : Prop :=
  silenced s (txPort s c.port) (protects s c.sel.tc) (ofGramus c) = true ∧ c.port ≠ 74 ∧ c.port ≠ 75

theorem not_silent_iff (s : Sys) (c : Copy) :
    ¬Silent s c ↔ silenced s (txPort s c.port) (protects s c.sel.tc) (ofGramus c) = false ∨ c.port = 74 ∨ c.port = 75 := by
  simp only [Silent, not_and_or, Bool.not_eq_true, not_not]

/-- A copy that does not cross is left alone. -/
theorem enqueueEffect_notCrossing (id : Nat) (s : Sys) (hst : (copy s id).st ≠ .crossing) : enqueueEffect id s = s := if_neg hst

section
variable (id : Nat) (s : Sys) (hcopy : hasCopy s id = true) (hst : (copy s id).st = .crossing)
include hcopy hst

/-- What becomes of a copy that crosses: silence comes first, then the recorder's brown-out, then the state of the port. -/
theorem enqueueEffect_crossing : enqueueEffect id s =
    if Silent s (copy s id) then dropAs false (Ctr.safSilentDrop (txPort s (copy s id).port)) id s
    else if (copy s id).port = 74 ∧ 2 ≤ traded s then removeCopy id (bump Ctr.recTradedDrop s)
    else if admin s (copy s id).port = true ∧ portTakes s (copy s id).port = true then offerCopy id s
    else dropCopy (Ctr.txLinkDownDrop (copy s id).port) id s := by
  have hmeets : ¬(((copy s id).st ≠ .crossing ∧ (copy s id).st ≠ .waiting) ∨ (!hasCopy s id) = true) := by simp [hcopy, hst]
  refine (if_pos hst).trans ((if_neg hmeets).trans ?_)
  cases hadmin : admin s (copy s id).port <;> cases htakes : portTakes s (copy s id).port <;> rfl

/-- A silent port refuses the copy. -/
theorem enqueueEffect_silent (hsilent : Silent s (copy s id)) :
    enqueueEffect id s = dropAs false (Ctr.safSilentDrop (txPort s (copy s id).port)) id s := by
  rw [enqueueEffect_crossing id s hcopy hst, if_pos hsilent]

/-- The recorder takes no copy in a brown-out: the copy is traded away. -/
theorem enqueueEffect_traded (hrec : (copy s id).port = 74) (htraded : 2 ≤ traded s) :
    enqueueEffect id s = removeCopy id (bump Ctr.recTradedDrop s) := by
  have hheard : ¬Silent s (copy s id) := fun hsilent => hsilent.2.1 hrec
  rw [enqueueEffect_crossing id s hcopy hst, if_neg hheard, if_pos ⟨hrec, htraded⟩]

/-- A copy that is neither silenced nor traded away is offered where its port is on and takes it. -/
theorem enqueueEffect_heard (hheard : ¬Silent s (copy s id)) (hkept : ¬((copy s id).port = 74 ∧ 2 ≤ traded s)) :
    enqueueEffect id s =
      if admin s (copy s id).port = true ∧ portTakes s (copy s id).port = true then offerCopy id s
      else dropCopy (Ctr.txLinkDownDrop (copy s id).port) id s := by
  rw [enqueueEffect_crossing id s hcopy hst, if_neg hheard, if_neg hkept]

end

/-! ### Pools -/

section
variable (k : Nat) (p : Pool) (s : Sys)

@[simp] theorem setPool_frames : (setPool k p s).frames = s.frames := by unfold setPool; split <;> rfl

/-- A pool that keeps its size leaves every unit where it is (R275). -/
theorem unitOf_setPool (j b : Nat) (hsize : p.buffers = (pool s k).buffers) : unitOf (setPool k p s) j b = unitOf s j b := by
  have hbase : poolBase (setPool k p s) j = poolBase s j := by
    match k, j with
    | 0, 0 | 0, 1 | 0, _ + 2 | 1, 0 | 1, 1 | 1, _ + 2 => simp only [poolBase, setPool, hsize, pool]
    | _ + 2, _ => rfl
  rw [unitOf, hbase, unitOf]

/-- A pool that keeps its size changes no block of a stored copy (R274). -/
theorem deepBlocks_setPool (c : Copy) (hsize : p.buffers = (pool s k).buffers) : deepBlocks (setPool k p s) c = deepBlocks s c := by
  simp only [deepBlocks, unitOf_setPool k p s _ _ hsize, frame, setPool_frames]

end

/-! ### The deep store (R268, R274) -/

/-- The copies that share the buffer of copy `c`. -/
def mates (s : Sys) (c : Copy) : List Nat := ((allCopies s).filter (fun e => e.2.buffer == c.buffer)).map (·.1)

/-- Whether a copy carries a frame as received that was found bad, and is not the recorder's (R268, R461). -/
def BadTail (s : Sys) (c : Copy) : Prop := (frame s c.frame).bad = true ∧ c.body.isNone = true ∧ c.isRecorder = false

/-- The owner map of a pool gets a new entry (R277). -/
def giveOwner (k b code : Nat) (s : Sys) : Sys := setPool k { pool s k with owner := SMap.set 0 (pool s k).owner b code } s

/-- A new owner moves no block. -/
theorem deepBlocks_giveOwner (k b code : Nat) (s : Sys) (c : Copy) : deepBlocks (giveOwner k b code s) c = deepBlocks s c :=
  deepBlocks_setPool k _ s c rfl

/-- The buffer handed to the tile of copy `c`, with its blocks asked for. -/
def handOver (k b : Nat) (c : Copy) (s : Sys) : Sys :=
  { giveOwner k b (1 + c.tile) s with wq := s.wq ++ deepBlocks (giveOwner k b (1 + c.tile) s) c }

section
variable (id : Nat) (s : Sys)

/-- A copy without a buffer, or written before, has nothing to write. -/
theorem deepWriteEffect_nothing (h : (copy s id).buffer = none ∨ (copy s id).written = true) : deepWriteEffect id s = s := by
  cases hbuffer : (copy s id).buffer with
  | none => simp only [deepWriteEffect, hbuffer]
  | some e =>
    have hwritten : (copy s id).written = true := h.resolve_left (by simp [hbuffer])
    simp only [deepWriteEffect, hbuffer, hwritten, if_true]

section
variable (k b : Nat) (hbuffer : (copy s id).buffer = some (k, b)) (hwritten : (copy s id).written = false)
include hbuffer hwritten

/-- A frame found bad is dropped with every copy of its buffer. -/
theorem deepWriteEffect_bad (hbad : BadTail s (copy s id)) : deepWriteEffect id s =
    (mates s (copy s id)).foldl (fun y i => dropCopy (Ctr.fabBadTailDrop (txPort y (copy y i).port)) i y) s := by
  obtain ⟨hb, hbody, hrec⟩ := hbad
  simp [deepWriteEffect, hbuffer, hwritten, hb, hbody, hrec, mates]

/-- Else the tile owns the buffer, and every copy of it is eligible. -/
theorem deepWriteEffect_written (hgood : ¬BadTail s (copy s id)) : deepWriteEffect id s =
    let y := handOver k b (copy s id) s
    freeCells (copy s id).xing
      ((mates y (copy s id)).foldl (fun y i => updCopy i (fun c => { c with written := true, ready := true }) y) y) := by
  have hkeep : ¬((frame s (copy s id).frame).bad = true ∧ (copy s id).body.isNone = true ∧ (!(copy s id).isRecorder) = true) := by
    simpa [BadTail] using hgood
  simp only [deepWriteEffect, hbuffer, hwritten, Bool.false_eq_true, if_false, if_neg hkeep, handOver, deepBlocks_giveOwner, mates]
  rfl

end
end

/-- Settles O10: each clause is the case of its command's effect that the hypotheses select. -/
theorem cellsAndCopiesCross : Obligations.Cells_and_copies_cross := by
  refine ⟨?matcher, ?cellGood, ?cellFailed, ?cellNone, ?offered, ?linkDown, ?silent, ?traded, ?notCrossing, ?written, ?badTail, ?nothing⟩
  case matcher => exact fun t s => run_eq t _ s _ _ rfl rfl
  case cellGood =>
    exact fun t src dst tc altered cell_ rest s hcell hcrc hseq =>
      run_eq t _ s _ _ rfl (cellArrivalEffect_good _ _ _ altered _ cell_ rest hcell hcrc hseq)
  case cellFailed =>
    exact fun t src dst tc altered cell_ rest s hcell hfail =>
      run_eq t _ s _ _ rfl (cellArrivalEffect_failed _ _ _ altered _ cell_ rest hcell hfail)
  case cellNone => exact fun t src dst tc altered s hnone => run_eq t _ s _ _ rfl (cellArrivalEffect_none _ _ _ altered _ hnone)
  case offered =>
    intro t id s x hcopy hst hsilence htraded hadmin htakes
    have hheard := (not_silent_iff x _).mpr hsilence
    refine run_eq t _ s x _ rfl ?_
    rw [enqueueEffect_heard id x hcopy hst hheard (by omega), if_pos ⟨hadmin, htakes⟩]
  case linkDown =>
    intro t id s x hcopy hst hsilence htraded hdown
    have hheard := (not_silent_iff x _).mpr hsilence
    refine run_eq t _ s x _ rfl ?_
    rw [enqueueEffect_heard id x hcopy hst hheard (by omega), if_neg (by simpa only [not_and_or, Bool.not_eq_true] using hdown)]
  case silent =>
    exact fun t id s hcopy hst hsilenced hport => run_eq t _ s _ _ rfl (enqueueEffect_silent id _ hcopy hst ⟨hsilenced, hport⟩)
  case traded =>
    exact fun t id s hcopy hst hrec htraded => run_eq t _ s _ _ rfl (enqueueEffect_traded id _ hcopy hst hrec htraded)
  case notCrossing => exact fun t id s hst => run_eq t _ s _ _ rfl (enqueueEffect_notCrossing id _ hst)
  case written =>
    exact fun t id k b s hbuffer hwritten hgood => run_eq t _ s _ _ rfl (deepWriteEffect_written id _ k b hbuffer hwritten hgood)
  case badTail =>
    exact fun t id k b s hbuffer hwritten hbad => run_eq t _ s _ _ rfl (deepWriteEffect_bad id _ k b hbuffer hwritten hbad)
  case nothing => exact fun t id s h => run_eq t _ s _ _ rfl (deepWriteEffect_nothing id _ h)

/-! ### Buffers that are freed (R277, R278, R280) -/

/-- The owner code of an agent. -/
def ownCode (agent : Nat) : Nat := if agent = 9 then 0xB else 1 + agent

/-- Whether a block of a buffer is poisoned. -/
def poisoned (k b : Nat) (s : Sys) : Bool := (List.range (unitsPer k)).any (fun i => s.poison.contains (unitOf s k b + i))

/-- A pool to which buffer `b` is given back, as a free one or as one in quarantine, with the part that it was taken from. -/
def giveBack (b : Nat) (bad : Bool) (p : Pool) : Pool :=
  let res := SMap.get false p.part b
  { p with owner := SMap.set 0 p.owner b (if bad then 0xC else 0), part := SMap.set false p.part b false,
           shared := if res then p.shared else p.shared - 1, reserve := if res then p.reserve - 1 else p.reserve }

/-- Whether a rebuild has still to pass buffer `b`. -/
def leftToScan (b : Nat) (p : Pool) : Bool := p.rebuild.isSome && decide (p.scanned ≤ b)

/-- The free of a buffer whose owner code is `own`: a full fill block is written with the buffer as its holder, and the buffer is
threaded, unless it is in quarantine or left to a rebuild. -/
def freeOwned (k b own : Nat) (s : Sys) : Sys :=
  let q := giveBack b (poisoned k b s) (pool s k)
  let z := if !poisoned k b s ∧ !leftToScan b q ∧ q.fill.length ≥ 120
    then { s with wq := s.wq ++ [(unitOf s k b, linkBlock k b (chainHead q) q.fill)] } else s
  uncharge k b (own - 1) (relevel k (setPool k (if poisoned k b s || leftToScan b q then q else threadFree b q) z))

section
variable (k b agent : Nat) (s : Sys)

/-- By anybody else than its owner, or beyond the pool, no buffer is freed. -/
theorem bufferFreeEffect_rejected
    (h : (pool (scanNow k s) k).buffers ≤ b ∨ SMap.get 0 (pool (scanNow k s) k).owner b ≠ ownCode agent) :
    bufferFreeEffect k b agent s =
      raise 0x0605 2 (u8b k ++ u32b b ++ u8b (if (pool (scanNow k s) k).buffers ≤ b then 0xE else ownCode agent))
        (bump Ctr.bpmBadFree (scanNow k s)) := by
  by_cases hbeyond : (pool (scanNow k s) k).buffers ≤ b
  · simp only [bufferFreeEffect, freeBuffer, if_pos hbeyond]
  · have hother := h.resolve_left hbeyond
    rw [ownCode] at hother
    simp only [bufferFreeEffect, freeBuffer, if_neg hbeyond, if_pos hother, ownCode]

/-- By its owner it is. -/
theorem bufferFreeEffect_owned (hin : b < (pool (scanNow k s) k).buffers)
    (hown : SMap.get 0 (pool (scanNow k s) k).owner b = ownCode agent) :
    bufferFreeEffect k b agent s = freeOwned k b (ownCode agent) (scanNow k s) := by
  have hfree : freeBuffer k b agent s = (freeOwned k b (SMap.get 0 (pool (scanNow k s) k).owner b) (scanNow k s), true) :=
    (if_neg (Nat.not_le.mpr hin)).trans (if_neg (not_not_intro hown))
  rw [bufferFreeEffect, hfree, hown]

end

/-! ### Pools that are rebuilt (R280) -/

/-- A number that names a pool passes the check of POOL_REBUILD. -/
theorem checkValue_rebuild (s : Sys) (k : Fin 3) :
    checkValue s 0x0680 4 0 0 (fEnum [1, 2, 3]) (.num (k.val + 1 : Nat)) = (.num (k.val + 1 : Nat), [0]) := by
  match k with
  | 0 | 1 | 2 => rfl

/-- POOL_REBUILD at its commit point. -/
theorem commandEffect_rebuild (sid txn k : Nat) (x : SysMem) :
    commandEffect sid txn 0x0680 4 (.num (k + 1 : Nat)) x = (onSys (startRebuild k) x, none) := by
  have hn : (Value.num ((k + 1 : Nat) : Int)).toNat = k + 1 := Int.toNat_natCast (k + 1)
  simp only [commandEffect, hn]
  rfl

theorem writes_rebuild (sid : Nat) (k : Fin 3) (x : SysMem) (hmay : mayCommand x.1 sid 0x0680 4 (k.val + 1)) :
    writes sid 0x0680 4 (k.val + 1) x = settled sid x (onSys (startRebuild k.val) (commandPoint sid x)) :=
  writes_command sid 0x0680 4 _ x _ _ _ _ hmay (by rfl) rfl rfl rfl rfl (checkValue_rebuild x.1 k) rfl (by simp) (by decide) (by decide)
    (commandEffect_rebuild sid 0 k.val _)

/-- The end of a rebuild threads what is left to scan, and is counted and reported with its duration. -/
theorem rebuildDoneEffect_running (k start : Nat) (s : Sys) (h : (pool s k).rebuild = some start) :
    rebuildDoneEffect k s = raise 0x0606 2 (u8b k ++ u32b ((s.now - start) / Config.ticksPerUs))
      (bump (Ctr.poolRebuild k) (setPool k { scanTo (pool s k).buffers (pool s k) with rebuild := none } s)) := by
  simp only [rebuildDoneEffect, h]

/-- Settles O11: each clause is the case of its command's effect that the hypotheses select. -/
theorem bufferPoolsTakeEffect : Obligations.Buffer_pools_take_effect := by
  refine ⟨?rejected, ?owned, ?rebuild, ?rebuilt⟩
  case rejected => exact fun t k b agent s h => run_eq t _ s _ _ rfl (bufferFreeEffect_rejected k.val b agent.val _ h)
  case owned => exact fun t k b agent s hin hown => run_eq t _ s _ _ rfl (bufferFreeEffect_owned k.val b agent.val _ hin hown)
  case rebuild => exact fun t sid k s hmay => runMem_eq t _ s _ _ rfl (writes_rebuild sid k _ hmay)
  case rebuilt => exact fun t k start s h => run_eq t _ s _ _ rfl (rebuildDoneEffect_running k.val start _ h)

end Sys2Proof.Proofs
end

section
/-! PROOFS. Time: how TIME returns to REF, how time bases are stepped, measured and lose their input, how time stamps and edges are
queued, and how scheduled actions run and end. -/

namespace Sys2Proof.Proofs

open Sys2Proof.Machine Sys2Proof.Safety Sys2Proof.Laws

/-! ### TIME returns to REF (R290) -/

/-- In fallback, REF counts as faulty no more. -/
theorem refRecoveryEffect_fallback (s : Sys) (h : s.fallback = true) :
    refRecoveryEffect s =
      updPlinth (fun p => { p with clocks := SMap.upd {} p.clocks 2 (fun v => { v with faulty := false, bad := 0 }) })
        { s with fallback := false } := if_pos h

/-- Outside fallback there is nothing to recover. -/
theorem refRecoveryEffect_idle (s : Sys) (h : s.fallback = false) : refRecoveryEffect s = s := if_neg (Bool.eq_false_iff.mp h)

/-! ### Measurements (R293 to R295) -/

/-- What a measured offset `o` does to a base that is ACQUIRING or LOCKED: a turn of the servo and of the lock, and a PTP instance that
drives the base keeps the offset (R294, R295). -/
def servoMeasure (b : Nat) (o : Int) (s : Sys) : Sys :=
  let y := lockTurn b o (servo b o s)
  if activeSource y b = 1 then updPtpInst b (fun i => { i with offset := o }) y else y

section
variable (b : Nat) (own u : Int) (s : Sys) (hsource : activeSource s b ≠ 0) (hinput : inputPresent s b = true)
include hsource hinput

/-- A base with an input that is neither DISABLED nor MANUAL is measured. -/
theorem measure_not_ignored (hst : (base s b).st ≠ 0 ∧ (base s b).st ≠ 5) :
    ¬((base s b).st = 0 ∨ (base s b).st = 5 ∨ activeSource s b = 0 ∨ (!inputPresent s b) = true) := by
  simp [hst, hsource, hinput]

/-- In UNSET a measurement makes the one step of the base. -/
theorem measure_unset (hst : (base s b).st = 1) :
    Machine.measure b own u s =
      stepBase b ((clock s b : Int) + (u - own)).toNat (setBase b { base s b with offset := own - u } s) :=
  (if_neg (measure_not_ignored b s hsource hinput (by simp [hst]))).trans (if_pos hst)

/-- In ACQUIRING and LOCKED the first measurement of a tick is a turn of the servo. -/
theorem measure_following (hst : (base s b).st = 2 ∨ (base s b).st = 3) (hnew : (base s b).lastMeas < s.now) :
    Machine.measure b own u s = servoMeasure b (own - u) s := by
  have hkind : (base s b).st ≠ 0 ∧ (base s b).st ≠ 5 ∧ (base s b).st ≠ 1 ∧ (base s b).st ≠ 4 := by omega
  obtain ⟨hdisabled, hmanual, hunset, hholdover⟩ := hkind
  unfold Machine.measure servoMeasure
  rw [if_neg (measure_not_ignored b s hsource hinput ⟨hdisabled, hmanual⟩), if_neg hunset, if_neg (Nat.not_le.mpr hnew),
    if_neg hholdover]

end

section
variable (b source : Nat) (s : Sys)

/-- PTP measures a base against the time of its source. -/
theorem measurementEffect_ptp (hsource : activeSource s b = 1) : measurementEffect b source s = Machine.measure b (clock s b) source s := by
  simp only [measurementEffect, hsource]

/-- The Knaing link measures it by the phase of the link (R299). -/
theorem measurementEffect_knaing (hsource : activeSource s b = 3) :
    measurementEffect b source s = Machine.measure b (clock s b) (clock s b - s.kng.offsets.getD b 0) s := by
  simp only [measurementEffect, hsource]

/-- Any other base has no such measurement. -/
theorem measurementEffect_other (hptp : activeSource s b ≠ 1) (hkng : activeSource s b ≠ 3) : measurementEffect b source s = s := by
  unfold measurementEffect
  split
  · contradiction
  · contradiction
  · rfl

/-- The step of a base that PTP measures in UNSET goes to the time of the source. -/
theorem measurementEffect_ptp_unset (hsource : activeSource s b = 1) (hinput : inputPresent s b = true) (hst : (base s b).st = 1) :
    measurementEffect b source s = stepBase b source (setBase b { base s b with offset := (clock s b : Int) - source } s) := by
  have hto : ((clock s b : Int) + ((source : Int) - clock s b)).toNat = source := by omega
  rw [measurementEffect_ptp b source s hsource, measure_unset b _ _ s (by simp [hsource]) hinput hst, hto]

/-- In ACQUIRING and LOCKED PTP gives the servo the offset from the source. -/
theorem measurementEffect_ptp_following (hsource : activeSource s b = 1) (hinput : inputPresent s b = true)
    (hst : (base s b).st = 2 ∨ (base s b).st = 3) (hnew : (base s b).lastMeas < s.now) :
    measurementEffect b source s = servoMeasure b ((clock s b : Int) - source) s := by
  rw [measurementEffect_ptp b source s hsource, measure_following b _ _ s (by simp [hsource]) hinput hst hnew]

/-- The Knaing link gives it the offset of its phase. -/
theorem measurementEffect_knaing_following (hsource : activeSource s b = 3) (hinput : inputPresent s b = true)
    (hst : (base s b).st = 2 ∨ (base s b).st = 3) (hnew : (base s b).lastMeas < s.now) :
    measurementEffect b source s = servoMeasure b (s.kng.offsets.getD b 0) s := by
  rw [measurementEffect_knaing b source s hsource, measure_following b _ _ s (by simp [hsource]) hinput hst hnew, Int.sub_sub_self]

end

/-! ### PPS edges (R314) -/

/-- The instant of an edge on pin `n` by base `b`: its stamp, less the pin's compensation. -/
def ppsInstant (s : Sys) (b n : Nat) : Int := (stampOf s (clock s b) : Int) - cellI s 0x0841 1 n 7 * 65536 / 1000

/-- The whole second that an edge at `edge` marks: the nearest one, or in UNSET that of TB_STEP_TO where it is given. -/
def ppsSecond (s : Sys) (b : Nat) (edge : Int) : Int :=
  let near : Int := (edge + secUnits / 2) / secUnits * secUnits
  if (base s b).st = 1 then (match (base s b).stepTo with | some w => ((w / secUnits * secUnits : Nat) : Int) | none => near) else near

section
variable (n b : Nat) (s : Sys)

/-- An edge on the pin that drives a base measures the base against the second it marks. -/
theorem ppsEffect_drives (hmode : cell s 0x0841 1 n 0 = 4) (hbase : cell s 0x0841 1 n 1 = b) (hsource : activeSource s b = 2)
    (hpin : ppsPin s b = some n) : ppsEffect n s = Machine.measure b (ppsInstant s b n) (ppsSecond s b (ppsInstant s b n)) s := by
  subst hbase
  exact if_neg (by simp [hmode, hsource, hpin])

/-- An edge on any other pin measures nothing. -/
theorem ppsEffect_ignored (h : cell s 0x0841 1 n 0 ≠ 4 ∨ activeSource s (cell s 0x0841 1 n 1) ≠ 2
    ∨ ppsPin s (cell s 0x0841 1 n 1) ≠ some n) : ppsEffect n s = s := if_pos h

end

/-! ### Steps by TB_STEP_TO (R293) -/

/-- TB_STEP_TO is accepted of a base in UNSET that is manual or follows a PPS pin. -/
theorem stepToRefused_no (s : Sys) (b : Nat) (hst : (base s b).st = 1) (hsource : activeSource s b = 0 ∨ activeSource s b = 2) :
    stepToRefused s b = false := by
  rcases hsource with h | h <;> simp [stepToRefused, hst, h]

/-- A manual base steps at once. -/
theorem stepToEffect_manual (b u : Nat) (s : Sys) (hst : (base s b).st = 1) (hsource : activeSource s b = 0) :
    stepToEffect b u s = stepBase b u s := by
  simp [stepToEffect, stepToRefused_no s b hst (.inl hsource), hsource]

/-- A base that follows a PPS pin keeps the time for its next edge (R314). -/
theorem stepToEffect_pps (b u : Nat) (s : Sys) (hst : (base s b).st = 1) (hsource : activeSource s b = 2) :
    stepToEffect b u s = setBase b { base s b with stepTo := some u } s := by
  simp [stepToEffect, stepToRefused_no s b hst (.inr hsource), hsource]

/-- An accepted TB_STEP_TO has its effect at the commit point. -/
theorem writes_stepTo (sid time : Nat) (b : Fin 4) (x : SysMem) (f : Sys → Sys) (htime : bits time 47 16 ≤ 999999999)
    (hmay : mayCommand x.1 sid (tbIx b.val) 8 time) (haccept : stepToRefused (commandPoint sid x).1 b.val = false)
    (hf : stepToEffect b.val (timeUnits time) (commandPoint sid x).1 = f (commandPoint sid x).1) :
    writes sid (tbIx b.val) 8 time x = settled sid x (onSys f (commandPoint sid x)) := by
  refine tb_command sid time b x htime hmay _ ?_
  rw [commandEffect_tb, haccept, hf]
  rfl

/-! ### Loss of the input (R296) -/

/-- A base that follows its input enters HOLDOVER once that has been silent for its time-out or is gone. -/
theorem inputLossEffect_lost (b : Nat) (s : Sys) (hst : (base s b).st = 2 ∨ (base s b).st = 3)
    (hlost : (base s b).lastMeas + obj s (tbIx b) 0x0C * Config.ticksPerMs ≤ s.now ∨ inputPresent s b = false) :
    inputLossEffect b s = enterHoldover b s :=
  (if_neg (by omega)).trans (if_pos (by simpa using hlost))

/-- A base that follows no input, or has it, stays as it is. -/
theorem inputLossEffect_kept (b : Nat) (s : Sys)
    (h : ((base s b).st ≠ 2 ∧ (base s b).st ≠ 3)
      ∨ (s.now < (base s b).lastMeas + obj s (tbIx b) 0x0C * Config.ticksPerMs ∧ inputPresent s b = true)) :
    inputLossEffect b s = s := by
  rcases h with hst | ⟨hrecent, hinput⟩
  · exact if_pos hst
  · have hheld : ¬((base s b).lastMeas + obj s (tbIx b) 0x0C * Config.ticksPerMs ≤ s.now ∨ (!inputPresent s b) = true) := by
      simp [hinput, hrecent]
    simp only [inputLossEffect, if_neg hheld, ite_self]

/-- Settles O25: each clause is the case of its command's effect that the hypotheses select. -/
theorem timeBasesTakeEffect : Obligations.Time_bases_take_effect := by
  refine ⟨?recovery, ?ptpUnset, ?ptpFollows, ?knaingFollows, ?notMeasured, ?stepManual, ?stepPps, ?restep, ?lost, ?kept, ?noFallback,
    ?ppsIgnored, ?pps⟩
  case recovery => exact fun t s h => run_eq t _ s _ _ rfl (refRecoveryEffect_fallback _ h)
  case ptpUnset =>
    exact fun t b source s hrun hsource hinput hst =>
      run_bySteward_eq t _ s _ hrun (measurementEffect_ptp_unset b.val source _ hsource hinput hst)
  case ptpFollows =>
    exact fun t b source s hrun hsource hinput hst hnew =>
      run_bySteward_eq t _ s _ hrun (measurementEffect_ptp_following b.val source _ hsource hinput hst hnew)
  case knaingFollows =>
    exact fun t b source s hrun hsource hinput hst hnew =>
      run_bySteward_eq t _ s _ hrun (measurementEffect_knaing_following b.val source _ hsource hinput hst hnew)
  case notMeasured =>
    exact fun t b source s hrun ⟨hptp, hkng⟩ => run_bySteward_eq t _ s _ hrun (measurementEffect_other b.val source _ hptp hkng)
  case stepManual =>
    exact fun t sid b time s htime hmay hst hsource =>
      runMem_eq t _ s _ _ rfl (writes_stepTo sid time b _ (stepBase b.val (timeUnits time)) htime hmay
        (stepToRefused_no _ _ hst (.inl hsource)) (stepToEffect_manual b.val _ _ hst hsource))
  case stepPps =>
    exact fun t sid b time s htime hmay hst hsource =>
      runMem_eq t _ s _ _ rfl (writes_stepTo sid time b _ (fun s => setBase b.val { base s b.val with stepTo := some (timeUnits time) } s)
        htime hmay (stepToRefused_no _ _ hst (.inr hsource)) (stepToEffect_pps b.val _ _ hst hsource))
  case restep => exact fun t sid b s hmay => runMem_eq t _ s _ _ rfl (restep_stage sid b _ hmay)
  case lost => exact fun t b s hst hlost => run_eq t _ s _ _ rfl (inputLossEffect_lost b.val _ hst hlost)
  case kept => exact fun t b s h => run_eq t _ s _ _ rfl (inputLossEffect_kept b.val _ h)
  case noFallback => exact fun t s h => run_eq t _ s _ _ rfl (refRecoveryEffect_idle _ h)
  case ppsIgnored => exact fun t pin s hrun h => run_bySteward_eq t _ s _ hrun (ppsEffect_ignored pin.val _ h)
  case pps =>
    exact fun t pin b s hrun hmode hbase hsource hpin =>
      run_bySteward_eq t _ s _ hrun (ppsEffect_drives pin.val b _ hmode hbase hsource hpin)

/-! ### Edges on event pins (R312) -/

/-- The time that an edge on pin `n` is stamped with: that of the pin's base, less the pin's compensation, or 0 while the base is
DISABLED. -/
def edgeTime (n : Nat) (s : Sys) : Nat :=
  let c := cell s 0x0841 1 n
  if c 1 < 4 ∧ (base s (c 1)).st = 0 then 0 else ((stampOf s (clock s (c 1)) : Int) - cellI s 0x0841 1 n 7 * 65536 / 1000).toNat

/-- The edge enters the queue of its pin, whose oldest entry gives way to it, and may trigger the recorder and wake the device from
DORMANT. -/
def enterEdge (n : Nat) (rising : Bool) (s : Sys) : Sys :=
  let y := updPin n (fun p => { p with number := p.number + 1, lastEdge := some s.now,
                                       events := (p.number + 1, if rising then 1 else 2, edgeTime n s) :: p.events.take 15 }) s
  let y := if bit (obj y 0x7810 0x0D) n then { y with triggers := y.triggers ++ [(4, y.now)] } else y
  if bit (obj y 0x0420 4) 2 ∧ bit (obj y 0x0420 7) n ∧ (y.devState = 2 ∨ y.devState = 3) ∧ y.nrg.pendingWake.isNone then
    { y with nrg := { y.nrg with pendingWake := some 3 } }
  else y

section
variable (n : Nat) (rising : Bool) (s : Sys)

/-- An edge that its pin does not want does nothing. -/
theorem tioEdgeEffect_unwanted (h : cell s 0x0841 1 n 0 ≠ 3 ∨ (cell s 0x0841 1 n 6 = 1 ∧ rising = false)
    ∨ (cell s 0x0841 1 n 6 = 2 ∧ rising = true)) : tioEdgeEffect n rising s = s := if_pos (by simpa using h)

section
variable (hmode : cell s 0x0841 1 n 0 = 3)
  (hwanted : ¬(cell s 0x0841 1 n 6 = 1 ∧ rising = false) ∧ ¬(cell s 0x0841 1 n 6 = 2 ∧ rising = true))
include hmode hwanted

/-- A pin in mode 3 wants the edges of its sense. -/
theorem edge_not_unwanted :
    ¬(cell s 0x0841 1 n 0 ≠ 3 ∨ (cell s 0x0841 1 n 6 = 1 ∧ (!rising) = true) ∨ (cell s 0x0841 1 n 6 = 2 ∧ rising = true)) := by
  simpa [hmode] using hwanted

/-- One that comes within 20 ns of the last counts as a glitch. -/
theorem tioEdgeEffect_glitch (hclose : (pin s n).lastEdge.any (fun l => decide (s.now < l + 25)) = true) :
    tioEdgeEffect n rising s = bump (Ctr.tioGlitch n) s :=
  (if_neg (edge_not_unwanted n rising s hmode hwanted)).trans (if_pos hclose)

section
variable (hapart : (pin s n).lastEdge.any (fun l => decide (s.now < l + 25)) = false)
include hapart

/-- One that finds sixteen entries not read yet is counted as lost. -/
theorem tioEdgeEffect_full (hfull : 16 ≤ ((pin s n).events.filter (fun e => decide (cell s 0x0841 3 n 0 < e.1))).length) :
    tioEdgeEffect n rising s = bump (Ctr.tioEventOverflow n) s :=
  (if_neg (edge_not_unwanted n rising s hmode hwanted)).trans ((if_neg (Bool.eq_false_iff.mp hapart)).trans (if_pos hfull))

/-- One that finds room enters the queue. -/
theorem tioEdgeEffect_enters (hroom : ((pin s n).events.filter (fun e => decide (cell s 0x0841 3 n 0 < e.1))).length < 16) :
    tioEdgeEffect n rising s = enterEdge n rising s :=
  (if_neg (edge_not_unwanted n rising s hmode hwanted)).trans
    ((if_neg (Bool.eq_false_iff.mp hapart)).trans (if_neg (Nat.not_le.mpr hroom)))

end
end
end

/-- A pin whose last edge, if it had one, lies 25 ticks back had none within 20 ns. -/
theorem lastEdge_apart (l : Option Nat) (now : Nat) (h : l.all (fun l => decide (l + 25 ≤ now)) = true) :
    l.any (fun l => decide (now < l + 25)) = false := by
  cases l with
  | none => rfl
  | some l => simpa using h

/-- An edge after start-up step 11. -/
theorem run_tioEdge (t n : Nat) (rising : Bool) (s : State) (y : Sys) (hstep : stepDone (sysAt t s) 11 = true)
    (h : tioEdgeEffect n rising (sysAt t s) = y) : run t (fromStep 11 (tioEdgeEffect n rising)) s = .next (leavesSys t s y) :=
  run_eq t _ s _ y rfl ((fromStep_done 11 _ _ hstep).trans h)

/-! ### Scheduled actions (R315, R317) -/

/-- The rows up to `r` in ascending order: the pulse of each ends, then its action runs, where their instants have come. -/
theorem actionsUpTo_eq (r : Nat) (s : Sys) :
    actionsUpTo r s = (List.range (r + 1)).foldl (fun y i => actionTurn i (pulseTurn i y)) s := loop_range _ (r + 1) s

/-- An armed row whose time has come lets the rows up to it act. -/
theorem actionEffect_due (r : Nat) (s : Sys) (hst : (action s r).state = 1) (hdue : (action s r).due ≤ clock s (cell s 0x0842 1 r 1)) :
    actionEffect r s = (List.range (r + 1)).foldl (fun y i => actionTurn i (pulseTurn i y)) s :=
  (if_pos ⟨hst, hdue⟩).trans (actionsUpTo_eq r s)

/-- So does a row whose pulse has ended. -/
theorem pulseEndEffect_due (r u : Nat) (s : Sys) (hpulse : (action s r).pulseEnd = some u) (hdue : u ≤ clock s (cell s 0x0842 1 r 1)) :
    pulseEndEffect r s = (List.range (r + 1)).foldl (fun y i => actionTurn i (pulseTurn i y)) s := by
  simp only [pulseEndEffect, hpulse, if_pos hdue, actionsUpTo_eq]

/-- Settles O26: each clause is the case of its command's effect that the hypotheses select. -/
theorem timeStampsAndActionsTakeEffect : Obligations.Time_stamps_and_actions_take_effect := by
  refine ⟨?drain, ?edgeEnters, ?edgeGlitch, ?edgeFull, ?edgeUnwanted, ?execute, ?pulseEnd⟩
  case drain => exact fun t port s hrun => run_bySteward_eq t _ s _ hrun rfl
  case edgeEnters =>
    exact fun t pin rising s hstep hmode hwanted hapart hroom =>
      run_tioEdge t pin.val rising s _ hstep (tioEdgeEffect_enters pin.val rising _ hmode hwanted (lastEdge_apart _ _ hapart) hroom)
  case edgeGlitch =>
    exact fun t pin rising s hstep hmode hwanted hclose =>
      run_tioEdge t pin.val rising s _ hstep (tioEdgeEffect_glitch pin.val rising _ hmode hwanted hclose)
  case edgeFull =>
    exact fun t pin rising s hstep hmode hwanted hapart hfull =>
      run_tioEdge t pin.val rising s _ hstep (tioEdgeEffect_full pin.val rising _ hmode hwanted hapart hfull)
  case edgeUnwanted =>
    intro t pin rising s x h
    refine run_eq t _ s x x rfl ?_
    rcases h with hearly | hunwanted
    · exact fromStep_before 11 _ x hearly
    · exact fromStep_same 11 _ x (tioEdgeEffect_unwanted pin.val rising x hunwanted)
  case execute => exact fun t row s hst hdue => run_eq t _ s _ _ rfl (actionEffect_due row.val _ hst hdue)
  case pulseEnd => exact fun t row u s hpulse hdue => run_eq t _ s _ _ rfl (pulseEndEffect_due row.val u _ hpulse hdue)

end Sys2Proof.Proofs
end

section
/-! PROOFS. Egress: selection, transmission and held copies, credits, gates and preemption (chapter 11). -/

namespace Sys2Proof.Proofs

open Sys2Proof.Machine Sys2Proof.Safety Sys2Proof.Laws

/-! ### The scheduler of a free port (R131, R328) -/

/-- The choice of a free port that neither is in low-power idle nor hears its medium busy: MAC control first, then a frame to retry, a
suspended frame, and what the selection names. -/
def startNext (p : Nat) (q : Port) (s : Sys) : Sys :=
  match if bit (fullSilent s) p then [] else q.macCtl, q.retry, q.suspended with
  | b :: rest, _, _ => sendMacCtl p b rest s
  | [], some id, _ => retryTx p id s
  | [], none, some id =>
    match select p (fun c => !preemptable s p c) s with
    | (s', some x) => launch p x s'
    | (_, none) => resume p id s
  | [], none, none =>
    match select p (fun _ => true) s with
    | (s', some x) => launch p x s'
    | (_, none) => s

section
variable (p : Nat) (s : Sys)

theorem schedulerEffect_free (hp : p < 73) (hadmin : admin s p = true) (hlink : (port s p).linkUp = true) (htx : (port s p).tx = none)
    (hfree : (port s p).free ≤ (pruneAll p s).now) (hlpi : (port s p).lpiTx = false) (hmedium : mediumBusy (pruneAll p s) p = false) :
    schedulerEffect p s = startNext p (port s p) (pruneAll p s) := by
  have hruns : ¬(73 ≤ p ∨ (!admin s p) = true ∨ (!(port s p).linkUp) = true) := by simp [hp, hadmin, hlink]
  refine (if_neg hruns).trans ?_
  simp only [htx, hlpi, hmedium, if_neg (Nat.not_lt.mpr hfree), Bool.false_eq_true, if_false]
  rfl

theorem startNext_macCtl (q : Port) (b : List Byte) (rest : List (List Byte)) (hsilent : bit (fullSilent s) p = false) (hctl : q.macCtl = b :: rest) :
    startNext p q s = sendMacCtl p b rest s := by
  simp [startNext, hsilent, hctl]

theorem startNext_selected (q : Port) (id : Nat) (y : Sys) (hctl : bit (fullSilent s) p = true ∨ q.macCtl = []) (hretry : q.retry = none)
    (hsuspended : q.suspended = none) (hselect : select p (fun _ => true) s = (y, some id)) : startNext p q s = launch p id y := by
  have hnone : (if bit (fullSilent s) p then [] else q.macCtl) = [] := by
    rcases hctl with hsilent | hempty
    · exact if_pos hsilent
    · rw [hempty, ite_self]
  simp only [startNext, hnone, hretry, hsuspended, hselect]

/-! ### Transmissions that run dry or end (R266, R450) -/

theorem underrunEffect_stomps (id : Nat) (htx : (port s p).tx = some id) (hst : (copy s id).st = .sending) (hcut : (copy s id).path = .cut)
    (hlacks : inTile s (copy s id) = false) (hstomped : (copy s id).stomped = false) :
    underrunEffect p s = stompAt id (xing s (copy s id).xing).recv (Ctr.txUnderrunStomp p) s := by
  simp only [underrunEffect, htx]
  exact if_pos ⟨hst, hcut, by simp [hlacks], by simp [hstomped]⟩

theorem frameTxEndEffect_ends (id : Nat) (htx : (port s p).tx = some id) (hst : (copy s id).st = .sending)
    (hend : (copy s id).stomped = true ∨ copyWhole s (copy s id) = true
      ∧ (copy s id).start + bitTicks (8 * (wireLen s (copy s id) - (copy s id).sent + 8)) (linkSpeed s p) ≤ s.now) :
    frameTxEndEffect p s = finishTx p id s := by
  simp only [frameTxEndEffect, htx]
  refine if_neg ?_
  rintro (hother | ⟨hwhole, hlate⟩)
  · exact hother hst
  · rcases hend with hstomped | ⟨hcopied, hdone⟩
    · simp [hstomped] at hwhole
    · simp only [hcopied, Bool.not_true, Bool.false_eq_true, false_or] at hlate
      exact absurd hdone (Nat.not_le.mpr hlate)

end

/-! ### Latency floors (R11, R12) -/

/-- The floor of copy `id` is due: it is held by the port that sends it, on the path of the command, and may start. -/
structure FloorDue (s : Sys) (deep : Bool) (id : Nat) : Prop where
  listed : hasCopy s id = true
  held : (copy s id).st = .held
  path : ((copy s id).path == .deep) = deep
  sends : (port s (txPort s (copy s id).port)).tx = some id
  met : floorMet s (txPort s (copy s id).port) (copy s id) = true

section
variable (s : Sys) (deep : Bool) (id : Nat)

/-- The start of a copy whose floor is due. -/
def startAtFloor (p tc : Nat) (c : Copy) : Sys :=
  match startDrop s c with
  | some ctr => dropAs (ctr == Ctr.fabBadTailDrop p) ctr id (updPort p (fun q => { q with tx := none }) s)
  | none => if classOpen s p tc ∧ fits s p tc c then startCopy p id s else unpick p id s

theorem floorEffect_due (h : FloorDue s deep id) :
    floorEffect deep id s = startAtFloor s id (txPort s (copy s id).port) (queueTc s (copy s id).queue) (copy s id) := by
  obtain ⟨hlisted, hheld, hpath, hsends, hmet⟩ := h
  exact if_neg (by simp [hlisted, hheld, hpath, hsends, hmet])

theorem floorMet_of_due (p : Nat) (c : Copy) (h : floorAt s c * linkSpeed s p ≤ s.now * linkSpeed s p + 64 * 1250) : floorMet s p c = true :=
  decide_eq_true h

/-- A copy that is not held, or whose floor lies ahead, does not start. -/
theorem floorEffect_waits (h : (copy s id).st ≠ .held ∨ s.now * linkSpeed s (txPort s (copy s id).port) + 64 * 1250
      < floorAt s (copy s id) * linkSpeed s (txPort s (copy s id).port)) :
    floorEffect deep id s = s := by
  have hmet : (copy s id).st ≠ .held ∨ floorMet s (txPort s (copy s id).port) (copy s id) = false :=
    h.imp_right fun hahead => decide_eq_false (Nat.not_le.mpr hahead)
  refine if_pos ?_
  rcases hmet with hother | hahead
  · exact .inr (.inl hother)
  · exact .inr (.inr (.inr (.inr (by simp [hahead]))))

variable (p tc : Nat) (c : Copy)

theorem startAtFloor_starts (hdrop : startDrop s c = none) (hopen : classOpen s p tc = true ∧ fits s p tc c = true) :
    startAtFloor s id p tc c = startCopy p id s := by
  simp only [startAtFloor, hdrop, if_pos hopen]

theorem startAtFloor_returns (hdrop : startDrop s c = none) (hclosed : ¬(classOpen s p tc = true ∧ fits s p tc c = true)) :
    startAtFloor s id p tc c = unpick p id s := by
  simp only [startAtFloor, hdrop, if_neg hclosed]

theorem startAtFloor_drops (ctr : Nat) (hdrop : startDrop s c = some ctr) :
    startAtFloor s id p tc c = dropAs (ctr == Ctr.fabBadTailDrop p) ctr id (updPort p (fun q => { q with tx := none }) s) := by
  simp only [startAtFloor, hdrop]

end

/-- A latency floor that is due. -/
theorem run_floorDue (t : Nat) (deep : Bool) (id : Nat) (s : State) (y : Sys) (h : FloorDue (sysAt t s) deep id)
    (hstart : startAtFloor (sysAt t s) id (txPort (sysAt t s) (copy (sysAt t s) id).port) (queueTc (sysAt t s) (copy (sysAt t s) id).queue)
      (copy (sysAt t s) id) = y) :
    run t (floorEffect deep id) s = .next (leavesSys t s y) :=
  run_eq t _ s _ y rfl ((floorEffect_due _ deep id h).trans hstart)

/-- A copy on no deep path waits for the express floor. -/
theorem path_express (x : Path) (h : x ≠ .deep) : (x == .deep) = false := by simpa using h

/-- Settles O12: each clause is the case of its command's effect that the hypotheses select. -/
theorem transmissionTakesEffect : Obligations.Transmission_takes_effect := by
  refine ⟨?select, ?macCtl, ?underrun, ?txEnd, ?expressStarts, ?expressReturns, ?expressDrops, ?expressWaits, ?deepStarts, ?deepReturns,
    ?deepDrops, ?deepWaits, ?credits⟩
  case select =>
    exact fun t p id y s hp hadmin hlink htx hfree hlpi hmedium hctl hretry hsuspended hselect =>
      run_eq t _ s _ _ rfl ((schedulerEffect_free p.val _ hp hadmin hlink htx hfree hlpi hmedium).trans
        (startNext_selected p.val _ _ id y hctl hretry hsuspended hselect))
  case macCtl =>
    exact fun t p b rest s hp hadmin hlink htx hfree hlpi hmedium hsilent hctl =>
      run_eq t _ s _ _ rfl ((schedulerEffect_free p.val _ hp hadmin hlink htx hfree hlpi hmedium).trans
        (startNext_macCtl p.val _ _ b rest hsilent hctl))
  case underrun =>
    exact fun t p id s htx hst hcut hlacks hstomped => run_eq t _ s _ _ rfl (underrunEffect_stomps p.val _ id htx hst hcut hlacks hstomped)
  case txEnd => exact fun t p id s htx hst hend => run_eq t _ s _ _ rfl (frameTxEndEffect_ends p.val _ id htx hst hend)
  case expressStarts =>
    exact fun t id s hlisted hheld hpath hsends hmet hdrop hopen =>
      run_floorDue t false id s _ ⟨hlisted, hheld, path_express _ hpath, hsends, floorMet_of_due _ _ _ hmet⟩
        (startAtFloor_starts _ id _ _ _ hdrop hopen)
  case expressReturns =>
    exact fun t id s hlisted hheld hpath hsends hmet hdrop hclosed =>
      run_floorDue t false id s _ ⟨hlisted, hheld, path_express _ hpath, hsends, floorMet_of_due _ _ _ hmet⟩
        (startAtFloor_returns _ id _ _ _ hdrop hclosed)
  case expressDrops =>
    exact fun t id ctr s hlisted hheld hpath hsends hmet hdrop =>
      run_floorDue t false id s _ ⟨hlisted, hheld, path_express _ hpath, hsends, floorMet_of_due _ _ _ hmet⟩
        (startAtFloor_drops _ id _ _ _ ctr hdrop)
  case expressWaits => exact fun t id s h => run_eq t _ s _ _ rfl (floorEffect_waits _ false id h)
  case deepStarts =>
    exact fun t id s hlisted hheld hpath hsends hmet hdrop hopen =>
      run_floorDue t true id s _ ⟨hlisted, hheld, beq_iff_eq.mpr hpath, hsends, floorMet_of_due _ _ _ hmet⟩
        (startAtFloor_starts _ id _ _ _ hdrop hopen)
  case deepReturns =>
    exact fun t id s hlisted hheld hpath hsends hmet hdrop hclosed =>
      run_floorDue t true id s _ ⟨hlisted, hheld, beq_iff_eq.mpr hpath, hsends, floorMet_of_due _ _ _ hmet⟩
        (startAtFloor_returns _ id _ _ _ hdrop hclosed)
  case deepDrops =>
    exact fun t id ctr s hlisted hheld hpath hsends hmet hdrop =>
      run_floorDue t true id s _ ⟨hlisted, hheld, beq_iff_eq.mpr hpath, hsends, floorMet_of_due _ _ _ hmet⟩
        (startAtFloor_drops _ id _ _ _ ctr hdrop)
  case deepWaits => exact fun t id s h => run_eq t _ s _ _ rfl (floorEffect_waits _ true id h)
  case credits => exact fun t s => run_eq t _ s _ _ rfl rfl

/-! ### Gates and preemption (R335, R338, R342, R345, R350) -/

section
variable (p : Nat) (s : Sys)

theorem gateChangeEffect_due (c : GateCfg) (hpend : (port s p).gate.pend = some c) (hdue : c.start ≤ clock s (obj s (glIx p) 2))
    (hrun : baseRuns s (obj s (glIx p) 2) = true) (hkng : isKng s p = false) : gateChangeEffect p s = gateAdopt p c s := by
  simp only [gateChangeEffect, hpend]
  exact if_neg (by simp [hdue, hrun, hkng])

theorem gateEventEffect_runs (hp : p < 73) (hkng : isKng s p = false) (henabled : flag s (glIx p) 1 = true)
    (hrun : baseRuns s (obj s (glIx p) 2) = true) : gateEventEffect p s = gateTurn p (gateChangeEffect p s) :=
  if_neg (by simp [hp, hkng, henabled, hrun])

theorem holdAssertEffect_due (hp : p < 64) (hactive : preemptActive s p = true) (hhold : (port s p).hold = false)
    (henabled : flag s (glIx p) 1 = true) (hdue : holdDue s p = true) :
    holdAssertEffect p s = bump (Ctr.preemptHold p) (updPort p (fun q => { q with hold := true }) s) :=
  if_neg (by simp [hp, hactive, hhold, henabled, hdue])

section
variable (hp : p < 64) (henabled : flag s (pix p 0x0E) 1 = true) (hverify : flag s (pix p 0x0E) 3 = true) (hlink : (port s p).linkUp = true)
  (hst : (port s p).verify = 1 ∨ (port s p).verify = 2) (hdue : (port s p).verifyAt + obj s (pix p 0x0E) 4 * Config.ticksPerMs ≤ s.now)
include hp henabled hverify hlink hst hdue

/-- A port that is to be verified, and whose time for the next mPacket has come, sends it, or fails after three. -/
theorem verifyTxEffect_due :
    verifyTxEffect p s =
      if (port s p).verifies < 3 then updPort p (fun q => { q with verify := 2, verifies := q.verifies + 1, verifyAt := s.now }) s
      else bump (Ctr.preemptVerifyFail p) (updPort p (fun q => { q with verify := 4 }) s) := by
  have hruns : ¬(64 ≤ p ∨ (!flag s (pix p 0x0E) 1) = true ∨ (!flag s (pix p 0x0E) 3) = true ∨ (!(port s p).linkUp) = true
      ∨ ((port s p).verify ≠ 1 ∧ (port s p).verify ≠ 2)) := by
    simp only [henabled, hverify, hlink, Bool.not_true, Bool.false_eq_true, false_or]
    omega
  exact (if_neg hruns).trans (if_neg (Nat.not_lt.mpr hdue))

theorem verifyTxEffect_sends (hfew : (port s p).verifies < 3) :
    verifyTxEffect p s = updPort p (fun q => { q with verify := 2, verifies := q.verifies + 1, verifyAt := s.now }) s :=
  (verifyTxEffect_due p s hp henabled hverify hlink hst hdue).trans (if_pos hfew)

theorem verifyTxEffect_fails (hthree : 3 ≤ (port s p).verifies) :
    verifyTxEffect p s = bump (Ctr.preemptVerifyFail p) (updPort p (fun q => { q with verify := 4 }) s) :=
  (verifyTxEffect_due p s hp henabled hverify hlink hst hdue).trans (if_neg (Nat.not_lt.mpr hthree))

end

theorem verifyResponseEffect_waiting (hp : p ≤ 63) (hst : (port s p).verify = 2) :
    verifyResponseEffect p s = updPort p (fun q => { q with verify := 3 }) s := if_pos ⟨hp, hst⟩

theorem streamGateEffect_runs (g : Nat) (hvalid : cellB s 0x6100 1 g 0 = true) (hst : 2 ≤ (streamGate s g).state) :
    streamGateEffect g s = streamGateTurn g s := if_neg (by simpa [hvalid] using Nat.lt_of_succ_le hst)

end

/-- Settles O13: each clause is the case of its command's effect that the hypotheses select. -/
theorem gatesAndPreemptionTakeEffect : Obligations.Gates_and_preemption_take_effect := by
  refine ⟨?change, ?event, ?hold, ?verifySends, ?verifyFails, ?response, ?streamGate⟩
  case change => exact fun t p c s hpend hdue hrun hkng => run_eq t _ s _ _ rfl (gateChangeEffect_due p.val _ c hpend hdue hrun hkng)
  case event => exact fun t p s hp hkng henabled hrun => run_eq t _ s _ _ rfl (gateEventEffect_runs p.val _ hp hkng henabled hrun)
  case hold =>
    exact fun t p s hp hactive hhold henabled hdue => run_eq t _ s _ _ rfl (holdAssertEffect_due p.val _ hp hactive hhold henabled hdue)
  case verifySends =>
    exact fun t p s hp henabled hverify hlink hst hdue hfew =>
      run_eq t _ s _ _ rfl (verifyTxEffect_sends p.val _ hp henabled hverify hlink hst hdue hfew)
  case verifyFails =>
    exact fun t p s hp henabled hverify hlink hst hdue hthree =>
      run_eq t _ s _ _ rfl (verifyTxEffect_fails p.val _ hp henabled hverify hlink hst hdue hthree)
  case response => exact fun t p s hp hst => run_eq t _ s _ _ rfl (verifyResponseEffect_waiting p.val _ hp hst)
  case streamGate => exact fun t g s hvalid hst => run_eq t _ s _ _ rfl (streamGateEffect_runs _ g.val hvalid hst)

end Sys2Proof.Proofs
end

section
/-! PROOFS. Filters, gates, meters and FRER functions (chapters 11 and 12). -/

namespace Sys2Proof.Proofs

open Sys2Proof.Machine Sys2Proof.Safety Sys2Proof.Laws

/-! ### Commands that name a row (R348, R349, R351, R360, R368) -/

/-- A command of chapters 11 and 12 that names a row takes effect at its commit point. -/
theorem writes_row (sid ix sub M v : Nat) (f : Sys → Sys) (x : SysMem)
    (hix : ix = 0x6000 ∨ ix = 0x6100 ∨ ix = 0x6200 ∨ ix = 0x6400) (hsub : sub ≠ 2 ∧ sub ≠ 9)
    (hobj : objAt ix sub = some { acc := .wo, cls := .v, cols := [u16 0 M] }) (hv : v ≤ M) (h : mayCommand x.1 sid ix sub v)
    (hf : commandEffect sid 0 ix sub (.num v) (commandPoint sid x) = (onSys f (commandPoint sid x), none)) :
    writes sid ix sub v x = settled sid x (onSys f (commandPoint sid x)) := by
  have hck : checkValue x.1 ix sub 0 0 (u16 0 M) (.num v) = (.num v, [0]) := by
    rw [range_value x.1 ix sub M v hix hv, hobj]
    rfl
  have hheld : sessionHeld ix sub = false := by rcases hix with rfl | rfl | rfl | rfl <;> rfl
  have hrule : ruleObject ix sub = false := by rcases hix with rfl | rfl | rfl | rfl <;> rfl
  have hplain : ix ≠ 0x220 ∧ ix ≠ 0x400 ∧ ix ≠ 0x200 := by omega
  obtain ⟨h220, h400, h200⟩ := hplain
  exact writes_command sid ix sub v x _ _ _ _ h hobj rfl rfl rfl hheld hck hrule (by simp [h200]) h220
    ⟨h400, fun h2 => absurd h2 hsub.1, fun h9 => absurd h9 hsub.2⟩ hf

/-- The number that a command's value reads as. -/
theorem value_toNat (v : Nat) : (Value.num (v : Int)).toNat = v := Int.toNat_natCast v

/-! ### Recovery and its latent errors (R368, R369) -/

section
variable (fn : Nat) (s : Sys)

theorem recoveryTimeoutEffect_due (last : Nat) (hlast : (rcvy s fn).lastPass = some last) (hvalid : cellB s 0x6400 5 fn 0 = true)
    (hdue : last + (rcvy s fn).resetMs * Config.ticksPerMs ≤ s.now) : recoveryTimeoutEffect fn s = rcvyReset fn s := by
  simp only [recoveryTimeoutEffect, hlast]
  exact if_pos ⟨hvalid, hdue⟩

section
variable (hvalid : cell s 0x6400 5 fn 0 ≠ 0) (htests : cell s 0x6400 5 fn 11 ≠ 0)
include hvalid htests

theorem latentTestEffect_error
    (herror : (rcvy s fn).p * (cell s 0x6400 5 fn 12 - 1) > cell s 0x6400 5 fn 13 + (rcvy s fn).x) :
    latentTestEffect fn s =
      let y := bump (Ctr.frerLatentError fn) (setRcvy fn { rcvy s fn with latent := true } s)
      if (rcvy s fn).latent then y else raise 0x0804 2 (u16b fn) y :=
  (if_neg (by simp [hvalid, htests])).trans (if_pos herror)

theorem latentTestEffect_none
    (hnone : (rcvy s fn).p * (cell s 0x6400 5 fn 12 - 1) ≤ cell s 0x6400 5 fn 13 + (rcvy s fn).x) :
    latentTestEffect fn s = setRcvy fn { rcvy s fn with latent := false } s :=
  (if_neg (by simp [hvalid, htests])).trans (if_neg (Nat.not_lt.mpr hnone))

end

theorem latentPeriodEffect_restarts (hvalid : cellB s 0x6400 5 fn 0 = true) (htests : cellB s 0x6400 5 fn 11 = true) :
    latentPeriodEffect fn s = setRcvy fn { rcvy s fn with p := 0, x := 0 } s := if_pos ⟨hvalid, htests⟩

end

/-- Settles O27: the five commands are cases of `writes_row`, the three tests the cases that the hypotheses select. -/
theorem streamStatesAreReleasedAndTested : Obligations.Stream_states_are_released_and_tested := by
  refine ⟨?unblock, ?clear, ?clearRed, ?genReset, ?rcvyReset, ?timeout, ?latent, ?noLatent, ?period⟩
  case unblock =>
    exact fun t sid h s hmay => runMem_eq t _ s _ _ rfl
      (writes_row sid 0x6000 3 4095 h.val _ _ (by decide) (by decide) rfl (by omega) hmay (by simp only [commandEffect, value_toNat]; rfl))
  case clear =>
    exact fun t sid g s hmay => runMem_eq t _ s _ _ rfl
      (writes_row sid 0x6100 4 1023 g.val _ _ (by decide) (by decide) rfl (by omega) hmay (by simp only [commandEffect, value_toNat]; rfl))
  case clearRed =>
    exact fun t sid m s hmay => runMem_eq t _ s _ _ rfl
      (writes_row sid 0x6200 3 4095 m.val _ _ (by decide) (by decide) rfl (by omega) hmay (by simp only [commandEffect, value_toNat]; rfl))
  case genReset =>
    exact fun t sid fn s hmay => runMem_eq t _ s _ _ rfl
      (writes_row sid 0x6400 4 2047 fn.val _ _ (by decide) (by decide) rfl (by omega) hmay (by simp only [commandEffect, value_toNat]; rfl))
  case rcvyReset =>
    exact fun t sid fn s hmay => runMem_eq t _ s _ _ rfl
      (writes_row sid 0x6400 7 2047 fn.val _ _ (by decide) (by decide) rfl (by omega) hmay (by simp only [commandEffect, value_toNat]; rfl))
  case timeout =>
    exact fun t fn last s hlast hvalid hdue => run_eq t _ s _ _ rfl (recoveryTimeoutEffect_due fn.val _ last hlast hvalid hdue)
  case latent =>
    exact fun t fn s hrun hvalid htests herror => run_bySteward_eq t _ s _ hrun (latentTestEffect_error fn.val _ hvalid htests herror)
  case noLatent =>
    exact fun t fn s hrun hvalid htests hnone => run_bySteward_eq t _ s _ hrun (latentTestEffect_none fn.val _ hvalid htests hnone)
  case period =>
    exact fun t fn s hrun hvalid htests => run_bySteward_eq t _ s _ hrun (latentPeriodEffect_restarts fn.val _ hvalid htests)

/-! ### The match algorithm (R365) -/

/-- Settles O53: the three branches of `matchStep`. -/
theorem theMatchAlgorithm : Obligations.The_match_algorithm := by
  intro fn n v s
  refine ⟨fun hany => if_pos hany, fun hset hsame => ⟨{ v with x := v.x + 1 }, ?_, rfl, hset⟩, fun hset hother => ?_⟩
  · exact (if_neg (Bool.eq_false_iff.mp hset)).trans (if_pos hsame)
  · refine (if_neg (Bool.eq_false_iff.mp hset)).trans ((if_neg hother).trans ?_)
    by_cases hnext : n = (v.recov + 1) % 65536
    · simp [bumpIf, ← hnext]
    · simp [bumpIf, hnext]

end Sys2Proof.Proofs
end

section
/-! PROOFS. The HBM: its canonical form, code words, blocks read and written, and maintenance (chapter 13). -/

namespace Sys2Proof.Proofs

open Sys2Proof.Machine Sys2Proof.Safety Sys2Proof.Laws

/-! ### Commits keep the canonical form (R49) -/

/-- An effect on the registers leaves the HBM alone. -/
@[simp] theorem onSys_hbm (f : Sys → Sys) (x : SysMem) : (onSys f x).2 = x.2 := rfl

theorem wf_onSys (f : Sys → Sys) (x : SysMem) (h : Memory.wf x.2 = true) : Memory.wf (onSys f x).2 = true := by rwa [onSys_hbm]

/-- CAST_CMD reads the HBM only. -/
theorem castCommand_hbm (cmd i : Nat) (x : SysMem) : (castCommand cmd i x).2 = x.2 := by
  unfold castCommand
  dsimp only
  split
  · rfl
  · split <;> rfl

/-- Of the commands at a commit point, only REMAP_CMD writes blocks. -/
theorem wf_commandEffect (sid txn ix sub : Nat) (v : Value) (x : SysMem) (h : Memory.wf x.2 = true) :
    Memory.wf (commandEffect sid txn ix sub v x).1.2 = true := by
  unfold commandEffect
  dsimp only
  split
  · exact h
  split
  · split <;> split <;> exact h
  split
  case h_11 => exact wf_candidate _ _ _ h
  case h_21 => exact (congrArg (Memory.wf · = true) (castCommand_hbm _ _ x)).mpr h
  case h_5 => split <;> split <;> exact h
  case h_6 => split <;> exact h
  all_goals exact h

theorem wf_runStaged (sid txn : Nat) (l : List Staged) (x : SysMem) (h : Memory.wf x.2 = true) :
    Memory.wf (runStaged sid txn l x).1.2 = true := by
  induction l generalizing x with
  | nil => exact h
  | cons y l ih =>
    unfold runStaged
    split
    · exact ih x h
    · split
      · exact ih _ h
      · exact ih _ (wf_commandEffect sid txn y.ix y.sub y.val x h)

theorem wf_commitStaged (sid txn : Nat) (l : List Staged) (x : SysMem) (h : Memory.wf x.2 = true) :
    Memory.wf (commitStaged sid txn l x).1.2 = true :=
  wf_runStaged sid txn l (_, x.2) h

theorem wf_commitTxn (v : Session) (orphan : Bool) (x : SysMem) (h : Memory.wf x.2 = true) :
    Memory.wf (commitTxn v orphan x).2 = true := by
  refine wf_commitStaged v.sid v.txn.num v.txn.staged _ ?_
  split <;> exact h

theorem wf_commitAll (released : List Nat) (timed : Bool) (x : SysMem) (h : Memory.wf x.2 = true) :
    Memory.wf (commitAll released timed x).2 = true := by
  unfold commitAll
  dsimp only
  split
  · exact h
  · exact foldl_keeps (fun y : SysMem => Memory.wf y.2 = true) _ _ _ (fun y e => wf_commitTxn e.1 e.2 y) h

theorem wf_atPoint (g : SysMem → SysMem) (hg : ∀ y : SysMem, Memory.wf y.2 = true → Memory.wf (g y).2 = true) (x : SysMem)
    (h : Memory.wf x.2 = true) : Memory.wf (atPoint g x).2 = true := hg (onSys plinthFirst x) h

theorem wf_commitDue (timed : Bool) (x : SysMem) (h : Memory.wf x.2 = true) : Memory.wf (commitDue timed x).2 = true :=
  wf_atPoint _ (wf_commitAll [] timed) x h

theorem wf_statedCommitEffect (sid : Nat) (x : SysMem) (h : Memory.wf x.2 = true) : Memory.wf (statedCommitEffect sid x).2 = true := by
  unfold statedCommitEffect
  dsimp only
  split
  · exact wf_commitDue true x h
  · exact h

theorem wf_rulesetLoadEffect (x : SysMem) (h : Memory.wf x.2 = true) : Memory.wf (rulesetLoadEffect x).2 = true := by
  unfold rulesetLoadEffect
  split
  · exact wf_atPoint _ (wf_commitTxn _ _) x h
  · exact h

theorem wf_directCommit (sid : Nat) (l : List Staged) (x : SysMem) (h : Memory.wf x.2 = true) :
    Memory.wf (directCommit sid l x).1.2 = true := by
  unfold directCommit
  split
  · exact h
  · split
    · exact h
    · exact wf_commitStaged sid 0 l _ (wf_commitAll _ false (onSys plinthFirst x) h)

theorem wf_sessionWrite (sid ix sub : Nat) (v : Value) (x : SysMem) (h : Memory.wf x.2 = true) :
    Memory.wf (sessionWrite sid ix sub v x).2 = true := by
  unfold sessionWrite
  split
  · exact h
  · split
    · split
      · exact wf_directCommit sid _ (_, x.2) h
      · exact h
    · exact h

theorem wf_preset (sid : Nat) (l : List (Nat × Nat × Nat)) (x : SysMem) (h : Memory.wf x.2 = true) : Memory.wf (preset sid l x).2 = true :=
  foldl_keeps (fun y : SysMem => Memory.wf y.2 = true) _ _ _ (fun y e => wf_sessionWrite sid e.1 e.2.1 (.num e.2.2) y) h

theorem wf_findEffect (sid row key which : Nat) (x : SysMem) (h : Memory.wf x.2 = true) : Memory.wf (findEffect sid row key which x).2 = true := by
  unfold findEffect
  split
  · exact h
  · exact wf_directCommit sid _ (_, x.2) h

/-! ### Requests of Gramus keep it -/

theorem wf_finishWrite (r : Reply) (within : Bool) (k : HeldKind) (a : Sys × List Staged) (m : List Host.Cell) (h : Memory.wf m = true) :
    Memory.wf (finishWrite r within k a m).2 = true :=
  wf_directCommit r.sid a.2 (a.1, m) h

theorem wf_serveWriteRows (r : Reply) (ix sub first n : Nat) (b : List Byte) (x : SysMem) (h : Memory.wf x.2 = true) :
    Memory.wf (serveWriteRows r ix sub first n b x).2 = true := by
  unfold serveWriteRows
  dsimp only
  split
  · exact h
  split
  · exact h
  split
  · exact h
  split
  · exact h
  · exact wf_finishWrite _ _ _ _ _ h

theorem wf_serveReadSegment (r : Reply) (ix sub off len : Nat) (x : SysMem) (h : Memory.wf x.2 = true) :
    Memory.wf (serveReadSegment r ix sub off len x).2 = true := by
  unfold serveReadSegment
  dsimp only
  split
  · exact h
  · split <;> exact h

theorem wf_serveSegment (r : Reply) (ix sub last total off : Nat) (data : List Byte) (x : SysMem) (h : Memory.wf x.2 = true) :
    Memory.wf (serveSegment r ix sub last total off data x).2 = true := by
  unfold serveSegment
  extract_lets z upTo refuse disorder cleared within take
  have hrefuse : ∀ code, Memory.wf (refuse code).2 = true := fun code => h
  have hdisorder : Memory.wf disorder.2 = true := h
  have htake : ∀ bytes, Memory.wf (take bytes).2 = true := by
    intro bytes
    simp only [take]
    split
    · split
      · exact hdisorder
      · exact wf_finishWrite _ _ _ _ _ h
    · exact h
  clear_value refuse disorder take
  split
  next =>
    split
    · exact h
    split
    · exact hdisorder
    · exact htake _
  next =>
    split
    · exact h
    split
    · exact hrefuse _
    split
    · exact hrefuse _
    split
    · exact hdisorder
    extract_lets access code
    clear_value code
    split
    · exact h
    · exact htake _

theorem wf_execute (r : Reply) (f : GFrame) (x : SysMem) (h : Memory.wf x.2 = true) : Memory.wf (execute r f x).2 = true := by
  unfold execute
  dsimp only
  split
  · exact h
  split
  · exact h
  split
  · exact h
  split
  case h_4 =>
    split
    · exact wf_finishWrite _ _ _ _ _ h
    · exact h
  case h_6 =>
    split
    · exact wf_serveWriteRows _ _ _ _ _ _ x h
    · exact h
  case h_7 =>
    split
    · exact wf_serveReadSegment _ _ _ _ _ x h
    · exact h
  case h_8 =>
    split
    · exact wf_serveSegment _ _ _ _ _ _ _ x h
    · exact h
  all_goals split <;> exact h

theorem wf_pumpSession (sid n : Nat) (x : SysMem) (h : Memory.wf x.2 = true) : Memory.wf (pumpSession sid n x).2 = true := by
  induction n generalizing x with
  | zero => exact h
  | succ n ih =>
    unfold pumpSession
    split
    · exact h
    split
    · split
      · exact ih _ h
      · exact h
    split
    · exact h
    split
    · exact h
    · exact ih _ (wf_execute _ _ _ h)

theorem wf_pump (x : SysMem) (h : Memory.wf x.2 = true) : Memory.wf (pump x).2 = true := by
  unfold pump
  split
  · exact foldl_keeps (fun y : SysMem => Memory.wf y.2 = true) _ _ _ (fun y sid => wf_pumpSession sid 16 y) h
  · exact h

theorem admitRequest_hbm (view : Sys) (v : Session) (late : Bool) (arrived : Nat) (f : GFrame) (x : SysMem) :
    (admitRequest view v late arrived f x).2 = x.2 := by
  unfold admitRequest
  extract_lets r rid outstanding alive fresh
  have hfresh : ∀ y : SysMem, (fresh y).2 = y.2 := by
    intro y
    simp only [fresh]
    split <;> rfl
  clear_value fresh alive
  split
  · rfl
  split
  · rfl
  · exact hfresh x
  split
  · rfl
  · exact hfresh x

theorem wf_receive (view : Sys) (arrived : Nat) (f : GFrame) (delay : Nat) (nonceD : List Byte) (late : Bool) (x : SysMem)
    (h : Memory.wf x.2 = true) : Memory.wf (receive view arrived f delay nonceD late x).2 = true := by
  unfold receive
  extract_lets s on
  have hon : ∀ g, Memory.wf (on g).2 = true := fun _ => h
  clear_value on
  split
  · exact h
  split
  · exact hon _
  split
  · exact hon _
  split
  · exact hon _
  split
  · exact hon _
  split
  · exact hon _
  split
  · exact hon _
  split
  · exact hon _
  split
  · exact hon _
  · dsimp only
    split
    · exact h
    · refine wf_pump _ ?_
      rwa [admitRequest_hbm]

/-- Taking a frame leaves the HBM alone. -/
theorem takeFrame_hbm (f : Option GFrame) (want : GFrame → Bool) (x y : SysMem) (g : Taken) (h : takeFrame f want x = some (g, y)) :
    y.2 = x.2 := by
  unfold takeFrame at h
  split at h
  · split at h
    · cases h
      rfl
    · cases h
  · split at h
    · cases h
    dsimp only at h
    split at h
    · cases h
    split at h
    · obtain ⟨e, _, he⟩ := Option.map_eq_some_iff.mp h
      cases he
      rfl
    · cases h

/-- Serving a frame that is taken keeps the form. -/
theorem wf_serve_taken (f : Option GFrame) (want : GFrame → Bool) (delay : Nat) (nonceD : List Byte) (late : Bool) (x y : SysMem)
    (g : Taken) (htake : takeFrame f want x = some (g, y)) (h : Memory.wf x.2 = true) :
    Memory.wf (serve g delay nonceD late y).2 = true := by
  refine wf_receive _ _ _ _ _ _ y ?_
  rw [takeFrame_hbm f want x y g htake]
  exact h

theorem wf_gmpEffect (op : Nat) (f : Option GFrame) (delay : Nat) (nonceD : List Byte) (x : SysMem) (h : Memory.wf x.2 = true) :
    Memory.wf (gmpEffect op f delay nonceD x).2 = true := by
  unfold gmpEffect
  split
  next htake => exact wf_serve_taken _ _ _ _ _ x _ _ htake h
  next => exact h

theorem wf_unknownEffect (f : Option GFrame) (x : SysMem) (h : Memory.wf x.2 = true) : Memory.wf (unknownEffect f x).2 = true := by
  unfold unknownEffect
  split
  next htake => exact wf_serve_taken _ _ _ _ _ x _ _ htake h
  next =>
    split
    · split <;> exact h
    · exact h

theorem wf_startTimeoutEffect (x : SysMem) (h : Memory.wf x.2 = true) : Memory.wf (startTimeoutEffect x).2 = true := by
  unfold startTimeoutEffect
  dsimp only
  split
  next htake =>
    split
    · exact wf_serve_taken _ _ _ _ _ (onSys busyLate x) _ _ htake h
    · exact h
  next => exact h

theorem wf_txnEffect (via : Via) (op : Nat) (want : GFrame → Bool) (write : Nat → SysMem → SysMem)
    (hwrite : ∀ sid (y : SysMem), Memory.wf y.2 = true → Memory.wf (write sid y).2 = true) (x : SysMem) (h : Memory.wf x.2 = true) :
    Memory.wf (txnEffect via op want write x).2 = true := by
  unfold txnEffect
  split
  next sid => exact hwrite sid x h
  next =>
    split
    next htake => exact wf_serve_taken _ _ _ _ _ x _ _ htake h
    next => exact h

/-! ### Resets and start-up keep it -/

theorem wf_beginReset (warm : Bool) (kind cause : Nat) (x : SysMem) (h : Memory.wf x.2 = true) :
    Memory.wf (beginReset warm kind cause x).2 = true := by
  unfold beginReset
  split
  · exact h
  · rw [onSys_hbm]
    exact wf_flushWrites _ (wf_flushMerge _ (wf_flushWrites _ (wf_onSys _ _ h)))

theorem wf_warmReset (cause : Nat) (x : SysMem) (h : Memory.wf x.2 = true) : Memory.wf (warmReset cause x).2 = true := by
  unfold warmReset
  split <;> exact wf_beginReset _ _ _ x h

theorem wf_porstAssert (x : SysMem) (h : Memory.wf x.2 = true) : Memory.wf (porstAssert x).2 = true := by
  unfold porstAssert
  split
  · exact h
  · exact wf_beginReset false 1 1 x h

theorem wf_detectorAssert (x : SysMem) (h : Memory.wf x.2 = true) : Memory.wf (detectorAssert x).2 = true := by
  unfold detectorAssert
  split
  · exact h
  · exact wf_beginReset false 1 2 x h

theorem wf_wrstAssert (x : SysMem) (h : Memory.wf x.2 = true) : Memory.wf (wrstAssert x).2 = true := by
  unfold wrstAssert
  split
  · exact h
  · show Memory.wf (if inHold x.1 = true then x else warmReset 3 x).2 = true
    split
    · exact h
    · exact wf_warmReset 3 x h

theorem wf_scanHold (x : SysMem) (h : Memory.wf x.2 = true) : Memory.wf (scanHold x).2 = true := by
  unfold scanHold
  split
  · exact h
  · rw [onSys_hbm]
    exact wf_beginReset false 1 _ _ h

theorem wf_release (held : Boot → Bool) (let_ : Boot → Boot) (b : BootInput) (x : SysMem) (h : Memory.wf x.2 = true) :
    Memory.wf (release held let_ b x).2 = true := by
  unfold release
  split <;> exact h

theorem wf_devResetEffect (b : BootInput) (x : SysMem) (h : Memory.wf x.2 = true) : Memory.wf (devResetEffect b x).2 = true := by
  unfold devResetEffect
  split
  next full _ =>
    split
    · exact h
    · show Memory.wf (if full = true then beginReset false 3 4 x else warmReset 4 x).2 = true
      split
      · exact wf_beginReset false 3 4 x h
      · exact wf_warmReset 4 x h
  next => exact h

theorem wf_firmwareTimeout (b : BootInput) (x : SysMem) (h : Memory.wf x.2 = true) : Memory.wf (firmwareTimeout b x).2 = true := by
  unfold firmwareTimeout
  dsimp only
  split
  · exact h
  · rw [startUp, onSys_hbm]
    exact wf_warmReset 5 _ h

/-- Of the start-up steps, only the ninth commits. -/
theorem wf_bootStep (k : Nat) (x : SysMem) (h : Memory.wf x.2 = true) : Memory.wf (bootStep k x).2 = true := by
  unfold bootStep
  split
  case h_7 =>
    rw [applyImage, onSys_hbm]
    exact wf_commitStaged 0 0 _ _ h
  case h_11 => exact h
  all_goals rwa [onSys_hbm]

theorem wf_bootTurn (k : Nat) (x : SysMem) (h : Memory.wf x.2 = true) : Memory.wf (bootTurn k x).2 = true := by
  unfold bootTurn
  dsimp only
  split
  · exact wf_bootStep k x h
  · rw [onSys_hbm]
    exact wf_bootStep k x h

/-! ### What surrounds a command keeps it -/

theorem wf_aftermath (x : SysMem) (h : Memory.wf x.2 = true) : Memory.wf (aftermath x).2 = true :=
  wf_flushWrites (_, _) (wf_pump _ (wf_flushWrites (_, x.2) h))

theorem wf_bootTurns (n t : Nat) (x : SysMem) (h : Memory.wf x.2 = true) : Memory.wf (bootTurns n t x).2 = true := by
  induction n generalizing x with
  | zero => exact h
  | succ n ih =>
    unfold bootTurns
    split
    · exact h
    · exact ih _ (wf_aftermath _ (wf_flushWrites _ (wf_bootTurn _ _ (wf_onSys _ _ h))))

theorem wf_advance (t : Nat) (x : SysMem) (h : Memory.wf x.2 = true) : Memory.wf (advance t x).2 = true := wf_bootTurns 12 t x h

/-! ### The effects of the other commands -/

theorem wf_chiselBlockEffect (req : Bool) (noise : List Disturbance) (x : SysMem) (h : Memory.wf x.2 = true) :
    Memory.wf (chiselBlockEffect req noise x).2 = true := by
  unfold chiselBlockEffect
  split
  · exact h
  split
  · exact h
  split
  · split
    · exact wf_chiselTurn _ _ _ _ x h
    · exact h
  · exact h

theorem wf_sramLost (k w : Nat) (x : SysMem) (h : Memory.wf x.2 = true) : Memory.wf (sramLost k w x).2 = true := by
  unfold sramLost
  split
  case h_6 =>
    split
    · split
      · exact wf_poisonEntry _ x h
      · exact h
    · rwa [onSys_hbm]
  case h_8 =>
    split
    · rwa [rebuildTouched]
    · rwa [onSys_hbm]
  case h_10 => exact h
  all_goals rwa [onSys_hbm]

theorem wf_sramSweepEffect (k : Nat) (hits : List SramHit) (x : SysMem) (h : Memory.wf x.2 = true) :
    Memory.wf (sramSweepEffect k hits x).2 = true := by
  refine foldl_keeps (fun y : SysMem => Memory.wf y.2 = true) _ _ _ (fun y hit hy => ?_) h
  split
  · rwa [onSys_hbm]
  · exact wf_sramLost k hit.word _ (wf_onSys _ y hy)

theorem wf_drainEndEffect (x : SysMem) (h : Memory.wf x.2 = true) : Memory.wf (drainEndEffect x).2 = true := by
  unfold drainEndEffect
  dsimp only
  split
  · exact h
  · exact wf_flushMerge (freezeNow (closeSeg (drainFrames x.1)), x.2) h

theorem exportScanEffect_hbm (sid : Nat) (x : SysMem) : (exportScanEffect sid x).2 = x.2 := by
  unfold exportScanEffect
  split
  · rfl
  · split
    · rfl
    · exact onSys_hbm _ x

theorem replayEffect_hbm (x : SysMem) : (replayEffect x).2 = x.2 := by
  unfold replayEffect
  split
  · rfl
  dsimp only
  split
  · rfl
  · split <;> rfl

theorem wf_byStewardMem (f : SysMem → SysMem) (hf : ∀ y : SysMem, Memory.wf y.2 = true → Memory.wf (f y).2 = true) (x : SysMem)
    (h : Memory.wf x.2 = true) : Memory.wf (byStewardMem f x).2 = true := by
  unfold byStewardMem
  split
  · exact hf x h
  · exact h

theorem wf_fromStepMem (k : Nat) (f : SysMem → SysMem) (hf : ∀ y : SysMem, Memory.wf y.2 = true → Memory.wf (f y).2 = true) (x : SysMem)
    (h : Memory.wf x.2 = true) : Memory.wf (fromStepMem k f x).2 = true := by
  unfold fromStepMem
  split
  · exact hf x h
  · exact h

/-! ### Every step keeps it -/

/-- Command `c` stops, or lets an effect act that keeps the canonical form. -/
def CommandKeepsForm (c : Instr) (s : State) : Prop :=
  (∃ r, exec c s = .fault r) ∨
    ∃ t f, exec c s = runMem t f s ∧ ∀ x : SysMem, Memory.wf x.2 = true → Memory.wf (f x).2 = true

/-- A command that names a block stops beyond the last one, and otherwise acts from start-up step 8 on. -/
theorem commandKeepsForm_block (c : Instr) (s : State) (t lba : Nat) (f : SysMem → SysMem)
    (hc : exec c s = if Config.memBlocks ≤ lba then .fault (.noSuchBlock lba) else runMem t (fromStepMem 8 f) s)
    (hf : ∀ x : SysMem, Memory.wf x.2 = true → Memory.wf (f x).2 = true) : CommandKeepsForm c s := by
  rw [CommandKeepsForm, hc]
  split
  · exact .inl ⟨_, rfl⟩
  · exact .inr ⟨t, _, rfl, wf_fromStepMem 8 f hf⟩

theorem exec_keepsForm (c : Instr) (s : State) : CommandKeepsForm c s := by
  cases c
  case hbmBlockRead t lba owner noise => exact commandKeepsForm_block _ s t lba _ rfl (wf_blockReadEffect lba owner.val noise)
  case hbmBlockWrite t lba owner data => exact commandKeepsForm_block _ s t lba _ rfl (wf_blockWriteEffect lba owner.val (padRight 512 data))
  case narrowWrite t lba owner words => exact commandKeepsForm_block _ s t lba _ rfl (wf_narrowEffect lba owner.val words)
  case mergeWindowExpiry t lba noise => exact .inr ⟨t, _, rfl, wf_mergeExpiryEffect lba noise⟩
  case chiselBlock t req noise => exact .inr ⟨t, _, rfl, wf_chiselBlockEffect req noise⟩
  case sramSweep t k hits => exact .inr ⟨t, _, rfl, wf_fromStepMem 3 _ (wf_sramSweepEffect k.val hits)⟩
  case commitPoint t => exact .inr ⟨t, _, rfl, wf_byStewardMem _ (wf_commitDue false)⟩
  case statedCommitTime t sid => exact .inr ⟨t, _, rfl, wf_byStewardMem _ (wf_statedCommitEffect sid)⟩
  case rulesetLoadDone t => exact .inr ⟨t, _, rfl, wf_rulesetLoadEffect⟩
  case emmFind t sid row key which => exact .inr ⟨t, _, rfl, wf_findEffect sid row.val key which.val⟩
  case unknownOpcode t f => exact .inr ⟨t, _, rfl, wf_unknownEffect f⟩
  case requestStartTimeout t => exact .inr ⟨t, _, rfl, wf_startTimeoutEffect⟩
  case dormantDrainEnd t => exact .inr ⟨t, _, rfl, wf_drainEndEffect⟩
  case castReplayFrame t => exact .inr ⟨t, _, rfl, fun x h => by rwa [replayEffect_hbm]⟩
  case exportScanDone t sid => exact .inr ⟨t, _, rfl, fun x h => by rwa [exportScanEffect_hbm]⟩
  case porstNAssert t => exact .inr ⟨t, _, rfl, wf_porstAssert⟩
  case powerOnDetectorAssert t => exact .inr ⟨t, _, rfl, wf_detectorAssert⟩
  case wrstNAssert t => exact .inr ⟨t, _, rfl, wf_wrstAssert⟩
  case boundaryScanHold t => exact .inr ⟨t, _, rfl, wf_scanHold⟩
  case devResetDelayExpiry t boot => exact .inr ⟨t, _, rfl, wf_devResetEffect boot⟩
  case firmwareBootTimeout t boot => exact .inr ⟨t, _, rfl, wf_firmwareTimeout boot⟩
  case fwStage t sid image => exact .inr ⟨t, _, rfl, wf_sessionWrite sid 0x0110 4 (.octets image)⟩
  case porstNRelease | powerOnDetectorRelease | wrstNRelease | boundaryScanRelease => exact .inr ⟨_, _, rfl, wf_release _ _ _⟩
  case txnOpen | txnArm | txnCommitNext | txnAbort =>
    exact .inr ⟨_, _, rfl, wf_txnEffect _ _ _ _ (fun sid y => wf_sessionWrite sid _ _ _ y)⟩
  case txnCommitStated =>
    exact .inr ⟨_, _, rfl, wf_txnEffect _ _ _ _ (fun sid y h => wf_sessionWrite sid _ _ _ _ (wf_preset sid _ y h))⟩
  case snapReqNext t sid i =>
    exact .inr ⟨t, fun x => writes sid 0x0220 2 1 (preset sid [(0x0220, 5, i.val)] x), rfl,
      fun x h => wf_sessionWrite sid _ _ _ _ (wf_preset sid _ x h)⟩
  case snapReqStated t sid i b u =>
    exact .inr ⟨t, fun x => writes sid 0x0220 2 2 (preset sid [(0x0220, 5, i.val), (0x0220, 4, b.val), (0x0220, 3, u)] x), rfl,
      fun x h => wf_sessionWrite sid _ _ _ _ (wf_preset sid _ x h)⟩
  case snapRelease t sid i =>
    exact .inr ⟨t, fun x => writes sid 0x0220 2 3 (preset sid [(0x0220, 5, i.val)] x), rfl,
      fun x h => wf_sessionWrite sid _ _ _ _ (wf_preset sid _ x h)⟩
  case discover | sessionOpen | sessionClose | keepalive | read | write | readRows | writeRows | readSegment | writeSegment | eventAck =>
    exact .inr ⟨_, _, rfl, wf_gmpEffect _ _ _ _⟩
  case tbStepTo | tbRestep | store | restoreDefaults | eraseStoredImage | poolRebuildCmd | emmFlushSource | emmFlushVid
      | emmFlushSourceVid | emmFlushAll | emmFlushEntry | decUnresolvedClear | decReadmit | decRaise | sfUnblock | sgClear | meterClearRed
      | frerGenReset | frerRcvyReset | mdioC22Read | mdioC22Write | mdioC45Address | mdioC45Write | mdioC45Read | mdioC45ReadInc
      | dormantEnterCmd | dormantExitCmd | recTriggerNow | recTriggerAtTime | castRelease | castReplay | castStopReplay | castExportSel
      | devResetWarm | devResetFull | safClear | safPinTestB | safPinTestA | memDieFailCmd | memDieRestoreCmd | chiselScrub | chiselVerify
      | chiselAbort | remapCmd =>
    exact .inr ⟨_, _, rfl, wf_sessionWrite _ _ _ _⟩
  all_goals exact .inr ⟨_, onSys _, rfl, wf_onSys _⟩

/-- Settles O41: a step runs a command, whose effect and all that surrounds it keep the form. -/
theorem hbmKeepsItsCanonicalForm : Obligations.HBM_keeps_its_canonical_form := by
  intro s t hs hstep
  unfold step at hstep
  split at hstep
  next => cases hstep; exact hs
  next c rest hpending =>
    rcases exec_keepsForm c { s with pending := rest } with ⟨r, hfault⟩ | ⟨u, f, hrun, hf⟩
    · rw [hfault] at hstep
      cases hstep
    · rw [hrun] at hstep
      cases hstep
      exact wf_aftermath _ (wf_flushWrites _ (hf _ (wf_advance u _ hs)))

/-! ### Blocks beyond the HBM (R371, log entry 9) -/

/-- The commands that name block `lba` of the HBM. -/
def NamesBlock (lba : Nat) (c : Instr) : Prop :=
  (∃ t owner noise, c = .hbmBlockRead t lba owner noise) ∨ (∃ t owner data, c = .hbmBlockWrite t lba owner data)
    ∨ ∃ t owner words, c = .narrowWrite t lba owner words

/-- One that names a block stops beyond the last one, and otherwise goes on. -/
theorem exec_namesBlock (c : Instr) (lba : Nat) (s : State) (h : NamesBlock lba c) :
    ∃ t f, exec c s = if Config.memBlocks ≤ lba then .fault (.noSuchBlock lba) else runMem t f s := by
  rcases h with ⟨t, owner, noise, rfl⟩ | ⟨t, owner, data, rfl⟩ | ⟨t, owner, words, rfl⟩
  · exact ⟨t, _, rfl⟩
  · exact ⟨t, _, rfl⟩
  · exact ⟨t, _, rfl⟩

/-- Any other command goes on. -/
theorem exec_completes (c : Instr) (s : State) (h : ∀ lba, ¬ NamesBlock lba c) : ∃ s', exec c s = .next s' ∧ s'.pending = s.pending := by
  rcases exec_runs c s with ⟨t, f, hrun⟩ | ⟨t, lba, f, _, hnames⟩
  · exact ⟨_, hrun, rfl⟩
  · refine absurd ?_ (h lba)
    rcases hnames with ⟨owner, noise, hc⟩ | ⟨owner, data, hc⟩ | ⟨owner, words, hc⟩
    · exact .inl ⟨t, owner, noise, hc⟩
    · exact .inr (.inl ⟨t, owner, data, hc⟩)
    · exact .inr (.inr ⟨t, owner, words, hc⟩)

/-- A command that names a block of the HBM goes on. -/
theorem exec_namesBlock_completes (c : Instr) (lba : Nat) (s : State) (h : NamesBlock lba c) (hlba : lba < 89478420) :
    ∃ s', exec c s = .next s' ∧ s'.pending = s.pending := by
  obtain ⟨t, f, he⟩ := exec_namesBlock c lba s h
  exact ⟨_, he.trans (if_neg (Nat.not_le.mpr hlba)), rfl⟩

/-- One that names a block beyond it stops there. -/
theorem exec_namesBlock_faults (c : Instr) (lba : Nat) (s : State) (h : NamesBlock lba c) (hlba : 89478420 ≤ lba) :
    exec c s = .fault (.noSuchBlock lba) := by
  obtain ⟨t, f, he⟩ := exec_namesBlock c lba s h
  exact he.trans (if_pos hlba)

/-- Every command goes on, or names a block beyond the HBM and stops there. -/
theorem exec_outcome (c : Instr) (s : State) :
    (∃ s', exec c s = .next s' ∧ s'.pending = s.pending)
      ∨ ∃ lba, exec c s = .fault (.noSuchBlock lba) ∧ 89478420 ≤ lba ∧ NamesBlock lba c := by
  by_cases h : ∃ lba, NamesBlock lba c
  · obtain ⟨lba, hnames⟩ := h
    rcases Nat.lt_or_ge lba 89478420 with hlba | hlba
    · exact .inl (exec_namesBlock_completes c lba s hnames hlba)
    · exact .inr ⟨lba, exec_namesBlock_faults c lba s hnames hlba, hlba, hnames⟩
  · exact .inl (exec_completes c s (not_exists.mp h))

/-- Settles O40, from the outcome of every command. -/
theorem onlyBlocksBeyondTheHbmStop : Obligations.Only_blocks_beyond_the_HBM_stop := by
  refine ⟨?refused, ?faults, ?inside, ?others⟩
  case refused =>
    intro c s r h
    rcases exec_outcome c s with ⟨s', he, _⟩ | ⟨lba, he, _, _⟩ <;> cases he.symm.trans h
  case faults =>
    intro c s f
    constructor
    · intro h
      rcases exec_outcome c s with ⟨s', he, _⟩ | ⟨lba, he, hlba, hnames⟩
      · cases he.symm.trans h
      · cases he.symm.trans h
        exact ⟨lba, rfl, hlba, hnames⟩
    · rintro ⟨lba, rfl, hlba, hnames⟩
      exact exec_namesBlock_faults c lba s hnames hlba
  case inside =>
    intro t lba owner noise data words s hlba
    exact ⟨exec_namesBlock_completes _ lba s (.inl ⟨t, owner, noise, rfl⟩) hlba,
      exec_namesBlock_completes _ lba s (.inr (.inl ⟨t, owner, data, rfl⟩)) hlba,
      exec_namesBlock_completes _ lba s (.inr (.inr ⟨t, owner, words, rfl⟩)) hlba⟩
  case others =>
    intro c s hread hwrite hnarrow
    refine exec_completes c s fun lba hnames => ?_
    rcases hnames with ⟨t, owner, noise, hc⟩ | ⟨t, owner, data, hc⟩ | ⟨t, owner, words, hc⟩
    · exact hread t lba owner noise hc
    · exact hwrite t lba owner data hc
    · exact hnarrow t lba owner words hc

/-! ### Places of shares (R371) -/

theorem sharePlace_die (n j : Nat) : (sharePlace n j).1 < 24 := Nat.mod_lt _ (by decide)

/-- Four blocks fill three slots of every die: share `j` of block `4g + k` is the one numbered `72g + 18k + j` of all shares, counted
slot by slot. -/
theorem sharePlace_number (n j : Nat) : 24 * (sharePlace n j).2 + (sharePlace n j).1 = 18 * n + j := by
  simp only [sharePlace]
  omega

theorem sharePlace_slot_lt (n j : Nat) (hn : n < Config.memBlocks + Config.memSpares) (hj : j < 18) : (sharePlace n j).2 < 67108863 := by
  have hnumber := sharePlace_number n j
  simp only [Config.memBlocks, Config.memSpares] at hn
  omega

theorem sharePlace_die_inj (n i j : Nat) (hi : i < 18) (hj : j < 18) (hne : i ≠ j) : (sharePlace n i).1 ≠ (sharePlace n j).1 := by
  simp only [sharePlace]
  omega

theorem sharePlace_inj (n m i j : Nat) (hi : i < 18) (hj : j < 18) (h : sharePlace n i = sharePlace m j) : n = m ∧ i = j := by
  have hn := sharePlace_number n i
  have hm := sharePlace_number m j
  rw [h] at hn
  omega

theorem sharePlace_surjective (g d q : Nat) (hd : d < 24) (hq : q < 3) :
    ∃ k j, k < 4 ∧ j < 18 ∧ sharePlace (4 * g + k) j = (d, 3 * g + q) := by
  refine ⟨(24 * q + d) / 18, (24 * q + d) % 18, by omega, by omega, ?_⟩
  simp only [sharePlace, Prod.mk.injEq]
  omega

theorem physical_plain (s : Sys) (lba : Nat) (h : spareOf s lba = none) : physical s lba = (lba, areaOf lba) := by
  simp only [physical, h]

theorem physical_spare (s : Sys) (lba i : Nat) (h : spareOf s lba = some i) : physical s lba = (Config.memBlocks + i, 3) := by
  simp only [physical, h]

/-- Settles O43, from the number of a share among all shares. -/
theorem sharesArePlacedOnEighteenDies : Obligations.Shares_are_placed_on_eighteen_dies :=
  ⟨⟨rfl, rfl, rfl, rfl, rfl⟩, fun _ _ _ => rfl, fun n j hn hj => ⟨sharePlace_die n j, sharePlace_slot_lt n j hn hj⟩, sharePlace_die_inj,
    sharePlace_inj, sharePlace_surjective, fun s lba h => congrArg Prod.fst (physical_plain s lba h),
    fun s lba i h => congrArg Prod.fst (physical_spare s lba i h)⟩

/-! ### The field GF(2^8) (R373) -/

theorem gfDouble_lt (a : Nat) (ha : a < 256) : gfDouble a < 256 := by
  unfold gfDouble
  split
  · exact Nat.xor_lt_two_pow (n := 8) (by omega) (by decide)
  · omega

/-- Doubling is a shift, reduced by the polynomial. -/
theorem gfDouble_eq : ∀ a, a < 256 → gfDouble a = (a <<< 1) ^^^ if a.testBit 7 then 0x11D else 0 := by decide +kernel

/-- Doubling is additive. -/
theorem gfDouble_xor (a b : Nat) (ha : a < 256) (hb : b < 256) : gfDouble (a ^^^ b) = gfDouble a ^^^ gfDouble b := by
  rw [gfDouble_eq _ (Nat.xor_lt_two_pow (n := 8) ha hb), gfDouble_eq a ha, gfDouble_eq b hb, Nat.shiftLeft_xor_distrib, Nat.testBit_xor]
  cases a.testBit 7 <;> cases b.testBit 7 <;> simp [Nat.xor_assoc, Nat.xor_left_comm, Nat.xor_comm]

theorem gfMulBits_lt (n a b : Nat) (ha : a < 256) : gfMulBits n a b < 256 := by
  induction n generalizing a b with
  | zero => exact Nat.zero_lt_succ 255
  | succ n ih =>
    refine Nat.xor_lt_two_pow (n := 8) ?_ (ih _ _ (gfDouble_lt a ha))
    split
    · exact ha
    · decide

theorem gfMul_lt (a b : Nat) (ha : a < 256) : gfMul a b < 256 := gfMulBits_lt 8 a b ha

theorem gfMulBits_xor (n a b c : Nat) (ha : a < 256) (hb : b < 256) :
    gfMulBits n (a ^^^ b) c = gfMulBits n a c ^^^ gfMulBits n b c := by
  induction n generalizing a b c with
  | zero => exact (Nat.xor_self 0).symm
  | succ n ih =>
    simp only [gfMulBits, gfDouble_xor a b ha hb, ih _ _ _ (gfDouble_lt a ha) (gfDouble_lt b hb)]
    split <;> simp [Nat.xor_assoc, Nat.xor_left_comm]

/-- Multiplication is additive in its first factor. -/
theorem gfMul_xor (a b c : Nat) (ha : a < 256) (hb : b < 256) : gfMul (a ^^^ b) c = gfMul a c ^^^ gfMul b c :=
  gfMulBits_xor 8 a b c ha hb

/-- 3 is α + 1. -/
theorem gfMul_three : ∀ a, a < 256 → gfMul 3 a = gfMul a (gfAlpha 1) ^^^ a := by decide +kernel

theorem gfMul_alpha_zero : ∀ a, a < 256 → gfMul a (gfAlpha 0) = a := by decide +kernel

theorem gfInv_three : gfInv 3 = 244 := by decide +kernel

/-- What is divided by 3 is got back by 3. -/
theorem gfMul_three_inv (a : Nat) (ha : a < 256) : gfMul 3 (gfMul a (gfInv 3)) = a := by
  rw [gfInv_three]
  revert a
  decide +kernel

/-- Two powers of α below 18 take a symbol that is not 0 to different symbols. -/
theorem gfMul_alpha_nodup : ∀ a, a < 256 → a ≠ 0 → ((List.range 18).map (fun m => gfMul a (gfAlpha m))).Nodup := by decide +kernel


/-! ### Check sums (R373) -/

theorem foldl_xor (l : List Nat) (a : Nat) : l.foldl (· ^^^ ·) a = a ^^^ xorAll l := by
  unfold xorAll
  induction l generalizing a with
  | nil => exact (Nat.xor_zero a).symm
  | cons b l ih => rw [List.foldl_cons, List.foldl_cons, ih, ih (0 ^^^ b), Nat.zero_xor, Nat.xor_assoc]

@[simp] theorem xorAll_cons (a : Nat) (l : List Nat) : xorAll (a :: l) = a ^^^ xorAll l := by
  rw [xorAll, List.foldl_cons, foldl_xor, Nat.zero_xor]

theorem xorAll_append (l m : List Nat) : xorAll (l ++ m) = xorAll l ^^^ xorAll m := by
  rw [xorAll, List.foldl_append, foldl_xor, ← xorAll]

theorem syndrome1_append (w : Nat) (l m : List Nat) : syndrome1 w (l ++ m) = syndrome1 w l ^^^ syndrome1 (w - l.length) m := by
  induction l generalizing w with
  | nil => exact (Nat.zero_xor _).symm
  | cons a l ih => rw [List.cons_append, syndrome1, syndrome1, ih, Nat.xor_assoc, List.length_cons, Nat.sub_sub, Nat.add_comm 1]

theorem xorAll_lt (l : List Nat) (h : ∀ a ∈ l, a < 256) : xorAll l < 256 := by
  induction l with
  | nil => decide
  | cons a l ih =>
    obtain ⟨ha, hl⟩ := List.forall_mem_cons.mp h
    rw [xorAll_cons]
    exact Nat.xor_lt_two_pow (n := 8) ha (ih hl)

theorem syndrome1_lt (w : Nat) (l : List Nat) (h : ∀ a ∈ l, a < 256) : syndrome1 w l < 256 := by
  induction l generalizing w with
  | nil => exact Nat.zero_lt_succ 255
  | cons a l ih =>
    obtain ⟨ha, hl⟩ := List.forall_mem_cons.mp h
    exact Nat.xor_lt_two_pow (n := 8) (gfMul_lt a _ ha) (ih _ hl)

/-- A symbol that is changed changes S0 by the change. -/
theorem xorAll_set (l : List Nat) (i v : Nat) (hi : i < l.length) : xorAll (l.set i v) = xorAll l ^^^ (l.getD i 0 ^^^ v) := by
  induction l generalizing i with
  | nil => exact absurd hi (Nat.not_lt_zero i)
  | cons a l ih =>
    cases i with
    | zero => simp [Nat.xor_comm, Nat.xor_left_comm, Nat.xor_assoc]
    | succ i => simp [ih i (Nat.lt_of_succ_lt_succ hi), Nat.xor_assoc]

/-- It changes S1 by the change, weighted by the symbol's place. -/
theorem syndrome1_set (w : Nat) (l : List Nat) (i v : Nat) (hi : i < l.length) (hl : ∀ a ∈ l, a < 256) (hv : v < 256) :
    syndrome1 w (l.set i v) = syndrome1 w l ^^^ gfMul (l.getD i 0 ^^^ v) (gfAlpha (w - i)) := by
  induction l generalizing i w with
  | nil => exact absurd hi (Nat.not_lt_zero i)
  | cons a l ih =>
    obtain ⟨ha, hl⟩ := List.forall_mem_cons.mp hl
    cases i with
    | zero =>
      rw [List.set_cons_zero, List.getD_cons_zero, Nat.sub_zero, gfMul_xor a v _ ha hv, syndrome1, syndrome1]
      simp [Nat.xor_comm, Nat.xor_left_comm, Nat.xor_assoc]
    | succ i =>
      simp [syndrome1, ih (w - 1) i (Nat.lt_of_succ_lt_succ hi) hl, Nat.xor_assoc, Nat.sub_sub, Nat.add_comm 1]

/-! ### Code words (R373) -/

/-- Eighteen symbols that satisfy both check sums. -/
structure IsCodeword (c : List Nat) : Prop where
  length : c.length = 18
  bytes : ∀ a ∈ c, a < 256
  s0 : xorAll c = 0
  s1 : syndrome1 17 c = 0

theorem checkSymbols_lt (c : List Nat) (h : ∀ a ∈ c, a < 256) : (checkSymbols c).1 < 256 ∧ (checkSymbols c).2 < 256 := by
  have hsum := Nat.xor_lt_two_pow (n := 8) (xorAll_lt c h) (syndrome1_lt 17 c h)
  have h16 : (checkSymbols c).1 < 256 := gfMul_lt _ _ hsum
  exact ⟨h16, Nat.xor_lt_two_pow (n := 8) (xorAll_lt c h) h16⟩

theorem checkSymbols_sum (c : List Nat) : (checkSymbols c).2 = xorAll c ^^^ (checkSymbols c).1 := rfl

/-- c_16 is (A + B) / 3. -/
theorem checkSymbols_three (c : List Nat) (h : ∀ a ∈ c, a < 256) : gfMul 3 (checkSymbols c).1 = xorAll c ^^^ syndrome1 17 c :=
  gfMul_three_inv _ (Nat.xor_lt_two_pow (n := 8) (xorAll_lt c h) (syndrome1_lt 17 c h))

/-- Sixteen data symbols with their check symbols satisfy both check sums. -/
theorem isCodeword_checkSymbols (c : List Nat) (hlen : c.length = 16) (h : ∀ a ∈ c, a < 256) :
    IsCodeword (c ++ [(checkSymbols c).1, (checkSymbols c).2]) := by
  obtain ⟨h16, h17⟩ := checkSymbols_lt c h
  have hthree := checkSymbols_three c h
  have hsum := checkSymbols_sum c
  generalize (checkSymbols c).1 = c16 at *
  generalize (checkSymbols c).2 = c17 at *
  refine ⟨by simp [hlen], ?_, ?_, ?_⟩
  · simpa [or_imp, forall_and, h16, h17] using h
  · rw [xorAll_append, hsum]
    simp [xorAll]
  · have hone := gfMul_alpha_zero c17 h17
    have htwo : gfMul c16 (gfAlpha 1) = xorAll c ^^^ syndrome1 17 c ^^^ c16 := by
      rw [← hthree, gfMul_three c16 h16, Nat.xor_assoc, Nat.xor_self, Nat.xor_zero]
    rw [syndrome1_append, hlen]
    simp only [syndrome1, htwo, hone, Nat.reduceSub]
    simp [hsum, Nat.xor_left_comm, Nat.xor_comm]

/-! ### Shares -/

/-- The bytes at position `p` of eighteen shares. -/
def columnAt (l : List (List Byte)) (p : Nat) : List Nat := l.map (fun x => byteAt x p)

theorem byteAt_eq_getD (l : List Byte) (i : Nat) : byteAt l i = (l.getD i 0).toNat := by
  rw [byteAt, List.head?_drop, List.getD_eq_getElem?_getD]

theorem byteAt_lt (l : List Byte) (i : Nat) : byteAt l i < 256 := BitVec.isLt _

/-- The data shares of a block. -/
def dataShares (data : List Byte) : List (List Byte) := (List.range 16).map (fun j => slice data (32 * j) 32)

/-- The check symbols of every byte position. -/
def checksOf (data : List Byte) : List (Nat × Nat) := (List.range 32).map (fun p => checkSymbols (columnAt (dataShares data) p))

theorem encodeShares_eq (data : List Byte) :
    encodeShares data = dataShares data ++ [(checksOf data).map (fun c => BitVec.ofNat 8 c.1), (checksOf data).map (fun c => BitVec.ofNat 8 c.2)] :=
  rfl

theorem length_encodeShares (data : List Byte) : (encodeShares data).length = 18 := by simp [encodeShares]

theorem length_mem_encodeShares (data : List Byte) (h : data.length = 512) (x : List Byte) (hx : x ∈ encodeShares data) : x.length = 32 := by
  have hpad : padRight 512 data = data := by simp [padRight, h]
  exact (encodeShares_length data).2 x (hpad.symm ▸ hx)

theorem columnAt_lt (l : List (List Byte)) (p : Nat) : ∀ a ∈ columnAt l p, a < 256 := by
  intro a ha
  obtain ⟨x, _, rfl⟩ := List.mem_map.mp ha
  exact byteAt_lt x p

/-- The bytes of the two check shares at a position are the position's check symbols. -/
theorem byteAt_checks (data : List Byte) (p : Nat) (hp : p < 32) (g : Nat × Nat → Nat)
    (hg : g (checkSymbols (columnAt (dataShares data) p)) < 256) :
    byteAt ((checksOf data).map (fun c => BitVec.ofNat 8 (g c))) p = g (checkSymbols (columnAt (dataShares data) p)) := by
  simp [byteAt_eq_getD, checksOf, hp, Nat.mod_eq_of_lt hg]

/-- The symbols at a position are the data symbols and their check symbols. -/
theorem columnAt_encodeShares (data : List Byte) (p : Nat) (hp : p < 32) :
    columnAt (encodeShares data) p = columnAt (dataShares data) p
      ++ [(checkSymbols (columnAt (dataShares data) p)).1, (checkSymbols (columnAt (dataShares data) p)).2] := by
  obtain ⟨h16, h17⟩ := checkSymbols_lt _ (columnAt_lt (dataShares data) p)
  rw [encodeShares_eq, columnAt, List.map_append, List.map_cons, List.map_cons, byteAt_checks data p hp Prod.fst h16,
    byteAt_checks data p hp Prod.snd h17]
  rfl

theorem length_columnAt_dataShares (data : List Byte) (p : Nat) : (columnAt (dataShares data) p).length = 16 := by
  simp [columnAt, dataShares]

theorem isCodeword_columnAt (data : List Byte) (p : Nat) (hp : p < 32) : IsCodeword (columnAt (encodeShares data) p) := by
  rw [columnAt_encodeShares data p hp]
  exact isCodeword_checkSymbols _ (length_columnAt_dataShares data p) (columnAt_lt _ p)

/-- Byte `n` of a block is byte `n mod 32` of data share `n div 32`. -/
theorem byteAt_encodeShares (data : List Byte) (n : Nat) (hn : n < 512) :
    byteAt ((encodeShares data).getD (n / 32) []) (n % 32) = byteAt data n := by
  have hj : n / 32 < 16 := by omega
  have hp : n % 32 < 32 := Nat.mod_lt _ (by decide)
  have hsum : 32 * (n / 32) + n % 32 = n := Nat.div_add_mod n 32
  simp [byteAt_eq_getD, encodeShares_eq, dataShares, slice, List.getElem?_append, hj, hp, hsum]

/-- Settles O44: at every position the shares hold a code word. -/
theorem theCodeWordsSatisfyBothChecks : Obligations.The_code_words_satisfy_both_checks := by
  refine ⟨by decide +kernel, by decide +kernel, fun data hlen => ⟨length_encodeShares data, ?lengths, byteAt_encodeShares data, ?checks⟩⟩
  case lengths =>
    intro j hj
    have hj' : j < (encodeShares data).length := (length_encodeShares data).symm ▸ hj
    refine length_mem_encodeShares data hlen _ ?_
    rw [List.getD_eq_getElem _ _ hj']
    exact List.getElem_mem hj'
  case checks =>
    intro p hp
    have hcode := isCodeword_columnAt data p hp
    have hlen16 := length_columnAt_dataShares data p
    have h3 := checkSymbols_three _ (columnAt_lt (dataShares data) p)
    have htake := List.take_left' (l₂ := [(checkSymbols (columnAt (dataShares data) p)).1, (checkSymbols (columnAt (dataShares data) p)).2]) hlen16
    refine ⟨hcode.s0, hcode.s1, ?_⟩
    rw [← columnAt, columnAt_encodeShares data p hp, htake]
    generalize columnAt (dataShares data) p = c at *
    rw [List.getD_append_right _ _ _ 16 hlen16.le, List.getD_append_right _ _ _ 17 (hlen16.le.trans (Nat.le_succ 16)), hlen16]
    exact ⟨h3, rfl⟩

/-! ### Tags (R374) -/

theorem setAt_eq_set {α : Type} (l : List α) (i : Nat) (v : α) : setAt l i v = l.set i v := by
  induction l generalizing i with
  | nil => rfl
  | cons a l ih =>
    cases i with
    | zero => rfl
    | succ i => exact congrArg (a :: ·) (ih i)

theorem bit_eq_testBit (v i : Nat) : bit v i = v.testBit i := by
  rw [bit, Nat.testBit_eq_decide_div_mod_eq]
  rfl

theorem oddParity_succ (n v : Nat) : oddParity (n + 1) v = (oddParity n v ^^ v.testBit n) := by
  rw [oddParity, List.range_succ, List.filter_append, List.length_append, oddParity]
  generalize ((List.range n).filter (bit v)).length = k
  cases hbit : v.testBit n <;> rcases Nat.mod_two_eq_zero_or_one k with hk | hk <;> simp [bit_eq_testBit, hbit, Nat.add_mod, hk]

theorem oddParity_congr (n v w : Nat) (h : ∀ i, i < n → v.testBit i = w.testBit i) : oddParity n v = oddParity n w := by
  induction n with
  | zero => rfl
  | succ n ih => rw [oddParity_succ, oddParity_succ, h n (Nat.lt_succ_self n), ih fun i hi => h i (Nat.lt_succ_of_lt hi)]

/-- The fields of a tag below its parity bit. -/
def tagFields (poison : Bool) (area lba : Nat) : Nat := boolNat poison * 2 ^ 30 + area * 2 ^ 28 + lba

theorem tagWord_eq (poison : Bool) (area lba : Nat) :
    tagWord poison area lba = (if oddParity 31 (tagFields poison area lba) then 2 ^ 31 else 0) + tagFields poison area lba := rfl

section
variable (poison : Bool) (area lba : Nat) (harea : area < 4) (hlba : lba < 2 ^ 27)
include harea hlba

theorem tagFields_lt : tagFields poison area lba < 2 ^ 31 := by
  have := boolNat_lt poison
  unfold tagFields
  omega

/-- A tag has even parity. -/
theorem oddParity_tagWord : oddParity 32 (tagWord poison area lba) = false := by
  have hlt := tagFields_lt poison area lba harea hlba
  rw [tagWord_eq, oddParity_succ]
  generalize tagFields poison area lba = t at *
  cases hodd : oddParity 31 t with
  | false => simp [hodd, Nat.testBit_lt_two_pow hlt]
  | true =>
    have hlow : oddParity 31 (2 ^ 31 + t) = oddParity 31 t := oddParity_congr _ _ _ fun i hi => Nat.testBit_two_pow_add_gt hi t
    rw [if_pos rfl, hlow, hodd, Nat.testBit_two_pow_add_eq, Nat.testBit_lt_two_pow hlt]
    rfl

theorem tagWord_fields : tagWord poison area lba < 2 ^ 32 ∧ bits (tagWord poison area lba) 29 28 = area
    ∧ tagWord poison area lba % 2 ^ 27 = lba ∧ bit (tagWord poison area lba) 30 = poison := by
  have hb := boolNat_lt poison
  obtain ⟨k, hk, hword⟩ : ∃ k, k < 2 ∧ tagWord poison area lba = k * 2 ^ 31 + tagFields poison area lba := by
    rw [tagWord_eq]
    split
    · exact ⟨1, by decide, by omega⟩
    · exact ⟨0, by decide, by omega⟩
  refine ⟨?_, ?_, ?_, bit_eq _ _ _ ?_⟩ <;> rw [hword] <;> simp only [tagFields, bits] <;> omega

end

/-- Whether decoding finds the tag of a share in order (R375). -/
def tagFails (area lba : Nat) (x : Share) : Bool :=
  oddParity 32 x.tag || decide (bits x.tag 29 28 ≠ area) || decide (x.tag % 2 ^ 27 ≠ lba)

theorem tagFails_written (area lba : Nat) (l : List Nat) (harea : area < 4) (hlba : lba < 2 ^ 27) :
    tagFails area lba { data := l, tag := tagWord false area lba } = false := by
  obtain ⟨_, harea', hlba', _⟩ := tagWord_fields false area lba harea hlba
  simpa [tagFails, oddParity_tagWord false area lba harea hlba, harea'] using hlba'

/-! ### Decoding (R375) -/

section
variable (area lba : Nat) (failed : List Nat) (raw : List Share)

/-- The shares that are read and whose tag fails. -/
def badTags : List Nat := (List.range 18).filter (fun i => !failed.contains i && tagFails area lba (raw.getD i ⟨[], 0⟩))

/-- The shares that count as erased. -/
def erased : List Nat := (List.range 18).filter (fun i => failed.contains i || (badTags area lba failed raw).contains i)

/-- Whether a share that is not erased has the poison bit. -/
def poisonSeen : Bool := (List.range 18).any (fun i => !(erased area lba failed raw).contains i && bit (raw.getD i ⟨[], 0⟩).tag 30)

/-- The bytes of the shares, zeros for one on a failed die. -/
def asRead : List (List Nat) :=
  (List.range 18).map (fun i => if failed.contains i then List.replicate 32 0 else (raw.getD i ⟨[], 0⟩).data)

variable {area lba failed raw}

/-- Where no share is erased and all positions are clean, the data is as read. -/
theorem decodeBlock_clean (hpoison : poisonSeen area lba failed raw = false) (heras : erased area lba failed raw = [])
    (hlocate : locate (asRead failed raw) (List.range 32) none = some none) :
    decodeBlock area lba failed raw = { verdict := 0, shares := asRead failed raw, tagBad := badTags area lba failed raw } := by
  refine (if_neg (Bool.eq_false_iff.mp hpoison)).trans ?_
  simp only [erased, badTags, tagFails] at heras
  simp only [asRead] at hlocate
  simp only [heras, hlocate]
  rfl

/-- Where no share is erased and one is located, that one is corrected. -/
theorem decodeBlock_located (j : Nat) (hpoison : poisonSeen area lba failed raw = false) (heras : erased area lba failed raw = [])
    (hlocate : locate (asRead failed raw) (List.range 32) none = some (some j)) :
    decodeBlock area lba failed raw =
      { verdict := 1, fixed := [j], tagBad := badTags area lba failed raw,
        shares := (List.range 32).foldl (fun sh p => addError sh j p (xorAll (position sh p))) (asRead failed raw) } := by
  refine (if_neg (Bool.eq_false_iff.mp hpoison)).trans ?_
  simp only [erased, badTags, tagFails] at heras
  simp only [asRead] at hlocate
  simp only [heras, hlocate]
  rfl

/-- One erased share is computed from the others. -/
theorem decodeBlock_erased (j : Nat) (sh : List (List Nat)) (any : Bool) (hpoison : poisonSeen area lba failed raw = false)
    (heras : erased area lba failed raw = [j]) (hsolve : solveOne j (List.range 32) (asRead failed raw, false) = some (sh, any)) :
    decodeBlock area lba failed raw =
      { verdict := if any then 1 else 0, fixed := if any then [j] else [], shares := sh, tagBad := badTags area lba failed raw } := by
  refine (if_neg (Bool.eq_false_iff.mp hpoison)).trans ?_
  simp only [erased, badTags, tagFails] at heras
  simp only [asRead] at hsolve
  simp only [heras, hsolve]
  rfl

end

theorem gfMul_zero (b : Nat) : gfMul 0 b = 0 := by
  have hbits : ∀ n b, gfMulBits n 0 b = 0 := by
    intro n
    induction n with
    | zero => exact fun _ => rfl
    | succ n ih =>
      intro b
      rw [gfMulBits, ite_self, show gfDouble 0 = 0 from rfl, ih]
      rfl
  exact hbits 8 b

theorem findFrom_eq_some (p : Nat → Bool) (i n k : Nat) (hk : i ≤ k ∧ k < i + n) (hp : p k = true) (hlow : ∀ m, i ≤ m → m < k → p m = false) :
    findFrom p i n = some k := by
  induction n generalizing i with
  | zero => omega
  | succ n ih =>
    unfold findFrom
    by_cases hi : i = k
    · rw [if_pos (hi ▸ hp), hi]
    · rw [if_neg (Bool.eq_false_iff.mp (hlow i (Nat.le_refl i) (by omega)))]
      exact ih (i + 1) (by omega) fun m hm => hlow m (by omega)

/-- A change of a symbol that is not 0 is located by the only power of α that fits both check sums. -/
theorem findBelow_alpha (e k : Nat) (he : e < 256) (hne : e ≠ 0) (hk : k < 18) :
    findBelow 18 (fun m => gfMul e (gfAlpha m) == gfMul e (gfAlpha k)) = some k := by
  refine findFrom_eq_some _ 0 18 k (by omega) (beq_self_eq_true _) fun m _ hm => ?_
  refine beq_eq_false_iff_ne.mpr fun heq => ?_
  have hinj := List.inj_on_of_nodup_map (gfMul_alpha_nodup e he hne)
  exact Nat.ne_of_lt hm (hinj (List.mem_range.mpr (by omega)) (List.mem_range.mpr hk) heq)

/-- List `u` with the places `l` put back to what `x` holds there. -/
def putBack (x u l : List Nat) : List Nat := l.foldl (fun u p => u.set p (x.getD p 0)) u

theorem length_putBack (x u l : List Nat) : (putBack x u l).length = u.length := by
  unfold putBack
  induction l generalizing u with
  | nil => rfl
  | cons p l ih => rw [List.foldl_cons, ih, List.length_set]

theorem getD_putBack (x u l : List Nat) (i : Nat) (hi : i < u.length) :
    (putBack x u l).getD i 0 = if i ∈ l then x.getD i 0 else u.getD i 0 := by
  unfold putBack
  induction l generalizing u with
  | nil => rfl
  | cons p l ih =>
    rw [List.foldl_cons, ih _ (by rwa [List.length_set])]
    by_cases hl : i ∈ l
    · simp [hl]
    · by_cases hp : p = i
      · subst hp
        simp [hl, hi]
      · simp [hl, hp, Ne.symm hp]

theorem ext_getD (x y : List Nat) (hlen : x.length = y.length) (h : ∀ i, i < x.length → x.getD i 0 = y.getD i 0) : x = y := by
  refine List.ext_getElem hlen fun i hx hy => ?_
  simpa [hx, hy] using h i hx

/-- Putting back every place puts back the list. -/
theorem putBack_range (x u : List Nat) (n : Nat) (hx : x.length = n) (hu : u.length = n) : putBack x u (List.range n) = x := by
  refine ext_getD _ _ (by rw [length_putBack, hu, hx]) fun i hi => ?_
  rw [length_putBack] at hi
  rw [getD_putBack x u _ i hi, if_pos (List.mem_range.mpr (hu ▸ hi))]

/-! ### One share of a code word is damaged -/

/-- Shares that hold a code word at each of the 32 positions. -/
structure AreCodewords (w : List (List Nat)) : Prop where
  length : w.length = 18
  code : ∀ p, p < 32 → IsCodeword (position w p)

section
variable {w : List (List Nat)} (hw : AreCodewords w) {j : Nat} (hj : j < 18)
include hw hj

theorem getD_position (p : Nat) : (position w p).getD j 0 = (w.getD j []).getD p 0 := by
  have hlen : j < w.length := hw.length ▸ hj
  simp [position, hlen]

theorem position_lt (p : Nat) (hp : p < 32) : (w.getD j []).getD p 0 < 256 := by
  have hlen : j < (position w p).length := by rw [(hw.code p hp).length]; exact hj
  rw [← getD_position hw hj p, List.getD_eq_getElem _ _ hlen]
  exact (hw.code p hp).bytes _ (List.getElem_mem hlen)

/-- The check sums of a position at which one share was changed tell the change, and its place. -/
theorem checks_set (u : List Nat) (p : Nat) (hp : p < 32) (hu : u.getD p 0 < 256) :
    xorAll (position (w.set j u) p) = (w.getD j []).getD p 0 ^^^ u.getD p 0
      ∧ syndrome1 17 (position (w.set j u) p) = gfMul ((w.getD j []).getD p 0 ^^^ u.getD p 0) (gfAlpha (17 - j)) := by
  have hcode := hw.code p hp
  have hlen : j < (position w p).length := by rw [hcode.length]; exact hj
  have hset : position (w.set j u) p = (position w p).set j (u.getD p 0) := List.map_set
  rw [hset, xorAll_set _ j _ hlen, syndrome1_set 17 _ j _ hlen hcode.bytes hu, hcode.s0, hcode.s1, Nat.zero_xor, Nat.zero_xor,
    getD_position hw hj p]
  exact ⟨rfl, rfl⟩

theorem addError_set (u : List Nat) (p e : Nat) : addError (w.set j u) j p e = w.set j (u.set p (u.getD p 0 ^^^ e)) := by
  have hlen : j < w.length := hw.length ▸ hj
  simp [addError, setAt_eq_set, hlen]

/-- The change that S0 tells puts the symbol back. -/
theorem addError_s0 (u : List Nat) (p : Nat) (hp : p < 32) (hu : u.getD p 0 < 256) :
    addError (w.set j u) j p (xorAll (position (w.set j u) p)) = w.set j (u.set p ((w.getD j []).getD p 0)) := by
  have hback : u.getD p 0 ^^^ ((w.getD j []).getD p 0 ^^^ u.getD p 0) = (w.getD j []).getD p 0 := by
    rw [Nat.xor_comm, Nat.xor_assoc, Nat.xor_self, Nat.xor_zero]
  rw [addError_set hw hj, (checks_set hw hj u p hp hu).1, hback]

theorem getD_set_lt (u : List Nat) (p q : Nat) (hp : p < 32) (hu : ∀ q, u.getD q 0 < 256) : (u.set p ((w.getD j []).getD p 0)).getD q 0 < 256 := by
  have hnew := position_lt hw hj p hp
  have hold := hu q
  simp only [List.getD_eq_getElem?_getD, List.getElem?_set] at *
  split
  · split
    · exact hnew
    · decide
  · exact hold

theorem foldl_addError_set (l u : List Nat) (hl : ∀ p ∈ l, p < 32) (hu : ∀ q, u.getD q 0 < 256) :
    l.foldl (fun sh p => addError sh j p (xorAll (position sh p))) (w.set j u) = w.set j (putBack (w.getD j []) u l) := by
  induction l generalizing u with
  | nil => rfl
  | cons p l ih =>
    obtain ⟨hp, hl⟩ := List.forall_mem_cons.mp hl
    rw [List.foldl_cons, addError_s0 hw hj u p hp (hu p), ih _ hl fun q => getD_set_lt hw hj u p q hp hu]
    rfl

theorem solveOne_set (l u : List Nat) (any : Bool) (hl : ∀ p ∈ l, p < 32) (hu : ∀ q, u.getD q 0 < 256) :
    ∃ b, solveOne j l (w.set j u, any) = some (w.set j (putBack (w.getD j []) u l), b) := by
  induction l generalizing u any with
  | nil => exact ⟨any, rfl⟩
  | cons p l ih =>
    obtain ⟨hp, hl⟩ := List.forall_mem_cons.mp hl
    obtain ⟨hs0, hs1⟩ := checks_set hw hj u p hp (hu p)
    have hfits : ¬(syndrome1 17 (position (w.set j u) p) ^^^ gfMul (xorAll (position (w.set j u) p)) (gfAlpha (17 - j)) ≠ 0) := by
      rw [hs0, hs1, Nat.xor_self]
      exact not_not_intro rfl
    simp only [solveOne, if_neg hfits, addError_s0 hw hj u p hp (hu p)]
    exact ih _ _ hl fun q => getD_set_lt hw hj u p q hp hu

/-- Damage of one share is located in that share, or there is none. -/
theorem locate_set (l u : List Nat) (place : Option Nat) (hplace : place = none ∨ place = some j) (hl : ∀ p ∈ l, p < 32)
    (hu : ∀ q, u.getD q 0 < 256) :
    locate (w.set j u) l place = some (some j)
      ∨ place = none ∧ locate (w.set j u) l place = some none ∧ ∀ p ∈ l, u.getD p 0 = (w.getD j []).getD p 0 := by
  induction l generalizing place with
  | nil =>
    rcases hplace with rfl | rfl
    · exact .inr ⟨rfl, rfl, by simp⟩
    · exact .inl rfl
  | cons p l ih =>
    obtain ⟨hp, hl⟩ := List.forall_mem_cons.mp hl
    obtain ⟨hs0, hs1⟩ := checks_set hw hj u p hp (hu p)
    have helt : (w.getD j []).getD p 0 ^^^ u.getD p 0 < 256 := Nat.xor_lt_two_pow (n := 8) (position_lt hw hj p hp) (hu p)
    simp only [locate, hs0, hs1]
    by_cases he : (w.getD j []).getD p 0 ^^^ u.getD p 0 = 0
    · have hsame : u.getD p 0 = (w.getD j []).getD p 0 := (Nat.xor_eq_zero_iff.mp he).symm
      rw [he, gfMul_zero, if_pos ⟨rfl, rfl⟩]
      exact (ih place hplace hl).imp_right fun ⟨hnone, hclean, hrest⟩ => ⟨hnone, hclean, List.forall_mem_cons.mpr ⟨hsame, hrest⟩⟩
    · have hfind := findBelow_alpha _ (17 - j) helt he (by omega)
      have hback : 17 - (17 - j) = j := by omega
      have hrest := (ih (some j) (.inr rfl) hl).resolve_right (by simp)
      rw [if_neg (fun h => he h.1), if_neg he, hfind]
      dsimp only
      rw [hback]
      rcases hplace with rfl | rfl
      · exact .inl hrest
      · exact .inl ((if_pos rfl).trans hrest)

end

/-! ### The block as written -/

/-- The bytes of the shares of a block as written. -/
def writtenShares (data : List Byte) : List (List Nat) := (encodeShares data).map (fun x => x.map (·.toNat))

theorem position_writtenShares (data : List Byte) (p : Nat) : position (writtenShares data) p = columnAt (encodeShares data) p := by
  rw [position, writtenShares, List.map_map]
  refine List.map_congr_left fun x _ => ?_
  simp only [Function.comp_apply, byteAt_eq_getD, List.getD_eq_getElem?_getD, List.getElem?_map]
  cases x[p]? <;> rfl

theorem areCodewords_writtenShares (data : List Byte) : AreCodewords (writtenShares data) where
  length := by rw [writtenShares, List.length_map, length_encodeShares]
  code := fun p hp => position_writtenShares data p ▸ isCodeword_columnAt data p hp

theorem length_getD_writtenShares (data : List Byte) (hlen : data.length = 512) (j : Nat) (hj : j < 18) :
    ((writtenShares data).getD j []).length = 32 := by
  have hj' : j < (encodeShares data).length := (length_encodeShares data).symm ▸ hj
  have hmem := length_mem_encodeShares data hlen _ (List.getElem_mem hj')
  simpa [writtenShares, hj'] using hmem

theorem flatten_slices (l : List Byte) (k n : Nat) : ((List.range n).map (fun j => slice l (k * j) k)).flatten = l.take (k * n) := by
  induction n with
  | zero => simp
  | succ n ih => rw [List.range_succ, List.map_append, List.flatten_append, ih, Nat.mul_succ, List.take_add]; simp [slice]

/-- The data shares hold the block's data. -/
theorem data_writtenShares (data : List Byte) (hlen : data.length = 512) (v : Nat) (fixed tagBad : List Nat) :
    ({ verdict := v, shares := writtenShares data, fixed := fixed, tagBad := tagBad } : Decoded).data = data := by
  have htake : (encodeShares data).take 16 = dataShares data := List.take_left' (by simp)
  have hflat : (dataShares data).flatten = data := by
    rw [dataShares, flatten_slices, List.take_of_length_le (by omega)]
  simp only [Decoded.data, writtenShares, ← List.map_take, htake]
  rw [← List.map_flatten, hflat, List.map_map]
  simp [Function.comp_def]

theorem goodShares_eq (area lba : Nat) (data : List Byte) :
    goodShares area lba data = (writtenShares data).map (fun x => { data := x, tag := tagWord false area lba }) := by
  rw [goodShares, writtenShares, List.map_map]
  rfl

/-! ### A block of which one share may be damaged -/

theorem getD_lt (l : List Nat) (h : ∀ b ∈ l, b < 256) (q : Nat) : l.getD q 0 < 256 := by
  rcases Nat.lt_or_ge q l.length with hq | hq
  · rw [List.getD_eq_getElem _ _ hq]
    exact h _ (List.getElem_mem hq)
  · rw [List.getD_eq_default _ _ hq]
    exact Nat.zero_lt_succ 255

section
variable (area lba : Nat) (data : List Byte) (j : Nat) (sh : Share) (failed : List Nat)

/-- The shares of a block of which share `j` was damaged. -/
def damaged : List Share := (goodShares area lba data).set j sh

/-- What is read of share `j`. -/
def damagedBytes : List Nat := if failed.contains j then List.replicate 32 0 else sh.data

theorem length_damagedBytes (hsh : sh.data.length = 32) : (damagedBytes j sh failed).length = 32 := by
  unfold damagedBytes
  split
  · exact List.length_replicate
  · exact hsh

theorem damagedBytes_lt (hbytes : ∀ b ∈ sh.data, b < 256) : ∀ b ∈ damagedBytes j sh failed, b < 256 := by
  unfold damagedBytes
  split
  · exact fun b hb => (List.eq_of_mem_replicate hb).symm ▸ Nat.zero_lt_succ 255
  · exact hbytes

variable {area lba data j sh failed}

theorem getD_damaged (hj : j < 18) (i : Nat) (hi : i < 18) :
    (damaged area lba data j sh).getD i ⟨[], 0⟩ =
      if i = j then sh else { data := (writtenShares data).getD i [], tag := tagWord false area lba } := by
  have hlen := (areCodewords_writtenShares data).length
  by_cases hij : i = j
  · subst hij
    simp [damaged, goodShares_eq, hlen, hi]
  · simp [damaged, goodShares_eq, hlen, hi, hij, Ne.symm hij]

theorem filter_range_only (n j : Nat) (hj : j < n) (b : Bool) (p : Nat → Bool) (hp : ∀ i, i < n → p i = (i == j && b)) :
    (List.range n).filter p = if b then [j] else [] := by
  rw [List.filter_congr fun i hi => hp i (List.mem_range.mp hi)]
  cases b with
  | false => simp
  | true => simp [List.filter_beq, List.count_eq_one_of_mem List.nodup_range (List.mem_range.mpr hj)]

section
variable (harea : area < 4) (hlba : lba < 2 ^ 27) (hj : j < 18) (hfailed : failed = [] ∨ failed = [j])
include hj hfailed

theorem asRead_damaged : asRead failed (damaged area lba data j sh) = (writtenShares data).set j (damagedBytes j sh failed) := by
  have hlen := (areCodewords_writtenShares data).length
  refine List.ext_getElem (by simp [asRead, hlen]) fun i hi _ => ?_
  have hi : i < 18 := by simpa [asRead] using hi
  have hother : i ≠ j → i ∉ failed := by rcases hfailed with rfl | rfl <;> simp
  simp only [asRead, List.getElem_map, List.getElem_range, getD_damaged hj i hi, damagedBytes]
  by_cases hij : i = j
  · subst hij
    simp
  · simp [hij, Ne.symm hij, hother hij, hlen, hi]

include harea hlba

theorem badTags_damaged :
    badTags area lba failed (damaged area lba data j sh) = if !failed.contains j && tagFails area lba sh then [j] else [] := by
  refine filter_range_only 18 j hj _ _ fun i hi => ?_
  rw [getD_damaged hj i hi]
  by_cases hij : i = j
  · subst hij
    simp
  · simp [hij, tagFails_written area lba _ harea hlba]

theorem erased_damaged :
    erased area lba failed (damaged area lba data j sh) = if failed.contains j || tagFails area lba sh then [j] else [] := by
  refine filter_range_only 18 j hj _ _ fun i _ => ?_
  rw [badTags_damaged harea hlba hj hfailed]
  have hother : i ≠ j → i ∉ failed := by rcases hfailed with rfl | rfl <;> simp
  by_cases hij : i = j
  · subst hij
    cases failed.contains i <;> cases tagFails area lba sh <;> simp
  · cases failed.contains j <;> cases tagFails area lba sh <;> simp [hij, hother hij]

/-- No poison is seen: none was written, and a share whose tag differs from that is erased. -/
theorem poisonSeen_damaged (htag : sh.tag = tagWord false area lba ∨ tagFails area lba sh = true) :
    poisonSeen area lba failed (damaged area lba data j sh) = false := by
  have hgood : bit (tagWord false area lba) 30 = false := (tagWord_fields false area lba harea hlba).2.2.2
  rw [poisonSeen, List.any_eq_false]
  intro i hi
  rw [getD_damaged hj i (List.mem_range.mp hi), erased_damaged harea hlba hj hfailed]
  by_cases hij : i = j
  · subst hij
    rcases htag with htag | htag
    · simp [htag, hgood]
    · simp [htag]
  · simp [hij, hgood]

/-- A block of which one share may be damaged decodes to the data written, clean or with that share corrected. -/
theorem decodeBlock_damaged (hlen : data.length = 512) (hsh : sh.data.length = 32) (hbytes : ∀ b ∈ sh.data, b < 256)
    (htag : sh.tag = tagWord false area lba ∨ tagFails area lba sh = true) :
    (decodeBlock area lba failed (damaged area lba data j sh)).data = data
      ∧ (decodeBlock area lba failed (damaged area lba data j sh)).verdict ≤ 1
      ∧ ((decodeBlock area lba failed (damaged area lba data j sh)).verdict = 1
          → (decodeBlock area lba failed (damaged area lba data j sh)).fixed = [j]) := by
  have hw := areCodewords_writtenShares data
  have hw_j := length_getD_writtenShares data hlen j hj
  have hpoison := poisonSeen_damaged (data := data) harea hlba hj hfailed htag
  have herased := erased_damaged (data := data) (sh := sh) harea hlba hj hfailed
  have hread := asRead_damaged (area := area) (lba := lba) (data := data) (sh := sh) hj hfailed
  have hu_len := length_damagedBytes j sh failed hsh
  have hu := getD_lt _ (damagedBytes_lt j sh failed hbytes)
  have hback : (writtenShares data).set j (putBack ((writtenShares data).getD j []) (damagedBytes j sh failed) (List.range 32))
      = writtenShares data := by
    rw [putBack_range _ _ 32 hw_j hu_len, List.getD_eq_getElem _ _ (hw.length ▸ hj), List.set_getElem_self]
  have hrange : ∀ p ∈ List.range 32, p < 32 := fun p => List.mem_range.mp
  rcases Bool.eq_false_or_eq_true (failed.contains j || tagFails area lba sh) with hlost | hkept
  · rw [if_pos hlost] at herased
    obtain ⟨any, hsolve⟩ := solveOne_set hw hj (List.range 32) (damagedBytes j sh failed) false hrange hu
    rw [← hread, hback] at hsolve
    rw [decodeBlock_erased j _ any hpoison herased hsolve]
    refine ⟨data_writtenShares data hlen _ _ _, ?_, ?_⟩ <;> cases any <;> simp
  · rw [if_neg (Bool.eq_false_iff.mp hkept)] at herased
    rcases locate_set hw hj (List.range 32) (damagedBytes j sh failed) none (.inl rfl) hrange hu with hlocate | ⟨_, hlocate, hclean⟩
    · rw [← hread] at hlocate
      rw [decodeBlock_located j hpoison herased hlocate, hread, foldl_addError_set hw hj _ _ hrange hu, hback]
      exact ⟨data_writtenShares data hlen _ _ _, Nat.le_refl 1, fun _ => rfl⟩
    · have hsame : asRead failed (damaged area lba data j sh) = writtenShares data := by
        have hu_eq : damagedBytes j sh failed = (writtenShares data).getD j [] :=
          ext_getD _ _ (hu_len.trans hw_j.symm) fun p hp => hclean p (List.mem_range.mpr (hu_len ▸ hp))
        rw [hread, hu_eq, List.getD_eq_getElem _ _ (hw.length ▸ hj), List.set_getElem_self]
      rw [← hread] at hlocate
      rw [decodeBlock_clean hpoison herased hlocate, hsame]
      exact ⟨data_writtenShares data hlen _ _ _, Nat.zero_le 1, fun h => absurd h Nat.zero_ne_one⟩

end
end

/-- Settles O46: a tag is as written or fails, and the share is put back from the others. -/
theorem damageWithinOneShareIsCorrected : Obligations.Damage_within_one_share_is_corrected := by
  intro area lba data j sh failed harea hlba hlen hj hsh hbytes htag hfailed
  rw [setAt_eq_set]
  refine decodeBlock_damaged harea hlba hj hfailed hlen hsh hbytes (htag.imp_right fun hfails => ?_)
  simpa [tagFails, or_assoc] using hfails

/-! ### Regions that were written (R384, R385) -/

/-- Waking the stacks changes only the forms in force. -/
theorem hbmWake_frame (s : Sys) : ∃ n, hbmWake s = { s with nrg := n } := by
  unfold hbmWake
  extract_lets h up
  by_cases hsame : up (up h 7) 5 = h
  · exact ⟨s.nrg, if_pos hsame⟩
  · exact ⟨_, if_neg hsame⟩

@[simp] theorem hbmWake_mem (s : Sys) : (hbmWake s).mem = s.mem := by
  obtain ⟨n, h⟩ := hbmWake_frame s
  rw [h]

theorem onSys_fst (f : Sys → Sys) (x : SysMem) : (onSys f x).1 = f x.1 := rfl

theorem touched_congr (s y : Sys) (lba : Nat) (h : y.mem.touched = s.mem.touched) : touched y lba = touched s lba := by
  rw [touched, touched, h]

/-- The 128 blocks of a region share its bit. -/
theorem touched_region (s : Sys) (r i : Nat) (hi : i < 128) : touched s (128 * r + i) = touched s (128 * r) := by
  have hregion : (128 * r + i) / 128 = 128 * r / 128 := by omega
  rw [touched, touched, hregion]

/-- A write sets the bit of its region only. -/
theorem touched_touch (lba k : Nat) (x : SysMem) : touched (touch lba x).1 k = if k / 128 = lba / 128 then true else touched x.1 k := by
  unfold touch
  split
  next htouched =>
    split
    next hregion => rw [touched, hregion]; exact htouched
    next => rfl
  next =>
    split
    next hregion =>
      show SMap.get false (SMap.set false x.1.mem.touched (lba / 128) true) (k / 128) = true
      rw [hregion, smap_get_set_ne false _ _ true (by decide)]
    next hregion => exact smap_get_set_other false _ _ _ true hregion

theorem storeBlock_mem (lba : Nat) (p : Bool) (data : List Byte) (x : SysMem) :
    (storeBlock lba p data x).1.mem =
      { (touch lba (onSys hbmWake x)).1.mem with
        merge := (touch lba (onSys hbmWake x)).1.mem.merge.filter (fun e => e.lba != lba)
        spoiled := (touch lba (onSys hbmWake x)).1.mem.spoiled.filter (· != lba) } := by
  rw [storeBlock]
  generalize touch lba (onSys hbmWake x) = y
  rfl

theorem touched_storeBlock (lba k : Nat) (p : Bool) (data : List Byte) (x : SysMem) :
    touched (storeBlock lba p data x).1 k = if k / 128 = lba / 128 then true else touched x.1 k := by
  have hwake : touched (onSys hbmWake x).1 k = touched x.1 k := touched_congr _ _ k (by rw [onSys_fst, hbmWake_mem])
  have hstore : touched (storeBlock lba p data x).1 k = touched (touch lba (onSys hbmWake x)).1 k :=
    touched_congr _ _ k (by rw [storeBlock_mem])
  rw [hstore, touched_touch, hwake]

theorem readBlock_untouched (lba source : Nat) (noise : List Disturbance) (x : SysMem) (h : touched x.1 lba = false) :
    readBlock lba source noise x = ({ verdict := 0, shares := List.replicate 18 (List.replicate 32 0) }, x) :=
  if_pos (by simp [h])

/-- Settles O47: the bit of a region, a read while it is 0, and what a write makes of it. -/
theorem untouchedRegionsReadAsZeros : Obligations.Untouched_regions_read_as_zeros := by
  refine ⟨touched_region, fun lba source noise x h => ?_, touched_storeBlock⟩
  rw [readBlock_untouched lba source noise x h]
  have hzeros : ({ verdict := 0, shares := List.replicate 18 (List.replicate 32 0) } : Decoded).data = List.replicate 512 0 := by
    rw [Decoded.data, List.take_replicate, List.flatten_replicate_replicate, List.map_replicate]
    rfl
  exact ⟨rfl, hzeros, rfl⟩

/-! ### Blocks in the stacks (R371, R374, R376) -/

theorem findFrom_lt (p : Nat → Bool) (i n k : Nat) (h : findFrom p i n = some k) : k < i + n := by
  induction n generalizing i with
  | zero => cases h
  | succ n ih =>
    unfold findFrom at h
    split at h
    · cases h
      omega
    · have := ih (i + 1) h
      omega

theorem areaOf_lt (lba : Nat) : areaOf lba < 3 := by
  unfold areaOf
  split
  · decide
  · split <;> decide

/-- A logical block stands within the HBM, and in one of the four areas of a tag. -/
theorem physical_lt (s : Sys) (lba : Nat) (h : lba < Config.memBlocks) :
    (physical s lba).1 < Config.memBlocks + Config.memSpares ∧ (physical s lba).2 < 4 := by
  cases hspare : spareOf s lba with
  | none =>
    rw [physical_plain s lba hspare]
    exact ⟨Nat.lt_add_right _ h, Nat.lt_succ_of_lt (areaOf_lt lba)⟩
  | some i =>
    have hi : i < 0 + Config.memSpares := findFrom_lt (fun i => spare s i == { spare s i with st := 1, block := lba }) 0 _ i hspare
    rw [physical_spare s lba i hspare]
    exact ⟨by omega, Nat.lt_succ_self 3⟩

theorem physical_congr (s y : Sys) (lba : Nat) (h : y.mem.spares = s.mem.spares) : physical y lba = physical s lba := by
  simp only [physical, spareOf, spare, h]

/-- Two shares of a block stand apart. -/
theorem shareAddr_apart (n i j : Nat) (hn : n < Config.memBlocks + Config.memSpares) (hi : i < 18) (hj : j < 18) (hne : i ≠ j) :
    shareAddr n i + 36 ≤ shareAddr n j ∨ shareAddr n j + 36 ≤ shareAddr n i := by
  have hdie := sharePlace_die_inj n i j hi hj hne
  have hsi := sharePlace_slot_lt n i hn hi
  have hsj := sharePlace_slot_lt n j hn hj
  simp only [shareAddr, Config.dieSlots]
  omega

theorem read_writeAll_inside (a : Nat) (l : List Byte) (m : List Host.Cell) (b : Nat) (hm : Memory.wf m = true) (hb : b < l.length) :
    Memory.read (Memory.writeAll a l m) (a + b) = l.getD b 0 := by
  induction l generalizing a m b with
  | nil => exact absurd hb (Nat.not_lt_zero b)
  | cons x l ih =>
    cases b with
    | zero =>
      rw [Memory.writeAll, read_writeAll (a + 1) l _ (a + 0) (.inl (Nat.lt_succ_self a))]
      exact read_write_self m a x hm
    | succ b =>
      have haddr : a + (b + 1) = a + 1 + b := by omega
      rw [Memory.writeAll, haddr, ih (a + 1) _ b (wf_write m a x hm) (Nat.lt_of_succ_lt_succ hb)]
      rfl

theorem length_share (x : List Byte) (tag : Nat) (h : x.length = 32) : (x ++ toBE 4 tag).length = 36 := by
  rw [List.length_append, h, length_toBE]

/-- Writing the shares from `j` on leaves the shares before alone. -/
theorem read_putShares_before (n tag j i b : Nat) (l : List (List Byte)) (m : List Host.Cell) (hn : n < Config.memBlocks + Config.memSpares)
    (hl : ∀ x ∈ l, x.length = 32) (hj : j + l.length ≤ 18) (hi : i < j) (hb : b < 36) :
    Memory.read (putShares n tag j l m) (shareAddr n i + b) = Memory.read m (shareAddr n i + b) := by
  induction l generalizing j m with
  | nil => rfl
  | cons x l ih =>
    obtain ⟨hx, hl⟩ := List.forall_mem_cons.mp hl
    rw [List.length_cons] at hj
    have hapart := shareAddr_apart n i j hn (by omega) (by omega) (by omega)
    rw [putShares, ih (j + 1) _ hl (by omega) (by omega), read_writeAll _ _ _ _ (by rw [length_share x tag hx]; omega)]

/-- A share reads as it was written. -/
theorem read_putShares_share (n tag j i b : Nat) (l : List (List Byte)) (m : List Host.Cell) (hn : n < Config.memBlocks + Config.memSpares)
    (hl : ∀ x ∈ l, x.length = 32) (hj : j + l.length ≤ 18) (hm : Memory.wf m = true) (hi : i < l.length) (hb : b < 36) :
    Memory.read (putShares n tag j l m) (shareAddr n (j + i) + b) = (l.getD i [] ++ toBE 4 tag).getD b 0 := by
  induction l generalizing j i m with
  | nil => exact absurd hi (Nat.not_lt_zero i)
  | cons x l ih =>
    obtain ⟨hx, hl⟩ := List.forall_mem_cons.mp hl
    rw [List.length_cons] at hj hi
    cases i with
    | zero =>
      rw [putShares, read_putShares_before n tag (j + 1) (j + 0) b l _ hn hl (by omega) (by omega) hb]
      exact read_writeAll_inside _ _ m b hm (by rwa [length_share x tag hx])
    | succ i =>
      have hshare : j + (i + 1) = j + 1 + i := by omega
      rw [putShares, hshare, ih (j + 1) i _ hl (by omega) (wf_writeAll _ _ m hm) (by omega)]
      rfl

/-- A block that was written without poison has its shares in the stacks. -/
theorem getShares_putBlock (n area lba : Nat) (data : List Byte) (m : List Host.Cell) (hn : n < Config.memBlocks + Config.memSpares)
    (harea : area < 4) (hlba : lba < 2 ^ 27) (hlen : data.length = 512) (hm : Memory.wf m = true) :
    getShares n (putBlock n false area lba data m) = goodShares area lba data := by
  have hpad : padRight 512 data = data := by simp [padRight, hlen]
  have htag := (tagWord_fields false area lba harea hlba).1
  have hshares := length_mem_encodeShares data hlen
  have hcount := length_encodeShares data
  refine List.ext_getElem (by simp [getShares, goodShares, hcount]) fun i hi _ => ?_
  have hi : i < 18 := by simpa [getShares] using hi
  have hi' : i < (encodeShares data).length := hcount.symm ▸ hi
  have hx : (encodeShares data)[i].length = 32 := hshares _ (List.getElem_mem hi')
  have hread : ∀ b, b < 36 → Memory.read (putBlock n false area lba data m) (shareAddr n i + b)
      = ((encodeShares data)[i] ++ toBE 4 (tagWord false area lba)).getD b 0 := by
    intro b hb
    have hput := read_putShares_share n (tagWord false area lba) 0 i b (encodeShares data) m hn hshares (by omega) hm hi' hb
    rw [Nat.zero_add, List.getD_eq_getElem _ _ hi'] at hput
    rw [putBlock, hpad]
    exact hput
  have hdata : Memory.readAll (putBlock n false area lba data m) (shareAddr n i) 32 = (encodeShares data)[i] := by
    refine List.ext_getElem (by simp [Memory.readAll, hx]) fun b hb hb' => ?_
    have hb32 : b < 32 := hx ▸ hb'
    simp [Memory.readAll, hread b (by omega), List.getElem?_append, hb']
  have htagBytes : Memory.readAll (putBlock n false area lba data m) (shareAddr n i + 32) 4 = toBE 4 (tagWord false area lba) := by
    refine List.ext_getElem (by simp [Memory.readAll]) fun b hb hb' => ?_
    have hb4 : b < 4 := by simpa using hb'
    simp [Memory.readAll, Nat.add_assoc, hread (32 + b) (by omega), List.getElem?_append, hx, List.getElem?_eq_getElem hb']
  simp only [getShares, goodShares, List.getElem_map, List.getElem_range, hdata, htagBytes, beNat_toBE 4 _ htag]

/-! ### A block that is written whole -/

/-- The first write to a region changes the registers only in its bit and the count of such writes. -/
theorem touch_frame (lba : Nat) (x : SysMem) :
    ∃ c v, (touch lba x).1 = { x.1 with ctr := c, mem := { x.1.mem with touched := v } } := by
  unfold touch
  split
  · exact ⟨x.1.ctr, x.1.mem.touched, rfl⟩
  · exact ⟨_, _, rfl⟩

/-- A later write to the region changes nothing beyond its block. -/
theorem touch_touched (lba : Nat) (x : SysMem) (h : touched x.1 lba = true) : touch lba x = x := if_pos h

theorem storeBlock_eq (lba : Nat) (p : Bool) (data : List Byte) (x z : SysMem) (hz : touch lba (onSys hbmWake x) = z) :
    storeBlock lba p data x =
      ({ z.1 with
          mem := { z.1.mem with merge := z.1.mem.merge.filter (fun e => e.lba != lba), spoiled := z.1.mem.spoiled.filter (· != lba) }
          poison := if p then z.1.poison.filter (· != lba) ++ [lba] else z.1.poison.filter (· != lba) },
        putBlock (physical z.1 lba).1 p (physical z.1 lba).2 lba data z.2) := by
  rw [storeBlock, hz]
  rfl

/-- What `storeBlock` keeps of the registers. -/
theorem storeBlock_fst (lba : Nat) (p : Bool) (data : List Byte) (x : SysMem) :
    ∃ n c m l, (storeBlock lba p data x).1 = { x.1 with nrg := n, ctr := c, mem := m, poison := l }
      ∧ m.spares = x.1.mem.spares ∧ m.dies = x.1.mem.dies := by
  obtain ⟨n, hn⟩ := hbmWake_frame x.1
  obtain ⟨c, v, hz⟩ := touch_frame lba (onSys hbmWake x)
  rw [onSys_fst, hn] at hz
  rw [storeBlock_eq lba p data x _ rfl, hz]
  exact ⟨n, c, _, _, rfl, rfl, rfl⟩

/-- The block stands where it stood. -/
theorem storeBlock_snd (lba : Nat) (p : Bool) (data : List Byte) (x : SysMem) :
    (storeBlock lba p data x).2 =
      putBlock (physical x.1 lba).1 p (physical x.1 lba).2 lba data (touch lba (onSys hbmWake x)).2 := by
  obtain ⟨n, hn⟩ := hbmWake_frame x.1
  obtain ⟨c, v, hz⟩ := touch_frame lba (onSys hbmWake x)
  rw [onSys_fst, hn] at hz
  have hplace : physical (touch lba (onSys hbmWake x)).1 lba = physical x.1 lba := physical_congr _ _ lba (by rw [hz])
  rw [storeBlock_eq lba p data x _ rfl, hplace]

theorem failedDie_congr (s y : Sys) (h : y.mem.dies = s.mem.dies) : failedDie y = failedDie s := by
  simp only [failedDie, die, h]

theorem failedShares_of_none (s : Sys) (n : Nat) (h : failedDie s = none) : failedShares s n = [] := by
  rw [failedShares, h]

/-- Undamaged shares locate no error. -/
theorem locate_clean (w : List (List Nat)) (hw : AreCodewords w) (l : List Nat) (hl : ∀ p ∈ l, p < 32) :
    locate w l none = some none := by
  induction l with
  | nil => rfl
  | cons p l ih =>
    obtain ⟨hp, hl⟩ := List.forall_mem_cons.mp hl
    have hcode := hw.code p hp
    simp only [locate, if_pos (And.intro hcode.s0 hcode.s1)]
    exact ih hl

theorem decodeBlock_good (area lba : Nat) (data : List Byte) (harea : area < 4) (hlba : lba < 2 ^ 27) (hlen : data.length = 512) :
    (decodeBlock area lba [] (goodShares area lba data)).verdict = 0
      ∧ (decodeBlock area lba [] (goodShares area lba data)).data = data := by
  have hw := areCodewords_writtenShares data
  let sh : Share := { data := (writtenShares data).getD 0 [], tag := tagWord false area lba }
  have hset : goodShares area lba data = damaged area lba data 0 sh := by
    have hlen18 : 0 < (goodShares area lba data).length := by simp [goodShares_eq, hw.length]
    have hsh : sh = (goodShares area lba data)[0] := by simp [sh, goodShares_eq, hw.length]
    rw [damaged, hsh, List.set_getElem_self hlen18]
  have hfails : tagFails area lba sh = false := tagFails_written area lba _ harea hlba
  have hpoison := poisonSeen_damaged (data := data) (failed := []) harea hlba (by decide : 0 < 18) (.inl rfl) (.inl (rfl : sh.tag = _))
  have herased := erased_damaged (data := data) (sh := sh) (failed := []) harea hlba (by decide : 0 < 18) (.inl rfl)
  have hread := asRead_damaged (area := area) (lba := lba) (data := data) (sh := sh) (failed := []) (by decide : 0 < 18) (.inl rfl)
  have hsame : asRead [] (damaged area lba data 0 sh) = writtenShares data := by
    rw [hread]
    simp [damagedBytes, sh, hw.length]
  have hnone : erased area lba [] (damaged area lba data 0 sh) = [] := by simpa [hfails] using herased
  have hlocate : locate (asRead [] (damaged area lba data 0 sh)) (List.range 32) none = some none :=
    hsame ▸ locate_clean _ hw _ fun p => List.mem_range.mp
  rw [hset, decodeBlock_clean hpoison hnone hlocate, hsame]
  exact ⟨rfl, data_writtenShares data hlen _ _ _⟩

theorem length_padRight (n : Nat) (l : List Byte) : (padRight n l).length = n := by
  rw [padRight, List.length_append, List.length_take, List.length_replicate]
  omega

theorem hbmWake_touched (lba : Nat) (x : SysMem) (h : touched x.1 lba = true) : touched (onSys hbmWake x).1 lba = true :=
  (touched_congr x.1 _ lba (by rw [onSys_fst, hbmWake_mem])).trans h

/-- Of a block in a region that was written before only the 576 bytes of the shares and 72 of the tags are written. -/
theorem read_storeBlock_touched (lba : Nat) (p : Bool) (data : List Byte) (x : SysMem) (hlen : data.length = 512)
    (h : touched x.1 lba = true) (a : Nat) (ha : ¬inBlock (physical x.1 lba).1 a) :
    Memory.read (storeBlock lba p data x).2 a = Memory.read x.2 a := by
  rw [storeBlock_snd, touch_touched lba _ (hbmWake_touched lba x h), putBlock]
  exact read_putShares _ _ _ 0 _ a (length_mem_encodeShares _ (by simp [padRight, hlen])) (by rw [length_encodeShares]) ha

/-- Settles O45: the shares of the block are found as written, they locate no error, and no byte beyond them was written. -/
theorem aWrittenBlockReadsBack : Obligations.A_written_block_reads_back := by
  intro lba data x hlba hlen hwf
  obtain ⟨hplace, harea⟩ := physical_lt x.1 lba hlba
  have hlba27 : lba < 2 ^ 27 := Nat.lt_trans hlba (by decide)
  refine ⟨fun hdie => ?_, fun htouched a ha => ?_⟩
  · obtain ⟨n, c, m, l, hfst, hspares, hdies⟩ := storeBlock_fst lba false data x
    have hphys : physical (storeBlock lba false data x).1 lba = physical x.1 lba := physical_congr _ _ lba (by rw [hfst]; exact hspares)
    have hfailed : failedDie (storeBlock lba false data x).1 = none := (failedDie_congr x.1 _ (by rw [hfst]; exact hdies)).trans hdie
    have hdecode : decodeAt lba [] (storeBlock lba false data x)
        = decodeBlock (physical x.1 lba).2 lba [] (goodShares (physical x.1 lba).2 lba data) := by
      simp only [decodeAt, hphys, failedShares_of_none _ _ hfailed, storeBlock_snd]
      rw [getShares_putBlock _ _ lba data (touch lba (onSys hbmWake x)).2 hplace harea hlba27 hlen (wf_touch lba _ hwf)]
      rfl
    obtain ⟨hverdict, hdata⟩ := decodeBlock_good (physical x.1 lba).2 lba data harea hlba27 hlen
    refine ⟨by rw [hdecode]; exact hverdict, by rw [hdecode]; exact hdata, ?_, ?_⟩
    · rw [storeBlock_eq lba false data x _ rfl]
      simp
    · rw [touched_storeBlock, if_pos rfl]
  · exact read_storeBlock_touched lba false data x hlen htouched a ha

/-! ### A block write of a client (R376, R385) -/

/-- `y` is `x` but for the forms in force, the bookkeeping of the memory and the poison list; spares and dies are kept too. -/
def MemOnly (x y : Sys) : Prop :=
  ∃ n m l, y = { x with nrg := n, mem := m, poison := l } ∧ m.spares = x.mem.spares ∧ m.dies = x.mem.dies

theorem MemOnly.trans {x y z : Sys} (hxy : MemOnly x y) (hyz : MemOnly y z) : MemOnly x z := by
  obtain ⟨n, m, l, rfl, hspares, hdies⟩ := hxy
  obtain ⟨n', m', l', rfl, hspares', hdies'⟩ := hyz
  exact ⟨n', m', l', rfl, hspares'.trans hspares, hdies'.trans hdies⟩

/-- A ready and idle device stays so. -/
theorem MemOnly.keeps_quiet {x y : Sys} (h : MemOnly x y) (hx : quiet x) : quiet y := by
  obtain ⟨hboot, hsessions, ⟨hwq, hdie, hbases⟩, hrest⟩ := hx
  obtain ⟨n, m, l, rfl, _, hdies⟩ := h
  exact ⟨hboot, hsessions, ⟨hwq, (failedDie_congr x _ hdies).trans hdie, hbases⟩, hrest⟩

theorem memOnly_claim (lba owner : Nat) (s : Sys) : MemOnly s (claim lba owner s) := by
  unfold claim
  split
  · exact ⟨_, _, _, rfl, rfl, rfl⟩
  · exact ⟨_, _, _, rfl, rfl, rfl⟩

theorem memOnly_spoil (lba : Nat) (s : Sys) : MemOnly s (spoil lba s) := by
  unfold spoil
  split
  · exact ⟨_, _, _, rfl, rfl, rfl⟩
  · exact ⟨_, _, _, rfl, rfl, rfl⟩

theorem memOnly_storeBlock (lba : Nat) (p : Bool) (data : List Byte) (x : SysMem) (h : touched x.1 lba = true) :
    MemOnly x.1 (storeBlock lba p data x).1 := by
  obtain ⟨n, hn⟩ := hbmWake_frame x.1
  rw [storeBlock_eq lba p data x _ (touch_touched lba _ (hbmWake_touched lba x h)), onSys_fst, hn]
  exact ⟨_, _, _, rfl, rfl, rfl⟩

theorem touched_claim (lba owner : Nat) (s : Sys) : touched (claim lba owner s) lba = touched s lba := by
  unfold claim
  split <;> rfl

/-- A client's block write to a region written before. -/
theorem blockWriteEffect_touched (lba owner : Nat) (data : List Byte) (x : SysMem) (hlen : data.length = 512) (h : touched x.1 lba = true) :
    MemOnly x.1 (blockWriteEffect lba owner data x).1
      ∧ ∀ a, ¬inBlock (physical x.1 lba).1 a → Memory.read (blockWriteEffect lba owner data x).2 a = Memory.read x.2 a := by
  have hclaim := memOnly_claim lba owner x.1
  have htouched : touched (onSys (claim lba owner) x).1 lba = true := (touched_claim lba owner x.1).trans h
  have hplace : physical (onSys (claim lba owner) x).1 lba = physical x.1 lba := by
    obtain ⟨_, m, _, heq, hspares, _⟩ := hclaim
    exact physical_congr x.1 _ lba (by rw [onSys_fst, heq]; exact hspares)
  refine ⟨(hclaim.trans (memOnly_storeBlock lba false data _ htouched)).trans (memOnly_spoil lba _), fun a ha => ?_⟩
  exact read_storeBlock_touched lba false data _ hlen htouched a (hplace ▸ ha)

theorem setNow_now (s : Sys) : setNow s.now s = s := if_pos (Nat.le_refl s.now)

/-- Settles O60: the write of the block changes the memory only, and an idle device lets nothing else follow. -/
theorem aBlockWriteLeavesAllElse : Obligations.A_block_write_leaves_all_else := by
  rintro t lba owner data s hq hlba htouched rfl
  have hready : stepDone s.sys 8 = true := by
    obtain ⟨⟨hstate, -⟩, -⟩ := hq
    simp [stepDone, hstate]
  have hfound : atTick s.sys.now s = (s.sys, s.hbm) := by rw [atTick_quiet _ s hq, setNow_now]
  obtain ⟨honly, hread⟩ := blockWriteEffect_touched lba owner.val (padRight 512 data) (s.sys, s.hbm) (length_padRight 512 data) htouched
  have hrun : exec (.hbmBlockWrite s.sys.now lba owner data) s = .next (leaves s (blockWriteEffect lba owner.val (padRight 512 data) (s.sys, s.hbm))) :=
    (if_neg (Nat.not_le.mpr hlba)).trans (runMem_eq s.sys.now _ s _ _ hfound (if_pos hready))
  obtain ⟨_, _, _, hleaves⟩ := leaves_quiet s _ (honly.keeps_quiet hq)
  refine ⟨_, hrun, ?_⟩
  obtain ⟨_, _, _, heffect, _⟩ := honly
  rw [hleaves, heffect]
  exact ⟨hread, rfl, rfl, rfl, rfl, rfl, rfl, rfl⟩

/-! ### Block reads, block writes and narrow writes (R375, R376, R382, R383) -/

/-- A read counts what its decoding found. -/
def countRead (lba : Nat) (d : Decoded) (noise : List Disturbance) (s : Sys) : Sys := countDecoded lba d (countReports lba noise (hbmWake s))

section
variable (lba source : Nat) (noise : List Disturbance) (x : SysMem) (htouched : touched x.1 lba = true)
include htouched

theorem readBlock_decodes (hdecodes : (decodeAt lba noise x).verdict ≠ 4) :
    readBlock lba source noise x = (decodeAt lba noise x, onSys (countRead lba (decodeAt lba noise x) noise) x) :=
  (if_neg (by simp [htouched])).trans (if_neg hdecodes)

/-- An uncorrectable block is poisoned, its tags written, and becomes a candidate (R379). -/
theorem readBlock_uncorrectable (hbad : (decodeAt lba noise x).verdict = 4) :
    readBlock lba source noise x =
      (decodeAt lba noise x,
        let d := decodeAt lba noise x
        let z := writePoison lba d (countRead lba d noise x.1, x.2)
        candidate lba 1 (uncorrectable lba (ownerOf z.1 lba) source z.1, z.2)) :=
  (if_neg (by simp [htouched])).trans (if_pos hbad)

end

section
variable (t lba : Nat) (f : SysMem → SysMem) (s : State)

/-- A command on a block of the memory, once the HBM is up. -/
theorem run_block (y : SysMem) (hlba : lba < Config.memBlocks) (hup : stepDone (atTick t s).1 8 = true) (h : f (atTick t s) = y) :
    (if Config.memBlocks ≤ lba then .fault (.noSuchBlock lba) else runMem t (fromStepMem 8 f) s : Host.Outcome State Fault Refusal)
      = .next (leaves s y) :=
  (if_neg (Nat.not_le.mpr hlba)).trans (runMem_eq t _ s _ y rfl ((if_pos hup).trans h))

/-- Before start-up step 8 it changes nothing. -/
theorem run_block_before (hlba : lba < Config.memBlocks) (hup : stepDone (atTick t s).1 8 = false) :
    (if Config.memBlocks ≤ lba then .fault (.noSuchBlock lba) else runMem t (fromStepMem 8 f) s : Host.Outcome State Fault Refusal)
      = .next (leaves s (atTick t s)) :=
  (if_neg (Nat.not_le.mpr hlba)).trans (runMem_eq t _ s _ _ rfl (if_neg (Bool.eq_false_iff.mp hup)))

end

/-- An entry that is full, or has no window, is flushed at once. -/
theorem mergeSettle_flushes (lba : Nat) (x : SysMem) (e : MergeEntry) (hentry : mergeOf x.1 lba = some e)
    (hsettle : e.mask = 2 ^ 64 - 1 ∨ obj x.1 0x0620 1 = 0) : mergeSettle lba x = flushEntry e [] x := by
  simp only [mergeSettle, hentry, if_pos hsettle]

section
variable (lba owner : Nat) (words : List (Fin 64 × List Byte)) (x : SysMem)

theorem narrowEffect_none (hwords : words = []) : narrowEffect lba owner words x = x := if_pos (by simp [hwords])

theorem narrowEffect_flushes (e : MergeEntry) (hwords : words ≠ [])
    (hentry : mergeOf (mergeWords lba words (onSys (claim lba owner) x)).1 lba = some e)
    (hsettle : e.mask = 2 ^ 64 - 1 ∨ obj (mergeWords lba words (onSys (claim lba owner) x)).1 0x0620 1 = 0) :
    narrowEffect lba owner words x = onSys (spoil lba) (flushEntry e [] (mergeWords lba words (onSys (claim lba owner) x))) := by
  rw [narrowEffect, if_neg (by simpa using hwords), mergeSettle_flushes lba _ e hentry hsettle]

end

theorem mergeExpiryEffect_due (lba : Nat) (noise : List Disturbance) (x : SysMem) (e : MergeEntry) (hentry : mergeOf x.1 lba = some e)
    (hdue : e.at_ * 4 + obj x.1 0x0620 1 * 5 ≤ x.1.now * 4) : mergeExpiryEffect lba noise x = flushEntry e noise x := by
  simp only [mergeExpiryEffect, hentry, if_pos hdue]

/-- Settles O28: each clause is the case of its command's effect that the hypotheses select. -/
theorem hbmBlocksAreReadAndWritten : Obligations.HBM_blocks_are_read_and_written := by
  refine ⟨?readUntouched, ?readDecodes, ?readUncorrectable, ?readBefore, ?write, ?writeBefore, ?narrowOld, ?narrowNew, ?narrowFlushes,
    ?narrowNone, ?narrowBefore, ?expiry⟩
  case readUntouched =>
    exact fun t lba owner noise s hlba hup htouched =>
      run_block t lba _ s _ hlba hup (congrArg Prod.snd (readBlock_untouched lba 1 noise _ htouched))
  case readDecodes =>
    exact fun t lba owner noise s hlba hup htouched hdecodes =>
      run_block t lba _ s _ hlba hup (congrArg Prod.snd (readBlock_decodes lba 1 noise _ htouched hdecodes))
  case readUncorrectable =>
    exact fun t lba owner noise s hlba hup htouched hbad =>
      run_block t lba _ s _ hlba hup (congrArg Prod.snd (readBlock_uncorrectable lba 1 noise _ htouched hbad))
  case readBefore => exact fun t lba owner noise s hlba hup => run_block_before t lba _ s hlba hup
  case write => exact fun t lba owner data s hlba hup => run_block t lba _ s _ hlba hup rfl
  case writeBefore => exact fun t lba owner data s hlba hup => run_block_before t lba _ s hlba hup
  case narrowOld =>
    exact fun t lba owner words e s hlba hup hwords hentry hopen hwindow =>
      run_block t lba _ s _ hlba hup (narrow_old lba owner.val words _ e hwords hentry hopen hwindow (puts_lba words))
  case narrowNew =>
    exact fun t lba owner words s hlba hup hwords hnone hroom hwindow hopen =>
      run_block t lba _ s _ hlba hup (narrow_open lba owner.val words _ hwords hnone hroom hwindow (puts_lba words) hopen)
  case narrowFlushes =>
    exact fun t lba owner words e s hlba hup hwords hentry hsettle =>
      run_block t lba _ s _ hlba hup (narrowEffect_flushes lba owner.val words _ e hwords hentry hsettle)
  case narrowNone =>
    exact fun t lba owner words s hlba hup hwords => run_block t lba _ s _ hlba hup (narrowEffect_none lba owner.val words _ hwords)
  case narrowBefore => exact fun t lba owner words s hlba hup => run_block_before t lba _ s hlba hup
  case expiry =>
    exact fun t lba noise e s hentry hdue => runMem_eq t _ s _ _ rfl (mergeExpiryEffect_due lba noise _ e hentry hdue)

/-! ### Dies, the Chisel, remapping and the SRAM sweep (R378 to R396) -/

/-- A command for a die is staged (R45, R378). -/
theorem writes_die (sid v : Nat) (x : SysMem) (hv : 256 ≤ v ∧ v < 280 ∨ 512 ≤ v ∧ v < 536) (h : mayStage x.1 sid 0x0600 5 v) :
    writes sid 0x0600 5 v x = onSys (withStaged sid 0x0600 5 v) x :=
  writes_stage sid 0x0600 5 v x _ _ _ h (by rfl) rfl rfl rfl rfl rfl (check_die x.1 v hv) (by decide)

/-- CHISEL_CMD takes effect at its commit point. -/
theorem writes_chisel (sid v : Nat) (f : Sys → Sys) (x : SysMem) (hv : v = 1 ∨ v = 2 ∨ v = 3) (h : mayCommand x.1 sid 0x0630 5 v)
    (haccept : chiselRefused (commandPoint sid x).1 v = false) (hf : chiselCmdEffect v (commandPoint sid x).1 = f (commandPoint sid x).1) :
    writes sid 0x0630 5 v x = settled sid x (onSys f (commandPoint sid x)) := by
  have hvalue : (Value.num (v : Int)).toNat = v := Int.toNat_natCast v
  refine writes_command sid 0x0630 5 v x _ _ _ _ h (by rfl) rfl rfl rfl rfl ?_ rfl (by simp) (by decide) (by decide) ?_
  · rcases hv with rfl | rfl | rfl <;> rfl
  · simp [commandEffect, hvalue, onSys, haccept, hf]

/-- REMAP_CMD makes its block a candidate, which is remapped (R393). -/
theorem writes_remap (sid lba : Nat) (x : SysMem) (hlba : lba < Config.memBlocks) (h : mayCommand x.1 sid 0x0610 3 lba) :
    writes sid 0x0610 3 lba x = settled sid x (candidate lba 3 (commandPoint sid x)) := by
  have hvalue : (Value.num (lba : Int)).toNat = lba := Int.toNat_natCast lba
  refine writes_command sid 0x0610 3 lba x _ _ _ _ h (by rfl) rfl rfl rfl rfl (check_block x.1 lba hlba) rfl (by simp) (by decide) (by decide) ?_
  simp [commandEffect, hvalue]

section
variable (s : Sys)

theorem passStartEffect_due (base : Nat) (hbase : s.mem.autoBase = some base) (hst : s.devState = 1) (hauto : s.mem.auto = none)
    (hdue : base + obj s 0x0630 1 * 3600 * Config.ticksPerS ≤ s.now) :
    passStartEffect s =
      updMem (fun m => { m with auto := some { cmd := 0x81, first := 0, count := Config.memBlocks, start := dc s, pos := 0 }
                                autoBase := some (base + obj s 0x0630 1 * 3600 * Config.ticksPerS), prevCorr := m.curCorr, curCorr := [] }) s := by
  simp only [passStartEffect, hbase]
  exact if_pos ⟨hst, by simp [hauto], hdue⟩

theorem chiselBlockEffect_next (req : Bool) (noise : List Disturbance) (p : Pass) (lba : Nat) (x : SysMem) (hpass : passOf x.1 req = some p)
    (hmay : mayChisel x.1 req = true) (hnext : nextTouched x.1 p.pos = some lba) (hin : lba < p.end_) :
    chiselBlockEffect req noise x = chiselTurn req lba p noise x := by
  simp [chiselBlockEffect, hpass, hmay, hnext, hin]

/-- A pass whose next touched block lies beyond it, or that has none, has none left. -/
theorem passLeft_none (p : Pass) (h : (nextTouched s p.pos).all (fun l => decide (p.end_ ≤ l)) = true) : passLeft s p = false := by
  unfold passLeft
  cases hnext : nextTouched s p.pos with
  | none => rfl
  | some l => simpa [hnext] using h

theorem passEndEffect_none (req : Bool) (p : Pass) (hpass : passOf s req = some p) (hmay : mayChisel s req = true)
    (hnone : passLeft s p = false) : passEndEffect req s = endPass req false s := by
  simp [passEndEffect, hpass, hmay, hnone]

theorem chiselRefused_idle (v : Nat) (hv : v ≠ 3) (hreq : s.mem.req = none) : chiselRefused s v = false := by
  simp [chiselRefused, hv, hreq]

/-- A requested pass starts over the range that CHISEL_FIRST and CHISEL_COUNT give (R390). -/
theorem chiselCmdEffect_starts (v : Nat) (hv : v ≠ 3) (hreq : s.mem.req = none) :
    chiselCmdEffect v s =
      setPass true (some { cmd := v, first := obj s 0x0630 3,
                           count := if obj s 0x0630 4 = 0 then Config.memBlocks - obj s 0x0630 3
                             else min (obj s 0x0630 4) (Config.memBlocks - obj s 0x0630 3)
                           start := dc s, pos := obj s 0x0630 3 }) s :=
  (if_neg (Bool.eq_false_iff.mp (chiselRefused_idle s v hv hreq))).trans (if_neg hv)

theorem chiselRefused_abort (hreq : s.mem.req.isSome = true) : chiselRefused s 3 = false := by
  simpa [chiselRefused] using hreq

theorem chiselCmdEffect_aborts (hreq : s.mem.req.isSome = true) : chiselCmdEffect 3 s = endPass true true s :=
  (if_neg (Bool.eq_false_iff.mp (chiselRefused_abort s hreq))).trans (if_pos rfl)

end

/-- Settles O29: each clause is the case of its command's effect that the hypotheses select. -/
theorem hbmIsMaintained : Obligations.HBM_is_maintained := by
  refine ⟨?dieFail, ?dieRestore, ?passStart, ?block, ?passEnd, ?scrub, ?verify, ?abort, ?remap, ?sweep, ?rebuild⟩
  case dieFail =>
    exact fun t sid die s h => runMem_eq t _ s _ _ rfl (writes_die sid _ _ (.inl (by omega)) h)
  case dieRestore =>
    exact fun t sid die s h => runMem_eq t _ s _ _ rfl (writes_die sid _ _ (.inr (by omega)) h)
  case passStart => exact fun t base s hbase hst hauto hdue => run_eq t _ s _ _ rfl (passStartEffect_due _ base hbase hst hauto hdue)
  case block =>
    exact fun t req noise p lba s hpass hmay hnext hin =>
      runMem_eq t _ s _ _ rfl (chiselBlockEffect_next req noise p lba _ hpass hmay hnext hin)
  case passEnd =>
    exact fun t req p s hpass hmay hnone => run_eq t _ s _ _ rfl (passEndEffect_none _ req p hpass hmay (passLeft_none _ p hnone))
  case scrub =>
    exact fun t sid s h hreq =>
      runMem_eq t _ s _ _ rfl (writes_chisel sid 1 _ _ (.inl rfl) h (chiselRefused_idle _ 1 (by decide) hreq)
        (chiselCmdEffect_starts _ 1 (by decide) hreq))
  case verify =>
    exact fun t sid s h hreq =>
      runMem_eq t _ s _ _ rfl (writes_chisel sid 2 _ _ (.inr (.inl rfl)) h (chiselRefused_idle _ 2 (by decide) hreq)
        (chiselCmdEffect_starts _ 2 (by decide) hreq))
  case abort =>
    exact fun t sid s h hreq =>
      runMem_eq t _ s _ _ rfl (writes_chisel sid 3 (endPass true true) _ (.inr (.inr rfl)) h (chiselRefused_abort _ hreq)
        (chiselCmdEffect_aborts _ hreq))
  case remap => exact fun t sid lba s h hlba => runMem_eq t _ s _ _ rfl (writes_remap sid lba _ hlba h)
  case sweep => exact fun t mem hits s hup => runMem_eq t _ s _ _ rfl (if_pos hup)
  case rebuild =>
    exact fun t index s hrun hwaits => run_bySteward_eq t _ s _ hrun (if_neg hwaits)

end Sys2Proof.Proofs
end

section
/-! PROOFS. Energy: plans, surges and DORMANT (chapter 14). -/

namespace Sys2Proof.Proofs

open Sys2Proof.Machine Sys2Proof.Safety Sys2Proof.Laws

/-! ### Periods, plans and surges (R397, R402 to R405, R412) -/

section
variable (t : Nat) (f : Sys → Sys) (s : State)

/-- A command that acts once start-up is over. -/
theorem run_onceReady_eq (y : Sys) (hready : (sysAt t s).devState ≠ 0) (h : f (sysAt t s) = y) :
    run t (onceReady f) s = .next (leavesSys t s y) := run_eq t _ s _ y rfl ((if_neg hready).trans h)

/-- During start-up, and where its effect is none, it changes nothing. -/
theorem run_onceReady_same (h : (sysAt t s).devState = 0 ∨ f (sysAt t s) = sysAt t s) :
    run t (onceReady f) s = .next (leavesSys t s (sysAt t s)) := by
  refine run_eq t _ s _ _ rfl ?_
  rcases h with hboot | hsame
  · exact if_pos hboot
  · rw [onceReady, hsame, ite_self]

end

section
variable (s : Sys)

theorem periodEffect_new (spent : Nat) (h : s.nrg.plan.period < periodOf s) :
    periodEffect spent s = kngPeriod (windowAhead (periodTurn (periodOf s) spent s)) (periodTurn (periodOf s) spent s) :=
  if_neg (Nat.not_le.mpr h)

theorem periodEffect_within (spent : Nat) (h : periodOf s ≤ s.nrg.plan.period) : periodEffect spent s = s := if_pos h

/-- The plan that the stewards make of an offer for the next period (Table NRG-3). -/
def planOf (o : PlanOffer) : Plan :=
  let floor := o.floorSafety + o.floorSched + o.floorLinks
  let a := max (obj s 0x0400 1) floor
  let limit := max ((floor * 65536 : Nat) : Int) (((a * 65536 : Nat) : Int) + s.nrg.bal)
  let place := choosePlace o s limit
  { period := periodOf s + 1, clocks := o.clocks.toNat, hbm := o.hbm.toNat, emm := o.emm.toNat, tiles := o.tiles.toNat, t8 := o.t8
    level := offerLevel o place.1, step := if place.1 ≤ o.steps.length then place.1 else o.steps.length, good := place.2
    fallback := false, over_ := overAll o s limit, lanes := padRight 16 o.lanes, predicted := (offerAll o).getD place.1 0, floor := floor
    parts := [o.floorSafety, o.floorSched, o.floorLinks], wakes := mergeWakes (sortBy (·.1) o.wakes), effective := a
    balance := s.nrg.bal / 1000, spent := s.nrg.plan.spent }

theorem planLoadEffect_loads (o : PlanOffer) (hst : s.devState = 1) (hrestart : s.plinth.restart = none)
    (htime : s.now + 12500 ≤ s.dcZero + 1280000 * (periodOf s + 1)) :
    planLoadEffect o s = updNrg (fun n => { n with next := some (planOf s o) }) s := by
  refine if_neg ?_
  rintro (hlate | hother | hrestarts)
  · omega
  · exact hother hst
  · simp [hrestart] at hrestarts

theorem planLoadEffect_ignored (o : PlanOffer) (h : s.dcZero + 1280000 * (periodOf s + 1) - s.now < 12500 ∨ s.devState ≠ 1) :
    planLoadEffect o s = s := if_pos (h.imp_right .inl)

section
variable (hlimit : (List.range 8).any (fun t => decide (stagingBytes < 8 * stagingUsed s t)) = true ∨ 256 < waitingHeads s)

include hlimit in
theorem surgeEffect_raises (hst : s.devState ≠ 3) (hnew : surging s (periodOf s) = false) :
    surgeEffect s = bump Ctr.nrgSurge (updNrg (fun n => { n with surgeAt := some (periodOf s), form := raiseForm n.form }) s) := by
  refine if_neg ?_
  rintro (⟨hroom, hfew⟩ | hsurging | hdormant)
  · rcases hlimit with hfull | hmany
    · simp [hfull] at hroom
    · exact absurd hfew (Nat.not_le.mpr hmany)
  · simp [hnew] at hsurging
  · exact hst hdormant

end

theorem surgeEffect_ignored (h : s.devState = 3
    ∨ ¬((List.range 8).any (fun t => decide (stagingBytes < 8 * stagingUsed s t)) = true ∨ 256 < waitingHeads s)
    ∨ surging s (periodOf s) = true) : surgeEffect s = s := by
  refine if_pos ?_
  rcases h with hdormant | hbelow | hsurging
  · exact .inr (.inr hdormant)
  · obtain ⟨hroom, hfew⟩ := not_or.mp hbelow
    exact .inl ⟨by simpa only [Bool.not_eq_true, Bool.not_eq_true'] using hroom, Nat.not_lt.mp hfew⟩
  · exact .inr (.inl hsurging)

end

/-- Settles O30: each clause is the case of its command's effect that the hypotheses select. -/
theorem energyPeriodsAndSurgesTakeEffect : Obligations.Energy_periods_and_surges_take_effect := by
  refine ⟨?period, ?within, ?noPlan, ?plan, ?wake, ?surge, ?noSurge⟩
  case period => exact fun t spent s hready hnew => run_onceReady_eq t _ s _ hready (periodEffect_new _ spent hnew)
  case within => exact fun t spent s h => run_onceReady_same t _ s (h.imp_right (periodEffect_within _ spent))
  case noPlan =>
    intro t offer s x hrun h
    refine run_bySteward_eq t _ s _ hrun ?_
    rw [onceReady, planLoadEffect_ignored _ offer h, ite_self]
  case plan =>
    exact fun t offer s hrun hst hrestart htime =>
      run_bySteward_eq t _ s _ hrun ((if_neg (by simp [hst])).trans (planLoadEffect_loads _ offer hst hrestart htime))
  case wake => exact fun t s hready => run_onceReady_eq t _ s _ hready rfl
  case surge => exact fun t s hready hst hlimit hnew => run_onceReady_eq t _ s _ hready (surgeEffect_raises _ hlimit hst hnew)
  case noSurge => exact fun t s h => run_onceReady_same t _ s (h.imp_right (surgeEffect_ignored _))

/-! ### DORMANT (R413, R415, R416) -/

/-- NRG_POWER_CMD takes effect at its commit point. -/
theorem writes_power (sid v : Nat) (f : Sys → Sys) (x : SysMem) (hv : v = 1 ∨ v = 2) (h : mayCommand x.1 sid 0x0420 1 v)
    (hf : commandEffect sid 0 0x0420 1 (.num v) (commandPoint sid x) = (onSys f (commandPoint sid x), none)) :
    writes sid 0x0420 1 v x = settled sid x (onSys f (commandPoint sid x)) := by
  refine writes_command sid 0x0420 1 v x _ _ _ _ h (by rfl) rfl rfl rfl rfl ?_ rfl (by simp) (by decide) (by decide) hf
  rcases hv with rfl | rfl <;> rfl

/-- A power command that nothing refuses starts the drain. -/
theorem commandEffect_enter (sid : Nat) (x : SysMem) (h : dormantRefusal x.1 = none) :
    commandEffect sid 0 0x0420 1 (.num (1 : Nat)) x = (onSys dormantEnter x, none) := by
  have hnone : (dormantRefusal x.1).isNone = true := by rw [h]; rfl
  simp [commandEffect, Value.toNat, Value.toInt, onSys, hnone]

theorem dormantExit_leaves (s : Sys) (hst : s.devState = 2 ∨ s.devState = 3) (hwake : s.nrg.pendingWake = none) :
    dormantExit s = wakeWatch (updNrg (fun n => { n with pendingWake := some 1 }) s) := by
  refine if_neg ?_
  rcases hst with h | h <;> simp [dormantExitRefused, h, hwake]

/-- Command 2 leaves DORMANT. -/
theorem commandEffect_exit (sid : Nat) (x : SysMem) (hst : x.1.devState = 2 ∨ x.1.devState = 3) (hwake : x.1.nrg.pendingWake = none) :
    commandEffect sid 0 0x0420 1 (.num (2 : Nat)) x =
      (onSys (fun s => wakeWatch (updNrg (fun n => { n with pendingWake := some 1 }) s)) x, none) := by
  have hexit := dormantExit_leaves x.1 hst hwake
  simp [commandEffect, Value.toNat, Value.toInt, onSys, hexit]

section
variable (s : Sys)

theorem wakeTimeEffect_due (hsource : bit (obj s 0x0420 4) 1 = true) (hcounts : baseCounts s (obj s 0x0420 6) = true)
    (hdue : timeUnits (obj s 0x0420 5) ≤ clock s (obj s 0x0420 6)) (hst : s.devState = 2 ∨ s.devState = 3)
    (hwake : s.nrg.pendingWake = none) : wakeTimeEffect s = updNrg (fun n => { n with pendingWake := some 2 }) s :=
  if_pos ⟨hsource, hcounts, hdue, hst, by rw [hwake]; rfl⟩

theorem exitReadyEffect_ready (failA failB : Bool) (hst : s.devState = 4) :
    exitReadyEffect failA failB s =
      let y := updNrg (fun n => { n with bal := 0, first := true, next := none, surgeAt := none }) (wakeDecider .b failB (wakeDecider .a failA s))
      raise 0x0A04 0 (u8b y.nrg.lastWake) (silenceAll (setDevState 1 y)) := if_neg (not_not_intro hst)

end

theorem drainEndEffect_done (x : SysMem) (hst : x.1.devState = 2) (hdue : x.1.nrg.drainEnd ≤ x.1.now) :
    drainEndEffect x =
      let y := flushMerge (freezeNow (closeSeg (drainFrames x.1)), x.2)
      let s := basesHoldover (sleepDecider .b (sleepDecider .a (sleepPorts y.1)))
      (wakeWatch (raise 0x0A03 0 [] (setDevState 3 { s with golden := none, flush := none, sweep := none })), y.2) :=
  if_neg (by simp [hst, hdue])

/-- Settles O31: each clause is the case of its command's effect that the hypotheses select. -/
theorem dormantIsEnteredAndLeft : Obligations.DORMANT_is_entered_and_left := by
  refine ⟨?enter, ?exit, ?drained, ?wakeTime, ?ready⟩
  case enter =>
    exact fun t sid s hmay haccept => runMem_eq t _ s _ _ rfl (writes_power sid 1 _ _ (.inl rfl) hmay (commandEffect_enter sid _ haccept))
  case exit =>
    exact fun t sid s hmay hst hwake =>
      runMem_eq t _ s _ _ rfl (writes_power sid 2 _ _ (.inr rfl) hmay (commandEffect_exit sid _ hst hwake))
  case drained => exact fun t s hst hdue => runMem_eq t _ s _ _ rfl (drainEndEffect_done _ hst hdue)
  case wakeTime =>
    exact fun t s hsource hcounts hdue hst hwake => run_eq t _ s _ _ rfl (wakeTimeEffect_due _ hsource hcounts hdue hst hwake)
  case ready => exact fun t failA failB s hst => run_eq t _ s _ _ rfl (exitReadyEffect_ready _ failA failB hst)

end Sys2Proof.Proofs
end

section
/-! PROOFS. Safety: clocks, rails and sensors, the Plinth and the stewards (chapter 15). -/

namespace Sys2Proof.Proofs

open Sys2Proof.Machine Sys2Proof.Safety Sys2Proof.Laws

/-! ### Clocks (R434, R435, R506) -/

/-- A command that acts from a start-up step on. -/
theorem run_fromStep_eq (t k : Nat) (f : Sys → Sys) (s : State) (y : Sys) (hdone : stepDone (sysAt t s) k = true) (h : f (sysAt t s) = y) :
    run t (fromStep k f) s = .next (leavesSys t s y) := run_eq t _ s _ y rfl ((fromStep_done k f _ hdone).trans h)

/-- Before the step it changes nothing. -/
theorem run_fromStep_before (t k : Nat) (f : Sys → Sys) (s : State) (hdone : stepDone (sysAt t s) k = false) :
    run t (fromStep k f) s = .next (leavesSys t s (sysAt t s)) := run_eq t _ s _ _ rfl (fromStep_before k f _ hdone)

/-- What the monitor keeps of a domain: its count, the windows outside in a row, and that it is faulty. -/
def keepClock (d khz bad : Nat) (faulty : Bool) (s : Sys) : Sys :=
  updPlinth (fun p => { p with clocks := SMap.set {} p.clocks d { khz := khz, bad := bad, faulty := faulty, stopped := false } }) s

/-- A domain becomes faulty; without the stewards' own clock they restart. -/
def clockLost (d : Nat) (s : Sys) : Sys := if d = 3 then restartStewards (clockFault d s) else clockFault d s

/-- A window that differs by more than 5 % from `want`. -/
def windowOff (want khz : Nat) : Bool := !(decide (want * 95 ≤ khz * 100) && decide (khz * 100 ≤ want * 105))

theorem windowOff_within (want khz : Nat) (h : want * 95 ≤ khz * 100 ∧ khz * 100 ≤ want * 105) : windowOff want khz = false := by
  simp [windowOff, h]

theorem windowOff_outside (want khz : Nat) (h : ¬(want * 95 ≤ khz * 100 ∧ khz * 100 ≤ want * 105)) : windowOff want khz = true := by
  rw [windowOff, ← Bool.decide_and, decide_eq_false h]
  rfl

section
variable (d khz want : Nat) (locked : Bool) (s : Sys) (hplan : planKhz s d = some want)
include hplan

/-- AON, WATCH and REF are judged by their vote, and their count is kept. -/
theorem clockWindowEffect_voted (hd : d ≤ 2) :
    clockWindowEffect d khz locked s =
      updPlinth (fun p => { p with clocks := SMap.upd {} p.clocks d (fun v => { v with khz := khz }) }) s := by
  simp only [clockWindowEffect, hplan, if_pos hd]

theorem clockWindowEffect_planned (hd : 3 ≤ d) (hstop : plannedStop s d = true) :
    clockWindowEffect d khz locked s =
      updPlinth (fun p => { p with clocks := SMap.set {} p.clocks d { khz := khz, stopped := true } }) s := by
  simp only [clockWindowEffect, hplan, if_neg (Nat.not_le.mpr hd), if_pos hstop]

section
variable (hd : 3 ≤ d) (hstop : plannedStop s d = false)
include hd hstop

/-- Any other domain that should run is judged by its window and its lock. -/
theorem clockWindowEffect_judged :
    clockWindowEffect d khz locked s =
      let v : ClockMon := SMap.get {} s.plinth.clocks d
      let bad := if windowOff want khz then v.bad + 1 else 0
      let y := keepClock d khz bad (v.faulty && (windowOff want khz || !locked)) s
      if 2 ≤ bad ∨ !locked then clockLost d y else y := by
  simp only [clockWindowEffect, hplan, if_neg (Nat.not_le.mpr hd), hstop, Bool.false_eq_true, if_false]
  rfl

theorem clockWindowEffect_within (hin : want * 95 ≤ khz * 100 ∧ khz * 100 ≤ want * 105) (hlocked : locked = true) :
    clockWindowEffect d khz locked s = keepClock d khz 0 false s := by
  rw [clockWindowEffect_judged d khz want locked s hplan hd hstop]
  simp [windowOff_within want khz hin, hlocked]

theorem clockWindowEffect_first (hout : ¬(want * 95 ≤ khz * 100 ∧ khz * 100 ≤ want * 105)) (hlocked : locked = true)
    (hbad : (SMap.get {} s.plinth.clocks d : ClockMon).bad = 0) :
    clockWindowEffect d khz locked s = keepClock d khz 1 (SMap.get {} s.plinth.clocks d : ClockMon).faulty s := by
  rw [clockWindowEffect_judged d khz want locked s hplan hd hstop]
  simp [windowOff_outside want khz hout, hlocked, hbad]

theorem clockWindowEffect_second (hout : ¬(want * 95 ≤ khz * 100 ∧ khz * 100 ≤ want * 105))
    (hbad : 1 ≤ (SMap.get {} s.plinth.clocks d : ClockMon).bad) :
    clockWindowEffect d khz locked s =
      clockLost d (keepClock d khz ((SMap.get {} s.plinth.clocks d : ClockMon).bad + 1) (SMap.get {} s.plinth.clocks d : ClockMon).faulty s) := by
  rw [clockWindowEffect_judged d khz want locked s hplan hd hstop]
  simp [windowOff_outside want khz hout, hbad]

theorem clockWindowEffect_unlocked (hlocked : locked = false) :
    clockWindowEffect d khz locked s =
      clockLost d (keepClock d khz (if windowOff want khz then (SMap.get {} s.plinth.clocks d : ClockMon).bad + 1 else 0)
        (SMap.get {} s.plinth.clocks d : ClockMon).faulty s) := by
  rw [clockWindowEffect_judged d khz want locked s hplan hd hstop]
  simp [hlocked]

end
end

/-- The crystal's time-out counts from start-up step 2 on. -/
theorem aonTimeout_step (s : Sys) : 2 ≤ s.devStep + 12 * boolNat (s.devState != 0) ↔ 2 ≤ s.devStep ∨ s.devState ≠ 0 := by
  by_cases h : s.devState = 0
  · simp [h, boolNat]
  · have htwelve : 12 * boolNat (s.devState != 0) = 12 := by simp [boolNat, h]
    exact ⟨fun _ => .inr h, fun _ => by omega⟩

theorem aonTimeoutEffect_reports (s : Sys) (h : s.boot.trigger + 2 * Config.ticksPerS ≤ s.now ∧ (2 ≤ s.devStep ∨ s.devState ≠ 0)) :
    aonTimeoutEffect s =
      updPlinth (fun p => { p with clocks := SMap.upd {} p.clocks 0 (fun v => { v with bad := 2 }) }) (clockFault 0 s) :=
  if_pos (h.imp_right (aonTimeout_step s).mpr)

theorem aonTimeoutEffect_early (s : Sys) (h : ¬(s.boot.trigger + 2 * Config.ticksPerS ≤ s.now ∧ (2 ≤ s.devStep ∨ s.devState ≠ 0))) :
    aonTimeoutEffect s = s := if_neg fun hreport => h (hreport.imp_right (aonTimeout_step s).mp)

/-! ### Rails, temperatures and margins (R437 to R439) -/

/-- A rail's monitor with a reading of `mv`. -/
def railReading (r mv : Nat) (s : Sys) : Mon := (SMap.get {} s.plinth.rails r : Mon).read mv

/-- What the monitor keeps of a rail. -/
def keepRail (r : Nat) (v : Mon) (faulty : Bool) (s : Sys) : Sys :=
  updPlinth (fun p => { p with rails := SMap.set {} p.rails r { v with faulty := faulty } }) s

/-- An excursion that is reported sets cause 4. -/
def reportRail (r mv : Nat) (s : Sys) : Sys := setCause 4 r (railWindow r).2.2 (raise 0x0309 3 (u8b r ++ u16b mv) s)

section
variable (r mv ns : Nat) (s : Sys)

theorem voltageEffect_long (hout : mv < (railWindow r).1 ∨ (railWindow r).2.1 < mv) (hlong : 1500 ≤ ns) :
    voltageEffect r mv ns s = reportRail r mv (keepRail r (railReading r mv s) true s) := by
  have h500 : ¬ns < 1500 := Nat.not_lt.mpr hlong
  unfold voltageEffect reportRail
  generalize railWindow r = w at *
  obtain ⟨lo, hi, ports⟩ := w
  simp [hout, hlong, h500, keepRail, railReading]

theorem voltageEffect_inside (hin : (railWindow r).1 ≤ mv ∧ mv ≤ (railWindow r).2.1) :
    voltageEffect r mv ns s = keepRail r (railReading r mv s) false s := by
  have hout : ¬(mv < (railWindow r).1 ∨ (railWindow r).2.1 < mv) := by omega
  unfold voltageEffect
  generalize railWindow r = w at *
  obtain ⟨lo, hi, ports⟩ := w
  simp [hout, keepRail, railReading]

theorem voltageEffect_brief (hout : mv < (railWindow r).1 ∨ (railWindow r).2.1 < mv) (hbrief : ns < 500) :
    voltageEffect r mv ns s = keepRail r (railReading r mv s) (railReading r mv s).faulty s := by
  have hns : ¬500 ≤ ns ∧ ¬1500 ≤ ns := by omega
  unfold voltageEffect
  generalize railWindow r = w at *
  obtain ⟨lo, hi, ports⟩ := w
  simp [hout, hns, keepRail, railReading]

/-- What is inside the window, or lasts less than 0.5 us, is not reported. -/
theorem voltageEffect_unreported (h : ((railWindow r).1 ≤ mv ∧ mv ≤ (railWindow r).2.1) ∨ ns < 500) :
    voltageEffect r mv ns s =
      keepRail r (railReading r mv s) (decide (mv < (railWindow r).1 ∨ (railWindow r).2.1 < mv) && (railReading r mv s).faulty) s := by
  by_cases hout : mv < (railWindow r).1 ∨ (railWindow r).2.1 < mv
  · have hbrief : ns < 500 := h.resolve_left (by omega)
    rw [voltageEffect_brief r mv ns s hout hbrief, decide_eq_true hout, Bool.true_and]
  · rw [voltageEffect_inside r mv ns s (by omega), decide_eq_false hout, Bool.false_and]

/-- Of 0.5 us to 1.5 us a free value says whether the monitor tells of it. -/
theorem voltageEffect_between (hout : mv < (railWindow r).1 ∨ (railWindow r).2.1 < mv) (hns : 500 ≤ ns ∧ ns < 1500) :
    voltageEffect r mv ns s =
      let told := (free s).1 % 2 == 1
      let y := keepRail r (railReading r mv s) (told || (railReading r mv s).faulty) (free s).2
      if told then reportRail r mv y else y := by
  have hshort : ¬1500 ≤ ns := Nat.not_le.mpr hns.2
  unfold voltageEffect reportRail
  generalize railWindow r = w at *
  obtain ⟨lo, hi, ports⟩ := w
  simp [hout, hns, hshort, keepRail, railReading]

end

theorem tempEffect_eq (l : List Int) (s : Sys) :
    tempEffect l s =
      let y := (List.range 18).foldl (fun y i => if i < l.length then tempTurn i (l.getD i 0) y else y) s
      if (List.range 18).all (fun i => decide (2 ≤ (SMap.get {} y.plinth.temps i : Mon).cool)) then holdCause 16 0 false y else y := by
  rw [tempEffect, loop_range]

theorem marginEffect_eq (l : List Nat) (s : Sys) :
    marginEffect l s = (List.range 6).foldl (fun y i => if i < l.length then marginTurn i (l.getD i 0) y else y) s := loop_range _ 6 s

/-- Settles O32: each clause is the case of its command's effect that the hypotheses select. -/
theorem clocksRailsAndSensorsTakeEffect : Obligations.Clocks_rails_and_sensors_take_effect := by
  refine ⟨?voted, ?planned, ?within, ?first, ?second, ?unlocked, ?clockBefore, ?vote, ?railLong, ?railShort, ?railBetween, ?railSilent,
    ?temps, ?margins, ?crystal, ?crystalEarly⟩
  case voted =>
    exact fun t d khz want locked s hstep hplan hd => run_fromStep_eq t _ _ s _ hstep (clockWindowEffect_voted d.val khz want locked _ hplan hd)
  case planned =>
    exact fun t d khz want locked s hstep hplan hd hstop =>
      run_fromStep_eq t _ _ s _ hstep (clockWindowEffect_planned d.val khz want locked _ hplan hd hstop)
  case within =>
    exact fun t d khz want locked s hstep hplan hd hstop hin hlocked =>
      run_fromStep_eq t _ _ s _ hstep (clockWindowEffect_within d.val khz want locked _ hplan hd hstop hin hlocked)
  case first =>
    exact fun t d khz want locked s hstep hplan hd hstop hout hlocked hbad =>
      run_fromStep_eq t _ _ s _ hstep (clockWindowEffect_first d.val khz want locked _ hplan hd hstop hout hlocked hbad)
  case second =>
    exact fun t d khz want locked s hstep hplan hd hstop hout hbad =>
      run_fromStep_eq t _ _ s _ hstep (clockWindowEffect_second d.val khz want locked _ hplan hd hstop hout hbad)
  case unlocked =>
    exact fun t d khz want locked s hstep hplan hd hstop hlocked =>
      run_fromStep_eq t _ _ s _ hstep (clockWindowEffect_unlocked d.val khz want locked _ hplan hd hstop hlocked)
  case clockBefore => exact fun t d khz locked s hstep => run_fromStep_before t _ _ s hstep
  case vote => exact fun t watch ref aon s hstep => run_fromStep_eq t _ _ s _ hstep rfl
  case railLong =>
    exact fun t r mv ns s hstep hout hlong hclock =>
      run_fromStep_eq t _ _ s _ hstep ((if_pos hclock).trans (voltageEffect_long r.val mv ns _ hout hlong))
  case railShort =>
    exact fun t r mv ns s hstep h hclock =>
      run_fromStep_eq t _ _ s _ hstep ((if_pos hclock).trans (voltageEffect_unreported r.val mv ns _ h))
  case railBetween =>
    exact fun t r mv ns s hstep hout hns hclock =>
      run_fromStep_eq t _ _ s _ hstep ((if_pos hclock).trans (voltageEffect_between r.val mv ns _ hout hns))
  case railSilent =>
    intro t r mv ns s x h
    rcases h with hstep | hclock
    · exact run_fromStep_before t _ _ s hstep
    · exact run_eq t _ s _ _ rfl (fromStep_same 3 _ _ (if_neg (Bool.eq_false_iff.mp hclock)))
  case temps => exact fun t l s hstep hclock => run_fromStep_eq t _ _ s _ hstep ((if_pos hclock).trans (tempEffect_eq l _))
  case margins => exact fun t l s hstep => run_fromStep_eq t _ _ s _ hstep (marginEffect_eq l _)
  case crystal => exact fun t s h => run_eq t _ s _ _ rfl (aonTimeoutEffect_reports _ h)
  case crystalEarly => exact fun t s h => run_eq t _ s _ _ rfl (aonTimeoutEffect_early _ h)

/-! ### The Plinth and the stewards (R423, R426, R427, R430, R432, R441, R442, R445) -/

section
variable (s : Sys)

theorem chunkReloadEffect_oldest (r : Reload) (rest : List Reload) (h : s.reloads = r :: rest) :
    chunkReloadEffect s = { s with reloads := rest } := by
  rw [chunkReloadEffect, h]
  rfl

theorem plinthFault_first (h : bit s.faults 0 = false) : plinthFault s = { setCause 0 0 allPorts s with keepLost := 1023 } :=
  if_neg (Bool.eq_false_iff.mp h)

theorem romCheckEffect_bad (h : bit s.faults 0 = false) : romCheckEffect false s = { setCause 0 0 allPorts s with keepLost := 1023 } :=
  plinthFault_first s h

theorem stewardMissEffect_restarts (hready : s.devState ≠ 0) (hidle : s.plinth.restart = none) :
    stewardMissEffect s = basesHoldover (endSessions (updPlinth (fun p => { p with restart := some s.now })
      { s with sq := [], outbox := [], discovers := [], announce := none, nrg := { s.nrg with next := none } })) :=
  (if_neg hready).trans (if_neg (by simp [hidle]))

theorem stewardMissEffect_restarting (hready : s.devState ≠ 0) (hrestart : s.plinth.restart.isSome = true) : stewardMissEffect s = s :=
  (if_neg hready).trans (if_pos hrestart)

theorem stewardMissEffect_boot (hboot : s.devState = 0) :
    stewardMissEffect s = { s with boot := { s.boot with fwFailed := s.boot.fwFailed || decide (5 < s.devStep) } } := if_pos hboot

theorem stewardDoneEffect_done (start : Nat) (h : s.plinth.restart = some start) :
    stewardDoneEffect s = setCause 14 0 0 (bump Ctr.safStewardRestart (updPlinth (fun p => { p with restart := none }) s)) := by
  simp only [stewardDoneEffect, h]

theorem pinTestEndEffect_due (onA : Bool) (till : Nat) (h : s.plinth.pinTest = some (onA, till)) (hdue : till ≤ s.now) :
    pinTestEndEffect s = updPlinth (fun p => { p with pinTest := none }) s := by
  simp only [pinTestEndEffect, h, if_pos hdue]

end

/-- A clearing of causes is staged (R45, R430). -/
theorem writes_safClear (sid v : Nat) (x : SysMem) (h : mayStage x.1 sid 0x0540 4 v) :
    writes sid 0x0540 4 v x = onSys (withStaged sid 0x0540 4 v) x :=
  writes_stage sid 0x0540 4 v x _ _ _ h (by rfl) rfl rfl rfl rfl rfl (by rfl) (by decide)

/-- A test of a fault pin is staged (R45, R427). -/
theorem writes_pinTest (sid v : Nat) (x : SysMem) (hv : v = 1 ∨ v = 2) (h : mayStage x.1 sid 0x0540 0x0A v) :
    writes sid 0x0540 0x0A v x = onSys (withStaged sid 0x0540 0x0A v) x := by
  refine writes_stage sid 0x0540 0x0A v x _ _ _ h (by rfl) rfl rfl rfl rfl rfl ?_ (by decide)
  rcases hv with rfl | rfl <;> rfl

/-- Settles O33: each clause is the case of its command's effect that the hypotheses select. -/
theorem plinthAndStewardsTakeEffect : Obligations.Plinth_and_stewards_take_effect := by
  refine ⟨?check, ?reload, ?readback, ?miscompare, ?romBad, ?romGood, ?keep, ?miss, ?missAgain, ?missBoot, ?restarted, ?clear, ?testB, ?testA,
    ?testEnd⟩
  case check => exact fun t found s hstep => run_fromStep_eq t _ _ s _ hstep rfl
  case reload => exact fun t r rest s h => run_eq t _ s _ _ rfl (chunkReloadEffect_oldest _ r rest h)
  case readback => exact fun t aHigh bHigh s hstep => run_fromStep_eq t _ _ s _ hstep rfl
  case miscompare => exact fun t s hstep hfirst => run_fromStep_eq t _ _ s _ hstep (plinthFault_first _ hfirst)
  case romBad => exact fun t s hstep hfirst => run_fromStep_eq t _ _ s _ hstep (romCheckEffect_bad _ hfirst)
  case romGood => exact fun t s hstep => run_fromStep_eq t _ _ s _ hstep rfl
  case keep => exact fun t unit s hstep => run_fromStep_eq t _ _ s _ hstep rfl
  case miss => exact fun t steward s hready hidle => run_eq t _ s _ _ rfl (stewardMissEffect_restarts _ hready hidle)
  case missAgain => exact fun t steward s hready hrestart => run_eq t _ s _ _ rfl (stewardMissEffect_restarting _ hready hrestart)
  case missBoot => exact fun t steward s hboot => run_eq t _ s _ _ rfl (stewardMissEffect_boot _ hboot)
  case restarted => exact fun t start s h => run_eq t _ s _ _ rfl (stewardDoneEffect_done _ start h)
  case clear => exact fun t sid mask s h => runMem_eq t _ s _ _ rfl (writes_safClear sid _ _ h)
  case testB => exact fun t sid s h => runMem_eq t _ s _ _ rfl (writes_pinTest sid 1 _ (.inl rfl) h)
  case testA => exact fun t sid s h => runMem_eq t _ s _ _ rfl (writes_pinTest sid 2 _ (.inr rfl) h)
  case testEnd => exact fun t onA till s h hdue => run_eq t _ s _ _ rfl (pinTestEndEffect_due _ onA till h hdue)

end Sys2Proof.Proofs
end

section
/-! PROOFS. The recorder, Casts and counters (chapter 16). -/

namespace Sys2Proof.Proofs

open Sys2Proof.Machine Sys2Proof.Safety Sys2Proof.Laws

/-! ### The recorder (R461, R463 to R465) -/

section
variable (s : Sys)

theorem recorderDrawEffect_draws (y : Sys) (id : Nat) (hcap : s.recFree ≤ s.now) (htraded : traded s < 2) (hst : s.devState = 1)
    (hdraw : drawFrom 74 8 (tidyDrr s) = (y, some id)) : recorderDrawEffect s = recordCopy id y := by
  have hruns : ¬(s.now < s.recFree ∨ 2 ≤ traded s ∨ s.devState ≠ 1) := by omega
  rw [recorderDrawEffect, if_neg hruns, hdraw]

theorem recorderDrawEffect_idle
    (h : s.now < s.recFree ∨ 2 ≤ traded s ∨ s.devState ≠ 1 ∨ (drawFrom 74 8 (tidyDrr s)).2 = none) : recorderDrawEffect s = s := by
  by_cases hstops : s.now < s.recFree ∨ 2 ≤ traded s ∨ s.devState ≠ 1
  · exact if_pos hstops
  · have hnone : (drawFrom 74 8 (tidyDrr s)).2 = none := by
      rcases h with hcap | htraded | hst | hnone
      · exact absurd (.inl hcap) hstops
      · exact absurd (.inr (.inl htraded)) hstops
      · exact absurd (.inr (.inr hst)) hstops
      · exact hnone
    rw [recorderDrawEffect, if_neg hstops]
    generalize drawFrom 74 8 (tidyDrr s) = drawn at *
    obtain ⟨y, id⟩ := drawn
    subst hnone
    rfl

theorem overrunReportEffect_due (hcount : 0 < s.recd.overCount) (hdue : s.recd.overTold + Config.ticksPerS ≤ s.now) :
    overrunReportEffect s =
      raise 0x0902 1 (u64b s.recd.overCount) (updRecd (fun r => { r with overCount := 0, overTold := s.now }) s) := if_pos ⟨hcount, hdue⟩

theorem castFreezeEffect_due (i : Nat) (hcollects : collecting s = some i)
    (hdue : (cast s i).at_ + obj s 0x7810 0x0A * 1000000 * nsUnits ≤ clock s (recClock s)) : castFreezeEffect s = freezeCast i false s := by
  simp only [castFreezeEffect, hcollects, if_pos hdue]

end

/-- REC_TRIGGER takes effect at its commit point. -/
theorem writes_trigger (sid v : Nat) (f : Sys → Sys) (x : SysMem) (hv : v = 1 ∨ v = 2) (h : mayCommand x.1 sid 0x7810 0x0E v)
    (hf : commandEffect sid 0 0x7810 0x0E (.num v) (commandPoint sid x) = (onSys f (commandPoint sid x), none)) :
    writes sid 0x7810 0x0E v x = settled sid x (onSys f (commandPoint sid x)) := by
  refine writes_command sid 0x7810 0x0E v x _ _ _ _ h (by rfl) rfl rfl rfl rfl ?_ rfl (by simp) (by decide) (by decide) hf
  rcases hv with rfl | rfl <;> rfl

/-- Trigger 1 at the present instant. -/
theorem commandEffect_triggerNow (sid : Nat) (x : SysMem) :
    commandEffect sid 0 0x7810 0x0E (.num (1 : Nat)) x = (onSys (fun s => trigger 1 (clock s (recClock s)) s) x, none) := rfl

/-- Trigger 1 at REC_TRIGGER_TIME. -/
theorem commandEffect_triggerAt (sid : Nat) (x : SysMem) :
    commandEffect sid 0 0x7810 0x0E (.num (2 : Nat)) x = (onSys (fun s => trigger 1 (timeUnits (obj s 0x7810 0x0F)) s) x, none) := rfl

/-- Settles O34: each clause is the case of its command's effect that the hypotheses select. -/
theorem recorderAndTriggersTakeEffect : Obligations.Recorder_and_triggers_take_effect := by
  refine ⟨?draw, ?idle, ?overrun, ?triggerNow, ?triggerAt, ?freeze⟩
  case draw =>
    exact fun t y id s hcap htraded hst hdraw => run_eq t _ s _ _ rfl (recorderDrawEffect_draws _ y id hcap htraded hst hdraw)
  case idle => exact fun t s h => run_eq t _ s _ _ rfl (recorderDrawEffect_idle _ h)
  case overrun => exact fun t s hcount hdue => run_eq t _ s _ _ rfl (overrunReportEffect_due _ hcount hdue)
  case triggerNow => exact fun t sid s h => runMem_eq t _ s _ _ rfl (writes_trigger sid 1 _ _ (.inl rfl) h (commandEffect_triggerNow sid _))
  case triggerAt => exact fun t sid s h => runMem_eq t _ s _ _ rfl (writes_trigger sid 2 _ _ (.inr rfl) h (commandEffect_triggerAt sid _))
  case freeze => exact fun t i s hcollects hdue => run_eq t _ s _ _ rfl (castFreezeEffect_due _ i hcollects hdue)

/-! ### Casts (R467, R469, R470) -/

section
variable (i : Nat) (x : SysMem)

theorem castCommand_releases (h : castRefused x.1 1 i = false) :
    castCommand 1 i x =
      onSys (fun s => let y := stopReplay i s; setCast i {} ((Machine.cast y i).segs.foldl (fun y k => clearSeg k y) y)) x :=
  if_neg (Bool.eq_false_iff.mp h)

theorem castCommand_replays (h : castRefused x.1 2 i = false) :
    castCommand 2 i x =
      onSys (fun s =>
        let r : Replay := { cast := i, start := s.now, first := (Machine.cast s i).first, left := castRecords x i, free := s.now }
        bumpBy Ctr.recPoisonSkip (castPoison s i)
          (updRecd (fun v => { v with replay := some r }) (setCast i { Machine.cast s i with st := 3 } s))) x :=
  if_neg (Bool.eq_false_iff.mp h)

theorem castCommand_stops (h : castRefused x.1 3 i = false) : castCommand 3 i x = onSys (stopReplay i) x := if_neg (Bool.eq_false_iff.mp h)

end

/-- CAST_CMD `n` of Cast `i` takes effect at its commit point. -/
theorem writes_cast (sid n : Nat) (i : Fin 8) (x y : SysMem) (hn : n = 1 ∨ n = 2 ∨ n = 3) (h : mayCommand x.1 sid 0x7820 2 (256 * n + i.val))
    (hy : castCommand n i.val (commandPoint sid x) = y) : writes sid 0x7820 2 (256 * n + i.val) x = settled sid x y :=
  writes_command sid 0x7820 2 _ x y _ _ _ h (by rfl) rfl rfl rfl rfl (check_cast x.1 _ (by omega)) rfl (by simp) (by decide) (by decide)
    (cast_effect sid n _ i.val _ y (by omega) (by omega) hy)

section
variable (x : SysMem)

theorem replayEffect_sends (r : Replay) (n : Nat) (h b : List Byte) (rest : List (Nat × Nat)) (hreplay : x.1.recd.replay = some r)
    (hnext : skipRecords x r.left 0 = (n, some (h, b, rest))) (hdue : replayDue (bumpBy Ctr.castReplaySkip n x.1) r h = true)
    (hst : x.1.devState = 1) : replayEffect x = onSys (fun s => replaySend r b rest (bumpBy Ctr.castReplaySkip n s)) x := by
  simp only [replayEffect, hreplay, hnext]
  exact if_pos ⟨hdue, hst⟩

theorem replayEffect_ends (r : Replay) (n : Nat) (hreplay : x.1.recd.replay = some r) (hnext : skipRecords x r.left 0 = (n, none)) :
    replayEffect x = onSys (fun s => stopReplay r.cast (bumpBy Ctr.castReplaySkip n s)) x := by
  simp only [replayEffect, hreplay, hnext]
  rfl

/-- A scan that is done makes its part readable (R469). -/
theorem exportScanEffect_done (sid : Nat) (v : Session) (hsession : session? x.1 sid = some v) (hst : v.exp.st = 1) :
    exportScanEffect sid x =
      let parts := splitParts x (castRecords x v.exp.cast)
      let l := parts.getD v.exp.part []
      let n := if v.exp.part < parts.length then partHead + (l.map (epbLength x)).foldl (· + ·) 0 else 0
      let bad := if v.exp.part < parts.length then partPoison x.1 v.exp.cast v.exp.part parts else 0
      onSys (fun s => bumpBy Ctr.recPoisonSkip bad (setCast v.exp.cast { cast s v.exp.cast with poisoned := castPoison s v.exp.cast }
        (updExport sid (fun e => { e with st := 2, parts := parts.length, length := n, recs := l }) s))) x := by
  simp only [exportScanEffect, hsession]
  exact if_neg (not_not_intro hst)

end

theorem directoryRebuiltEffect_lost (s : Sys) (h : s.mem.castDirLost = true) :
    directoryRebuiltEffect s = updMem (fun m => { m with castDirLost := false }) ((List.range 8).foldl (fun y i => castRebuild i y) s) := by
  rw [directoryRebuiltEffect, if_neg (by simp [h]), loop_range]

/-- Settles O35: each clause is the case of its command's effect that the hypotheses select. -/
theorem castsTakeEffect : Obligations.Casts_take_effect := by
  refine ⟨?release, ?replay, ?stop, ?sends, ?ends, ?select, ?scanned, ?rebuilt⟩
  case release =>
    exact fun t sid i s hmay haccept =>
      runMem_eq t _ s _ _ rfl (writes_cast sid 1 i _ _ (.inl rfl) hmay (castCommand_releases i.val _ haccept))
  case replay =>
    exact fun t sid i s hmay haccept =>
      runMem_eq t _ s _ _ rfl (writes_cast sid 2 i _ _ (.inr (.inl rfl)) hmay (castCommand_replays i.val _ haccept))
  case stop =>
    exact fun t sid i s hmay haccept =>
      runMem_eq t _ s _ _ rfl (writes_cast sid 3 i _ _ (.inr (.inr rfl)) hmay (castCommand_stops i.val _ haccept))
  case sends =>
    exact fun t r n h b rest s hreplay hnext hdue hst =>
      runMem_eq t _ s _ _ rfl (replayEffect_sends _ r n h b rest hreplay hnext hdue hst)
  case ends => exact fun t r n s hreplay hnext => runMem_eq t _ s _ _ rfl (replayEffect_ends _ r n hreplay hnext)
  case select => exact fun t sid i part s hown hst => runMem_eq t _ s _ _ rfl (export_sel sid i part _ hown hst)
  case scanned => exact fun t sid v s hsession hst => runMem_eq t _ s _ _ rfl (exportScanEffect_done _ sid v hsession hst)
  case rebuilt => exact fun t s hrun hlost => run_bySteward_eq t _ s _ hrun (directoryRebuiltEffect_lost _ hlost)

/-! ### Counters (R448) -/

/-- Settles O54: a counter is one key of a table. -/
theorem countersWrapAndStandAlone : Obligations.Counters_wrap_and_stand_alone := fun n _ s hwf =>
  ⟨smap_get_set_self 0 s.ctr n _ hwf, fun m hm => smap_get_set_other 0 s.ctr n m _ hm, rfl, smap_wf_set 0 s.ctr n _ hwf⟩

end Sys2Proof.Proofs
end

section
/-! PROOFS. Resets, start-up, firmware and flash (chapter 17). -/

namespace Sys2Proof.Proofs

open Sys2Proof.Machine Sys2Proof.Safety Sys2Proof.Laws

/-! ### Holds and releases (R471, R475, R477, R502, R509) -/

section
variable (x : SysMem)

theorem porstAssert_begins (h : x.1.boot.porst = false) :
    porstAssert x = onSys (updBoot (fun b => { b with porst := true })) (beginReset false 1 1 x) := if_neg (Bool.eq_false_iff.mp h)

theorem detectorAssert_begins (h : x.1.boot.detector = false) :
    detectorAssert x = onSys (updBoot (fun b => { b with detector := true })) (beginReset false 1 2 x) := if_neg (Bool.eq_false_iff.mp h)

theorem scanHold_begins (h : x.1.boot.scan = false) :
    scanHold x = onSys (updBoot (fun b => { b with scan := true })) (beginReset false 1 (free x.1).1 ((free x.1).2, x.2)) :=
  if_neg (Bool.eq_false_iff.mp h)

theorem wrstAssert_begins (h : x.1.boot.wrst = false) (hheld : inHold x.1 = false) :
    wrstAssert x = onSys (updBoot (fun b => { b with wrst := true })) (warmReset 3 x) := by
  rw [wrstAssert, if_neg (Bool.eq_false_iff.mp h), if_neg (Bool.eq_false_iff.mp hheld)]

/-- A device that something else holds is only held by WRST_N too. -/
theorem wrstAssert_holds (h : x.1.boot.wrst = false) (hheld : inHold x.1 = true) :
    wrstAssert x = onSys (updBoot (fun b => { b with wrst := true })) x := by
  rw [wrstAssert, if_neg (Bool.eq_false_iff.mp h), if_pos hheld]

section
variable (held : Boot → Bool) (letGo : Boot → Boot) (b : BootInput)

theorem release_held (h : held x.1.boot = true) : release held letGo b x = startUp b (onSys (updBoot letGo) x) := if_pos h

theorem release_free (h : held x.1.boot = false) : release held letGo b x = x := if_neg (Bool.eq_false_iff.mp h)

end

/-! ### Commanded resets and firmware that does not start (R474, R476) -/

theorem devResetEffect_due (b : BootInput) (due : Nat) (full : Bool) (hdelay : x.1.boot.delay = some (due, full)) (hdue : due ≤ x.1.now) :
    devResetEffect b x = startUp b (if full then beginReset false 3 4 x else warmReset 4 x) := by
  simp only [devResetEffect, hdelay, if_neg (Nat.not_lt.mpr hdue)]

theorem firmwareTimeout_revokes (b : BootInput) (hst : x.1.devState = 0) (hstep : x.1.devStep ≠ 0) (hfw : x.1.flash.fw ≠ 0)
    (hfails : x.1.boot.fwFailed = true ∨ x.1.boot.trigger + 2 * Config.ticksPerS ≤ x.1.now) :
    firmwareTimeout b x = startUp b (warmReset 5 (onSys (revokeSlot (x.1.flash.fw - 1)) x)) := by
  have hfailed : (x.1.boot.fwFailed || decide (x.1.boot.trigger + 2 * Config.ticksPerS ≤ x.1.now)) = true := by simpa using hfails
  exact if_neg (by simp only [hst, hstep, hfw, hfailed]; decide)

end

/-- A reset is scheduled 2 ms ahead. -/
def scheduleReset (full : Bool) (s : Sys) : Sys := { s with boot := { s.boot with delay := some (s.now + 2 * Config.ticksPerMs, full) } }

/-- DEV_RESET schedules its reset at the commit point. -/
theorem writes_devReset (sid v : Nat) (full : Bool) (x : SysMem) (hv : v = 0xA501 ∧ full = false ∨ v = 0xA502 ∧ full = true)
    (h : mayCommand x.1 sid 0x0110 3 v) (hidle : (commandPoint sid x).1.boot.delay = none) :
    writes sid 0x0110 3 v x = settled sid x (onSys (scheduleReset full) (commandPoint sid x)) := by
  refine writes_command sid 0x0110 3 v x _ _ _ _ h (by rfl) rfl rfl rfl rfl ?_ rfl (by simp) (by decide) (by decide) ?_
  · rcases hv with ⟨rfl, rfl⟩ | ⟨rfl, rfl⟩ <;> rfl
  · rcases hv with ⟨rfl, rfl⟩ | ⟨rfl, rfl⟩ <;> simp [commandEffect, hidle, onSys, scheduleReset, Value.toNat, Value.toInt]

/-- Settles O36: each clause is the case of its command's effect that the hypotheses select. -/
theorem resetsAndStartUpTakeEffect : Obligations.Resets_and_start_up_take_effect := by
  refine ⟨?porst, ?porstHeld, ?detector, ?detectorHeld, ?porstGo, ?porstFree, ?detectorGo, ?detectorFree, ?wrstGo, ?wrstFree, ?scanGo, ?scanFree,
    ?wrst, ?wrstWithin, ?wrstHeld, ?scanHeld, ?scan, ?warm, ?full, ?delay, ?firmware⟩
  case porst => exact fun t s h => runMem_eq t _ s _ _ rfl (porstAssert_begins _ h)
  case porstHeld => exact fun t s h => runMem_eq t _ s _ _ rfl (if_pos h)
  case detector => exact fun t s h => runMem_eq t _ s _ _ rfl (detectorAssert_begins _ h)
  case detectorHeld => exact fun t s h => runMem_eq t _ s _ _ rfl (if_pos h)
  case porstGo => exact fun t b s h => runMem_eq t _ s _ _ rfl (release_held _ _ _ b h)
  case porstFree => exact fun t b s h => runMem_eq t _ s _ _ rfl (release_free _ _ _ b h)
  case detectorGo => exact fun t b s h => runMem_eq t _ s _ _ rfl (release_held _ _ _ b h)
  case detectorFree => exact fun t b s h => runMem_eq t _ s _ _ rfl (release_free _ _ _ b h)
  case wrstGo => exact fun t b s h => runMem_eq t _ s _ _ rfl (release_held _ _ _ b h)
  case wrstFree => exact fun t b s h => runMem_eq t _ s _ _ rfl (release_free _ _ _ b h)
  case scanGo => exact fun t b s h => runMem_eq t _ s _ _ rfl (release_held _ _ _ b h)
  case scanFree => exact fun t b s h => runMem_eq t _ s _ _ rfl (release_free _ _ _ b h)
  case wrst => exact fun t s h hheld => runMem_eq t _ s _ _ rfl (wrstAssert_begins _ h hheld)
  case wrstWithin => exact fun t s h hheld => runMem_eq t _ s _ _ rfl (wrstAssert_holds _ h hheld)
  case wrstHeld => exact fun t s h => runMem_eq t _ s _ _ rfl (if_pos h)
  case scanHeld => exact fun t s h => runMem_eq t _ s _ _ rfl (if_pos h)
  case scan => exact fun t s h => runMem_eq t _ s _ _ rfl (scanHold_begins _ h)
  case warm =>
    exact fun t sid s h hidle => runMem_eq t _ s _ _ rfl (writes_devReset sid 0xA501 false _ (.inl ⟨rfl, rfl⟩) h hidle)
  case full =>
    exact fun t sid s h hidle => runMem_eq t _ s _ _ rfl (writes_devReset sid 0xA502 true _ (.inr ⟨rfl, rfl⟩) h hidle)
  case delay => exact fun t b due full s hdelay hdue => runMem_eq t _ s _ _ rfl (devResetEffect_due _ b due full hdelay hdue)
  case firmware =>
    exact fun t b s hst hstep hfw hfails => runMem_eq t _ s _ _ rfl (firmwareTimeout_revokes _ b hst hstep hfw hfails)

/-! ### Firmware images and the flash (R411, R487) -/

section
variable (image : List Byte) (s : Sys)

theorem stageStart_invalid (h : ({ header := image.take 256, payload := image.drop 256 } : Slot).valid 0 = false) :
    stageStart image s = updFlash (fun f => { f with stageState := 3 }) s := if_pos (by simp [h])

/-- A valid image is staged with the next sequence number and the check sum of its header. -/
theorem stageStart_valid (h : ({ header := image.take 256, payload := image.drop 256 } : Slot).valid 0 = true) :
    stageStart image s =
      let b := (image.take 256).take 8 ++ u32b (nextSequence s 0) ++ ((image.take 256).take 60).drop 12
      let v : Slot := { header := b ++ u32b (crc32 b) ++ (image.take 256).drop 64, payload := image.drop 256 }
      useFlash (updFlash (fun f => { f with stage := some (stageTarget s, v), stageState := 1 }) s) := if_neg (by simp [h])

end

section
variable (sid : Nat) (image : List Byte) (f : Sys → Sys) (x : SysMem)

/-- FW_STAGE begins at its commit point. -/
theorem sessionWrite_stage (h : mayCommand x.1 sid 0x0110 4 (Value.octets image).toNat) (hlength : image.length ≤ 4194304)
    (hstore : storing (commandPoint sid x).1 = false) (hstage : (commandPoint sid x).1.flash.stage = none)
    (hf : stageStart image (commandPoint sid x).1 = f (commandPoint sid x).1) :
    sessionWrite sid 0x0110 4 (.octets image) x = settled sid x (onSys f (commandPoint sid x)) := by
  rw [fw_stage sid image x h hlength hstore hstage, onSys, hf]
  rfl

end

section
variable (s : Sys)

theorem stageDoneEffect_ends (flashError : Bool) (slot : Nat) (v : Slot) (h : s.flash.stage = some (slot, v)) :
    stageDoneEffect flashError s =
      let y := useFlash (updFlash (fun f => { f with stage := none }) s)
      if flashError = true ∨ y.flash.present = false then
        updFlash (fun f => { f with stageState := 4 }) (if y.flash.present then setSlot slot { v with header := [] } y else y)
      else updFlash (fun f => { f with stageState := 2 }) (setSlot slot v y) := by
  simp only [stageDoneEffect, h, Bool.not_eq_true']

theorem flashIdleEffect_stops (hidle : flashIdle s = true) (hpresent : s.flash.present = true)
    (hdue : s.flash.used + Config.ticksPerMs ≤ s.now) : flashIdleEffect s = updFlash (fun f => { f with stopped := true }) s :=
  if_pos ⟨hidle, hpresent, hdue⟩

end

/-- Settles O37: each clause is the case of its command's effect that the hypotheses select. -/
theorem firmwareAndFlashTakeEffect : Obligations.Firmware_and_flash_take_effect := by
  refine ⟨?invalid, ?valid, ?programmed, ?idle⟩
  case invalid =>
    exact fun t sid image s h hlength hstore hstage hbad =>
      runMem_eq t _ s _ _ rfl (sessionWrite_stage sid image _ _ h hlength hstore hstage (stageStart_invalid image _ hbad))
  case valid =>
    exact fun t sid image s h hlength hstore hstage hgood =>
      runMem_eq t _ s _ _ rfl (sessionWrite_stage sid image _ _ h hlength hstore hstage (stageStart_valid image _ hgood))
  case programmed => exact fun t flashError slot v s h => run_eq t _ s _ _ rfl (stageDoneEffect_ends _ flashError slot v h)
  case idle =>
    exact fun t s hstep hidle hpresent hdue =>
      run_eq t _ s _ _ rfl ((fromStep_done 4 _ _ hstep).trans (flashIdleEffect_stops _ hidle hpresent hdue))

end Sys2Proof.Proofs
end

section
/-! PROOFS. The queue of commands: a step runs the command at its front, and no command changes the queue. -/

namespace Sys2Proof.Proofs

open Sys2Proof.Machine Sys2Proof.Safety Sys2Proof.Laws

/-- Settles O38: the two cases of a step. -/
theorem aStepRunsTheFrontCommand : Obligations.A_step_runs_the_front_command := by
  constructor
  case left =>
    intro c rest s h
    simp only [step, h]
  case right =>
    intro s h
    simp only [step, h]

/-- What a command that runs leaves has the queue it found. -/
theorem pending_of_runMem (t : Nat) (f : SysMem → SysMem) (s u : State) (h : runMem t f s = .next u) : u.pending = s.pending := by
  cases h
  rfl

/-- Settles O39: every command that goes on lets an effect act on the registers and the HBM. -/
theorem commandsLeaveTheQueueAlone : Obligations.Commands_leave_the_queue_alone := by
  intro c s u h
  rcases exec_runs c s with ⟨t, f, hrun⟩ | ⟨t, lba, f, hrun, _⟩
  · exact pending_of_runMem t f s u (hrun ▸ h)
  · rw [hrun] at h
    split at h
    · cases h
    · exact pending_of_runMem t f s u h

end Sys2Proof.Proofs
end
